-- ==== Sys2Proof/Word.lean ====
section
/-! DEFINITION. The words of the machine and the one sparse table type that all keyed state uses. -/
namespace Sys2Proof

abbrev Byte := BitVec 8
abbrev W32 := BitVec 32
abbrev W64 := BitVec 64

/-- Access codes of register fields (00 R13). -/
inductive Acc where
  | ro | rw | wo | w1c | w1s | rc | lk
  deriving DecidableEq, Repr

/-- The address spaces that hold registers: the management BAR0 (00 R10), the page of an Isquin core, the page of a
mailbox agent, and the BAR0 of one function. -/
inductive Page where
  | mgmt | core | agent | fn
  deriving DecidableEq, Repr

/-- One field of a register: its bits and its access code. -/
structure Fld where
  hi : Nat
  lo : Nat
  acc : Acc
  deriving DecidableEq, Repr

/-- One row of a register table: base offset, up to two strides with their counts, width in bits, reset value
and fields (00 "Registers"). -/
structure RegD where
  page : Page
  off : Nat
  s1 : Nat
  n1 : Nat
  s2 : Nat
  n2 : Nat
  width : Nat
  reset : Nat
  flds : List Fld
  deriving DecidableEq, Repr

/-- Sparse data by key: strictly rising keys, and no entry equal to what an unlisted key reads as. -/
abbrev Tbl (α : Type) := List (Nat × α)

/-- What key `k` holds; `d` is what an unlisted key reads as. -/
def Tbl.get {α : Type} (d : α) : Tbl α → Nat → α
  | [], _ => d
  | (k', v) :: t, k => if k' = k then v else Tbl.get d t k

/-- Remove key `k`. -/
def Tbl.del {α : Type} : Tbl α → Nat → Tbl α
  | [], _ => []
  | (k', v) :: t, k => if k' = k then Tbl.del t k else (k', v) :: Tbl.del t k

/-- List `v` under key `k`. -/
def Tbl.ins {α : Type} : Tbl α → Nat → α → Tbl α
  | [], k, v => [(k, v)]
  | (k', v') :: t, k, v =>
    if k' = k then (k, v) :: t else if k < k' then (k, v) :: (k', v') :: t else (k', v') :: Tbl.ins t k v

/-- Make key `k` hold `v`, in canonical form: the default value is never listed. -/
def Tbl.set {α : Type} [DecidableEq α] (d : α) (t : Tbl α) (k : Nat) (v : α) : Tbl α :=
  if v = d then Tbl.del t k else Tbl.ins t k v

/-- Rewrite what key `k` holds. -/
def Tbl.upd {α : Type} [DecidableEq α] (d : α) (t : Tbl α) (k : Nat) (f : α → α) : Tbl α :=
  Tbl.set d t k (f (Tbl.get d t k))

/-- The canonical form of a table whose unlisted keys read as `d k`: keys strictly rising and at least `b`, and no listed
default. -/
def Tbl.okFrom {α : Type} [DecidableEq α] (d : Nat → α) : Nat → Tbl α → Bool
  | _, [] => true
  | b, (k, v) :: t => decide (b ≤ k) && decide (v ≠ d k) && Tbl.okFrom d (k + 1) t

def Tbl.ok {α : Type} [DecidableEq α] (d : Nat → α) (t : Tbl α) : Bool := Tbl.okFrom d 0 t

/-- Keep the entries of the keys that `p` holds of. -/
def Tbl.keep {α : Type} (p : Nat → Bool) (t : Tbl α) : Tbl α := t.filter fun e => p e.1

end Sys2Proof
end

