-- ==== Sys2Proof/Syntax.lean ====
section
/-! DEFINITION. The commands of the block, one constructor for each row of the opcode table, and the types of their
operands. What the spec leaves to the world outside the device (data a host read returns, what a device answers, what a
sensor measures) is an operand of the command that reports it. -/
namespace Sys2Proof

/-- Whose BAR0 a host access names: the management function's 256 MiB BAR0, or the 64 KiB BAR0 of function `n` (00 R10). -/
inductive Bar where
  | mgmt
  | fn (n : Nat)
  deriving DecidableEq, Repr

/-- Direction of a register access. -/
inductive Dir where
  | read | write
  deriving DecidableEq, Repr

/-- How a read that left the device ended (03 R90, 04 R161, R162). -/
inductive Rsp where
  | ok | ur | poison | timeout
  deriving DecidableEq, Repr

/-- What a memory read met: no error; errors in these symbols or devices, as far as the code corrects them; an error that it reports as
uncorrectable; one that it does not see, with the bits that are delivered wrong (07 R251, R263-R265). -/
inductive EccResult where
  | clean
  | corrected (devices : List Nat)
  | uncorrectable
  | undetected (flips : BitVec 1024)
  deriving DecidableEq, Repr

/-- An error that has struck a word of a coded memory, as its next read finds it (07 R251): 256-bit word `w` of a frame bank (byte offset
/ 32, 02 R62, R63), of the canopy tables (10 to a master: 0-1 regions, 2-9 windows), of memory `m` (0 X, 1 Y, 2 instruction)
of a core; or a byte of a core's firmware store. -/
inductive Upset where
  | stake (bank : Bool) (w : Nat) (res : EccResult)
  | canopy (w : Nat) (res : EccResult)
  | isquin (core m w : Nat) (res : EccResult)
  | store (core m a : Nat) (v : BitVec 8)
  deriving DecidableEq, Repr

/-- A DIMM as its SPD and its training show it (07 R259): density of its devices in Gbit, stack height, package ranks, whether the devices are
x4 and 16 data and 4 check devices make a rank, whether it trained at 6,400 MT/s, and tRFCsb in ps. -/
structure Dimm where
  density : Nat
  height : Nat
  ranks : Nat
  x4 : Bool
  ecc : Bool
  trained : Bool
  tRfcSb : Nat
  deriving DecidableEq, Repr

/-- What an owner does on the resource instance of a stake or free-lane grant (02 R34, R38). -/
inductive Op where
  /-- a scratchpad word of 32 bytes is read (and what its code found) or written through a bank port -/
  | bankRead (word : Nat) (ecc : EccResult)
  | bankWrite (word : Nat) (mask : BitVec 32) (data : BitVec 256)
  /-- a 128-byte DDR5 line is read (a fetch of one landing slot), or written from the two halves that the channel's output lane brought -/
  | ddrRead (line : Nat) (plan : List Nat)
  | ddrWrite (line : Nat)
  /-- a port transmit slot sends the 64 bytes of its output lane over guyline `g` (and what the check of the word found), or a read request
  of `slots` landing slots; `plan` names the scratchpad words that a read's data is to go to -/
  | portSend (g : Nat) (ecc : EccResult)
  | portRead (addr : Nat) (slots : Nat) (plan : List Nat)
  /-- a mover moves 64 bytes: 0 from the pitch's output lane to the words that the line names, 1 from two words of the pitch to its input
  lane, 2 from two words to two others -/
  | moverMove (dir : Nat) (words : List Nat)
  /-- a ridgepole transfer to port `dest`, for these words of the pitch it reaches; `data` is what the central port puts in -/
  | hop (dest : Nat) (dst : List Nat) (data : BitVec 512)
  /-- an engine slot selects a context; an Isquin core uses its window; a refresh on the controller's timer; a restore -/
  | engineSlot
  | window
  | refresh
  | restore
  deriving DecidableEq, Repr

/-- Who asks for a landing: a lease class, the queue front end or the ranger core (02 R40). -/
inductive Owner where
  | lease (n : Nat)
  | frontEnd
  | ranger
  | freeOnly
  deriving DecidableEq, Repr

/-- A ready request for one resource instance in one cycle: its free-lane rank and the keys that order it within the rank
(02 R55), the owner it lands for, the lease class it acts for on stakes (none: free lane only), the tenant charged and the
master identity checked. -/
structure Req where
  rank : Nat
  key1 : Nat
  key2 : Nat
  key3 : Nat
  kind : Nat
  inst : Nat
  lease : Option Nat
  owner : Owner
  tenant : BitVec 12
  master : BitVec 14
  hosted : Bool
  step : Nat
  op : Op
  deriving DecidableEq, Repr

/-- What the device or the memory at the other end of a step gave (04 R138, R155, R159): the length moved or determined by the
device, the data that came in, the device status, an NVMe completion entry, the event time N of R144, and how a read of memory
ended. -/
structure DevResult where
  len : Nat
  cqe : BitVec 128
  data : List (BitVec 8)
  status : BitVec 16
  time : BitVec 64
  rsp : Rsp
  uncorr : Bool
  deriving DecidableEq, Repr

/-- A flit that arrived on the Ploet link (11 R382), as its receiver decoded it: rejected (an uncorrectable codeword or a
wrong CRC), its kind and sequence number, the ACK field, the sender's frame and state, HB, and its messages. -/
structure Flit where
  rejected : Bool
  kind : Nat
  seq : Nat
  ack : Nat
  nak : Bool
  state : Nat
  hb : Bool
  /-- (type, MSEQ, ARG, body) of each message -/
  msgs : List (Nat × Nat × BitVec 64 × List (BitVec 8))
  deriving DecidableEq, Repr

/-- A unit or channel, and the cycle of the frame in which something happens there. -/
structure Timed where
  unit : Nat
  cycle : Nat
  deriving DecidableEq, Repr

/-- What a register write carries: its data, and what the check of its guyline word finds where it crosses one (10 R371). -/
structure Written where
  data : W64
  gl : EccResult
  deriving DecidableEq, Repr

/-- What FRAME_START says of the frame that ends: its length in thousandths of a lantern cycle; and the errors that strike stored
words at its end (07 R251). -/
structure FrameEnd where
  span : Nat
  upsets : List Upset
  deriving DecidableEq, Repr

/-- How a sample transaction ended: its status, and the time of its first pin edge. -/
structure SampleEnd where
  status : Nat
  edge : BitVec 64
  deriving DecidableEq, Repr

/-- The commands of the block: one constructor for each row of spec/opcode_table.json. -/
inductive Instr where
  /-- REGISTER_WRITE (R13): A software write to a register that has no row of its own sets, clears or acts on its fields according to their access codes. -/
  | registerWrite (bar : Bar) (off size : Nat) (v : Written)
  /-- BAD_ACCESS (R12): A register access of unsupported size or alignment completes normally, discards write data or returns zero, and sets BAD_ACCESS. -/
  | badAccess (bar : Bar) (off size : Nat) (dir : Dir) (v : W64)
  /-- UNMAPPED_ACCESS (R27): A naturally aligned 4- or 8-byte access to an unmapped BAR0 offset completes normally, returns zero or is discarded, and sets UNMAPPED. -/
  | unmappedAccess (bar : Bar) (off size : Nat) (dir : Dir) (v : W64)
  /-- FRAME_START (R29): At cycle 0 of each frame the device frame count increments and the frame's timetable frame, heartbeat, Ploet heartbeat flit and silent-frame count are taken up. -/
  | frameStart (span : FrameEnd)
  /-- STAKE_ISSUE (R38): In its cycle a stake is used by its ready owner oldest-ready first, or passes to the free lane. -/
  | stakeIssue (cycle kind inst : Nat) (ready : List Req)
  /-- FREE_LANE_GRANT (R55): A waiting free-lane request is granted on an unused or unclaimed resource instance in rank order, or stalls and requests again. -/
  | freeLaneGrant (cycle kind inst : Nat) (reqs : List Req)
  /-- RESPONSE_LANDED (R44): A response from outside the die is written into its landing slot and becomes available to its consuming stake or the free lane. -/
  | responseLanded (fetch cycle : Nat) (data : List (BitVec 8)) (ecc : EccResult) (words : List (Nat × EccResult))
  /-- REFRESH_DEBT_TICK (R49): At each tREFI/4 interval for the DRAM's temperature range, a channel's refresh debt grows by one. -/
  | refreshDebtTick (ch : Nat)
  /-- REFRESH_STAKE (R49): At a refresh stake the channel issues one REFsb if its debt is positive, opening a refresh window, or leaves the slots to the free lane. -/
  | refreshStake (ch cycle : Nat)
  /-- BACKGROUND_TEST_ACCESS (R255): A background test stake cycle makes the next save, march or restore access of the pitch's current test step under redirection. -/
  | backgroundTestAccess (p : Timed) (fails : Bool) (ecc : EccResult)
  /-- TEST_STEP_RESTORE (R258): The VALID shadow entries of an aborted test step are written back at free-lane rank 1. -/
  | testStepRestore (p : Timed)
  /-- METER_SAMPLE (R54): At cycle 2,999 the meter sample stakes capture the frame's usage counters. -/
  | meterSample (unit : Nat)
  /-- BANK_WRITE (R65): A write to a frame bank is merged into the inactive bank, clearing its CHECKED flag and cancelling a pending swap or check, or is discarded for the active bank. -/
  | bankWrite (bank : Bool) (off size : Nat) (v : W64)
  /-- CHECK (R66): Setting SCHED_CTRL.CHECK starts a bank check of the TARGET bank unless a check is running or the bank is active. -/
  | bankCheck (v : W32)
  /-- CHECK_COMPLETE (R66): A bank check ends, sets CHECK_RESULT and SCHED_CHECK_INFO, and sets or clears the bank's CHECKED flag. -/
  | checkComplete
  /-- SWAP_ARM (R68): Setting SCHED_CTRL.SWAP_ARM arms a swap to a checked inactive bank at SCHED_SWAP_FRAME, or is refused. -/
  | swapArm (v : W32)
  /-- SWAP (R69): At cycle 0 of the swap frame the target bank becomes active, in-flight work crosses over and free-lane-only operation ends. -/
  | bankSwap
  /-- LEASE_CFG_WRITE (R77): A write to LEASE_CFG[n] takes effect at cycle 0 of the next frame, enabling or disabling the class's stakes and rebinding its tenant. -/
  | leaseCfgWrite (n : Nat) (v : W32)
  /-- SQ_DOORBELL (R95): A write to the SQ doorbell of an ACTIVE SQ starts a scan round or sets RESCAN. -/
  | sqDoorbell (fn slot : Nat)
  /-- INDEX_RECORD_LANDED (R96): The PRODUCER read lands; the front end computes the limit and issues ring unit reads. -/
  | indexRecordLanded (fn slot : Nat) (r : Rsp) (producer : W64)
  /-- RING_UNITS_LANDED (R96): Landed ring units are examined in order for ownership, straddling, skip entries and admission, and the round stops, pauses or continues. -/
  | ringUnitsLanded (fn slot : Nat) (r : Rsp) (units : List (BitVec 256))
  /-- ROUND_PAUSE_RELEASE (R100): When the condition that paused a round clears, a new scan round starts. -/
  | roundPauseRelease (fn slot : Nat)
  /-- ENTRY_ACCEPTED (R18): Once an entry's acceptance journal record is durable, and in a camp acknowledged, ACCEPT is written to the index record past it and any following consumed skips. -/
  | entryAccepted (fn slot : Nat)
  /-- DISPATCH (R103): An accepted entry is bound to a lease class and dispatched in SEQ order to a free context of its home pitch, or completed at once with a queue-level status. -/
  | dispatch (fn slot : Nat) (ctx : Nat)
  /-- FRAGMENT_TABLE_LANDED (R90): A fragment table read lands and is checked; the entry runs as kind 0 or completes with 0xF004. -/
  | fragmentTableLanded (fn slot : Nat) (r : Rsp) (descs : List (BitVec 128))
  /-- COMPLETION_POSTED (R19): Once the COMPLETING and CQ state records are durable, the completion entry, index-record update and any due MSI-X are written in order. -/
  | completionPosted (fn slot : Nat)
  /-- MODERATION_TIMER (R109): At cycle 0 of frame f0 + TIME + 1 the CQ's moderation timer expires and its interrupt becomes due. -/
  | moderationTimer (fn slot : Nat)
  /-- VECTOR_UNMASK (R109): Unmasking an MSI-X vector or function with its pending bit set sends the message and resets U. -/
  | vectorUnmask (fn : Nat) (vec : Option (BitVec 8))
  /-- LINK_REACHES_L0 (R110): A host link that was taken out of L1 for a due interrupt reaches L0 and the message is sent. -/
  | linkReachesL0 (port : Nat)
  /-- CQ_DOORBELL (R108): A CQ head doorbell write sets HEAD or is ignored with HEAD_ERR. -/
  | cqDoorbell (fn slot : Nat) (v : W64)
  /-- SQ_RESUME (R118): A resume doorbell resumes, in SEQ order, every program of the SQ suspended by the cycle before. -/
  | sqResume (fn slot : Nat)
  /-- SQ_ENABLE (R115): Writing SQ_CFG.ENABLE = 1 in DISABLED runs the enable checks and either records ENABLE_ERR or makes the SQ ACTIVE and starts a round. -/
  | sqEnable (fn slot : Nat) (v : W32)
  /-- SQ_DISABLE (R114): Writing SQ_CFG.ENABLE = 0 in ACTIVE or ERROR moves the SQ to DRAINING. -/
  | sqDisable (fn slot : Nat) (v : W32)
  /-- CQ_ENABLE (R117): Writing CQ_CFG.ENABLE = 1 enables a CQ with HEAD, TAIL and U at zero, or records ENABLE_ERR. -/
  | cqEnable (fn slot : Nat) (v : W32)
  /-- CQ_DISABLE (R117): Writing CQ_CFG.ENABLE = 0 in ACTIVE moves the CQ to DRAINING until its reservations and held completions are done. -/
  | cqDisable (fn slot : Nat) (v : W32)
  /-- QUEUE_RESET (R192): SQ_CMD.QUEUE_RESET ends the SQ's programs, writes 0xF005 completions in SEQ order and then disables the SQ. -/
  | queueReset (fn slot : Nat)
  /-- FUNCTION_LEVEL_RESET (R193): A Function Level Reset performs the function form of the queue reset on every queue of the function without writing its memory. -/
  | functionLevelReset (fn : Nat)
  /-- FUNCTION_D3HOT_ENTRY (R111): A function entering D3hot stops scans and holds its completions, index updates and messages. -/
  | functionD3hotEntry (fn : Nat) (pmeEn : Bool)
  /-- FUNCTION_D0_RETURN (R111): A function returning to D0 writes its held completions in order and evaluates moderation. -/
  | functionD0Return (fn : Nat)
  /-- BUS_MASTER_ENABLE_CLEAR (R112): Clearing Bus Master Enable stops host access for the function, holds completions and sets STALLED. -/
  | busMasterEnableClear (fn : Nat)
  /-- BUS_MASTER_ENABLE_SET (R164): Setting Bus Master Enable releases HELD contexts and held completions of the function. -/
  | busMasterEnableSet (fn : Nat)
  /-- ASSIGN_IDENT (R122): A write to ASSIGN_IDENT sets the selected function's tenant tag and master identity, or is refused. -/
  | assignIdent (v : W32)
  /-- ASSIGN_QUEUE (R122): A write to ASSIGN_QUEUE assigns a queue number, lease validity and home pitch to the selected slot, or is refused. -/
  | assignQueue (v : W32)
  /-- ASSIGN_LEASE (R122): A write to ASSIGN_LEASE sets the selected SQ slot's lease-set members, or is refused. -/
  | assignLease (v : W64)
  /-- INVALID (R125): Command code 0x00 ends the program with program check 0x0101. -/
  | invalidCode (ctx : Nat)
  /-- RESERVED_CODE (R125): Command code 0x0F or 0x40 to 0xFF ends the program with program check 0x0102. -/
  | reservedCode (ctx : Nat)
  /-- NOP (R125): A NOP step begins and ends with no effect beyond chaining. -/
  | nop (ctx : Nat)
  /-- TIC (R141): TIC continues the program at ADDRESS. -/
  | tic (ctx : Nat)
  /-- TIC_COND (R141): TIC-COND continues at ADDRESS or at the next command according to COND, MASK and INVERT. -/
  | ticCond (ctx : Nat)
  /-- WAIT (R146): A WAIT step begins waiting for a frame, time, edge or memory word event, or ends with 0x0103 for a reserved KIND. -/
  | waitEvent (ctx : Nat)
  /-- WAIT_CHECK (R147): At its check point each frame a WAIT checks its event and ends normally, times out, or keeps waiting. -/
  | waitCheck (ctx : Nat) (word : Option (Rsp × W32))
  /-- POST (R148): POST writes a 32-byte status record to ADDRESS. -/
  | post (ctx : Nat)
  /-- NOTE (R143): NOTE posts a notice to the tenant notice mailbox of the queue's tenant, or drops it if the mailbox is full. -/
  | note (ctx : Nat)
  /-- STAMP (R151): STAMP writes a 16-byte record of lantern time and frame count to ADDRESS. -/
  | stamp (ctx : Nat)
  /-- CALL (R149): CALL writes the call block and queues the routine on a permitted core of the home pitch, or ends with 0x0108. -/
  | call (ctx : Nat)
  /-- MOVE (R152): MOVE copies COUNT bytes from the source program address to ADDRESS through scratchpad. -/
  | move (ctx : Nat)
  /-- MEASURE (R150): MEASURE begins scheduled ADC sampling on a field port at frames F + j × PARAM_MID. -/
  | measure (ctx : Nat)
  /-- MEASURE_SAMPLE (R150): At cycle 0 of a sample frame the sample transaction is written to the field port's guyline. -/
  | measureSample (ctx : Nat)
  /-- SAMPLE_RECORD_WRITTEN (R325): A sample's reply is calibrated and its sample record written, feeding a meter feed when matched. -/
  | sampleRecordWritten (ctx : Nat) (code : BitVec 32) (status : SampleEnd)
  /-- WRITE (R155): WRITE sends COUNT bytes to a device per its personality. -/
  | devWrite (ctx : Nat)
  /-- READ (R155): READ takes data from a device per its personality into ADDRESS. -/
  | devRead (ctx : Nat)
  /-- CONTROL (R155): CONTROL applies control data or settings to a device per its personality. -/
  | devControl (ctx : Nat)
  /-- SENSE (R155): SENSE returns the device's sense record, counter snapshot or port status. -/
  | devSense (ctx : Nat)
  /-- FLUSH (R156): Code 0x10 issues an NVMe Flush of the namespace. -/
  | flush (ctx : Nat)
  /-- WRITE_ZEROES (R156): Code 0x11 issues an NVMe Write Zeroes over COUNT bytes at block PARAM_LO. -/
  | writeZeroes (ctx : Nat)
  /-- DATASET_MANAGEMENT (R156): Code 0x12 issues an NVMe Dataset Management deallocate over COUNT bytes. -/
  | datasetManagement (ctx : Nat)
  /-- COMPARE (R156): Code 0x13 issues an NVMe Compare with the data at ADDRESS. -/
  | compare (ctx : Nat)
  /-- PASS_THROUGH (R156): Code 0x14 passes a 64-byte NVMe I/O command through with its CID and NSID replaced. -/
  | passThrough (ctx : Nat)
  /-- DISCARD_FRAME (R156): Code 0x20 discards the next frame of the receive queue. -/
  | discardFrame (ctx : Nat)
  /-- TIMED_SEND (R156): Code 0x21 sends a frame whose start-of-frame delimiter leaves at lantern nanosecond PARAM_LO. -/
  | timedSend (ctx : Nat)
  /-- SPI_FULL_DUPLEX (R156): Code 0x30 shifts COUNT bytes out from ADDRESS and COUNT bytes in to PARAM_LO. -/
  | spiFullDuplex (ctx : Nat)
  /-- PWM (R156): Code 0x31 sets the PWM period and high time of a field pin. -/
  | pwm (ctx : Nat)
  /-- GENERATE_EDGE (R156): Code 0x32 generates one edge at lantern nanosecond PARAM_LO. -/
  | generateEdge (ctx : Nat)
  /-- HOSTED_COMMAND_LANDED (R133): A read of hosted program commands lands, or fails or is denied and ends the program. -/
  | hostedCommandLanded (ctx : Nat) (r : Rsp) (cmd : BitVec 256)
  /-- STEP_COMPLETE (R136): A step's data or device operation finishes; the context records progress and chains to the next command or ends the program. -/
  | stepComplete (ctx : Nat) (res : DevResult)
  /-- FENCE_ACK (R145): The acknowledgement of a FENCE step lands and is recorded, ending the step. -/
  | fenceAck (ctx : Nat) (r : Rsp)
  /-- DEVICE_TIMEOUT (R157): A device step not finished within TIMEOUT frames ends with 0x0503 and is abandoned. -/
  | deviceTimeout (ctx : Nat)
  /-- COMPLETION_TIMEOUT (R162): A host read without a completion within the completion timeout ends the step with 0x0401. -/
  | completionTimeout (ctx : Nat)
  /-- PITCH_CTX_SELECT (R165): A write to PITCH_CTX_SELECT snapshots the selected context into PITCH_CTX_STATE and PITCH_CTX_QUEUE. -/
  | pitchCtxSelect (p : Nat) (v : W32)
  /-- PITCH_FAULT (R166): An uncorrectable context, table or issue-logic error in a pitch sets FAULT and starts a pitch reset. -/
  | pitchFault (p : Nat)
  /-- PITCH_RESET (R190): A pitch reset restores the pitch's library and Isquin memories, re-homes queues if its domain was lost, and recovers its entries. -/
  | pitchReset (p : Nat) (host : List Host.Cell)
  /-- RECOVER_DEVICE (R189): After a warm or fault reset the device restores queues from records, rewrites completions and places accepted entries before answering doorbells. -/
  | recoverDevice (host : List Host.Cell)
  /-- REBUILD_COMPLETE (R170): The copy of the surviving recovery area into SPARE ends and SPARE takes the lost channel's role. -/
  | rebuildComplete
  /-- RECOV_READ_SELECT (R200): A write to RECOV_READ_SELECT starts a fetch of the selected 64-byte record block. -/
  | recovReadSelect (v : W32)
  /-- RECOV_READ_COMPLETE (R200): The read-window fetch completes into RECOV_READ_DATA and READ_BUSY clears. -/
  | recovReadComplete
  /-- MOV (R224): MOV copies its source operand to its destination. -/
  | mov (core : Nat)
  /-- MOVSX (R224): MOVSX writes the source sign-extended to 32 bits. -/
  | movsx (core : Nat)
  /-- MOVZX (R224): MOVZX writes the source zero-extended to 32 bits. -/
  | movzx (core : Nat)
  /-- LEA (R224): LEA writes the address of its memory operand. -/
  | lea (core : Nat)
  /-- ADD (R217): ADD writes a + b with optional carry predicate. -/
  | add (core : Nat)
  /-- SUB (R217): SUB writes a − b with optional borrow predicate. -/
  | sub (core : Nat)
  /-- NEG (R217): NEG writes −a, flagging MIN. -/
  | neg (core : Nat)
  /-- ABS (R217): ABS writes |a|, flagging MIN. -/
  | abs (core : Nat)
  /-- MUL (R217): MUL writes the low bits of a × b with optional overflow predicate. -/
  | mul (core : Nat)
  /-- MULHS (R224): MULHS writes the high bits of the signed product. -/
  | mulhs (core : Nat)
  /-- MULHU (R224): MULHU writes the high bits of the unsigned product. -/
  | mulhu (core : Nat)
  /-- DIVS (R217): DIVS writes the signed quotient, handling division by zero and MIN by −1. -/
  | divs (core : Nat)
  /-- DIVU (R217): DIVU writes the unsigned quotient, handling division by zero. -/
  | divu (core : Nat)
  /-- REMS (R217): REMS writes the signed remainder, handling division by zero. -/
  | rems (core : Nat)
  /-- REMU (R217): REMU writes the unsigned remainder, handling division by zero. -/
  | remu (core : Nat)
  /-- AND (R224): AND writes a AND b. -/
  | and (core : Nat)
  /-- OR (R224): OR writes a OR b. -/
  | or (core : Nat)
  /-- XOR (R224): XOR writes a XOR b. -/
  | xor (core : Nat)
  /-- NOT (R224): NOT writes NOT a. -/
  | not (core : Nat)
  /-- SHL (R217): SHL shifts left, giving 0 for counts at or above the size. -/
  | shl (core : Nat)
  /-- SHR (R217): SHR shifts right logically. -/
  | shr (core : Nat)
  /-- SAR (R217): SAR shifts right arithmetically. -/
  | sar (core : Nat)
  /-- ROL (R217): ROL rotates left by count modulo the size. -/
  | rol (core : Nat)
  /-- ROR (R217): ROR rotates right by count modulo the size. -/
  | ror (core : Nat)
  /-- MAC (R218): MAC adds the signed product to an accumulator modulo 2^80. -/
  | mac (core : Nat)
  /-- MSU (R218): MSU subtracts the signed product from an accumulator. -/
  | msu (core : Nat)
  /-- MACU (R218): MACU adds the unsigned product to an accumulator. -/
  | macu (core : Nat)
  /-- ACX (R219): ACX shifts an accumulator right and writes it saturated to the operand size. -/
  | acx (core : Nat)
  /-- PAND (R224): PAND writes the AND of two predicates. -/
  | pand (core : Nat)
  /-- POR (R224): POR writes the OR of two predicates. -/
  | por (core : Nat)
  /-- PXOR (R224): PXOR writes the XOR of two predicates. -/
  | pxor (core : Nat)
  /-- PANDN (R224): PANDN writes Pa AND NOT Pb. -/
  | pandn (core : Nat)
  /-- CMPEQ (R216): CMPEQ sets a predicate when a = b. -/
  | cmpeq (core : Nat)
  /-- CMPNE (R216): CMPNE sets a predicate when a ≠ b. -/
  | cmpne (core : Nat)
  /-- CMPLT (R216): CMPLT sets a predicate when a < b signed. -/
  | cmplt (core : Nat)
  /-- CMPLE (R216): CMPLE sets a predicate when a ≤ b signed. -/
  | cmple (core : Nat)
  /-- CMPLO (R216): CMPLO sets a predicate when a < b unsigned. -/
  | cmplo (core : Nat)
  /-- CMPLS (R216): CMPLS sets a predicate when a ≤ b unsigned. -/
  | cmpls (core : Nat)
  /-- TST (R224): TST sets a predicate when a AND b is non-zero. -/
  | tst (core : Nat)
  /-- BRA (R215): BRA branches by its displacement. -/
  | bra (core : Nat)
  /-- JMP (R215): JMP continues at the operand's address. -/
  | jmp (core : Nat)
  /-- BRL (R224): BRL pushes the return address on G0 and branches. -/
  | brl (core : Nat)
  /-- RET (R224): RET pops the return address from G0 and continues there. -/
  | ret (core : Nat)
  /-- DBNZ (R224): DBNZ decrements its operand and branches if non-zero. -/
  | dbnz (core : Nat)
  /-- CBEQ (R216): CBEQ branches when a = b. -/
  | cbeq (core : Nat)
  /-- CBNE (R216): CBNE branches when a ≠ b. -/
  | cbne (core : Nat)
  /-- CBLT (R216): CBLT branches when a < b signed. -/
  | cblt (core : Nat)
  /-- CBLE (R216): CBLE branches when a ≤ b signed. -/
  | cble (core : Nat)
  /-- CBGT (R216): CBGT branches when a > b signed. -/
  | cbgt (core : Nat)
  /-- CBGE (R216): CBGE branches when a ≥ b signed. -/
  | cbge (core : Nat)
  /-- CBLO (R216): CBLO branches when a < b unsigned. -/
  | cblo (core : Nat)
  /-- CBLS (R216): CBLS branches when a ≤ b unsigned. -/
  | cbls (core : Nat)
  /-- CBHI (R216): CBHI branches when a > b unsigned. -/
  | cbhi (core : Nat)
  /-- CBHS (R216): CBHS branches when a ≥ b unsigned. -/
  | cbhs (core : Nat)
  /-- REP_C (R221): REP C latches C[15:0] as the repeat count of the next instruction. -/
  | repC (core : Nat)
  /-- REP_N (R221): REP #n latches n as the repeat count of the next instruction. -/
  | repN (core : Nat)
  /-- REPEAT_ITERATION (R223): Each further iteration of a repeated instruction executes in full, unless an interrupt or trap intervenes between iterations. -/
  | repeatIteration (core : Nat)
  /-- TRAP (R228): TRAP #n takes a software trap of cause 7. -/
  | trap (core : Nat)
  /-- RESERVED_OPCODE (R213): A reserved encoding raises a reserved-encoding trap to the emulation vector. -/
  | reservedOpcode (core : Nat)
  /-- RETI (R235): RETI returns from a fast interrupt or pops a trap or interrupt frame. -/
  | reti (core : Nat)
  /-- EI (R224): EI sets CSR.IE. -/
  | ei (core : Nat)
  /-- DI (R224): DI clears CSR.IE. -/
  | di (core : Nat)
  /-- SLEEP (R237): SLEEP stops execution until the core is woken. -/
  | sleep (core : Nat)
  /-- CWAIT (R239): CWAIT takes the oldest queued call and enters its routine, or waits for one. -/
  | cwait (core : Nat)
  /-- CALL_DISPATCH (R239): A call arriving for a core waiting in CWAIT is taken and its routine entered. -/
  | callDispatch (core : Nat)
  /-- CRET (R240): CRET hands the routine's result to the context and returns to the CWAIT. -/
  | cret (core : Nat)
  /-- ISQ_NOP (R224): The Isquin NOP instruction does nothing for 1 cc. -/
  | isqNop (core : Nat)
  /-- NORMAL_ENTRY (R232): At a boundary a presented normal request is taken: a frame is pushed, IE cleared, and the vector at 0x0080 entered. -/
  | normalEntry (core : Nat)
  /-- FAST_ENTRY (R234): At a boundary a presented fast request is taken: PC and CSR are saved, the fast bank selected and 0x0090 entered. -/
  | fastEntry (core : Nat)
  /-- CORE_WAKE (R300): A sleeping core wakes when a source is presented to it, and enters a handler or continues. -/
  | coreWake (core : Nat)
  /-- CALL_LIMIT (R242): LIMIT cycles after a CALL step began without CRET, the step ends with 0x0603 and a queued call is removed. -/
  | callLimit (ctx : Nat)
  /-- CALL_LIMIT_TRAP (R242): A core still running a timed-out call takes the call-limit trap at its first eligible boundary. -/
  | callLimitTrap (core : Nat)
  /-- CORE_RESET (R243): Setting ISQ_CTRL.CORE_RESET reloads the core from the firmware store and restarts it. -/
  | coreReset (core : Nat)
  /-- HALT (R229): Setting ISQ_CTRL.HALT halts the core at its next boundary with HALT_CAUSE 1. -/
  | halt (core : Nat)
  /-- RESUME (R229): Setting ISQ_CTRL.RESUME leaves a halt of cause 1 at the halted PC. -/
  | resume (core : Nat)
  /-- BGT_ENABLE_WRITE (R258): Writing BGT_CTRL.ENABLE = 0 aborts the pitch's test step; writing 1 resumes testing. -/
  | bgtEnableWrite (p : Nat) (v : W32)
  /-- SCRUB_READ (R266): On an otherwise idle request slot a channel reads its next line for patrol scrub. -/
  | scrubRead (ch : Timed) (res : EccResult)
  /-- SCRUB_WRITE_BACK (R266): A corrected scrub line is written back on the next idle slot unless a request has written it. -/
  | scrubWriteBack (ch : Timed)
  /-- SCRUB_PERIOD_EXPIRY (R267): A scrub sweep not finished by the end of its PERIOD sets SCRUB_LATE and continues. -/
  | scrubPeriodExpiry (ch : Nat)
  /-- DIMM_THERMAL_READ (R260): Every 10 ms the controller reads the DIMM thermal sensors and sets the refresh temperature range. -/
  | dimmThermalRead (ch : Nat) (hot : Bool)
  /-- RCD_PARITY_ERROR (R260): A parity error reported by the RCD makes the controller replay the affected commands. -/
  | rcdParityError (ch : Nat)
  /-- CANOPY_WINDOW_LO (R273): A write to WINDOW_LO is held until the next WINDOW_HI write of the same entry. -/
  | canopyWindowLo (m w : Nat) (v : W64)
  /-- CANOPY_WINDOW_HI (R273): A write to WINDOW_HI applies it and any held WINDOW_LO together at the end of the cycle. -/
  | canopyWindowHi (m w : Nat) (v : W64)
  /-- DRAIN (R274): Writing CANOPY_DRAIN.DRAIN = 1 sets BUSY until earlier permitted operations end. -/
  | drain (v : W32)
  /-- DRAIN_COMPLETE (R274): BUSY clears once every operation permitted before the drain has reached its target or ended. -/
  | drainComplete
  /-- CANOPY_DENY_COUNT (R275): A read of CANOPY_DENY_COUNT returns and clears the count and re-arms the denial capture. -/
  | canopyDenyCount
  /-- MB_POST (R282): A write to MB_POST posts the notice to a control or tenant mailbox, or reports busy, not permitted or no such mailbox. -/
  | mbPost (agent : Nat) (v : W32)
  /-- MB_RX_SELECT (R285): A write to MB_RX_SELECT takes a snapshot of the selected control mailbox. -/
  | mbRxSelect (agent : Nat) (v : W32)
  /-- FN_NOTICE_STATUS (R285): A read of FN_NOTICE_STATUS takes the function's snapshot of its tenant mailbox. -/
  | fnNoticeStatus (fn : Nat)
  /-- MB_RX_EMPTY (R285): A write of the serial to MB_RX_EMPTY empties the mailbox if it still holds that notice. -/
  | mbRxEmpty (agent : Nat) (v : W32)
  /-- FN_NOTICE_EMPTY (R285): A write of the serial to FN_NOTICE_EMPTY empties the tenant mailbox if it still holds that notice. -/
  | fnNoticeEmpty (fn : Nat) (v : W32)
  /-- MB_RET_POP (R286): A write to MB_RET_POP removes the oldest return entry and clears LOST. -/
  | mbRetPop (agent : Nat)
  /-- TNM_CLEAR (R287): A write to TNM_CLEAR performs a receiver reset of a tenant mailbox. -/
  | tnmClear (v : W32)
  /-- IC_RAISE (R291): A write of a source 1024 to 2047 to IC_RAISE raises an edge on it. -/
  | icRaise (v : W32)
  /-- IC_CLAIM (R296): A read of IC_CLAIM claims the highest-priority presented normal source and pushes its priority. -/
  | icClaim (core : Nat)
  /-- IC_FCLAIM (R299): A read of IC_FCLAIM claims the lowest-numbered presented fast source. -/
  | icFclaim (core : Nat)
  /-- IC_COMPLETE (R298): A write to IC_COMPLETE pops the top normal entry, or raises a stack-order fault. -/
  | icComplete (core : Nat) (v : W32)
  /-- IC_FCOMPLETE (R298): A write to IC_FCOMPLETE pops the top fast entry, or raises a stack-order fault. -/
  | icFcomplete (core : Nat) (v : W32)
  /-- LANTERN_SECOND (R312): At each lantern second boundary source selection is re-evaluated, qualification checked and source 516 raised. -/
  | lanternSecond
  /-- PPS_IN_EDGE (R311): A rising PPS_IN edge is captured, updates qualification, and delivers a phase error to the loop or applies a pending mode 1 set. -/
  | ppsInEdge (input : Nat) (cap : Nat)
  /-- REF_LOST (R310): With no REF10M_IN edge for 1 µs the lantern runs from its internal oscillator and enters HOLDOVER. -/
  | refLost
  /-- REF_RETURN (R310): One second after REF10M_IN edges return REF_LOST clears. -/
  | refReturn
  /-- HOLDOVER_EXPIRY (R315): TIME_VALID drops when holdover time reaches HOLD_VALID minutes. -/
  | holdoverExpiry
  /-- CORE_LOCK (R316): After 1,000 consecutive frames with |E| ≤ 1 ns CORE_LOCKED sets from the next frame. -/
  | coreLock
  /-- PPS_OUT_PULSE (R317): PPS_OUT drives a pulse at each lantern second plus OFFSET. -/
  | ppsOutPulse (pulse : Nat)
  /-- TOD_MESSAGE (R319): DELAY_MS after each second TOD_OUT sends a 16-byte time-of-day message. -/
  | todMessage
  /-- PTP_EVENT_MESSAGE (R320): A PTP event message sent or received on a PTP MAC is timestamped and its origin timestamp inserted. -/
  | ptpEventMessage (mac : Nat) (tx : Bool) (stamp : Nat)
  /-- PTM_REQUEST (R322): A PTM Request on an endpoint port is answered with PTM ResponseD carrying lantern time. -/
  | ptmRequest (port : Nat) (stamp : Nat)
  /-- LANT_SNAP (R349): A write of SNAP captures core time and frame count into the snapshot registers. -/
  | lantSnap (v : W32)
  /-- SET_AT_PPS_EDGE (R350): A LANT_SET_CTRL mode 1 write sets the next qualified selected PPS edge to SECONDS. -/
  | setAtPpsEdge (v : W64)
  /-- SET_AT_ONCE (R350): A LANT_SET_CTRL mode 2 write sets lantern time to SECONDS.NS when it arrives. -/
  | setAtOnce (v : W64)
  /-- ADD_NS (R350): A LANT_SET_CTRL mode 3 write adds the signed NS to lantern time. -/
  | addNs (v : W64)
  /-- SET_CANCEL (R350): A LANT_SET_CTRL mode 0 write cancels the pending set and clears BUSY. -/
  | setCancel (v : W64)
  /-- CAL_COMMIT (R331): Writing CAL_COMMIT.COMMIT records the user calibration values in the next OTP commit slot, or is refused. -/
  | calCommit (v : W32)
  /-- CAL_COMMIT_COMPLETE (R331): The OTP calibration commit finishes and CAL_STATUS reports the result. -/
  | calCommitComplete (ok : Bool)
  /-- ATTRIBUTION_INTERVAL (R338): At the end of an attribution interval the energy is divided into base, tenant and device shares. -/
  | attributionInterval (internal : Nat)
  /-- FEED_STALE (R337): A feed without a sample for STALE_FRAMES counts as 0 W and sets FEED_STALE. -/
  | feedStale (feed : Nat)
  /-- MINUTE_CLOSE (R336): At the first frame of a new lantern minute counting switches bank and the closed minute's block and HEAD are built. -/
  | minuteClose
  /-- HEAD_SIGNED (R341): The signing engine completes the Falcon-1024 signature of a block's HEAD. -/
  | headSigned (ok : Bool)
  /-- BLOCK_DELIVERY (R343): A closed block, its signed head entry and the meter index record are written to host memory when the ring has room. -/
  | blockDelivery
  /-- METER_CONSUMER (R343): A write to METER_CONSUMER frees meter ring slots, or is ignored if out of range. -/
  | meterConsumer (v : W32)
  /-- METER_CHECKPOINT (R346): Every 1,000,000 frames the open meter bank is checkpointed to reserved DDR5. -/
  | meterCheckpoint
  /-- METER_LIVE_SELECT (R351): A write to METER_LIVE_SELECT copies the tenant's open-minute record into METER_LIVE. -/
  | meterLiveSelect (v : W32)
  /-- LINK_UP (R355): A port's link finishes training and comes up. -/
  | linkUp (port rate width : Nat)
  /-- LINK_DOWN (R357): Link down, Hot Reset or conventional reset of an endpoint port resets its functions' configuration and holds their queues. -/
  | linkDown (port : Nat)
  /-- ROOT_PORT_LINK_DOWN (R358): A root port link down or uncorrectable error ends its outstanding steps with 0x0502 and retrains. -/
  | rootPortLinkDown (port : Nat)
  /-- FRAME_RECEIVED (R360): A received Ethernet frame is steered to a receive queue's partition, discarded if full, or deduplicated on a peer receive queue. -/
  | frameReceived (mac : Nat) (frame : List (BitVec 8)) (bad : Bool)
  /-- KICK (R361): Setting MGMT_ETH_CTRL.KICK makes the management port examine its transmit ring. -/
  | kick
  /-- MGMT_FRAME_SENT (R361): The management port finishes sending a frame and clears its descriptor's OWN. -/
  | mgmtFrameSent
  /-- MGMT_FRAME_RECEIVED (R361): The management port writes a received frame and clears its descriptor's OWN. -/
  | mgmtFrameReceived (frame : List (BitVec 8)) (bad : Bool)
  /-- PIN_EDGE (R365): A selected level change on an input field pin raises its source and satisfies WAIT EDGE, with its capture time. -/
  | pinEdge (port pin : Nat) (level : Bool) (stamp : Nat)
  /-- QUAD_TEST (R373): Writing QUAD_TEST.TEST takes the quad's ports down into test, or returns the quad to its personality. -/
  | quadTest (q : Nat) (v : W32)
  /-- SNAP (R375): Writing LANE_PRBS_CTRL.SNAP copies the running counters into LANE_BITS and LANE_ERRS. -/
  | prbsSnap (lane : Nat) (v : W32) (bits errs : Nat)
  /-- CLEAR (R375): Writing LANE_PRBS_CTRL.CLEAR zeroes the running PRBS counters. -/
  | prbsClear (lane : Nat) (v : W32)
  /-- INJECT (R375): Writing LANE_PRBS_CTRL.INJECT inverts one bit of the next generated word. -/
  | prbsInject (lane : Nat) (v : W32)
  /-- CHECKER_LOCK (R374): After 1,024 error-free bits the PRBS checker declares LOCKED. -/
  | checkerLock (lane : Nat)
  /-- CHECKER_LOCK_LOSS (R374): 64 or more errors in 1,024 bits make the checker lose lock and seed again. -/
  | checkerLockLoss (lane : Nat)
  /-- DDR5_PAT_START (R378): Setting DDR5_PAT_CTRL.START starts the channel's pattern engine, or is refused. -/
  | ddr5PatStart (ch : Nat) (v : W32)
  /-- DDR5_PAT_STOP (R378): Setting DDR5_PAT_CTRL.STOP stops the pattern engine after the line in progress. -/
  | ddr5PatStop (ch : Nat) (v : W32)
  /-- PATTERN_RUN_COMPLETE (R377): The pattern engine finishes its LOOPS passes and reports its result. -/
  | patternRunComplete (ch : Nat) (uncorr : Nat) (devs : List Nat)
  /-- PLOET_LINK_UP (R390): The Ploet link comes up and a matching pair enters SYNCING and sends its live records. -/
  | ploetLinkUp (x4 : Bool) (matched : Bool)
  /-- PLOET_LINK_DOWN (R381): A lane in use loses lock and the Ploet link goes down, retrains and aborts twin mailbox notices. -/
  | ploetLinkDown
  /-- FLIT_RECEIVED (R384): A received flit is decoded and checked, accepted in order or answered with NAK, and its heartbeat counted. -/
  | flitReceived (f : Flit)
  /-- NAK_REPLAY (R384): A NAK makes the sender replay every flit after the acknowledged one, counting retry exhaustion. -/
  | nakReplay (seq : Nat)
  /-- RECORD (R386): A RECORD message is written into both mirror copies and later acknowledged with DURABLE. -/
  | campRecord
  /-- DURABLE (R387): A DURABLE message makes records through its MSEQ camp-durable, releasing waiting queues and contexts. -/
  | campDurable
  /-- TIME (R400): A TIME message supplies the partner's timestamps for the phase error of source 3. -/
  | campTime (arrival : W64)
  /-- NOTICE (R402): A NOTICE message places the partner's notice in the local twin mailbox. -/
  | campNotice
  /-- EMPTIED (R402): An EMPTIED message clears the local twin mailbox and makes its return entry. -/
  | campEmptied
  /-- RESYNC_START (R390): A RESYNC_START message clears the mirror area before the partner's live records. -/
  | resyncStart
  /-- RESYNC_END (R390): A RESYNC_END message completes the partner's resync and can move the device to PAIRED. -/
  | resyncEnd
  /-- SILENT_DECISION (R393): When SILENT reaches 16 the device enters TAKING_OVER if ARB_IN is LOW, or ALONE if TOGGLING. -/
  | silentDecision
  /-- ARB_IN_CHANGE (R393): A change of decoded CAMP_ARB_IN raises source 580 and fences the device on HIGH as the table states. -/
  | arbInChange (level : Nat)
  /-- TAKE_OVER (R396): After holding CLAIM for 8 frames the survivor migrates and recovers the partner's queues, then returns to ALONE. -/
  | takeOver (host : List Host.Cell)
  /-- RESYNC (R390): Writing CAMP_CMD.RESYNC in ALONE with the link up restarts the resync. -/
  | campResync (v : W32)
  /-- FENCE (R394): Writing CAMP_CMD.FENCE enters FENCED. -/
  | campFence (v : W32)
  /-- BACKGROUND_VERIFY (R430): After trailhead the device verifies the other flash device's image and sets its GOOD flag. -/
  | backgroundVerify
  /-- TH_OTP_ARM (R422): Writing 0x5A5A to TH_OTP_ARM arms one OTP command; any other value disarms. -/
  | thOtpArm (v : W32)
  /-- ARM_EXPIRY (R422): An OTP arm not used within 1,000 frames lapses. -/
  | armExpiry
  /-- PROGRAM_SLOT (R422): OTP operation 1 programs a key-ring slot hash from TH_OTP_DATA, or is refused. -/
  | programSlot (v : W32)
  /-- REVOKE_SLOT (R422): OTP operation 2 revokes a key-ring slot, or is refused. -/
  | revokeSlot (v : W32)
  /-- ADVANCE_ANTI_ROLLBACK (R422): OTP operation 3 advances the anti-rollback value to v, or is refused. -/
  | advanceAntiRollback (v : W32)
  /-- OTP_WRITE_COMPLETE (R423): An OTP change finishes its log and setting writes and reports its result. -/
  | otpWriteComplete (ok : Bool)
  /-- FLASH_READ (R429): Flash operation 1 reads flash into TH_FLASH_BUF. -/
  | flashRead (v : W32)
  /-- FLASH_PROGRAM (R429): Flash operation 2 programs from TH_FLASH_BUF, clearing the device's GOOD, or is refused. -/
  | flashProgram (v : W32)
  /-- FLASH_ERASE (R429): Flash operation 3 erases a 64 KiB sector, clearing GOOD, or is refused. -/
  | flashErase (v : W32)
  /-- VERIFY (R429): Flash operation 4 runs the image admission checks on a device and sets GOOD or TH_REJECT. -/
  | flashVerify (v : W32)
  /-- FLASH_OP_COMPLETE (R429): A flash operation finishes and TH_FLASH_STATUS reports its result. -/
  | flashOpComplete (ok : Bool)
  /-- REQUEST (R427): Setting TH_ATTEST_CTRL.REQUEST copies TH_NONCE and begins an attestation report. -/
  | attestRequest (v : W32)
  /-- REPORT_SIGN_START (R428): The signing engine begins a report signature when the minute window allows and no meter head waits. -/
  | reportSignStart
  /-- REPORT_SIGNED (R428): A report signature completes and READY sets. -/
  | reportSigned
  /-- BIVOUAC_REQUEST (R434): Writing PWR_DOMAIN.REQ = 1 starts bivouac entry, or is refused. -/
  | bivouacRequest (d : Nat) (v : W32)
  /-- ON_REQUEST (R434): Writing PWR_DOMAIN.REQ = 0 starts the domain's exit from bivouac. -/
  | onRequest (d : Nat) (v : W32)
  /-- BIVOUAC_ENTRY_COMPLETE (R434): A domain finishes entering bivouac. -/
  | bivouacEntryComplete (d : Nat)
  /-- BIVOUAC_EXIT_COMPLETE (R434): A domain finishes leaving bivouac and returns to ON. -/
  | bivouacExitComplete (d : Nat)
  /-- EXIT_TIMEOUT (R437): A domain not ON within four times its exit time is declared LOST with EXIT_FAIL. -/
  | exitTimeout (d : Nat)
  /-- DOMAIN_LOST (R22): A power domain loses power without a request and the device handles the loss per domain. -/
  | domainLost (d : Nat)
  /-- DOMAIN_RETURN (R244): A lost domain's power returns and its block restarts, such as the ranger core at its reset vector. -/
  | domainReturn (d ms : Nat)
  /-- WARM (R439): Setting PWR_RESET.WARM requests a warm reset after the open minute is closed. -/
  | warmRequest (v : W32)
  /-- PITCH (R438): Setting a PWR_RESET.PITCH bit requests a pitch reset of that pitch. -/
  | pitchRequest (v : W32)
  /-- WRST_N (R438): WRST_N held low for at least 1 µs requests a warm reset. -/
  | wrstN
  /-- WARM_RESET (R439): At cycle 0 of the frame after the minute close the warm reset begins, DDR5 enters self-refresh and trailhead runs. -/
  | warmReset (ms : Nat)
  /-- POWER_ON_RESET (R438): PWRGOOD rising resets the whole device and runs trailhead. -/
  | powerOnReset (ms : Nat) (dimms : List (Option Dimm))
  /-- PWRGOOD_FALL (R444): PWRGOOD falling, whenever a rail leaves tolerance, resets the whole device. -/
  | pwrgoodFall
  /-- COLD_RESET (R438): RST_N low for at least 1 µs resets all domains and runs trailhead. -/
  | coldReset (ms : Nat) (dimms : List (Option Dimm))
  /-- TEMPERATURE_SAMPLE (R446): Every 10 µs the on-die sensors are read, PWR_TEMP updated and TEMP_ALARM set or cleared. -/
  | temperatureSample (temp : Int) (sensor : Nat)
  /-- CONFIGURATION_REQUEST (R416): A PCIe Configuration Request reaching a function of an endpoint port whose link is up is answered with Configuration Request Retry Status until trailhead ends. -/
  | configurationRequest (fn : Nat)
  /-- L1_ENTRY (R110): A host link enters L1 or an L1 substate, so that a later due interrupt must first take it back to L0. -/
  | l1Entry (port : Nat)
  /-- ETHERNET_LINK_DOWN (R157): An Ethernet MAC's link goes down, ending every step outstanding on it with 0x0502 and setting PORT_FAULT.LINK_DOWN. -/
  | ethernetLinkDown (mac : Nat)
  /-- CONTROL_STATE_ERROR (R438): An uncorrectable error in the control state of the ridgepole and central domain makes the device perform a fault reset. -/
  | controlStateError (ms : Nat)
  deriving DecidableEq, Repr

end Sys2Proof
end

