-- ==== Sys2Proof/Config.lean ====
section
/-! DEFINITION. What one part or one run fixes and the spec leaves open: constants without a body, so that no proof can see
their values. A function of `Nat` named free… is applied to the counter `State.free`, which every use advances. -/
namespace Sys2Proof

/-- A free word: the value the spec leaves open at this point (log entry 2). -/
opaque Config.freeWord : Nat → W64

/-- Hard repairs fused in scratchpad bank b of pitch p, index p x 32 + b (07 SP_BANK_REPAIR.HARD). -/
opaque Config.hardRepairs : Nat → Nat

/-- Factory calibration pair of channel c (09 CAL_FACTORY). -/
opaque Config.calFactory : Nat → W64

/-- MSI-X vector of the management function that carries the fault message (01 R28 names no number). -/
opaque Config.faultVector : Nat

/-- The part's serial number and factory key-slot hash (12 R421, R424). -/
opaque Config.serial : List Byte
opaque Config.slot0Hash : List Byte

/-- Of the identity certificate: issuing key, identity public key, and the issuer's signature (12 R425, R426). -/
opaque Config.issuer : List Byte
opaque Config.identityKey : List Byte
opaque Config.certSignature : List Byte

/-- The entries that the factory wrote into the OTP change log (12 R421, R424 KIND 1). -/
opaque Config.factoryLog : List (BitVec 128)

/-- A byte of the flash, or of TH_FLASH_BUF, that a failed flash operation leaves: number of the operation and address (12 R429). -/
opaque Config.flashByte : Nat → Nat → Byte

/-- Landing partition of receive queue q of a MAC, by MAC x 256 + q: an owner of 02 R40 as the schedule numbers them (10 R360; no
settings record of 12 R411 names it). -/
opaque Config.rxPartition : Nat → Nat

/-- A DDR5 line as the pattern engine leaves it where the spec does not fix its bytes: pattern, line index, and the number of the
run (10 R377). -/
opaque Config.patternLine : Nat → Nat → Nat → BitVec 1024

/-- A block that the read window shows and the spec gives no contents: area and index; block 0 of the area header is its format
(05 R167, R200). -/
opaque Config.areaBlock : Nat → Nat → BitVec 512

/-- The four check bytes that the on-die code RS(36,32) gives 32 data bytes; the spec names no generator (07 R246, R251). -/
opaque Config.rsCheck : BitVec 256 → BitVec 32

/-- TH_REJECT.ENTRY where the failure was found at no record or entry: code and section type (12 R420). -/
opaque Config.rejectEntry : Nat → Nat → Nat

/-- Falcon-1024 verification of a signature over a message with a public key (12 R410, R414). -/
opaque Config.falconVerify : List Byte → List Byte → List Byte → Bool

/-- Falcon-1024 signature of a message under the device key; the first argument tells two signings apart (09 R341, 12 R425). -/
opaque Config.falconSign : Nat → List Byte → List Byte

end Sys2Proof
end

