-- ==== Sys2Proof/Machine/Regs.lean ====
section
/-! DEFINITION. The register tables of the spec: one descriptor per register table (00 "Registers"), and the bit range of
every named field. The bit ranges are pairs (high, low) (00 R9). -/
namespace Sys2Proof.Machine

/-- GLOBAL_ID (01 R27). -/
def R.GLOBAL_ID : RegD := ⟨.mgmt, 0x0, 0x0, 1, 0x0, 1, 32, 0x96404e00, [⟨31, 16, .ro⟩, ⟨15, 8, .ro⟩, ⟨7, 0, .ro⟩]⟩
def F.GLOBAL_ID_PART : Nat × Nat := (31, 16)
def F.GLOBAL_ID_FAMILY : Nat × Nat := (15, 8)
/-- GLOBAL_STEPPING (01 R27). -/
def R.GLOBAL_STEPPING : RegD := ⟨.mgmt, 0x4, 0x0, 1, 0x0, 1, 32, 0x4201, [⟨31, 16, .ro⟩, ⟨15, 8, .ro⟩, ⟨7, 0, .ro⟩]⟩
def F.GLOBAL_STEPPING_LETTER : Nat × Nat := (15, 8)
def F.GLOBAL_STEPPING_DIGIT : Nat × Nat := (7, 0)
/-- GLOBAL_FRAME_COUNT (01 R27). -/
def R.GLOBAL_FRAME_COUNT : RegD := ⟨.mgmt, 0x8, 0x0, 1, 0x0, 1, 64, 0x0, [⟨63, 0, .ro⟩]⟩
def F.GLOBAL_FRAME_COUNT_FRAME : Nat × Nat := (63, 0)
/-- GLOBAL_FAULT_SUMMARY (01 R27). -/
def R.GLOBAL_FAULT_SUMMARY : RegD := ⟨.mgmt, 0x10, 0x0, 1, 0x0, 1, 32, 0x80, [⟨31, 13, .ro⟩, ⟨12, 12, .ro⟩, ⟨11, 11, .ro⟩, ⟨10, 10, .ro⟩, ⟨9, 9, .ro⟩, ⟨8, 8, .ro⟩, ⟨7, 7, .ro⟩, ⟨6, 6, .ro⟩, ⟨5, 5, .ro⟩, ⟨4, 4, .ro⟩, ⟨3, 3, .ro⟩, ⟨2, 2, .ro⟩, ⟨1, 1, .w1c⟩, ⟨0, 0, .w1c⟩]⟩
def F.GLOBAL_FAULT_SUMMARY_RANGER : Nat × Nat := (12, 12)
def F.GLOBAL_FAULT_SUMMARY_THERMAL : Nat × Nat := (11, 11)
def F.GLOBAL_FAULT_SUMMARY_POWER_DOMAIN : Nat × Nat := (10, 10)
def F.GLOBAL_FAULT_SUMMARY_TRAILHEAD : Nat × Nat := (9, 9)
def F.GLOBAL_FAULT_SUMMARY_CAMP : Nat × Nat := (8, 8)
def F.GLOBAL_FAULT_SUMMARY_LANTERN : Nat × Nat := (7, 7)
def F.GLOBAL_FAULT_SUMMARY_PORT : Nat × Nat := (6, 6)
def F.GLOBAL_FAULT_SUMMARY_PITCH : Nat × Nat := (5, 5)
def F.GLOBAL_FAULT_SUMMARY_MEMORY : Nat × Nat := (4, 4)
def F.GLOBAL_FAULT_SUMMARY_SCHEDULE : Nat × Nat := (3, 3)
def F.GLOBAL_FAULT_SUMMARY_METER : Nat × Nat := (2, 2)
def F.GLOBAL_FAULT_SUMMARY_UNMAPPED : Nat × Nat := (1, 1)
def F.GLOBAL_FAULT_SUMMARY_BAD_ACCESS : Nat × Nat := (0, 0)
/-- GLOBAL_FAULT_ENABLE (01 R28). -/
def R.GLOBAL_FAULT_ENABLE : RegD := ⟨.mgmt, 0x14, 0x0, 1, 0x0, 1, 32, 0x0, [⟨31, 13, .ro⟩, ⟨12, 0, .rw⟩]⟩
def F.GLOBAL_FAULT_ENABLE_ENABLE : Nat × Nat := (12, 0)
/-- SCHED_CTRL (02 R74). -/
def R.SCHED_CTRL : RegD := ⟨.mgmt, 0x1000000, 0x0, 1, 0x0, 1, 32, 0x0, [⟨31, 3, .ro⟩, ⟨2, 2, .w1s⟩, ⟨1, 1, .w1s⟩, ⟨0, 0, .rw⟩]⟩
def F.SCHED_CTRL_SWAP_ARM : Nat × Nat := (2, 2)
def F.SCHED_CTRL_CHECK : Nat × Nat := (1, 1)
def F.SCHED_CTRL_TARGET : Nat × Nat := (0, 0)
/-- SCHED_STATUS (02 R75). -/
def R.SCHED_STATUS : RegD := ⟨.mgmt, 0x1000004, 0x0, 1, 0x0, 1, 32, 0x0, [⟨31, 24, .ro⟩, ⟨23, 20, .ro⟩, ⟨19, 16, .ro⟩, ⟨15, 12, .ro⟩, ⟨11, 7, .ro⟩, ⟨6, 6, .w1c⟩, ⟨5, 5, .ro⟩, ⟨4, 4, .ro⟩, ⟨3, 3, .ro⟩, ⟨2, 2, .ro⟩, ⟨1, 1, .ro⟩, ⟨0, 0, .ro⟩]⟩
def F.SCHED_STATUS_ACTIVE_PERIOD : Nat × Nat := (31, 24)
def F.SCHED_STATUS_SWAP_RESULT : Nat × Nat := (23, 20)
def F.SCHED_STATUS_CHECK_RESULT : Nat × Nat := (15, 12)
def F.SCHED_STATUS_BANK_WRITE_DENIED : Nat × Nat := (6, 6)
def F.SCHED_STATUS_SWAP_PENDING : Nat × Nat := (5, 5)
def F.SCHED_STATUS_CHECK_BUSY : Nat × Nat := (4, 4)
def F.SCHED_STATUS_CHECKED_B : Nat × Nat := (3, 3)
def F.SCHED_STATUS_CHECKED_A : Nat × Nat := (2, 2)
def F.SCHED_STATUS_FREE_ONLY : Nat × Nat := (1, 1)
def F.SCHED_STATUS_ACTIVE : Nat × Nat := (0, 0)
/-- SCHED_SWAP_FRAME (02 R75). -/
def R.SCHED_SWAP_FRAME : RegD := ⟨.mgmt, 0x1000008, 0x0, 1, 0x0, 1, 64, 0x0, [⟨63, 0, .rw⟩]⟩
def F.SCHED_SWAP_FRAME_FRAME : Nat × Nat := (63, 0)
/-- SCHED_LAST_SWAP (02 R75). -/
def R.SCHED_LAST_SWAP : RegD := ⟨.mgmt, 0x1000010, 0x0, 1, 0x0, 1, 64, 0x0, [⟨63, 0, .ro⟩]⟩
def F.SCHED_LAST_SWAP_FRAME : Nat × Nat := (63, 0)
/-- SCHED_FAULT (02 R75). -/
def R.SCHED_FAULT : RegD := ⟨.mgmt, 0x1000018, 0x0, 1, 0x0, 1, 32, 0x0, [⟨31, 16, .rc⟩, ⟨15, 8, .ro⟩, ⟨7, 4, .ro⟩, ⟨3, 1, .ro⟩, ⟨0, 0, .ro⟩]⟩
def F.SCHED_FAULT_ECC_CORR : Nat × Nat := (31, 16)
def F.SCHED_FAULT_CAUSE : Nat × Nat := (7, 4)
def F.SCHED_FAULT_CONTRACT : Nat × Nat := (0, 0)
/-- SCHED_FAULT_INFO (02 R76). -/
def R.SCHED_FAULT_INFO : RegD := ⟨.mgmt, 0x1000020, 0x0, 1, 0x0, 1, 64, 0x0, [⟨63, 32, .ro⟩, ⟨31, 20, .ro⟩, ⟨19, 16, .ro⟩, ⟨15, 6, .ro⟩, ⟨5, 0, .ro⟩]⟩
def F.SCHED_FAULT_INFO_FRAME_LOW : Nat × Nat := (63, 32)
def F.SCHED_FAULT_INFO_CYCLE : Nat × Nat := (31, 20)
def F.SCHED_FAULT_INFO_KIND : Nat × Nat := (19, 16)
def F.SCHED_FAULT_INFO_INSTANCE : Nat × Nat := (15, 6)
/-- SCHED_FAULT_LEASES (02 R76). -/
def R.SCHED_FAULT_LEASES : RegD := ⟨.mgmt, 0x1000028, 0x0, 1, 0x0, 1, 32, 0x0, [⟨31, 16, .ro⟩, ⟨15, 8, .ro⟩, ⟨7, 0, .ro⟩]⟩
def F.SCHED_FAULT_LEASES_LEASE_B : Nat × Nat := (15, 8)
def F.SCHED_FAULT_LEASES_LEASE_A : Nat × Nat := (7, 0)
/-- SCHED_CHECK_INFO (02 R76). -/
def R.SCHED_CHECK_INFO : RegD := ⟨.mgmt, 0x1000030, 0x0, 1, 0x0, 1, 32, 0x0, [⟨31, 14, .ro⟩, ⟨13, 8, .ro⟩, ⟨7, 3, .ro⟩, ⟨2, 0, .ro⟩]⟩
def F.SCHED_CHECK_INFO_ENTRY : Nat × Nat := (31, 14)
def F.SCHED_CHECK_INFO_FRAME : Nat × Nat := (13, 8)
def F.SCHED_CHECK_INFO_UNIT : Nat × Nat := (7, 3)
/-- LEASE_CFG (02 R76). -/
def R.LEASE_CFG : RegD := ⟨.mgmt, 0x1900000, 0x10, 256, 0x0, 1, 32, 0x0, [⟨31, 31, .rw⟩, ⟨30, 28, .ro⟩, ⟨27, 16, .rw⟩, ⟨15, 0, .ro⟩]⟩
def F.LEASE_CFG_ENABLE : Nat × Nat := (31, 31)
def F.LEASE_CFG_TENANT : Nat × Nat := (27, 16)
/-- LEASE_MISS (02 R76). -/
def R.LEASE_MISS : RegD := ⟨.mgmt, 0x1900008, 0x10, 256, 0x0, 1, 64, 0x0, [⟨63, 0, .ro⟩]⟩
def F.LEASE_MISS_MISSES : Nat × Nat := (63, 0)
/-- FN_INFO (03 R121). -/
def R.FN_INFO : RegD := ⟨.fn, 0x0, 0x0, 1, 0x0, 1, 32, 0x0, [⟨31, 31, .ro⟩, ⟨30, 13, .ro⟩, ⟨12, 0, .ro⟩]⟩
def F.FN_INFO_IDENT_VALID : Nat × Nat := (31, 31)
def F.FN_INFO_FUNCTION : Nat × Nat := (12, 0)
/-- FN_IDENT (03 R121). -/
def R.FN_IDENT : RegD := ⟨.fn, 0x8, 0x0, 1, 0x0, 1, 32, 0x0, [⟨31, 28, .ro⟩, ⟨27, 16, .ro⟩, ⟨15, 14, .ro⟩, ⟨13, 0, .ro⟩]⟩
def F.FN_IDENT_TENANT : Nat × Nat := (27, 16)
def F.FN_IDENT_MASTER : Nat × Nat := (13, 0)
/-- ASSIGN_SELECT (03 R122). -/
def R.ASSIGN_SELECT : RegD := ⟨.fn, 0x800, 0x0, 1, 0x0, 1, 32, 0x0, [⟨31, 29, .ro⟩, ⟨28, 16, .rw⟩, ⟨15, 9, .ro⟩, ⟨8, 8, .rw⟩, ⟨7, 0, .rw⟩]⟩
def F.ASSIGN_SELECT_FUNCTION : Nat × Nat := (28, 16)
def F.ASSIGN_SELECT_CQ : Nat × Nat := (8, 8)
def F.ASSIGN_SELECT_SLOT : Nat × Nat := (7, 0)
/-- ASSIGN_IDENT (03 R122). -/
def R.ASSIGN_IDENT : RegD := ⟨.fn, 0x808, 0x0, 1, 0x0, 1, 32, 0x0, [⟨31, 31, .rw⟩, ⟨30, 28, .ro⟩, ⟨27, 16, .rw⟩, ⟨15, 14, .ro⟩, ⟨13, 0, .rw⟩]⟩
def F.ASSIGN_IDENT_VALID : Nat × Nat := (31, 31)
def F.ASSIGN_IDENT_TENANT : Nat × Nat := (27, 16)
def F.ASSIGN_IDENT_MASTER : Nat × Nat := (13, 0)
/-- ASSIGN_QUEUE (03 R122). -/
def R.ASSIGN_QUEUE : RegD := ⟨.fn, 0x810, 0x0, 1, 0x0, 1, 32, 0x0, [⟨31, 31, .rw⟩, ⟨30, 23, .rw⟩, ⟨22, 19, .ro⟩, ⟨18, 16, .rw⟩, ⟨15, 14, .ro⟩, ⟨13, 0, .rw⟩]⟩
def F.ASSIGN_QUEUE_VALID : Nat × Nat := (31, 31)
def F.ASSIGN_QUEUE_LEASE_VALID : Nat × Nat := (30, 23)
def F.ASSIGN_QUEUE_HOME_PITCH : Nat × Nat := (18, 16)
def F.ASSIGN_QUEUE_QNUM : Nat × Nat := (13, 0)
/-- ASSIGN_LEASE (03 R122). -/
def R.ASSIGN_LEASE : RegD := ⟨.fn, 0x818, 0x0, 1, 0x0, 1, 64, 0x0, [⟨63, 0, .rw⟩]⟩
def F.ASSIGN_LEASE_MEMBER : Nat × Nat := (63, 0)
/-- ASSIGN_STATUS (03 R122). -/
def R.ASSIGN_STATUS : RegD := ⟨.fn, 0x820, 0x0, 1, 0x0, 1, 32, 0x0, [⟨31, 2, .ro⟩, ⟨1, 0, .ro⟩]⟩
def F.ASSIGN_STATUS_RESULT : Nat × Nat := (1, 0)
/-- SQ_BASE (03 R122). -/
def R.SQ_BASE : RegD := ⟨.fn, 0x4000, 0x40, 256, 0x0, 1, 64, 0x0, [⟨63, 12, .rw⟩, ⟨11, 0, .ro⟩]⟩
def F.SQ_BASE_BASE : Nat × Nat := (63, 12)
/-- SQ_INDEX (03 R122). -/
def R.SQ_INDEX : RegD := ⟨.fn, 0x4008, 0x40, 256, 0x0, 1, 64, 0x0, [⟨63, 6, .rw⟩, ⟨5, 0, .ro⟩]⟩
def F.SQ_INDEX_ADDR : Nat × Nat := (63, 6)
/-- SQ_CFG (03 R122). -/
def R.SQ_CFG : RegD := ⟨.fn, 0x4010, 0x40, 256, 0x0, 1, 32, 0x0, [⟨31, 31, .rw⟩, ⟨30, 30, .rw⟩, ⟨29, 29, .ro⟩, ⟨28, 24, .rw⟩, ⟨23, 14, .ro⟩, ⟨13, 0, .rw⟩]⟩
def F.SQ_CFG_ENABLE : Nat × Nat := (31, 31)
def F.SQ_CFG_REREAD : Nat × Nat := (30, 30)
def F.SQ_CFG_SIZE_LOG2 : Nat × Nat := (28, 24)
def F.SQ_CFG_DEFAULT_CQ : Nat × Nat := (13, 0)
/-- SQ_SEQ_BASE (03 R122). -/
def R.SQ_SEQ_BASE : RegD := ⟨.fn, 0x4014, 0x40, 256, 0x0, 1, 32, 0x0, [⟨31, 0, .rw⟩]⟩
def F.SQ_SEQ_BASE_SEQ : Nat × Nat := (31, 0)
/-- SQ_START (03 R122). -/
def R.SQ_START : RegD := ⟨.fn, 0x4018, 0x40, 256, 0x0, 1, 64, 0x0, [⟨63, 0, .rw⟩]⟩
def F.SQ_START_INDEX : Nat × Nat := (63, 0)
/-- SQ_STATUS (03 R122). -/
def R.SQ_STATUS : RegD := ⟨.fn, 0x4020, 0x40, 256, 0x0, 1, 32, 0x8, [⟨31, 16, .ro⟩, ⟨15, 12, .ro⟩, ⟨11, 8, .ro⟩, ⟨7, 5, .ro⟩, ⟨4, 4, .ro⟩, ⟨3, 3, .ro⟩, ⟨2, 0, .ro⟩]⟩
def F.SQ_STATUS_GENERATION : Nat × Nat := (31, 16)
def F.SQ_STATUS_ENABLE_ERR : Nat × Nat := (15, 12)
def F.SQ_STATUS_ERROR_CAUSE : Nat × Nat := (11, 8)
def F.SQ_STATUS_STALLED : Nat × Nat := (4, 4)
def F.SQ_STATUS_IDLE : Nat × Nat := (3, 3)
def F.SQ_STATUS_STATE : Nat × Nat := (2, 0)
/-- SQ_CMD (03 R122). -/
def R.SQ_CMD : RegD := ⟨.fn, 0x4024, 0x40, 256, 0x0, 1, 32, 0x0, [⟨31, 1, .wo⟩, ⟨0, 0, .wo⟩]⟩
def F.SQ_CMD_QUEUE_RESET : Nat × Nat := (0, 0)
/-- SQ_ACCEPT (03 R122). -/
def R.SQ_ACCEPT : RegD := ⟨.fn, 0x4028, 0x40, 256, 0x0, 1, 64, 0x0, [⟨63, 0, .ro⟩]⟩
def F.SQ_ACCEPT_INDEX : Nat × Nat := (63, 0)
/-- SQ_CONSUMED (03 R122). -/
def R.SQ_CONSUMED : RegD := ⟨.fn, 0x4030, 0x40, 256, 0x0, 1, 64, 0x0, [⟨63, 0, .ro⟩]⟩
def F.SQ_CONSUMED_INDEX : Nat × Nat := (63, 0)
/-- SQ_QNUM (03 R122). -/
def R.SQ_QNUM : RegD := ⟨.fn, 0x4038, 0x40, 256, 0x0, 1, 32, 0x0, [⟨31, 31, .ro⟩, ⟨30, 19, .ro⟩, ⟨18, 16, .ro⟩, ⟨15, 14, .ro⟩, ⟨13, 0, .ro⟩]⟩
def F.SQ_QNUM_VALID : Nat × Nat := (31, 31)
def F.SQ_QNUM_HOME_PITCH : Nat × Nat := (18, 16)
def F.SQ_QNUM_QNUM : Nat × Nat := (13, 0)
/-- CQ_BASE (03 R122). -/
def R.CQ_BASE : RegD := ⟨.fn, 0x8000, 0x40, 256, 0x0, 1, 64, 0x0, [⟨63, 12, .rw⟩, ⟨11, 0, .ro⟩]⟩
def F.CQ_BASE_BASE : Nat × Nat := (63, 12)
/-- CQ_CFG (03 R122). -/
def R.CQ_CFG : RegD := ⟨.fn, 0x8008, 0x40, 256, 0x0, 1, 32, 0x0, [⟨31, 31, .rw⟩, ⟨30, 30, .rw⟩, ⟨29, 29, .ro⟩, ⟨28, 24, .rw⟩, ⟨23, 8, .ro⟩, ⟨7, 0, .rw⟩]⟩
def F.CQ_CFG_ENABLE : Nat × Nat := (31, 31)
def F.CQ_CFG_IEN : Nat × Nat := (30, 30)
def F.CQ_CFG_SIZE_LOG2 : Nat × Nat := (28, 24)
def F.CQ_CFG_VECTOR : Nat × Nat := (7, 0)
/-- CQ_MOD (03 R122). -/
def R.CQ_MOD : RegD := ⟨.fn, 0x800c, 0x40, 256, 0x0, 1, 32, 0x10000, [⟨31, 24, .ro⟩, ⟨23, 16, .rw⟩, ⟨15, 0, .rw⟩]⟩
def F.CQ_MOD_COUNT : Nat × Nat := (23, 16)
def F.CQ_MOD_TIME : Nat × Nat := (15, 0)
/-- CQ_HEAD (03 R122). -/
def R.CQ_HEAD : RegD := ⟨.fn, 0x8010, 0x40, 256, 0x0, 1, 32, 0x0, [⟨31, 0, .ro⟩]⟩
def F.CQ_HEAD_INDEX : Nat × Nat := (31, 0)
/-- CQ_TAIL (03 R122). -/
def R.CQ_TAIL : RegD := ⟨.fn, 0x8014, 0x40, 256, 0x0, 1, 32, 0x0, [⟨31, 0, .ro⟩]⟩
def F.CQ_TAIL_INDEX : Nat × Nat := (31, 0)
/-- CQ_STATUS (03 R122). -/
def R.CQ_STATUS : RegD := ⟨.fn, 0x8018, 0x40, 256, 0x0, 1, 32, 0x0, [⟨31, 24, .ro⟩, ⟨23, 7, .ro⟩, ⟨6, 6, .w1c⟩, ⟨5, 5, .ro⟩, ⟨4, 3, .ro⟩, ⟨2, 2, .ro⟩, ⟨1, 0, .ro⟩]⟩
def F.CQ_STATUS_UNSIGNALLED : Nat × Nat := (31, 24)
def F.CQ_STATUS_RESERVATIONS : Nat × Nat := (23, 7)
def F.CQ_STATUS_HEAD_ERR : Nat × Nat := (6, 6)
def F.CQ_STATUS_HELD : Nat × Nat := (5, 5)
def F.CQ_STATUS_ENABLE_ERR : Nat × Nat := (4, 3)
def F.CQ_STATUS_STATE : Nat × Nat := (1, 0)
/-- CQ_QNUM (03 R122). -/
def R.CQ_QNUM : RegD := ⟨.fn, 0x801c, 0x40, 256, 0x0, 1, 32, 0x0, [⟨31, 31, .ro⟩, ⟨30, 14, .ro⟩, ⟨13, 0, .ro⟩]⟩
def F.CQ_QNUM_VALID : Nat × Nat := (31, 31)
def F.CQ_QNUM_QNUM : Nat × Nat := (13, 0)
/-- SQ_DOORBELL (03 R122). -/
def R.SQ_DOORBELL : RegD := ⟨.fn, 0x1000, 0x8, 256, 0x0, 1, 64, 0x0, [⟨63, 0, .wo⟩]⟩
def F.SQ_DOORBELL_IGNORED : Nat × Nat := (63, 0)
/-- SQ_RESUME (03 R122). -/
def R.SQ_RESUME : RegD := ⟨.fn, 0x1800, 0x8, 256, 0x0, 1, 64, 0x0, [⟨63, 0, .wo⟩]⟩
def F.SQ_RESUME_IGNORED : Nat × Nat := (63, 0)
/-- CQ_DOORBELL (03 R122). -/
def R.CQ_DOORBELL : RegD := ⟨.fn, 0x2000, 0x8, 256, 0x0, 1, 64, 0x0, [⟨63, 32, .wo⟩, ⟨31, 0, .wo⟩]⟩
def F.CQ_DOORBELL_HEAD : Nat × Nat := (31, 0)
/-- PITCH_TENANT_BUDGET (04 R164). -/
def R.PITCH_TENANT_BUDGET : RegD := ⟨.mgmt, 0x2000000, 0x400000, 8, 0x0, 1, 32, 0x1000, [⟨31, 16, .ro⟩, ⟨15, 0, .rw⟩]⟩
def F.PITCH_TENANT_BUDGET_BUDGET : Nat × Nat := (15, 0)
/-- PITCH_CTX_COUNTS (04 R164). -/
def R.PITCH_CTX_COUNTS : RegD := ⟨.mgmt, 0x2000008, 0x400000, 8, 0x0, 1, 64, 0x400, [⟨63, 55, .ro⟩, ⟨54, 44, .ro⟩, ⟨43, 33, .ro⟩, ⟨32, 22, .ro⟩, ⟨21, 11, .ro⟩, ⟨10, 0, .ro⟩]⟩
def F.PITCH_CTX_COUNTS_HELD : Nat × Nat := (54, 44)
def F.PITCH_CTX_COUNTS_SUSPENDED : Nat × Nat := (43, 33)
def F.PITCH_CTX_COUNTS_WAITING : Nat × Nat := (32, 22)
def F.PITCH_CTX_COUNTS_ACTIVE : Nat × Nat := (21, 11)
def F.PITCH_CTX_COUNTS_FREE : Nat × Nat := (10, 0)
/-- PITCH_PROG_COUNTS (04 R164). -/
def R.PITCH_PROG_COUNTS : RegD := ⟨.mgmt, 0x2000010, 0x400000, 8, 0x0, 1, 64, 0x0, [⟨63, 48, .rc⟩, ⟨47, 32, .rc⟩, ⟨31, 16, .rc⟩, ⟨15, 0, .rc⟩]⟩
def F.PITCH_PROG_COUNTS_DENIALS : Nat × Nat := (63, 48)
def F.PITCH_PROG_COUNTS_NOTES_DROPPED : Nat × Nat := (47, 32)
def F.PITCH_PROG_COUNTS_BUDGET_EXCEEDED : Nat × Nat := (31, 16)
def F.PITCH_PROG_COUNTS_PROGRAM_CHECKS : Nat × Nat := (15, 0)
/-- PITCH_CTX_SELECT (04 R164). -/
def R.PITCH_CTX_SELECT : RegD := ⟨.mgmt, 0x2000018, 0x400000, 8, 0x0, 1, 32, 0x0, [⟨31, 10, .ro⟩, ⟨9, 6, .rw⟩, ⟨5, 0, .rw⟩]⟩
def F.PITCH_CTX_SELECT_ENGINE : Nat × Nat := (9, 6)
def F.PITCH_CTX_SELECT_CONTEXT : Nat × Nat := (5, 0)
/-- PITCH_CTX_STATE (04 R165). -/
def R.PITCH_CTX_STATE : RegD := ⟨.mgmt, 0x2000020, 0x400000, 8, 0x0, 1, 32, 0x0, [⟨31, 16, .ro⟩, ⟨15, 8, .ro⟩, ⟨7, 4, .ro⟩, ⟨3, 3, .ro⟩, ⟨2, 0, .ro⟩]⟩
def F.PITCH_CTX_STATE_STEP : Nat × Nat := (31, 16)
def F.PITCH_CTX_STATE_LEASE : Nat × Nat := (15, 8)
def F.PITCH_CTX_STATE_COND : Nat × Nat := (7, 4)
def F.PITCH_CTX_STATE_FREE_LANE : Nat × Nat := (3, 3)
def F.PITCH_CTX_STATE_STATE : Nat × Nat := (2, 0)
/-- PITCH_CTX_QUEUE (04 R165). -/
def R.PITCH_CTX_QUEUE : RegD := ⟨.mgmt, 0x2000028, 0x400000, 8, 0x0, 1, 64, 0x0, [⟨63, 32, .ro⟩, ⟨31, 16, .ro⟩, ⟨15, 14, .ro⟩, ⟨13, 0, .ro⟩]⟩
def F.PITCH_CTX_QUEUE_SEQ : Nat × Nat := (63, 32)
def F.PITCH_CTX_QUEUE_PROGRAM : Nat × Nat := (31, 16)
def F.PITCH_CTX_QUEUE_SQ : Nat × Nat := (13, 0)
/-- PITCH_LIB_INFO (04 R165). -/
def R.PITCH_LIB_INFO : RegD := ⟨.mgmt, 0x2000030, 0x400000, 8, 0x0, 1, 32, 0x0, [⟨31, 13, .ro⟩, ⟨12, 0, .ro⟩]⟩
def F.PITCH_LIB_INFO_PROGRAMS : Nat × Nat := (12, 0)
/-- PITCH_FAULT (04 R166). -/
def R.PITCH_FAULT : RegD := ⟨.mgmt, 0x2000048, 0x400000, 8, 0x0, 1, 32, 0x0, [⟨31, 19, .ro⟩, ⟨18, 16, .rw⟩, ⟨15, 3, .ro⟩, ⟨2, 2, .w1c⟩, ⟨1, 1, .w1c⟩, ⟨0, 0, .w1c⟩]⟩
def F.PITCH_FAULT_MASK : Nat × Nat := (18, 16)
def F.PITCH_FAULT_REQUESTED : Nat × Nat := (2, 2)
def F.PITCH_FAULT_DOMAIN_LOST : Nat × Nat := (1, 1)
def F.PITCH_FAULT_FAULT : Nat × Nat := (0, 0)
/-- RECOV_CFG (05 R198). -/
def R.RECOV_CFG : RegD := ⟨.mgmt, 0x5f00000, 0x0, 1, 0x0, 1, 32, 0x0, [⟨31, 31, .lk⟩, ⟨30, 16, .ro⟩, ⟨15, 12, .lk⟩, ⟨11, 8, .lk⟩, ⟨7, 4, .lk⟩, ⟨3, 1, .ro⟩, ⟨0, 0, .lk⟩]⟩
def F.RECOV_CFG_LOCK : Nat × Nat := (31, 31)
def F.RECOV_CFG_SPARE : Nat × Nat := (15, 12)
def F.RECOV_CFG_COPY_B : Nat × Nat := (11, 8)
def F.RECOV_CFG_COPY_A : Nat × Nat := (7, 4)
def F.RECOV_CFG_ENABLE : Nat × Nat := (0, 0)
/-- RECOV_STATUS (05 R198). -/
def R.RECOV_STATUS : RegD := ⟨.mgmt, 0x5f00008, 0x0, 1, 0x0, 1, 32, 0x0, [⟨31, 28, .ro⟩, ⟨27, 8, .ro⟩, ⟨7, 7, .ro⟩, ⟨6, 6, .w1c⟩, ⟨5, 5, .ro⟩, ⟨4, 4, .ro⟩, ⟨3, 3, .ro⟩, ⟨2, 2, .ro⟩, ⟨1, 1, .ro⟩, ⟨0, 0, .ro⟩]⟩
def F.RECOV_STATUS_LAST_KIND : Nat × Nat := (31, 28)
def F.RECOV_STATUS_IMAGE_CHANGED : Nat × Nat := (7, 7)
def F.RECOV_STATUS_LOST : Nat × Nat := (6, 6)
def F.RECOV_STATUS_REBUILD_BUSY : Nat × Nat := (5, 5)
def F.RECOV_STATUS_SINGLE_COPY : Nat × Nat := (4, 4)
def F.RECOV_STATUS_RUNNING : Nat × Nat := (3, 3)
def F.RECOV_STATUS_READ_BUSY : Nat × Nat := (2, 2)
def F.RECOV_STATUS_READ_ERR : Nat × Nat := (1, 1)
/-- RECOV_LAST_FRAME (05 R199). -/
def R.RECOV_LAST_FRAME : RegD := ⟨.mgmt, 0x5f00010, 0x0, 1, 0x0, 1, 64, 0x0, [⟨63, 0, .ro⟩]⟩
def F.RECOV_LAST_FRAME_FRAME : Nat × Nat := (63, 0)
/-- RECOV_COUNTS (05 R199). -/
def R.RECOV_COUNTS : RegD := ⟨.mgmt, 0x5f00018, 0x0, 1, 0x0, 1, 64, 0x0, [⟨63, 48, .rc⟩, ⟨47, 32, .rc⟩, ⟨31, 16, .rc⟩, ⟨15, 0, .rc⟩]⟩
def F.RECOV_COUNTS_ABANDONED : Nat × Nat := (63, 48)
def F.RECOV_COUNTS_IN_DOUBT : Nat × Nat := (47, 32)
def F.RECOV_COUNTS_REWRITTEN : Nat × Nat := (31, 16)
def F.RECOV_COUNTS_RECOVERED : Nat × Nat := (15, 0)
/-- RECOV_LOST_INFO (05 R199). -/
def R.RECOV_LOST_INFO : RegD := ⟨.mgmt, 0x5f00020, 0x0, 1, 0x0, 1, 32, 0x0, [⟨31, 31, .ro⟩, ⟨30, 15, .ro⟩, ⟨14, 14, .ro⟩, ⟨13, 0, .ro⟩]⟩
def F.RECOV_LOST_INFO_VALID : Nat × Nat := (31, 31)
def F.RECOV_LOST_INFO_CQ : Nat × Nat := (14, 14)
def F.RECOV_LOST_INFO_QNUM : Nat × Nat := (13, 0)
/-- RECOV_READ_SELECT (05 R199). -/
def R.RECOV_READ_SELECT : RegD := ⟨.mgmt, 0x5f00028, 0x0, 1, 0x0, 1, 32, 0x0, [⟨31, 28, .rw⟩, ⟨27, 25, .ro⟩, ⟨24, 24, .rw⟩, ⟨23, 0, .rw⟩]⟩
def F.RECOV_READ_SELECT_AREA : Nat × Nat := (31, 28)
def F.RECOV_READ_SELECT_COPY : Nat × Nat := (24, 24)
def F.RECOV_READ_SELECT_INDEX : Nat × Nat := (23, 0)
/-- RECOV_READ_DATA (05 R200). -/
def R.RECOV_READ_DATA : RegD := ⟨.mgmt, 0x5f00040, 0x8, 8, 0x0, 1, 64, 0x0, [⟨63, 0, .ro⟩]⟩
def F.RECOV_READ_DATA_DATA : Nat × Nat := (63, 0)
/-- PEER_ID (05 R200). -/
def R.PEER_ID : RegD := ⟨.mgmt, 0x5f00080, 0x0, 1, 0x0, 1, 32, 0x0, [⟨31, 0, .ro⟩]⟩
def F.PEER_ID_SENDER : Nat × Nat := (31, 0)
/-- PEER_COUNTS (05 R200). -/
def R.PEER_COUNTS : RegD := ⟨.mgmt, 0x5f00088, 0x0, 1, 0x0, 1, 64, 0x0, [⟨63, 32, .rc⟩, ⟨31, 16, .rc⟩, ⟨15, 0, .ro⟩]⟩
def F.PEER_COUNTS_DUPLICATES : Nat × Nat := (63, 32)
def F.PEER_COUNTS_TABLE_FULL : Nat × Nat := (31, 16)
/-- ISQ_VERSION (06 R244). -/
def R.ISQ_VERSION : RegD := ⟨.core, 0x0, 0x0, 1, 0x0, 1, 32, 0x1, [⟨31, 24, .ro⟩, ⟨23, 16, .ro⟩, ⟨15, 8, .ro⟩, ⟨7, 0, .ro⟩]⟩
def F.ISQ_VERSION_KIND : Nat × Nat := (31, 24)
def F.ISQ_VERSION_PITCH : Nat × Nat := (23, 16)
def F.ISQ_VERSION_CORE : Nat × Nat := (15, 8)
def F.ISQ_VERSION_LEVEL : Nat × Nat := (7, 0)
/-- CCR (06 R244). -/
def R.CCR : RegD := ⟨.core, 0x4, 0x0, 1, 0x0, 1, 32, 0x0, [⟨31, 2, .ro⟩, ⟨1, 1, .rw⟩, ⟨0, 0, .rw⟩]⟩
def F.CCR_FIE : Nat × Nat := (1, 1)
def F.CCR_DZT : Nat × Nat := (0, 0)
/-- CSR (06 R244). -/
def R.CSR : RegD := ⟨.core, 0x8, 0x0, 1, 0x0, 1, 32, 0x0, [⟨31, 0, .ro⟩]⟩
def F.CSR_STATUS : Nat × Nat := (31, 0)
/-- TRAP_CAUSE (06 R244). -/
def R.TRAP_CAUSE : RegD := ⟨.core, 0x10, 0x0, 1, 0x0, 1, 32, 0x0, [⟨31, 4, .ro⟩, ⟨3, 0, .ro⟩]⟩
def F.TRAP_CAUSE_CAUSE : Nat × Nat := (3, 0)
/-- TRAP_ADDR (06 R244). -/
def R.TRAP_ADDR : RegD := ⟨.core, 0x14, 0x0, 1, 0x0, 1, 32, 0x0, [⟨31, 0, .ro⟩]⟩
def F.TRAP_ADDR_ADDR : Nat × Nat := (31, 0)
/-- TRAP_INSN (06 R244). -/
def R.TRAP_INSN : RegD := ⟨.core, 0x18, 0x4, 3, 0x0, 1, 32, 0x0, [⟨31, 16, .ro⟩, ⟨15, 0, .ro⟩]⟩
def F.TRAP_INSN_PARCEL_HI : Nat × Nat := (31, 16)
def F.TRAP_INSN_PARCEL_LO : Nat × Nat := (15, 0)
/-- FPC (06 R244). -/
def R.FPC : RegD := ⟨.core, 0x28, 0x0, 1, 0x0, 1, 32, 0x0, [⟨31, 0, .ro⟩]⟩
def F.FPC_PC : Nat × Nat := (31, 0)
/-- FCSR (06 R244). -/
def R.FCSR : RegD := ⟨.core, 0x2c, 0x0, 1, 0x0, 1, 32, 0x0, [⟨31, 0, .ro⟩]⟩
def F.FCSR_STATUS : Nat × Nat := (31, 0)
/-- CALL_SP (06 R244). -/
def R.CALL_SP : RegD := ⟨.core, 0x30, 0x0, 1, 0x0, 1, 32, 0x0, [⟨31, 0, .ro⟩]⟩
def F.CALL_SP_SP : Nat × Nat := (31, 0)
/-- CALL_RET (06 R244). -/
def R.CALL_RET : RegD := ⟨.core, 0x34, 0x0, 1, 0x0, 1, 32, 0x0, [⟨31, 0, .ro⟩]⟩
def F.CALL_RET_PC : Nat × Nat := (31, 0)
/-- CALL_INFO (06 R244). -/
def R.CALL_INFO : RegD := ⟨.core, 0x38, 0x0, 1, 0x0, 1, 32, 0x0, [⟨31, 28, .ro⟩, ⟨27, 16, .ro⟩, ⟨15, 8, .ro⟩, ⟨7, 0, .ro⟩]⟩
def F.CALL_INFO_TENANT : Nat × Nat := (27, 16)
def F.CALL_INFO_LEASE : Nat × Nat := (7, 0)
/-- CORE_TIME (06 R244). -/
def R.CORE_TIME : RegD := ⟨.core, 0x40, 0x0, 1, 0x0, 1, 32, 0x0, [⟨31, 12, .ro⟩, ⟨11, 0, .ro⟩]⟩
def F.CORE_TIME_FRAME : Nat × Nat := (31, 12)
def F.CORE_TIME_CYCLE : Nat × Nat := (11, 0)
/-- RANGER_APERTURE (06 R244). -/
def R.RANGER_APERTURE : RegD := ⟨.core, 0x44, 0x0, 1, 0x0, 1, 32, 0x0, [⟨31, 10, .rw⟩, ⟨9, 0, .ro⟩]⟩
def F.RANGER_APERTURE_BASE : Nat × Nat := (31, 10)
/-- ISQ_CTRL (06 R244). -/
def R.ISQ_CTRL : RegD := ⟨.mgmt, 0x2010000, 0x400000, 8, 0x100, 4, 32, 0x0, [⟨31, 3, .ro⟩, ⟨2, 2, .w1s⟩, ⟨1, 1, .w1s⟩, ⟨0, 0, .w1s⟩]⟩
def F.ISQ_CTRL_CORE_RESET : Nat × Nat := (2, 2)
def F.ISQ_CTRL_RESUME : Nat × Nat := (1, 1)
def F.ISQ_CTRL_HALT : Nat × Nat := (0, 0)
/-- ISQ_STATUS (06 R244). -/
def R.ISQ_STATUS : RegD := ⟨.mgmt, 0x2010004, 0x400000, 8, 0x100, 4, 32, 0x0, [⟨31, 16, .ro⟩, ⟨15, 12, .ro⟩, ⟨11, 11, .ro⟩, ⟨10, 10, .ro⟩, ⟨9, 9, .ro⟩, ⟨8, 8, .ro⟩, ⟨7, 5, .ro⟩, ⟨4, 0, .ro⟩]⟩
def F.ISQ_STATUS_HALT_CAUSE : Nat × Nat := (15, 12)
def F.ISQ_STATUS_HALTED : Nat × Nat := (11, 11)
def F.ISQ_STATUS_SLEEPING : Nat × Nat := (10, 10)
def F.ISQ_STATUS_INCALL : Nat × Nat := (9, 9)
def F.ISQ_STATUS_FAST : Nat × Nat := (8, 8)
def F.ISQ_STATUS_CALLQ : Nat × Nat := (4, 0)
/-- ISQ_PC (06 R244). -/
def R.ISQ_PC : RegD := ⟨.mgmt, 0x2010008, 0x400000, 8, 0x100, 4, 32, 0x0, [⟨31, 0, .ro⟩]⟩
def F.ISQ_PC_PC : Nat × Nat := (31, 0)
/-- ISQ_ECC (06 R244). -/
def R.ISQ_ECC : RegD := ⟨.mgmt, 0x2010010, 0x400000, 8, 0x100, 4, 64, 0x0, [⟨63, 48, .rc⟩, ⟨47, 32, .rc⟩, ⟨31, 16, .rc⟩, ⟨15, 0, .rc⟩]⟩
def F.ISQ_ECC_UNCORR : Nat × Nat := (63, 48)
def F.ISQ_ECC_IMEM_CORR : Nat × Nat := (47, 32)
def F.ISQ_ECC_Y_CORR : Nat × Nat := (31, 16)
def F.ISQ_ECC_X_CORR : Nat × Nat := (15, 0)
/-- ISQ_FW_IDENT (06 R244). -/
def R.ISQ_FW_IDENT : RegD := ⟨.mgmt, 0x2010018, 0x400000, 8, 0x100, 4, 32, 0x0, [⟨31, 28, .ro⟩, ⟨27, 16, .ro⟩, ⟨15, 14, .ro⟩, ⟨13, 0, .ro⟩]⟩
def F.ISQ_FW_IDENT_TENANT : Nat × Nat := (27, 16)
def F.ISQ_FW_IDENT_MASTER : Nat × Nat := (13, 0)
/-- PITCH_CALL_COUNTS (06 R244). -/
def R.PITCH_CALL_COUNTS : RegD := ⟨.mgmt, 0x2000040, 0x400000, 8, 0x0, 1, 64, 0x0, [⟨63, 48, .rc⟩, ⟨47, 32, .rc⟩, ⟨31, 0, .rc⟩]⟩
def F.PITCH_CALL_COUNTS_LIMITS : Nat × Nat := (63, 48)
def F.PITCH_CALL_COUNTS_QUEUE_FULL : Nat × Nat := (47, 32)
def F.PITCH_CALL_COUNTS_CALLS : Nat × Nat := (31, 0)
/-- ROUTINE (06 R244). -/
def R.ROUTINE : RegD := ⟨.mgmt, 0x2020000, 0x400000, 8, 0x8, 1024, 64, 0x0, [⟨63, 0, .ro⟩]⟩
def F.ROUTINE_ENTRY : Nat × Nat := (63, 0)
/-- SP_BANK_ERR (07 R276). -/
def R.SP_BANK_ERR : RegD := ⟨.mgmt, 0x2030000, 0x400000, 8, 0x10, 32, 64, 0x0, [⟨63, 48, .rc⟩, ⟨47, 32, .rc⟩, ⟨31, 0, .rc⟩]⟩
def F.SP_BANK_ERR_WW_COLLISIONS : Nat × Nat := (63, 48)
def F.SP_BANK_ERR_UNCORR : Nat × Nat := (47, 32)
def F.SP_BANK_ERR_CORR : Nat × Nat := (31, 0)
/-- SP_BANK_REPAIR (07 R276). -/
def R.SP_BANK_REPAIR : RegD := ⟨.mgmt, 0x2030008, 0x400000, 8, 0x10, 32, 32, 0x0, [⟨31, 21, .ro⟩, ⟨20, 10, .ro⟩, ⟨9, 9, .ro⟩, ⟨8, 8, .ro⟩, ⟨7, 4, .ro⟩, ⟨3, 0, .ro⟩]⟩
def F.SP_BANK_REPAIR_LAST_ROW : Nat × Nat := (20, 10)
def F.SP_BANK_REPAIR_EXHAUSTED : Nat × Nat := (9, 9)
def F.SP_BANK_REPAIR_HARD : Nat × Nat := (7, 4)
def F.SP_BANK_REPAIR_SOFT : Nat × Nat := (3, 0)
/-- BGT_CTRL (07 R276). -/
def R.BGT_CTRL : RegD := ⟨.mgmt, 0x2031000, 0x400000, 8, 0x0, 1, 32, 0x1, [⟨31, 1, .ro⟩, ⟨0, 0, .rw⟩]⟩
def F.BGT_CTRL_ENABLE : Nat × Nat := (0, 0)
/-- BGT_STATUS (07 R276). -/
def R.BGT_STATUS : RegD := ⟨.mgmt, 0x2031008, 0x400000, 8, 0x0, 1, 64, 0x0, [⟨63, 32, .ro⟩, ⟨31, 18, .ro⟩, ⟨17, 16, .ro⟩, ⟨15, 14, .ro⟩, ⟨13, 9, .ro⟩, ⟨8, 0, .ro⟩]⟩
def F.BGT_STATUS_SWEEPS : Nat × Nat := (63, 32)
def F.BGT_STATUS_PATTERN : Nat × Nat := (17, 16)
def F.BGT_STATUS_BANK : Nat × Nat := (13, 9)
def F.BGT_STATUS_STEP : Nat × Nat := (8, 0)
/-- SP_FAULT (07 R276). -/
def R.SP_FAULT : RegD := ⟨.mgmt, 0x2031010, 0x400000, 8, 0x0, 1, 32, 0x0, [⟨31, 18, .ro⟩, ⟨17, 16, .rw⟩, ⟨15, 2, .ro⟩, ⟨1, 1, .w1c⟩, ⟨0, 0, .w1c⟩]⟩
def F.SP_FAULT_MASK : Nat × Nat := (17, 16)
def F.SP_FAULT_EXHAUSTED : Nat × Nat := (1, 1)
def F.SP_FAULT_UNCORR : Nat × Nat := (0, 0)
/-- SP_RESERVED (07 R276). -/
def R.SP_RESERVED : RegD := ⟨.mgmt, 0x2031018, 0x400000, 8, 0x0, 1, 32, 0x0, [⟨31, 31, .lk⟩, ⟨30, 25, .ro⟩, ⟨24, 0, .lk⟩]⟩
def F.SP_RESERVED_LOCK : Nat × Nat := (31, 31)
def F.SP_RESERVED_BASE : Nat × Nat := (24, 0)
/-- DDR5_INFO (07 R276). -/
def R.DDR5_INFO : RegD := ⟨.mgmt, 0x5000000, 0x100000, 12, 0x0, 1, 64, 0x0, [⟨63, 48, .ro⟩, ⟨47, 40, .ro⟩, ⟨39, 38, .ro⟩, ⟨37, 32, .ro⟩, ⟨31, 24, .ro⟩, ⟨23, 22, .ro⟩, ⟨21, 21, .ro⟩, ⟨20, 10, .ro⟩, ⟨9, 1, .ro⟩, ⟨0, 0, .ro⟩]⟩
def F.DDR5_INFO_REFW : Nat × Nat := (63, 48)
def F.DDR5_INFO_TEMP_RANGE : Nat × Nat := (39, 38)
def F.DDR5_INFO_DENSITY : Nat × Nat := (31, 24)
def F.DDR5_INFO_HEIGHT : Nat × Nat := (23, 22)
def F.DDR5_INFO_RANKS : Nat × Nat := (21, 21)
def F.DDR5_INFO_CAPACITY : Nat × Nat := (9, 1)
def F.DDR5_INFO_PRESENT : Nat × Nat := (0, 0)
/-- DDR5_LIMIT (07 R276). -/
def R.DDR5_LIMIT : RegD := ⟨.mgmt, 0x5000008, 0x100000, 12, 0x0, 1, 64, 0x0, [⟨63, 63, .lk⟩, ⟨62, 38, .ro⟩, ⟨37, 7, .lk⟩, ⟨6, 0, .ro⟩]⟩
def F.DDR5_LIMIT_LOCK : Nat × Nat := (63, 63)
def F.DDR5_LIMIT_LIMIT : Nat × Nat := (37, 7)
/-- DDR5_ERR (07 R276). -/
def R.DDR5_ERR : RegD := ⟨.mgmt, 0x5000010, 0x100000, 12, 0x0, 1, 64, 0x0, [⟨63, 48, .rc⟩, ⟨47, 32, .rc⟩, ⟨31, 0, .rc⟩]⟩
def F.DDR5_ERR_SCRUB_CORR : Nat × Nat := (63, 48)
def F.DDR5_ERR_UNCORR : Nat × Nat := (47, 32)
def F.DDR5_ERR_CORR : Nat × Nat := (31, 0)
/-- DDR5_MARK (07 R276). -/
def R.DDR5_MARK : RegD := ⟨.mgmt, 0x5000018, 0x100000, 12, 0x0, 1, 32, 0x0, [⟨31, 14, .ro⟩, ⟨13, 13, .rw⟩, ⟨12, 8, .rw⟩, ⟨7, 6, .ro⟩, ⟨5, 5, .rw⟩, ⟨4, 0, .rw⟩]⟩
def F.DDR5_MARK_MARK1_VALID : Nat × Nat := (13, 13)
def F.DDR5_MARK_MARK1_DEV : Nat × Nat := (12, 8)
def F.DDR5_MARK_MARK0_VALID : Nat × Nat := (5, 5)
def F.DDR5_MARK_MARK0_DEV : Nat × Nat := (4, 0)
/-- DDR5_SCRUB_CFG (07 R276). -/
def R.DDR5_SCRUB_CFG : RegD := ⟨.mgmt, 0x5000020, 0x100000, 12, 0x0, 1, 32, 0x80000018, [⟨31, 31, .rw⟩, ⟨30, 8, .ro⟩, ⟨7, 0, .rw⟩]⟩
def F.DDR5_SCRUB_CFG_ENABLE : Nat × Nat := (31, 31)
def F.DDR5_SCRUB_CFG_PERIOD : Nat × Nat := (7, 0)
/-- DDR5_SCRUB_STATUS (07 R276). -/
def R.DDR5_SCRUB_STATUS : RegD := ⟨.mgmt, 0x5000028, 0x100000, 12, 0x0, 1, 64, 0x0, [⟨63, 48, .ro⟩, ⟨47, 31, .ro⟩, ⟨30, 0, .ro⟩]⟩
def F.DDR5_SCRUB_STATUS_SWEEPS : Nat × Nat := (63, 48)
def F.DDR5_SCRUB_STATUS_LINE : Nat × Nat := (30, 0)
/-- DDR5_FAULT (07 R276). -/
def R.DDR5_FAULT : RegD := ⟨.mgmt, 0x5000030, 0x100000, 12, 0x0, 1, 32, 0x0, [⟨31, 18, .ro⟩, ⟨17, 16, .rw⟩, ⟨15, 3, .ro⟩, ⟨2, 2, .ro⟩, ⟨1, 1, .w1c⟩, ⟨0, 0, .w1c⟩]⟩
def F.DDR5_FAULT_MASK : Nat × Nat := (17, 16)
def F.DDR5_FAULT_LOST : Nat × Nat := (2, 2)
def F.DDR5_FAULT_SCRUB_LATE : Nat × Nat := (1, 1)
def F.DDR5_FAULT_UNCORR : Nat × Nat := (0, 0)
/-- DDR5_FIRST_UNCORR (07 R276). -/
def R.DDR5_FIRST_UNCORR : RegD := ⟨.mgmt, 0x5000038, 0x100000, 12, 0x0, 1, 64, 0x0, [⟨63, 63, .w1c⟩, ⟨62, 38, .ro⟩, ⟨37, 7, .ro⟩, ⟨6, 0, .ro⟩]⟩
def F.DDR5_FIRST_UNCORR_VALID : Nat × Nat := (63, 63)
def F.DDR5_FIRST_UNCORR_LINE : Nat × Nat := (37, 7)
/-- DDR5_DEV_ERR (07 R276). -/
def R.DDR5_DEV_ERR : RegD := ⟨.mgmt, 0x5000100, 0x100000, 12, 0x4, 20, 32, 0x0, [⟨31, 0, .rc⟩]⟩
def F.DDR5_DEV_ERR_CORR : Nat × Nat := (31, 0)
/-- CANOPY_CTRL (07 R276). -/
def R.CANOPY_CTRL : RegD := ⟨.mgmt, 0x800000, 0x0, 1, 0x0, 1, 32, 0x0, [⟨31, 31, .lk⟩, ⟨30, 14, .ro⟩, ⟨13, 0, .lk⟩]⟩
def F.CANOPY_CTRL_LOCK : Nat × Nat := (31, 31)
def F.CANOPY_CTRL_RANGER_MASTER : Nat × Nat := (13, 0)
/-- CANOPY_DRAIN (07 R276). -/
def R.CANOPY_DRAIN : RegD := ⟨.mgmt, 0x800004, 0x0, 1, 0x0, 1, 32, 0x0, [⟨31, 2, .ro⟩, ⟨1, 1, .ro⟩, ⟨0, 0, .w1s⟩]⟩
def F.CANOPY_DRAIN_BUSY : Nat × Nat := (1, 1)
def F.CANOPY_DRAIN_DRAIN : Nat × Nat := (0, 0)
/-- CANOPY_DENY_COUNT (07 R276). -/
def R.CANOPY_DENY_COUNT : RegD := ⟨.mgmt, 0x800008, 0x0, 1, 0x0, 1, 32, 0x0, [⟨31, 0, .rc⟩]⟩
def F.CANOPY_DENY_COUNT_DENIALS : Nat × Nat := (31, 0)
/-- CANOPY_DENY_INFO (07 R276). -/
def R.CANOPY_DENY_INFO : RegD := ⟨.mgmt, 0x800010, 0x0, 1, 0x0, 1, 64, 0x0, [⟨63, 63, .ro⟩, ⟨62, 62, .ro⟩, ⟨61, 32, .ro⟩, ⟨31, 29, .ro⟩, ⟨28, 27, .ro⟩, ⟨26, 25, .ro⟩, ⟨24, 14, .ro⟩, ⟨13, 0, .ro⟩]⟩
def F.CANOPY_DENY_INFO_VALID : Nat × Nat := (63, 63)
def F.CANOPY_DENY_INFO_TABLE_UNCORR : Nat × Nat := (62, 62)
def F.CANOPY_DENY_INFO_PITCH : Nat × Nat := (31, 29)
def F.CANOPY_DENY_INFO_SPACE : Nat × Nat := (28, 27)
def F.CANOPY_DENY_INFO_KIND : Nat × Nat := (26, 25)
def F.CANOPY_DENY_INFO_MASTER : Nat × Nat := (13, 0)
/-- CANOPY_DENY_ADDR (07 R276). -/
def R.CANOPY_DENY_ADDR : RegD := ⟨.mgmt, 0x800018, 0x0, 1, 0x0, 1, 64, 0x0, [⟨63, 0, .ro⟩]⟩
def F.CANOPY_DENY_ADDR_ADDR : Nat × Nat := (63, 0)
/-- CANOPY_REGION (07 R276). -/
def R.CANOPY_REGION : RegD := ⟨.mgmt, 0x900000, 0x40, 16384, 0x8, 8, 64, 0x0, [⟨63, 63, .rw⟩, ⟨62, 62, .rw⟩, ⟨61, 61, .rw⟩, ⟨60, 60, .ro⟩, ⟨59, 52, .rw⟩, ⟨51, 40, .ro⟩, ⟨39, 20, .rw⟩, ⟨19, 0, .rw⟩]⟩
def F.CANOPY_REGION_VALID : Nat × Nat := (63, 63)
def F.CANOPY_REGION_RD : Nat × Nat := (62, 62)
def F.CANOPY_REGION_WR : Nat × Nat := (61, 61)
def F.CANOPY_REGION_PITCHES : Nat × Nat := (59, 52)
def F.CANOPY_REGION_LIMIT : Nat × Nat := (39, 20)
def F.CANOPY_REGION_BASE : Nat × Nat := (19, 0)
/-- CANOPY_WINDOW_LO (07 R276). -/
def R.CANOPY_WINDOW_LO : RegD := ⟨.mgmt, 0xa00000, 0x100, 16384, 0x10, 16, 64, 0x0, [⟨63, 12, .rw⟩, ⟨11, 0, .ro⟩]⟩
def F.CANOPY_WINDOW_LO_BASE : Nat × Nat := (63, 12)
/-- CANOPY_WINDOW_HI (07 R276). -/
def R.CANOPY_WINDOW_HI : RegD := ⟨.mgmt, 0xa00008, 0x100, 16384, 0x10, 16, 64, 0x0, [⟨63, 12, .rw⟩, ⟨11, 6, .ro⟩, ⟨5, 4, .rw⟩, ⟨3, 3, .rw⟩, ⟨2, 2, .rw⟩, ⟨1, 1, .rw⟩, ⟨0, 0, .rw⟩]⟩
def F.CANOPY_WINDOW_HI_LIMIT : Nat × Nat := (63, 12)
def F.CANOPY_WINDOW_HI_SPACE : Nat × Nat := (5, 4)
def F.CANOPY_WINDOW_HI_FETCH : Nat × Nat := (3, 3)
def F.CANOPY_WINDOW_HI_WR : Nat × Nat := (2, 2)
def F.CANOPY_WINDOW_HI_RD : Nat × Nat := (1, 1)
def F.CANOPY_WINDOW_HI_VALID : Nat × Nat := (0, 0)
/-- IC_SRC_CFG (08 R303). -/
def R.IC_SRC_CFG : RegD := ⟨.mgmt, 0x400000, 0x8, 2048, 0x0, 1, 32, 0x0, [⟨31, 31, .rw⟩, ⟨30, 30, .rw⟩, ⟨29, 29, .rw⟩, ⟨28, 24, .ro⟩, ⟨23, 20, .rw⟩, ⟨19, 3, .ro⟩, ⟨2, 0, .rw⟩]⟩
def F.IC_SRC_CFG_ENABLE : Nat × Nat := (31, 31)
def F.IC_SRC_CFG_MASK : Nat × Nat := (30, 30)
def F.IC_SRC_CFG_FAST : Nat × Nat := (29, 29)
def F.IC_SRC_CFG_PRIORITY : Nat × Nat := (23, 20)
def F.IC_SRC_CFG_TARGET : Nat × Nat := (2, 0)
/-- IC_SRC_STATE (08 R303). -/
def R.IC_SRC_STATE : RegD := ⟨.mgmt, 0x400004, 0x8, 2048, 0x0, 1, 32, 0x3f000000, [⟨31, 31, .w1c⟩, ⟨30, 30, .ro⟩, ⟨29, 24, .ro⟩, ⟨23, 16, .ro⟩, ⟨15, 8, .ro⟩, ⟨7, 0, .ro⟩]⟩
def F.IC_SRC_STATE_PENDING : Nat × Nat := (31, 31)
def F.IC_SRC_STATE_ACTIVE : Nat × Nat := (30, 30)
def F.IC_SRC_STATE_CORE : Nat × Nat := (29, 24)
def F.IC_SRC_STATE_LAST_CLAIM : Nat × Nat := (15, 8)
def F.IC_SRC_STATE_COUNT : Nat × Nat := (7, 0)
/-- IC_GROUP (08 R303). -/
def R.IC_GROUP : RegD := ⟨.mgmt, 0x404000, 0x8, 8, 0x0, 1, 64, 0x0, [⟨63, 33, .ro⟩, ⟨32, 0, .rw⟩]⟩
def F.IC_GROUP_CORES : Nat × Nat := (32, 0)
/-- IC_CORE_STATE (08 R303). -/
def R.IC_CORE_STATE : RegD := ⟨.mgmt, 0x404100, 0x4, 33, 0x0, 1, 32, 0x0, [⟨31, 31, .ro⟩, ⟨30, 30, .ro⟩, ⟨29, 29, .ro⟩, ⟨28, 21, .ro⟩, ⟨20, 16, .ro⟩, ⟨15, 4, .ro⟩, ⟨3, 0, .ro⟩]⟩
def F.IC_CORE_STATE_SLEEPING : Nat × Nat := (31, 31)
def F.IC_CORE_STATE_HALTED : Nat × Nat := (30, 30)
def F.IC_CORE_STATE_FAST_ACTIVE : Nat × Nat := (29, 29)
def F.IC_CORE_STATE_DEPTH : Nat × Nat := (20, 16)
def F.IC_CORE_STATE_PRIORITY : Nat × Nat := (3, 0)
/-- IC_AGENT_GEN (08 R303). -/
def R.IC_AGENT_GEN : RegD := ⟨.mgmt, 0x404200, 0x4, 42, 0x0, 1, 32, 0x0, [⟨31, 4, .ro⟩, ⟨3, 0, .ro⟩]⟩
def F.IC_AGENT_GEN_GEN : Nat × Nat := (3, 0)
/-- CMB_BIND (08 R303). -/
def R.CMB_BIND : RegD := ⟨.mgmt, 0x410000, 0x20, 64, 0x0, 1, 64, 0x0, [⟨63, 63, .lk⟩, ⟨62, 62, .lk⟩, ⟨61, 30, .ro⟩, ⟨29, 16, .lk⟩, ⟨15, 14, .ro⟩, ⟨13, 0, .lk⟩]⟩
def F.CMB_BIND_VALID : Nat × Nat := (63, 63)
def F.CMB_BIND_RX_MGMT : Nat × Nat := (62, 62)
def F.CMB_BIND_RECEIVER : Nat × Nat := (29, 16)
def F.CMB_BIND_SENDER : Nat × Nat := (13, 0)
/-- CMB_STATE (08 R303). -/
def R.CMB_STATE : RegD := ⟨.mgmt, 0x410008, 0x20, 64, 0x0, 1, 32, 0x3f, [⟨31, 31, .ro⟩, ⟨30, 16, .ro⟩, ⟨15, 8, .ro⟩, ⟨7, 6, .ro⟩, ⟨5, 0, .ro⟩]⟩
def F.CMB_STATE_FULL : Nat × Nat := (31, 31)
def F.CMB_STATE_SERIAL : Nat × Nat := (15, 8)
def F.CMB_STATE_AGENT : Nat × Nat := (5, 0)
/-- CMB_LOCK (08 R303). -/
def R.CMB_LOCK : RegD := ⟨.mgmt, 0x410800, 0x0, 1, 0x0, 1, 32, 0x0, [⟨31, 1, .ro⟩, ⟨0, 0, .lk⟩]⟩
def F.CMB_LOCK_LOCK : Nat × Nat := (0, 0)
/-- TNM_STATE (08 R303). -/
def R.TNM_STATE : RegD := ⟨.mgmt, 0x420000, 0x10, 4096, 0x0, 1, 32, 0x3f, [⟨31, 0, .ro⟩]⟩
def F.TNM_STATE_STATE : Nat × Nat := (31, 0)
/-- TNM_CLEAR (08 R303). -/
def R.TNM_CLEAR : RegD := ⟨.mgmt, 0x430000, 0x0, 1, 0x0, 1, 32, 0x0, [⟨31, 12, .wo⟩, ⟨11, 0, .wo⟩]⟩
def F.TNM_CLEAR_TENANT : Nat × Nat := (11, 0)
/-- MB_MGMT_CFG (08 R303). -/
def R.MB_MGMT_CFG : RegD := ⟨.mgmt, 0x440100, 0x0, 1, 0x0, 1, 32, 0x0, [⟨31, 31, .rw⟩, ⟨30, 8, .ro⟩, ⟨7, 0, .rw⟩]⟩
def F.MB_MGMT_CFG_IEN : Nat × Nat := (31, 31)
def F.MB_MGMT_CFG_VECTOR : Nat × Nat := (7, 0)
/-- IC_CLAIM (08 R303). -/
def R.IC_CLAIM : RegD := ⟨.agent, 0x0, 0x0, 1, 0x0, 1, 32, 0x0, [⟨31, 31, .ro⟩, ⟨30, 24, .ro⟩, ⟨23, 16, .ro⟩, ⟨15, 11, .ro⟩, ⟨10, 0, .ro⟩]⟩
def F.IC_CLAIM_VALID : Nat × Nat := (31, 31)
def F.IC_CLAIM_COUNT : Nat × Nat := (23, 16)
def F.IC_CLAIM_SOURCE : Nat × Nat := (10, 0)
/-- IC_COMPLETE (08 R303). -/
def R.IC_COMPLETE : RegD := ⟨.agent, 0x4, 0x0, 1, 0x0, 1, 32, 0x0, [⟨31, 11, .wo⟩, ⟨10, 0, .wo⟩]⟩
def F.IC_COMPLETE_SOURCE : Nat × Nat := (10, 0)
/-- IC_STATUS (08 R303). -/
def R.IC_STATUS : RegD := ⟨.agent, 0x10, 0x0, 1, 0x0, 1, 32, 0x0, [⟨31, 13, .ro⟩, ⟨12, 8, .ro⟩, ⟨7, 4, .ro⟩, ⟨3, 2, .ro⟩, ⟨1, 1, .ro⟩, ⟨0, 0, .w1c⟩]⟩
def F.IC_STATUS_DEPTH : Nat × Nat := (12, 8)
def F.IC_STATUS_PRIORITY : Nat × Nat := (7, 4)
def F.IC_STATUS_FAST_ACTIVE : Nat × Nat := (1, 1)
def F.IC_STATUS_STACK_FAULT : Nat × Nat := (0, 0)
/-- MB_NOTICE (08 R303). -/
def R.MB_NOTICE : RegD := ⟨.agent, 0x40, 0x4, 3, 0x0, 1, 32, 0x0, [⟨31, 0, .rw⟩]⟩
def F.MB_NOTICE_WORD : Nat × Nat := (31, 0)
/-- MB_POST (08 R303). -/
def R.MB_POST : RegD := ⟨.agent, 0x4c, 0x0, 1, 0x0, 1, 32, 0x0, [⟨31, 31, .wo⟩, ⟨30, 12, .wo⟩, ⟨11, 0, .wo⟩]⟩
def F.MB_POST_TENANT : Nat × Nat := (31, 31)
def F.MB_POST_NUMBER : Nat × Nat := (11, 0)
/-- MB_RESULT (08 R303). -/
def R.MB_RESULT : RegD := ⟨.agent, 0x50, 0x0, 1, 0x0, 1, 32, 0x0, [⟨31, 3, .ro⟩, ⟨2, 0, .ro⟩]⟩
def F.MB_RESULT_RESULT : Nat × Nat := (2, 0)
/-- MB_RX_SELECT (08 R303). -/
def R.MB_RX_SELECT : RegD := ⟨.agent, 0x54, 0x0, 1, 0x0, 1, 32, 0x0, [⟨31, 6, .ro⟩, ⟨5, 0, .rw⟩]⟩
def F.MB_RX_SELECT_NUMBER : Nat × Nat := (5, 0)
/-- MB_RX_STATUS (08 R303). -/
def R.MB_RX_STATUS : RegD := ⟨.agent, 0x58, 0x0, 1, 0x0, 1, 32, 0x0, [⟨31, 31, .ro⟩, ⟨30, 30, .ro⟩, ⟨29, 8, .ro⟩, ⟨7, 0, .ro⟩]⟩
def F.MB_RX_STATUS_FULL : Nat × Nat := (31, 31)
def F.MB_RX_STATUS_PERMITTED : Nat × Nat := (30, 30)
def F.MB_RX_STATUS_SERIAL : Nat × Nat := (7, 0)
/-- MB_RX_EMPTY (08 R303). -/
def R.MB_RX_EMPTY : RegD := ⟨.agent, 0x5c, 0x0, 1, 0x0, 1, 32, 0x0, [⟨31, 8, .wo⟩, ⟨7, 0, .wo⟩]⟩
def F.MB_RX_EMPTY_SERIAL : Nat × Nat := (7, 0)
/-- MB_RX_NOTICE (08 R303). -/
def R.MB_RX_NOTICE : RegD := ⟨.agent, 0x60, 0x4, 4, 0x0, 1, 32, 0x0, [⟨31, 0, .ro⟩]⟩
def F.MB_RX_NOTICE_WORD : Nat × Nat := (31, 0)
/-- MB_RET_INFO (08 R303). -/
def R.MB_RET_INFO : RegD := ⟨.agent, 0x70, 0x0, 1, 0x0, 1, 32, 0x0, [⟨31, 31, .ro⟩, ⟨30, 30, .ro⟩, ⟨29, 29, .ro⟩, ⟨28, 28, .ro⟩, ⟨27, 21, .ro⟩, ⟨20, 16, .ro⟩, ⟨15, 12, .ro⟩, ⟨11, 0, .ro⟩]⟩
def F.MB_RET_INFO_VALID : Nat × Nat := (31, 31)
def F.MB_RET_INFO_ABORTED : Nat × Nat := (30, 30)
def F.MB_RET_INFO_TENANT : Nat × Nat := (29, 29)
def F.MB_RET_INFO_LOST : Nat × Nat := (28, 28)
def F.MB_RET_INFO_DEPTH : Nat × Nat := (20, 16)
def F.MB_RET_INFO_NUMBER : Nat × Nat := (11, 0)
/-- MB_RET_POP (08 R303). -/
def R.MB_RET_POP : RegD := ⟨.agent, 0x74, 0x0, 1, 0x0, 1, 32, 0x0, [⟨31, 1, .wo⟩, ⟨0, 0, .wo⟩]⟩
def F.MB_RET_POP_POP : Nat × Nat := (0, 0)
/-- MB_RET_NOTICE (08 R303). -/
def R.MB_RET_NOTICE : RegD := ⟨.agent, 0x80, 0x4, 4, 0x0, 1, 32, 0x0, [⟨31, 0, .ro⟩]⟩
def F.MB_RET_NOTICE_WORD : Nat × Nat := (31, 0)
/-- FN_NOTICE_PTR (08 R304). -/
def R.FN_NOTICE_PTR : RegD := ⟨.fn, 0x100, 0x0, 1, 0x0, 1, 64, 0x0, [⟨63, 0, .ro⟩]⟩
def F.FN_NOTICE_PTR_POINTER : Nat × Nat := (63, 0)
/-- FN_NOTICE_INFO (08 R304). -/
def R.FN_NOTICE_INFO : RegD := ⟨.fn, 0x108, 0x0, 1, 0x0, 1, 64, 0x0, [⟨63, 32, .ro⟩, ⟨31, 0, .ro⟩]⟩
def F.FN_NOTICE_INFO_STAMP : Nat × Nat := (63, 32)
def F.FN_NOTICE_INFO_LENGTH : Nat × Nat := (31, 0)
/-- FN_NOTICE_STATUS (08 R304). -/
def R.FN_NOTICE_STATUS : RegD := ⟨.fn, 0x110, 0x0, 1, 0x0, 1, 32, 0x0, [⟨31, 31, .ro⟩, ⟨30, 8, .ro⟩, ⟨7, 0, .ro⟩]⟩
def F.FN_NOTICE_STATUS_FULL : Nat × Nat := (31, 31)
def F.FN_NOTICE_STATUS_SERIAL : Nat × Nat := (7, 0)
/-- FN_NOTICE_EMPTY (08 R304). -/
def R.FN_NOTICE_EMPTY : RegD := ⟨.fn, 0x114, 0x0, 1, 0x0, 1, 32, 0x0, [⟨31, 8, .wo⟩, ⟨7, 0, .wo⟩]⟩
def F.FN_NOTICE_EMPTY_SERIAL : Nat × Nat := (7, 0)
/-- FN_NOTICE_CFG (08 R304). -/
def R.FN_NOTICE_CFG : RegD := ⟨.fn, 0x118, 0x0, 1, 0x0, 1, 32, 0x0, [⟨31, 31, .rw⟩, ⟨30, 8, .ro⟩, ⟨7, 0, .rw⟩]⟩
def F.FN_NOTICE_CFG_IEN : Nat × Nat := (31, 31)
def F.FN_NOTICE_CFG_VECTOR : Nat × Nat := (7, 0)
/-- LANT_CFG (09 R348). -/
def R.LANT_CFG : RegD := ⟨.mgmt, 0x200000, 0x0, 1, 0x0, 1, 32, 0x50000000, [⟨31, 28, .rw⟩, ⟨27, 20, .rw⟩, ⟨19, 16, .ro⟩, ⟨15, 12, .rw⟩, ⟨11, 8, .rw⟩, ⟨7, 4, .rw⟩, ⟨3, 0, .rw⟩]⟩
def F.LANT_CFG_TC_LOG2 : Nat × Nat := (31, 28)
def F.LANT_CFG_HOLD_VALID : Nat × Nat := (27, 20)
def F.LANT_CFG_P0 : Nat × Nat := (15, 12)
def F.LANT_CFG_P1 : Nat × Nat := (11, 8)
def F.LANT_CFG_P2 : Nat × Nat := (7, 4)
def F.LANT_CFG_P3 : Nat × Nat := (3, 0)
/-- LANT_STATUS (09 R348). -/
def R.LANT_STATUS : RegD := ⟨.mgmt, 0x200004, 0x0, 1, 0x0, 1, 32, 0x0, [⟨31, 30, .ro⟩, ⟨29, 29, .ro⟩, ⟨28, 28, .ro⟩, ⟨27, 27, .ro⟩, ⟨26, 24, .ro⟩, ⟨23, 20, .ro⟩, ⟨19, 16, .ro⟩, ⟨15, 0, .ro⟩]⟩
def F.LANT_STATUS_STATE : Nat × Nat := (31, 30)
def F.LANT_STATUS_TIME_VALID : Nat × Nat := (29, 29)
def F.LANT_STATUS_CORE_LOCKED : Nat × Nat := (28, 28)
def F.LANT_STATUS_REF_LOST : Nat × Nat := (27, 27)
def F.LANT_STATUS_SOURCE : Nat × Nat := (23, 20)
def F.LANT_STATUS_QUALIFIED : Nat × Nat := (19, 16)
def F.LANT_STATUS_HOLD_MIN : Nat × Nat := (15, 0)
/-- LANT_FAULT (09 R348). -/
def R.LANT_FAULT : RegD := ⟨.mgmt, 0x200008, 0x0, 1, 0x0, 1, 32, 0x2, [⟨31, 20, .ro⟩, ⟨19, 16, .rw⟩, ⟨15, 4, .ro⟩, ⟨3, 3, .w1c⟩, ⟨2, 2, .ro⟩, ⟨1, 1, .ro⟩, ⟨0, 0, .ro⟩]⟩
def F.LANT_FAULT_MASK : Nat × Nat := (19, 16)
def F.LANT_FAULT_STEPPED : Nat × Nat := (3, 3)
def F.LANT_FAULT_REF_LOST : Nat × Nat := (2, 2)
def F.LANT_FAULT_CORE_UNLOCKED : Nat × Nat := (1, 1)
def F.LANT_FAULT_HOLDOVER : Nat × Nat := (0, 0)
/-- LANT_SNAP (09 R348). -/
def R.LANT_SNAP : RegD := ⟨.mgmt, 0x20000c, 0x0, 1, 0x0, 1, 32, 0x0, [⟨31, 1, .wo⟩, ⟨0, 0, .wo⟩]⟩
def F.LANT_SNAP_SNAP : Nat × Nat := (0, 0)
/-- LANT_SNAP_SEC (09 R349). -/
def R.LANT_SNAP_SEC : RegD := ⟨.mgmt, 0x200010, 0x0, 1, 0x0, 1, 64, 0x0, [⟨63, 48, .ro⟩, ⟨47, 0, .ro⟩]⟩
def F.LANT_SNAP_SEC_SECONDS : Nat × Nat := (47, 0)
/-- LANT_SNAP_NS (09 R349). -/
def R.LANT_SNAP_NS : RegD := ⟨.mgmt, 0x200018, 0x0, 1, 0x0, 1, 64, 0x0, [⟨63, 32, .ro⟩, ⟨31, 16, .ro⟩, ⟨15, 12, .ro⟩, ⟨11, 0, .ro⟩]⟩
def F.LANT_SNAP_NS_NS : Nat × Nat := (63, 32)
def F.LANT_SNAP_NS_FRAC : Nat × Nat := (31, 16)
def F.LANT_SNAP_NS_CYCLE : Nat × Nat := (11, 0)
/-- LANT_SNAP_FRAME (09 R349). -/
def R.LANT_SNAP_FRAME : RegD := ⟨.mgmt, 0x200020, 0x0, 1, 0x0, 1, 64, 0x0, [⟨63, 0, .ro⟩]⟩
def F.LANT_SNAP_FRAME_FRAME : Nat × Nat := (63, 0)
/-- LANT_PHASE (09 R349). -/
def R.LANT_PHASE : RegD := ⟨.mgmt, 0x200030, 0x0, 1, 0x0, 1, 64, 0x0, [⟨63, 32, .ro⟩, ⟨31, 0, .ro⟩]⟩
def F.LANT_PHASE_PHASE : Nat × Nat := (63, 32)
def F.LANT_PHASE_FREQ : Nat × Nat := (31, 0)
/-- LANT_UTC (09 R349). -/
def R.LANT_UTC : RegD := ⟨.mgmt, 0x200038, 0x0, 1, 0x0, 1, 32, 0x0, [⟨31, 18, .ro⟩, ⟨17, 16, .rw⟩, ⟨15, 0, .rw⟩]⟩
def F.LANT_UTC_LEAP : Nat × Nat := (17, 16)
def F.LANT_UTC_OFFSET : Nat × Nat := (15, 0)
/-- LANT_SET_SEC (09 R349). -/
def R.LANT_SET_SEC : RegD := ⟨.mgmt, 0x200040, 0x0, 1, 0x0, 1, 64, 0x0, [⟨63, 48, .ro⟩, ⟨47, 0, .rw⟩]⟩
def F.LANT_SET_SEC_SECONDS : Nat × Nat := (47, 0)
/-- LANT_SET_CTRL (09 R349). -/
def R.LANT_SET_CTRL : RegD := ⟨.mgmt, 0x200048, 0x0, 1, 0x0, 1, 64, 0x0, [⟨63, 62, .rw⟩, ⟨61, 61, .ro⟩, ⟨60, 32, .ro⟩, ⟨31, 0, .rw⟩]⟩
def F.LANT_SET_CTRL_MODE : Nat × Nat := (63, 62)
def F.LANT_SET_CTRL_BUSY : Nat × Nat := (61, 61)
def F.LANT_SET_CTRL_NS : Nat × Nat := (31, 0)
/-- LANT_PPS_CAP (09 R350). -/
def R.LANT_PPS_CAP : RegD := ⟨.mgmt, 0x200050, 0x8, 2, 0x0, 1, 64, 0x0, [⟨63, 0, .ro⟩]⟩
def F.LANT_PPS_CAP_L : Nat × Nat := (63, 0)
/-- LANT_PPS_OUT (09 R350). -/
def R.LANT_PPS_OUT : RegD := ⟨.mgmt, 0x200060, 0x8, 2, 0x0, 1, 64, 0x0, [⟨63, 63, .rw⟩, ⟨62, 62, .rw⟩, ⟨61, 61, .rw⟩, ⟨60, 40, .ro⟩, ⟨39, 32, .rw⟩, ⟨31, 0, .rw⟩]⟩
def F.LANT_PPS_OUT_ENABLE : Nat × Nat := (63, 63)
def F.LANT_PPS_OUT_POLARITY : Nat × Nat := (62, 62)
def F.LANT_PPS_OUT_GATE : Nat × Nat := (61, 61)
def F.LANT_PPS_OUT_WIDTH : Nat × Nat := (39, 32)
def F.LANT_PPS_OUT_OFFSET : Nat × Nat := (31, 0)
/-- LANT_TOD_CFG (09 R350). -/
def R.LANT_TOD_CFG : RegD := ⟨.mgmt, 0x200070, 0x0, 1, 0x0, 1, 32, 0x0, [⟨31, 31, .rw⟩, ⟨30, 17, .ro⟩, ⟨16, 16, .rw⟩, ⟨15, 8, .ro⟩, ⟨7, 0, .rw⟩]⟩
def F.LANT_TOD_CFG_ENABLE : Nat × Nat := (31, 31)
def F.LANT_TOD_CFG_BAUD : Nat × Nat := (16, 16)
def F.LANT_TOD_CFG_DELAY_MS : Nat × Nat := (7, 0)
/-- LANT_CLK_CFG (09 R350). -/
def R.LANT_CLK_CFG : RegD := ⟨.mgmt, 0x200074, 0x0, 1, 0x0, 1, 32, 0x0, [⟨31, 31, .rw⟩, ⟨30, 30, .rw⟩, ⟨29, 0, .ro⟩]⟩
def F.LANT_CLK_CFG_ENABLE : Nat × Nat := (31, 31)
def F.LANT_CLK_CFG_GATE : Nat × Nat := (30, 30)
/-- CAL_FACTORY (09 R350). -/
def R.CAL_FACTORY : RegD := ⟨.mgmt, 0x210000, 0x8, 128, 0x0, 1, 64, 0x0, [⟨63, 32, .ro⟩, ⟨31, 0, .ro⟩]⟩
def F.CAL_FACTORY_GAIN : Nat × Nat := (63, 32)
def F.CAL_FACTORY_OFFSET : Nat × Nat := (31, 0)
/-- CAL_USER (09 R350). -/
def R.CAL_USER : RegD := ⟨.mgmt, 0x210400, 0x8, 128, 0x0, 1, 64, 0x4000000000000000, [⟨63, 32, .rw⟩, ⟨31, 0, .rw⟩]⟩
def F.CAL_USER_GAIN : Nat × Nat := (63, 32)
def F.CAL_USER_OFFSET : Nat × Nat := (31, 0)
/-- CAL_SLOT (09 R350). -/
def R.CAL_SLOT : RegD := ⟨.mgmt, 0x210800, 0x4, 64, 0x0, 1, 32, 0x0, [⟨31, 31, .rw⟩, ⟨30, 24, .ro⟩, ⟨23, 16, .rw⟩, ⟨15, 0, .rw⟩]⟩
def F.CAL_SLOT_VALID : Nat × Nat := (31, 31)
def F.CAL_SLOT_CHANNEL : Nat × Nat := (23, 16)
def F.CAL_SLOT_DEVICE : Nat × Nat := (15, 0)
/-- CAL_COMMIT (09 R350). -/
def R.CAL_COMMIT : RegD := ⟨.mgmt, 0x210900, 0x0, 1, 0x0, 1, 32, 0x0, [⟨31, 1, .wo⟩, ⟨0, 0, .wo⟩]⟩
def F.CAL_COMMIT_COMMIT : Nat × Nat := (0, 0)
/-- CAL_STATUS (09 R350). -/
def R.CAL_STATUS : RegD := ⟨.mgmt, 0x210904, 0x0, 1, 0x0, 1, 32, 0x0, [⟨31, 31, .ro⟩, ⟨30, 10, .ro⟩, ⟨9, 8, .ro⟩, ⟨7, 5, .ro⟩, ⟨4, 0, .ro⟩]⟩
def F.CAL_STATUS_BUSY : Nat × Nat := (31, 31)
def F.CAL_STATUS_RESULT : Nat × Nat := (9, 8)
def F.CAL_STATUS_COMMITS : Nat × Nat := (4, 0)
/-- METER_RING_BASE (09 R350). -/
def R.METER_RING_BASE : RegD := ⟨.mgmt, 0x6000000, 0x0, 1, 0x0, 1, 64, 0x0, [⟨63, 18, .rw⟩, ⟨17, 0, .ro⟩]⟩
def F.METER_RING_BASE_BASE : Nat × Nat := (63, 18)
/-- METER_HEAD_BASE (09 R350). -/
def R.METER_HEAD_BASE : RegD := ⟨.mgmt, 0x6000008, 0x0, 1, 0x0, 1, 64, 0x0, [⟨63, 12, .rw⟩, ⟨11, 0, .ro⟩]⟩
def F.METER_HEAD_BASE_BASE : Nat × Nat := (63, 12)
/-- METER_INDEX_ADDR (09 R350). -/
def R.METER_INDEX_ADDR : RegD := ⟨.mgmt, 0x6000010, 0x0, 1, 0x0, 1, 64, 0x0, [⟨63, 6, .rw⟩, ⟨5, 0, .ro⟩]⟩
def F.METER_INDEX_ADDR_ADDR : Nat × Nat := (63, 6)
/-- METER_RING_CFG (09 R350). -/
def R.METER_RING_CFG : RegD := ⟨.mgmt, 0x6000018, 0x0, 1, 0x0, 1, 32, 0x0, [⟨31, 31, .rw⟩, ⟨30, 4, .ro⟩, ⟨3, 0, .rw⟩]⟩
def F.METER_RING_CFG_ENABLE : Nat × Nat := (31, 31)
def F.METER_RING_CFG_SIZE_LOG2 : Nat × Nat := (3, 0)
/-- METER_CONSUMER (09 R350). -/
def R.METER_CONSUMER : RegD := ⟨.mgmt, 0x600001c, 0x0, 1, 0x0, 1, 32, 0x0, [⟨31, 0, .rw⟩]⟩
def F.METER_CONSUMER_INDEX : Nat × Nat := (31, 0)
/-- METER_PRODUCER (09 R350). -/
def R.METER_PRODUCER : RegD := ⟨.mgmt, 0x6000020, 0x0, 1, 0x0, 1, 32, 0x0, [⟨31, 0, .ro⟩]⟩
def F.METER_PRODUCER_INDEX : Nat × Nat := (31, 0)
/-- METER_STATUS (09 R350). -/
def R.METER_STATUS : RegD := ⟨.mgmt, 0x6000024, 0x0, 1, 0x0, 1, 32, 0x0, [⟨31, 31, .ro⟩, ⟨30, 27, .ro⟩, ⟨26, 16, .ro⟩, ⟨15, 7, .ro⟩, ⟨6, 0, .ro⟩]⟩
def F.METER_STATUS_SIGN_BUSY : Nat × Nat := (31, 31)
def F.METER_STATUS_HEADS_WAITING : Nat × Nat := (26, 16)
def F.METER_STATUS_BACKLOG : Nat × Nat := (6, 0)
/-- METER_FAULT (09 R350). -/
def R.METER_FAULT : RegD := ⟨.mgmt, 0x6000028, 0x0, 1, 0x0, 1, 32, 0x0, [⟨31, 21, .ro⟩, ⟨20, 16, .rw⟩, ⟨15, 5, .ro⟩, ⟨4, 4, .w1c⟩, ⟨3, 3, .w1c⟩, ⟨2, 2, .w1c⟩, ⟨1, 1, .w1c⟩, ⟨0, 0, .w1c⟩]⟩
def F.METER_FAULT_MASK : Nat × Nat := (20, 16)
def F.METER_FAULT_INCOMPLETE : Nat × Nat := (4, 4)
def F.METER_FAULT_SIGN_FAIL : Nat × Nat := (3, 3)
def F.METER_FAULT_DENIED : Nat × Nat := (2, 2)
def F.METER_FAULT_DROPPED : Nat × Nat := (1, 1)
def F.METER_FAULT_LATE : Nat × Nat := (0, 0)
/-- METER_CHAIN_SEQ (09 R350). -/
def R.METER_CHAIN_SEQ : RegD := ⟨.mgmt, 0x6000030, 0x0, 1, 0x0, 1, 64, 0x0, [⟨63, 0, .ro⟩]⟩
def F.METER_CHAIN_SEQ_SEQ : Nat × Nat := (63, 0)
/-- METER_ATTR_CFG (09 R350). -/
def R.METER_ATTR_CFG : RegD := ⟨.mgmt, 0x6000038, 0x0, 1, 0x0, 1, 64, 0x800003e8, [⟨63, 32, .rw⟩, ⟨31, 31, .rw⟩, ⟨30, 16, .ro⟩, ⟨15, 0, .rw⟩]⟩
def F.METER_ATTR_CFG_BASE_MW : Nat × Nat := (63, 32)
def F.METER_ATTR_CFG_INTERNAL : Nat × Nat := (31, 31)
def F.METER_ATTR_CFG_ATTR_FRAMES : Nat × Nat := (15, 0)
/-- METER_FEED (09 R350). -/
def R.METER_FEED : RegD := ⟨.mgmt, 0x6000040, 0x8, 8, 0x0, 1, 64, 0x0, [⟨63, 63, .rw⟩, ⟨62, 62, .ro⟩, ⟨61, 54, .ro⟩, ⟨53, 48, .rw⟩, ⟨47, 44, .ro⟩, ⟨43, 32, .rw⟩, ⟨31, 0, .rw⟩]⟩
def F.METER_FEED_ENABLE : Nat × Nat := (63, 63)
def F.METER_FEED_STALE : Nat × Nat := (62, 62)
def F.METER_FEED_SLOT : Nat × Nat := (53, 48)
def F.METER_FEED_OWNER : Nat × Nat := (43, 32)
def F.METER_FEED_STALE_FRAMES : Nat × Nat := (31, 0)
/-- METER_LIVE_SELECT (09 R350). -/
def R.METER_LIVE_SELECT : RegD := ⟨.mgmt, 0x6001000, 0x0, 1, 0x0, 1, 32, 0x0, [⟨31, 12, .ro⟩, ⟨11, 0, .rw⟩]⟩
def F.METER_LIVE_SELECT_TENANT : Nat × Nat := (11, 0)
/-- METER_LIVE (09 R350). -/
def R.METER_LIVE : RegD := ⟨.mgmt, 0x6001040, 0x8, 8, 0x0, 1, 64, 0x0, [⟨63, 0, .ro⟩]⟩
def F.METER_LIVE_DATA : Nat × Nat := (63, 0)
/-- QUAD_CFG (10 R379). -/
def R.QUAD_CFG : RegD := ⟨.mgmt, 0x4000000, 0x1000, 26, 0x0, 1, 32, 0x0, [⟨31, 31, .lk⟩, ⟨30, 28, .ro⟩, ⟨27, 24, .lk⟩, ⟨23, 16, .lk⟩, ⟨15, 11, .ro⟩, ⟨10, 8, .lk⟩, ⟨7, 4, .ro⟩, ⟨3, 0, .lk⟩]⟩
def F.QUAD_CFG_LOCK : Nat × Nat := (31, 31)
def F.QUAD_CFG_ETH_MODE : Nat × Nat := (27, 24)
def F.QUAD_CFG_PORT : Nat × Nat := (23, 16)
def F.QUAD_CFG_WIDTH : Nat × Nat := (10, 8)
def F.QUAD_CFG_PERSONALITY : Nat × Nat := (3, 0)
/-- QUAD_STATUS (10 R379). -/
def R.QUAD_STATUS : RegD := ⟨.mgmt, 0x4000004, 0x1000, 26, 0x0, 1, 32, 0x0, [⟨31, 28, .ro⟩, ⟨27, 24, .ro⟩, ⟨23, 19, .ro⟩, ⟨18, 16, .ro⟩, ⟨15, 12, .ro⟩, ⟨11, 0, .ro⟩]⟩
def F.QUAD_STATUS_LINK_UP : Nat × Nat := (31, 28)
def F.QUAD_STATUS_CDR_LOCK : Nat × Nat := (27, 24)
def F.QUAD_STATUS_NEG_WIDTH : Nat × Nat := (18, 16)
def F.QUAD_STATUS_RATE : Nat × Nat := (15, 12)
/-- QUAD_TEST (10 R379). -/
def R.QUAD_TEST : RegD := ⟨.mgmt, 0x4000008, 0x1000, 26, 0x0, 1, 32, 0x0, [⟨31, 31, .rw⟩, ⟨30, 28, .ro⟩, ⟨27, 24, .rw⟩, ⟨23, 18, .ro⟩, ⟨17, 16, .rw⟩, ⟨15, 0, .ro⟩]⟩
def F.QUAD_TEST_TEST : Nat × Nat := (31, 31)
def F.QUAD_TEST_RATE : Nat × Nat := (27, 24)
def F.QUAD_TEST_LOOPBACK : Nat × Nat := (17, 16)
/-- LANE_PRBS_CTRL (10 R379). -/
def R.LANE_PRBS_CTRL : RegD := ⟨.mgmt, 0x4100000, 0x40, 104, 0x0, 1, 32, 0x0, [⟨31, 31, .rw⟩, ⟨30, 30, .rw⟩, ⟨29, 29, .rw⟩, ⟨28, 27, .ro⟩, ⟨26, 24, .rw⟩, ⟨23, 3, .ro⟩, ⟨2, 2, .w1s⟩, ⟨1, 1, .w1s⟩, ⟨0, 0, .w1s⟩]⟩
def F.LANE_PRBS_CTRL_GEN_EN : Nat × Nat := (31, 31)
def F.LANE_PRBS_CTRL_CHK_EN : Nat × Nat := (30, 30)
def F.LANE_PRBS_CTRL_INVERT : Nat × Nat := (29, 29)
def F.LANE_PRBS_CTRL_PATTERN : Nat × Nat := (26, 24)
def F.LANE_PRBS_CTRL_INJECT : Nat × Nat := (2, 2)
def F.LANE_PRBS_CTRL_SNAP : Nat × Nat := (1, 1)
def F.LANE_PRBS_CTRL_CLEAR : Nat × Nat := (0, 0)
/-- LANE_PRBS_STATUS (10 R379). -/
def R.LANE_PRBS_STATUS : RegD := ⟨.mgmt, 0x4100004, 0x40, 104, 0x0, 1, 32, 0x0, [⟨31, 31, .ro⟩, ⟨30, 30, .w1c⟩, ⟨29, 16, .ro⟩, ⟨15, 0, .ro⟩]⟩
def F.LANE_PRBS_STATUS_LOCKED : Nat × Nat := (31, 31)
def F.LANE_PRBS_STATUS_LOCK_LOST : Nat × Nat := (30, 30)
def F.LANE_PRBS_STATUS_LOCKS : Nat × Nat := (15, 0)
/-- LANE_BITS (10 R379). -/
def R.LANE_BITS : RegD := ⟨.mgmt, 0x4100008, 0x40, 104, 0x0, 1, 64, 0x0, [⟨63, 0, .ro⟩]⟩
def F.LANE_BITS_BITS : Nat × Nat := (63, 0)
/-- LANE_ERRS (10 R379). -/
def R.LANE_ERRS : RegD := ⟨.mgmt, 0x4100010, 0x40, 104, 0x0, 1, 64, 0x0, [⟨63, 48, .ro⟩, ⟨47, 0, .ro⟩]⟩
def F.LANE_ERRS_ERRORS : Nat × Nat := (47, 0)
/-- LANE_USER (10 R379). -/
def R.LANE_USER : RegD := ⟨.mgmt, 0x4100018, 0x40, 104, 0x0, 1, 64, 0x0, [⟨63, 0, .rw⟩]⟩
def F.LANE_USER_PATTERN : Nat × Nat := (63, 0)
/-- LANE_USER_HI (10 R379). -/
def R.LANE_USER_HI : RegD := ⟨.mgmt, 0x4100020, 0x40, 104, 0x0, 1, 32, 0x0, [⟨31, 16, .ro⟩, ⟨15, 0, .rw⟩]⟩
def F.LANE_USER_HI_PATTERN : Nat × Nat := (15, 0)
/-- LANE_LINK_ERR (10 R379). -/
def R.LANE_LINK_ERR : RegD := ⟨.mgmt, 0x4100028, 0x40, 104, 0x0, 1, 64, 0x0, [⟨63, 32, .rc⟩, ⟨31, 16, .rc⟩, ⟨15, 0, .ro⟩]⟩
def F.LANE_LINK_ERR_FEC_SYMBOLS : Nat × Nat := (63, 32)
def F.LANE_LINK_ERR_CDR_LOSS : Nat × Nat := (31, 16)
/-- GL_STATUS (10 R379). -/
def R.GL_STATUS : RegD := ⟨.mgmt, 0x4400000, 0x20, 65, 0x10, 2, 64, 0x0, [⟨63, 48, .rc⟩, ⟨47, 16, .rc⟩, ⟨15, 7, .ro⟩, ⟨6, 0, .rc⟩]⟩
def F.GL_STATUS_UNCORR : Nat × Nat := (63, 48)
def F.GL_STATUS_CORR : Nat × Nat := (47, 16)
def F.GL_STATUS_HIGH_WATER : Nat × Nat := (6, 0)
/-- FP_CFG (10 R379). -/
def R.FP_CFG : RegD := ⟨.mgmt, 0x4800000, 0x100, 16, 0x0, 1, 32, 0x0, [⟨31, 31, .lk⟩, ⟨30, 28, .ro⟩, ⟨27, 24, .lk⟩, ⟨23, 16, .lk⟩, ⟨15, 8, .lk⟩, ⟨7, 0, .ro⟩]⟩
def F.FP_CFG_LOCK : Nat × Nat := (31, 31)
def F.FP_CFG_FUNCTION : Nat × Nat := (27, 24)
def F.FP_CFG_USED : Nat × Nat := (23, 16)
def F.FP_CFG_RANGER : Nat × Nat := (15, 8)
/-- FP_SET (10 R379). -/
def R.FP_SET : RegD := ⟨.mgmt, 0x4800008, 0x100, 16, 0x8, 2, 64, 0x0, [⟨63, 0, .ro⟩]⟩
def F.FP_SET_DATA : Nat × Nat := (63, 0)
/-- FP_MEAS (10 R379). -/
def R.FP_MEAS : RegD := ⟨.mgmt, 0x4800020, 0x100, 16, 0x0, 1, 64, 0x0, [⟨63, 32, .rw⟩, ⟨31, 30, .rw⟩, ⟨29, 25, .rw⟩, ⟨24, 23, .rw⟩, ⟨22, 18, .rw⟩, ⟨17, 13, .rw⟩, ⟨12, 12, .rw⟩, ⟨11, 0, .ro⟩]⟩
def F.FP_MEAS_CMD : Nat × Nat := (63, 32)
def F.FP_MEAS_CMD_LEN : Nat × Nat := (31, 30)
def F.FP_MEAS_CH_SHIFT : Nat × Nat := (29, 25)
def F.FP_MEAS_RX_LEN : Nat × Nat := (24, 23)
def F.FP_MEAS_RES_MSB : Nat × Nat := (22, 18)
def F.FP_MEAS_RES_WIDTH : Nat × Nat := (17, 13)
def F.FP_MEAS_SIGNED : Nat × Nat := (12, 12)
/-- FP_PINS (10 R379). -/
def R.FP_PINS : RegD := ⟨.mgmt, 0x4800030, 0x100, 16, 0x0, 1, 32, 0x0, [⟨31, 24, .ro⟩, ⟨23, 16, .rw⟩, ⟨15, 8, .rw⟩, ⟨7, 0, .ro⟩]⟩
def F.FP_PINS_RANGER_OUT : Nat × Nat := (23, 16)
def F.FP_PINS_RANGER_OE : Nat × Nat := (15, 8)
def F.FP_PINS_LEVEL : Nat × Nat := (7, 0)
/-- PORT_FAULT (10 R379). -/
def R.PORT_FAULT : RegD := ⟨.mgmt, 0x4f00000, 0x0, 1, 0x0, 1, 32, 0x0, [⟨31, 21, .ro⟩, ⟨20, 16, .rw⟩, ⟨15, 7, .ro⟩, ⟨6, 6, .w1c⟩, ⟨5, 5, .w1c⟩, ⟨4, 4, .w1c⟩, ⟨3, 3, .w1c⟩, ⟨2, 2, .w1c⟩, ⟨1, 1, .w1c⟩, ⟨0, 0, .w1c⟩]⟩
def F.PORT_FAULT_MASK : Nat × Nat := (20, 16)
def F.PORT_FAULT_MGMT_TX : Nat × Nat := (6, 6)
def F.PORT_FAULT_MGMT_RX : Nat × Nat := (5, 5)
def F.PORT_FAULT_FP_STUCK : Nat × Nat := (4, 4)
def F.PORT_FAULT_FEC_UNCORR : Nat × Nat := (3, 3)
def F.PORT_FAULT_WIDTH_DEGRADED : Nat × Nat := (2, 2)
def F.PORT_FAULT_LINK_DOWN : Nat × Nat := (1, 1)
def F.PORT_FAULT_GL_UNCORR : Nat × Nat := (0, 0)
/-- MGMT_ETH_RING (10 R379). -/
def R.MGMT_ETH_RING : RegD := ⟨.mgmt, 0x4f00100, 0x8, 2, 0x0, 1, 64, 0x0, [⟨63, 4, .rw⟩, ⟨3, 0, .rw⟩]⟩
def F.MGMT_ETH_RING_BASE : Nat × Nat := (63, 4)
def F.MGMT_ETH_RING_SIZE_LOG2 : Nat × Nat := (3, 0)
/-- MGMT_ETH_CTRL (10 R379). -/
def R.MGMT_ETH_CTRL : RegD := ⟨.mgmt, 0x4f00110, 0x0, 1, 0x0, 1, 32, 0x0, [⟨31, 31, .rw⟩, ⟨30, 30, .rw⟩, ⟨29, 29, .ro⟩, ⟨28, 1, .ro⟩, ⟨0, 0, .w1s⟩]⟩
def F.MGMT_ETH_CTRL_ENABLE : Nat × Nat := (31, 31)
def F.MGMT_ETH_CTRL_MODE : Nat × Nat := (30, 30)
def F.MGMT_ETH_CTRL_LINK : Nat × Nat := (29, 29)
def F.MGMT_ETH_CTRL_KICK : Nat × Nat := (0, 0)
/-- DDR5_PAT_CTRL (10 R379). -/
def R.DDR5_PAT_CTRL : RegD := ⟨.mgmt, 0x5000200, 0x100000, 12, 0x0, 1, 32, 0x0, [⟨31, 31, .w1s⟩, ⟨30, 30, .w1s⟩, ⟨29, 29, .rw⟩, ⟨28, 28, .rw⟩, ⟨27, 26, .rw⟩, ⟨25, 16, .ro⟩, ⟨15, 0, .rw⟩]⟩
def F.DDR5_PAT_CTRL_START : Nat × Nat := (31, 31)
def F.DDR5_PAT_CTRL_STOP : Nat × Nat := (30, 30)
def F.DDR5_PAT_CTRL_EXCLUSIVE : Nat × Nat := (29, 29)
def F.DDR5_PAT_CTRL_RAW : Nat × Nat := (28, 28)
def F.DDR5_PAT_CTRL_PATTERN : Nat × Nat := (27, 26)
def F.DDR5_PAT_CTRL_LOOPS : Nat × Nat := (15, 0)
/-- DDR5_PAT_RANGE (10 R379). -/
def R.DDR5_PAT_RANGE : RegD := ⟨.mgmt, 0x5000208, 0x100000, 12, 0x0, 1, 64, 0x0, [⟨63, 62, .ro⟩, ⟨61, 31, .rw⟩, ⟨30, 0, .rw⟩]⟩
def F.DDR5_PAT_RANGE_LAST : Nat × Nat := (61, 31)
def F.DDR5_PAT_RANGE_FIRST : Nat × Nat := (30, 0)
/-- DDR5_PAT_REGION (10 R379). -/
def R.DDR5_PAT_REGION : RegD := ⟨.mgmt, 0x5000210, 0x100000, 12, 0x0, 1, 64, 0x0, [⟨63, 63, .lk⟩, ⟨62, 62, .ro⟩, ⟨61, 31, .lk⟩, ⟨30, 0, .lk⟩]⟩
def F.DDR5_PAT_REGION_LOCK : Nat × Nat := (63, 63)
def F.DDR5_PAT_REGION_LIMIT : Nat × Nat := (61, 31)
def F.DDR5_PAT_REGION_BASE : Nat × Nat := (30, 0)
/-- DDR5_PAT_USER (10 R379). -/
def R.DDR5_PAT_USER : RegD := ⟨.mgmt, 0x5000218, 0x100000, 12, 0x0, 1, 64, 0x0, [⟨63, 0, .rw⟩]⟩
def F.DDR5_PAT_USER_WORD : Nat × Nat := (63, 0)
/-- DDR5_PAT_STATUS (10 R379). -/
def R.DDR5_PAT_STATUS : RegD := ⟨.mgmt, 0x5000220, 0x100000, 12, 0x0, 1, 64, 0x0, [⟨63, 48, .ro⟩, ⟨47, 32, .ro⟩, ⟨31, 2, .ro⟩, ⟨1, 0, .ro⟩]⟩
def F.DDR5_PAT_STATUS_UNCORR : Nat × Nat := (63, 48)
def F.DDR5_PAT_STATUS_PASS : Nat × Nat := (47, 32)
def F.DDR5_PAT_STATUS_RESULT : Nat × Nat := (1, 0)
/-- DDR5_PAT_DEV (10 R379). -/
def R.DDR5_PAT_DEV : RegD := ⟨.mgmt, 0x5000300, 0x100000, 12, 0x4, 20, 32, 0x0, [⟨31, 0, .rc⟩]⟩
def F.DDR5_PAT_DEV_COUNT : Nat × Nat := (31, 0)
/-- CAMP_CFG (11 R405). -/
def R.CAMP_CFG : RegD := ⟨.mgmt, 0x4e00000, 0x0, 1, 0x0, 1, 32, 0x0, [⟨31, 31, .lk⟩, ⟨30, 18, .ro⟩, ⟨17, 17, .lk⟩, ⟨16, 16, .lk⟩, ⟨15, 0, .lk⟩]⟩
def F.CAMP_CFG_LOCK : Nat × Nat := (31, 31)
def F.CAMP_CFG_ROLE : Nat × Nat := (17, 17)
def F.CAMP_CFG_ENABLE : Nat × Nat := (16, 16)
def F.CAMP_CFG_CAMP_ID : Nat × Nat := (15, 0)
/-- CAMP_STATUS (11 R405). -/
def R.CAMP_STATUS : RegD := ⟨.mgmt, 0x4e00004, 0x0, 1, 0x0, 1, 32, 0x0, [⟨31, 29, .ro⟩, ⟨28, 24, .ro⟩, ⟨23, 22, .ro⟩, ⟨21, 20, .ro⟩, ⟨19, 19, .ro⟩, ⟨18, 18, .ro⟩, ⟨17, 4, .ro⟩, ⟨3, 0, .ro⟩]⟩
def F.CAMP_STATUS_SILENT : Nat × Nat := (28, 24)
def F.CAMP_STATUS_ARB_IN : Nat × Nat := (23, 22)
def F.CAMP_STATUS_ARB_OUT : Nat × Nat := (21, 20)
def F.CAMP_STATUS_LINK_UP : Nat × Nat := (19, 19)
def F.CAMP_STATUS_X4 : Nat × Nat := (18, 18)
def F.CAMP_STATUS_STATE : Nat × Nat := (3, 0)
/-- CAMP_FAULT (11 R405). -/
def R.CAMP_FAULT : RegD := ⟨.mgmt, 0x4e00008, 0x0, 1, 0x0, 1, 32, 0x0, [⟨31, 22, .ro⟩, ⟨21, 16, .rw⟩, ⟨15, 6, .ro⟩, ⟨5, 5, .w1c⟩, ⟨4, 4, .w1c⟩, ⟨3, 3, .w1c⟩, ⟨2, 2, .w1c⟩, ⟨1, 1, .w1c⟩, ⟨0, 0, .w1c⟩]⟩
def F.CAMP_FAULT_MASK : Nat × Nat := (21, 16)
def F.CAMP_FAULT_MIGRATE_FAIL : Nat × Nat := (5, 5)
def F.CAMP_FAULT_MISMATCH : Nat × Nat := (4, 4)
def F.CAMP_FAULT_ARB_FAULT : Nat × Nat := (3, 3)
def F.CAMP_FAULT_RETRY_EXHAUST : Nat × Nat := (2, 2)
def F.CAMP_FAULT_TAKEOVER : Nat × Nat := (1, 1)
def F.CAMP_FAULT_PARTNER_LOST : Nat × Nat := (0, 0)
/-- CAMP_CMD (11 R405). -/
def R.CAMP_CMD : RegD := ⟨.mgmt, 0x4e0000c, 0x0, 1, 0x0, 1, 32, 0x0, [⟨31, 2, .wo⟩, ⟨1, 1, .wo⟩, ⟨0, 0, .wo⟩]⟩
def F.CAMP_CMD_RESYNC : Nat × Nat := (1, 1)
def F.CAMP_CMD_FENCE : Nat × Nat := (0, 0)
/-- CAMP_LINK_COUNTS (11 R405). -/
def R.CAMP_LINK_COUNTS : RegD := ⟨.mgmt, 0x4e00010, 0x0, 1, 0x0, 1, 64, 0x0, [⟨63, 48, .rc⟩, ⟨47, 16, .rc⟩, ⟨15, 0, .rc⟩]⟩
def F.CAMP_LINK_COUNTS_RETRAINS : Nat × Nat := (63, 48)
def F.CAMP_LINK_COUNTS_REJECTED : Nat × Nat := (47, 16)
def F.CAMP_LINK_COUNTS_REPLAYS : Nat × Nat := (15, 0)
/-- CAMP_TAKEOVER (11 R405). -/
def R.CAMP_TAKEOVER : RegD := ⟨.mgmt, 0x4e00018, 0x0, 1, 0x0, 1, 64, 0x0, [⟨63, 32, .ro⟩, ⟨31, 30, .ro⟩, ⟨29, 16, .ro⟩, ⟨15, 8, .ro⟩, ⟨7, 0, .ro⟩]⟩
def F.CAMP_TAKEOVER_FRAME_LOW : Nat × Nat := (63, 32)
def F.CAMP_TAKEOVER_FIRST_FAIL : Nat × Nat := (29, 16)
def F.CAMP_TAKEOVER_FAILED : Nat × Nat := (15, 8)
/-- CAMP_TWIN_PORT (11 R405). -/
def R.CAMP_TWIN_PORT : RegD := ⟨.mgmt, 0x4e00040, 0x4, 24, 0x0, 1, 32, 0x0, [⟨31, 31, .lk⟩, ⟨30, 5, .ro⟩, ⟨4, 0, .lk⟩]⟩
def F.CAMP_TWIN_PORT_VALID : Nat × Nat := (31, 31)
def F.CAMP_TWIN_PORT_PORT : Nat × Nat := (4, 0)
/-- TH_BOOT_INFO (12 R431). -/
def R.TH_BOOT_INFO : RegD := ⟨.mgmt, 0x100000, 0x0, 1, 0x0, 1, 32, 0x0, [⟨31, 30, .ro⟩, ⟨29, 27, .ro⟩, ⟨26, 26, .ro⟩, ⟨25, 24, .ro⟩, ⟨23, 16, .ro⟩, ⟨15, 13, .ro⟩, ⟨12, 0, .ro⟩]⟩
def F.TH_BOOT_INFO_SOURCE : Nat × Nat := (31, 30)
def F.TH_BOOT_INFO_RESET_KIND : Nat × Nat := (29, 27)
def F.TH_BOOT_INFO_DEFERRED : Nat × Nat := (26, 26)
def F.TH_BOOT_INFO_SVN : Nat × Nat := (23, 16)
def F.TH_BOOT_INFO_KEY_SLOT : Nat × Nat := (15, 13)
def F.TH_BOOT_INFO_DURATION : Nat × Nat := (12, 0)
/-- TH_FAULT (12 R431). -/
def R.TH_FAULT : RegD := ⟨.mgmt, 0x100004, 0x0, 1, 0x0, 1, 32, 0x0, [⟨31, 20, .ro⟩, ⟨19, 16, .rw⟩, ⟨15, 4, .ro⟩, ⟨3, 3, .w1c⟩, ⟨2, 2, .ro⟩, ⟨1, 1, .w1c⟩, ⟨0, 0, .ro⟩]⟩
def F.TH_FAULT_MASK : Nat × Nat := (19, 16)
def F.TH_FAULT_DEFERRED : Nat × Nat := (3, 3)
def F.TH_FAULT_NO_IMAGE : Nat × Nat := (2, 2)
def F.TH_FAULT_REJECTED : Nat × Nat := (1, 1)
def F.TH_FAULT_FALLBACK : Nat × Nat := (0, 0)
/-- TH_REJECT (12 R431). -/
def R.TH_REJECT : RegD := ⟨.mgmt, 0x100010, 0x8, 2, 0x0, 1, 64, 0x0, [⟨63, 63, .ro⟩, ⟨62, 56, .ro⟩, ⟨55, 48, .ro⟩, ⟨47, 40, .ro⟩, ⟨39, 32, .ro⟩, ⟨31, 0, .ro⟩]⟩
def F.TH_REJECT_VALID : Nat × Nat := (63, 63)
def F.TH_REJECT_CODE : Nat × Nat := (55, 48)
def F.TH_REJECT_SECTION : Nat × Nat := (47, 40)
def F.TH_REJECT_ENTRY : Nat × Nat := (31, 0)
/-- TH_ROLLBACK (12 R431). -/
def R.TH_ROLLBACK : RegD := ⟨.mgmt, 0x100020, 0x0, 1, 0x0, 1, 32, 0x0, [⟨31, 8, .ro⟩, ⟨7, 0, .ro⟩]⟩
def F.TH_ROLLBACK_VALUE : Nat × Nat := (7, 0)
/-- TH_KEY_SLOT (12 R431). -/
def R.TH_KEY_SLOT : RegD := ⟨.mgmt, 0x100028, 0x4, 8, 0x0, 1, 32, 0x0, [⟨31, 30, .ro⟩, ⟨29, 1, .ro⟩, ⟨0, 0, .ro⟩]⟩
def F.TH_KEY_SLOT_STATE : Nat × Nat := (31, 30)
def F.TH_KEY_SLOT_BOOTED : Nat × Nat := (0, 0)
/-- TH_OTP_ARM (12 R431). -/
def R.TH_OTP_ARM : RegD := ⟨.mgmt, 0x100048, 0x0, 1, 0x0, 1, 32, 0x0, [⟨31, 16, .wo⟩, ⟨15, 0, .wo⟩]⟩
def F.TH_OTP_ARM_ARM : Nat × Nat := (15, 0)
/-- TH_OTP_CMD (12 R431). -/
def R.TH_OTP_CMD : RegD := ⟨.mgmt, 0x10004c, 0x0, 1, 0x0, 1, 32, 0x0, [⟨31, 16, .wo⟩, ⟨15, 8, .wo⟩, ⟨7, 4, .wo⟩, ⟨3, 0, .wo⟩]⟩
def F.TH_OTP_CMD_ARG : Nat × Nat := (15, 8)
def F.TH_OTP_CMD_OP : Nat × Nat := (3, 0)
/-- TH_OTP_STATUS (12 R431). -/
def R.TH_OTP_STATUS : RegD := ⟨.mgmt, 0x100050, 0x0, 1, 0x0, 1, 32, 0x0, [⟨31, 31, .ro⟩, ⟨30, 28, .ro⟩, ⟨27, 24, .ro⟩, ⟨23, 9, .ro⟩, ⟨8, 0, .ro⟩]⟩
def F.TH_OTP_STATUS_BUSY : Nat × Nat := (31, 31)
def F.TH_OTP_STATUS_RESULT : Nat × Nat := (27, 24)
def F.TH_OTP_STATUS_LOG_COUNT : Nat × Nat := (8, 0)
/-- TH_OTP_DATA (12 R431). -/
def R.TH_OTP_DATA : RegD := ⟨.mgmt, 0x100080, 0x8, 8, 0x0, 1, 64, 0x0, [⟨63, 0, .rw⟩]⟩
def F.TH_OTP_DATA_HASH : Nat × Nat := (63, 0)
/-- TH_FLASH_CTRL (12 R431). -/
def R.TH_FLASH_CTRL : RegD := ⟨.mgmt, 0x100100, 0x0, 1, 0x0, 1, 32, 0x0, [⟨31, 31, .w1s⟩, ⟨30, 28, .ro⟩, ⟨27, 24, .rw⟩, ⟨23, 17, .ro⟩, ⟨16, 16, .rw⟩, ⟨15, 13, .ro⟩, ⟨12, 0, .rw⟩]⟩
def F.TH_FLASH_CTRL_START : Nat × Nat := (31, 31)
def F.TH_FLASH_CTRL_OP : Nat × Nat := (27, 24)
def F.TH_FLASH_CTRL_DEVICE : Nat × Nat := (16, 16)
def F.TH_FLASH_CTRL_LENGTH : Nat × Nat := (12, 0)
/-- TH_FLASH_ADDR (12 R431). -/
def R.TH_FLASH_ADDR : RegD := ⟨.mgmt, 0x100108, 0x0, 1, 0x0, 1, 32, 0x0, [⟨31, 0, .rw⟩]⟩
def F.TH_FLASH_ADDR_ADDR : Nat × Nat := (31, 0)
/-- TH_FLASH_STATUS (12 R431). -/
def R.TH_FLASH_STATUS : RegD := ⟨.mgmt, 0x10010c, 0x0, 1, 0x0, 1, 32, 0x0, [⟨31, 31, .ro⟩, ⟨30, 28, .ro⟩, ⟨27, 24, .ro⟩, ⟨23, 4, .ro⟩, ⟨3, 3, .ro⟩, ⟨2, 2, .ro⟩, ⟨1, 1, .ro⟩, ⟨0, 0, .ro⟩]⟩
def F.TH_FLASH_STATUS_BUSY : Nat × Nat := (31, 31)
def F.TH_FLASH_STATUS_RESULT : Nat × Nat := (27, 24)
def F.TH_FLASH_STATUS_GOOD_B : Nat × Nat := (3, 3)
def F.TH_FLASH_STATUS_GOOD_A : Nat × Nat := (2, 2)
def F.TH_FLASH_STATUS_CHECKING : Nat × Nat := (1, 1)
/-- TH_ATTEST_CTRL (12 R431). -/
def R.TH_ATTEST_CTRL : RegD := ⟨.mgmt, 0x100110, 0x0, 1, 0x0, 1, 32, 0x0, [⟨31, 31, .w1s⟩, ⟨30, 30, .ro⟩, ⟨29, 0, .ro⟩]⟩
def F.TH_ATTEST_CTRL_REQUEST : Nat × Nat := (31, 31)
def F.TH_ATTEST_CTRL_READY : Nat × Nat := (30, 30)
/-- TH_WINDOW_SELECT (12 R431). -/
def R.TH_WINDOW_SELECT : RegD := ⟨.mgmt, 0x100114, 0x0, 1, 0x0, 1, 32, 0x0, [⟨31, 3, .ro⟩, ⟨2, 0, .rw⟩]⟩
def F.TH_WINDOW_SELECT_OBJECT : Nat × Nat := (2, 0)
/-- TH_NONCE (12 R431). -/
def R.TH_NONCE : RegD := ⟨.mgmt, 0x100140, 0x8, 8, 0x0, 1, 64, 0x0, [⟨63, 0, .rw⟩]⟩
def F.TH_NONCE_NONCE : Nat × Nat := (63, 0)
/-- TH_WINDOW (12 R431). -/
def R.TH_WINDOW : RegD := ⟨.mgmt, 0x101000, 0x8, 512, 0x0, 1, 64, 0x0, [⟨63, 0, .ro⟩]⟩
def F.TH_WINDOW_DATA : Nat × Nat := (63, 0)
/-- TH_FLASH_BUF (12 R431). -/
def R.TH_FLASH_BUF : RegD := ⟨.mgmt, 0x102000, 0x8, 512, 0x0, 1, 64, 0x0, [⟨63, 0, .rw⟩]⟩
def F.TH_FLASH_BUF_DATA : Nat × Nat := (63, 0)
/-- PWR_DOMAIN (13 R451). -/
def R.PWR_DOMAIN : RegD := ⟨.mgmt, 0x80000, 0x4, 49, 0x0, 1, 32, 0x0, [⟨31, 31, .rw⟩, ⟨30, 28, .ro⟩, ⟨27, 24, .ro⟩, ⟨23, 3, .ro⟩, ⟨2, 0, .ro⟩]⟩
def F.PWR_DOMAIN_REQ : Nat × Nat := (31, 31)
def F.PWR_DOMAIN_RESULT : Nat × Nat := (27, 24)
def F.PWR_DOMAIN_STATE : Nat × Nat := (2, 0)
/-- PWR_FAULT (13 R451). -/
def R.PWR_FAULT : RegD := ⟨.mgmt, 0x80100, 0x0, 1, 0x0, 1, 32, 0x0, [⟨31, 20, .ro⟩, ⟨19, 16, .rw⟩, ⟨15, 4, .ro⟩, ⟨3, 3, .w1c⟩, ⟨2, 2, .ro⟩, ⟨1, 1, .w1c⟩, ⟨0, 0, .w1c⟩]⟩
def F.PWR_FAULT_MASK : Nat × Nat := (19, 16)
def F.PWR_FAULT_TRIPPED : Nat × Nat := (3, 3)
def F.PWR_FAULT_TEMP_ALARM : Nat × Nat := (2, 2)
def F.PWR_FAULT_EXIT_FAIL : Nat × Nat := (1, 1)
def F.PWR_FAULT_DOMAIN_LOST : Nat × Nat := (0, 0)
/-- PWR_TEMP (13 R451). -/
def R.PWR_TEMP : RegD := ⟨.mgmt, 0x80104, 0x0, 1, 0x0, 1, 32, 0x73000000, [⟨31, 24, .rw⟩, ⟨23, 16, .ro⟩, ⟨15, 8, .ro⟩, ⟨7, 6, .ro⟩, ⟨5, 0, .ro⟩]⟩
def F.PWR_TEMP_ALARM : Nat × Nat := (31, 24)
def F.PWR_TEMP_MAX : Nat × Nat := (15, 8)
def F.PWR_TEMP_SENSOR : Nat × Nat := (5, 0)
/-- PWR_RESET (13 R451). -/
def R.PWR_RESET : RegD := ⟨.mgmt, 0x80108, 0x0, 1, 0x0, 1, 32, 0x0, [⟨31, 31, .w1s⟩, ⟨30, 8, .ro⟩, ⟨7, 0, .w1s⟩]⟩
def F.PWR_RESET_WARM : Nat × Nat := (31, 31)
def F.PWR_RESET_PITCH : Nat × Nat := (7, 0)
/-- PWR_MISSION (13 R451). -/
def R.PWR_MISSION : RegD := ⟨.mgmt, 0x80110, 0x0, 1, 0x0, 1, 64, 0x0, [⟨63, 32, .ro⟩, ⟨31, 0, .ro⟩]⟩
def F.PWR_MISSION_HOT_SECONDS : Nat × Nat := (63, 32)
def F.PWR_MISSION_SECONDS : Nat × Nat := (31, 0)

/-- The registers of the mgmt page. -/
def regTable_mgmt : List RegD :=
  [R.GLOBAL_ID, R.GLOBAL_STEPPING, R.GLOBAL_FRAME_COUNT, R.GLOBAL_FAULT_SUMMARY, R.GLOBAL_FAULT_ENABLE, R.PWR_DOMAIN, R.PWR_FAULT, R.PWR_TEMP, R.PWR_RESET, R.PWR_MISSION, R.TH_BOOT_INFO, R.TH_FAULT, R.TH_REJECT, R.TH_ROLLBACK, R.TH_KEY_SLOT, R.TH_OTP_ARM, R.TH_OTP_CMD, R.TH_OTP_STATUS, R.TH_OTP_DATA, R.TH_FLASH_CTRL] ++
  [R.TH_FLASH_ADDR, R.TH_FLASH_STATUS, R.TH_ATTEST_CTRL, R.TH_WINDOW_SELECT, R.TH_NONCE, R.TH_WINDOW, R.TH_FLASH_BUF, R.LANT_CFG, R.LANT_STATUS, R.LANT_FAULT, R.LANT_SNAP, R.LANT_SNAP_SEC, R.LANT_SNAP_NS, R.LANT_SNAP_FRAME, R.LANT_PHASE, R.LANT_UTC, R.LANT_SET_SEC, R.LANT_SET_CTRL, R.LANT_PPS_CAP, R.LANT_PPS_OUT] ++
  [R.LANT_TOD_CFG, R.LANT_CLK_CFG, R.CAL_FACTORY, R.CAL_USER, R.CAL_SLOT, R.CAL_COMMIT, R.CAL_STATUS, R.IC_SRC_CFG, R.IC_SRC_STATE, R.IC_GROUP, R.IC_CORE_STATE, R.IC_AGENT_GEN, R.CMB_BIND, R.CMB_STATE, R.CMB_LOCK, R.TNM_STATE, R.TNM_CLEAR, R.MB_MGMT_CFG, R.CANOPY_CTRL, R.CANOPY_DRAIN] ++
  [R.CANOPY_DENY_COUNT, R.CANOPY_DENY_INFO, R.CANOPY_DENY_ADDR, R.CANOPY_REGION, R.CANOPY_WINDOW_LO, R.CANOPY_WINDOW_HI, R.SCHED_CTRL, R.SCHED_STATUS, R.SCHED_SWAP_FRAME, R.SCHED_LAST_SWAP, R.SCHED_FAULT, R.SCHED_FAULT_INFO, R.SCHED_FAULT_LEASES, R.SCHED_CHECK_INFO, R.LEASE_CFG, R.LEASE_MISS, R.PITCH_TENANT_BUDGET, R.PITCH_CTX_COUNTS, R.PITCH_PROG_COUNTS, R.PITCH_CTX_SELECT] ++
  [R.PITCH_CTX_STATE, R.PITCH_CTX_QUEUE, R.PITCH_LIB_INFO, R.PITCH_CALL_COUNTS, R.PITCH_FAULT, R.ISQ_CTRL, R.ISQ_STATUS, R.ISQ_PC, R.ISQ_ECC, R.ISQ_FW_IDENT, R.ROUTINE, R.SP_BANK_ERR, R.SP_BANK_REPAIR, R.BGT_CTRL, R.BGT_STATUS, R.SP_FAULT, R.SP_RESERVED, R.QUAD_CFG, R.QUAD_STATUS, R.QUAD_TEST] ++
  [R.LANE_PRBS_CTRL, R.LANE_PRBS_STATUS, R.LANE_BITS, R.LANE_ERRS, R.LANE_USER, R.LANE_USER_HI, R.LANE_LINK_ERR, R.GL_STATUS, R.FP_CFG, R.FP_SET, R.FP_MEAS, R.FP_PINS, R.CAMP_CFG, R.CAMP_STATUS, R.CAMP_FAULT, R.CAMP_CMD, R.CAMP_LINK_COUNTS, R.CAMP_TAKEOVER, R.CAMP_TWIN_PORT, R.PORT_FAULT] ++
  [R.MGMT_ETH_RING, R.MGMT_ETH_CTRL, R.DDR5_INFO, R.DDR5_LIMIT, R.DDR5_ERR, R.DDR5_MARK, R.DDR5_SCRUB_CFG, R.DDR5_SCRUB_STATUS, R.DDR5_FAULT, R.DDR5_FIRST_UNCORR, R.DDR5_DEV_ERR, R.DDR5_PAT_CTRL, R.DDR5_PAT_RANGE, R.DDR5_PAT_REGION, R.DDR5_PAT_USER, R.DDR5_PAT_STATUS, R.DDR5_PAT_DEV, R.RECOV_CFG, R.RECOV_STATUS, R.RECOV_LAST_FRAME] ++
  [R.RECOV_COUNTS, R.RECOV_LOST_INFO, R.RECOV_READ_SELECT, R.RECOV_READ_DATA, R.PEER_ID, R.PEER_COUNTS, R.METER_RING_BASE, R.METER_HEAD_BASE, R.METER_INDEX_ADDR, R.METER_RING_CFG, R.METER_CONSUMER, R.METER_PRODUCER, R.METER_STATUS, R.METER_FAULT, R.METER_CHAIN_SEQ, R.METER_ATTR_CFG, R.METER_FEED, R.METER_LIVE_SELECT, R.METER_LIVE]

/-- The registers of the core page. -/
def regTable_core : List RegD :=
  [R.ISQ_VERSION, R.CCR, R.CSR, R.TRAP_CAUSE, R.TRAP_ADDR, R.TRAP_INSN, R.FPC, R.FCSR, R.CALL_SP, R.CALL_RET, R.CALL_INFO, R.CORE_TIME, R.RANGER_APERTURE]

/-- The registers of the agent page. -/
def regTable_agent : List RegD :=
  [R.IC_CLAIM, R.IC_COMPLETE, R.IC_STATUS, R.MB_NOTICE, R.MB_POST, R.MB_RESULT, R.MB_RX_SELECT, R.MB_RX_STATUS, R.MB_RX_EMPTY, R.MB_RX_NOTICE, R.MB_RET_INFO, R.MB_RET_POP, R.MB_RET_NOTICE]

/-- The registers of the fn page. -/
def regTable_fn : List RegD :=
  [R.FN_INFO, R.FN_IDENT, R.FN_NOTICE_PTR, R.FN_NOTICE_INFO, R.FN_NOTICE_STATUS, R.FN_NOTICE_EMPTY, R.FN_NOTICE_CFG, R.ASSIGN_SELECT, R.ASSIGN_IDENT, R.ASSIGN_QUEUE, R.ASSIGN_LEASE, R.ASSIGN_STATUS, R.SQ_DOORBELL, R.SQ_RESUME, R.CQ_DOORBELL, R.SQ_BASE, R.SQ_INDEX, R.SQ_CFG, R.SQ_SEQ_BASE, R.SQ_START] ++
  [R.SQ_STATUS, R.SQ_CMD, R.SQ_ACCEPT, R.SQ_CONSUMED, R.SQ_QNUM, R.CQ_BASE, R.CQ_CFG, R.CQ_MOD, R.CQ_HEAD, R.CQ_TAIL, R.CQ_STATUS, R.CQ_QNUM]

end Sys2Proof.Machine
end

