-- ==== Sys2Proof/Machine/State.lean ====
section
/-! DEFINITION. The state of the NQ9640: every register, memory, queue, counter, mode and pin the spec gives it, as plain
data, the machine after reset, and the reasons a step can stop. Registers that have no structured home stand in the register
file `regs`, keyed as `Machine/Regs.lean` says; an unlisted register holds its reset value. -/
namespace Sys2Proof.Machine

/-- Why a step faults. No rule of the spec leaves the block without a next state, so nothing raises one. -/
inductive Fault where
  /-- Raised by nobody; it is here because the interface asks for a type of faults. Safe. -/
  | none
  deriving DecidableEq, Repr

/-- Why a step is refused. -/
inductive Refusal where
  /-- Raised by an arm of `exec` whose command has no meaning yet. Safe: nothing is proved about the refused command. -/
  | notModelled (mnemonic : String)
  deriving DecidableEq, Repr

/-- What the device sends outward, in order (01 R19, 03 R109-R111, 04 R155-R157, 09 R317-R322, 10 R361, 11 R384-R402). -/
inductive Out where
  /-- a posted write to host memory of function `fn` -/
  | hostWrite (fn : Nat) (addr : Nat) (data : List (BitVec 8))
  /-- an MSI-X message of function `fn`, its vector, address and data -/
  | msix (fn : Nat) (vec : Nat) (addr : W64) (data : W32)
  | pme (fn : Nat)
  | l0Exit (port : Nat)
  /-- a read request to host memory of function `fn` -/
  | hostRead (fn : Nat) (addr : Nat) (len : Nat)
  /-- an operation sent to a device of the device table: device number, command code, PARAM_HI, PARAM_MID, block or parameter,
  length, and the bytes out -/
  | device (dev code hi mid param len : Nat) (data : List (BitVec 8))
  | deviceAbort (dev : Nat)
  /-- a sample transaction to the ADC of a field port: command bytes, their number and the number of bytes to read (10 R366) -/
  | sample (port : Nat) (cmd : Nat) (cmdLen rxLen : Nat)
  /-- a poisoned write to host memory; a frame ended with an inverted FCS (07 R253) -/
  | poison (fn : Nat) (addr : Nat)
  | badFrame (mac : Nat)
  /-- outward data of a port was uncorrectable: its TLP or completion is poisoned, its frame ends with an inverted FCS, its field
  transaction stops (07 R253, 10 R371) -/
  | spoiled (port : Nat)
  /-- 64 bytes written to the guyline of a port -/
  | portData (port : Nat) (data : BitVec 512)
  /-- an Ethernet frame of MAC `mac`, or of the management port (128): its traffic class, and the lantern nanosecond at which it is to leave
  (04 R155, R156) -/
  | frame (mac tc : Nat) (leave : Option Nat) (data : List (BitVec 8))
  | ppsPulse (i : Nat) (at_ : Int) (ms : Nat) (low : Bool)
  /-- `count` rising edges of CLK10M_OUT, 100 ns apart, the first driven at a lantern time in ps (09 R318) -/
  | clk10m (first : Int) (count : Nat)
  | tod (msg : List (BitVec 8))
  | ptpStamp (mac : Nat) (sec : Nat) (ns : Nat) (frac : Nat)
  | ptm (port : Nat) (ns : Nat)
  /-- a message of the Ploet link: kind, MSEQ and payload; a flit with its sequence number; NAK and heartbeat -/
  | ploetMsg (kind : Nat) (mseq : Nat) (arg : W64) (payload : List (BitVec 8))
  | ploetFlit (seq : Nat)
  /-- the 224 bytes of content of a flit (11 R382) -/
  | ploetContent (content : List (BitVec 8))
  | ploetAck (seq : Nat)
  | ploetNak (seq : Nat)
  | ploetHeartbeat (frame : W64)
  | ddrCommand (ch : Nat) (kind : Nat)
  /-- a request for a line of channel `ch` (a write?): bank group, bank, column block, rank and stack position, row (07 R261) -/
  | ddrRequest (ch : Nat) (write : Bool) (group bank column stack row : Nat)
  | crs (fn : Nat)
  /-- a lane's generator inverts one bit of its next word (10 R375) -/
  | inject (lane : Nat)
  | edge (port : Nat) (pin : Nat) (rising : Bool) (ns : W64)
  /-- a PWM pin's period and high time, in field-port cycles, from the end of its current period (10 R365) -/
  | pwm (port pin period high : Nat)
  /-- a lane's generator starts: its first symbols, which follow 80 bits of its pattern; `pam4`: two bits to a symbol (10 R372) -/
  | pattern (lane : Nat) (pam4 : Bool) (symbols : List Nat)
  /-- an I3C target of a field port gets its dynamic address (10 R363) -/
  | setdasa (port fixed dyn : Nat)
  deriving DecidableEq, Repr

/-! ## The frame schedule (02) -/

/-- A frame bank (02 R62-R65): header bytes, directory entries (frame x 24 + unit), stake entries, and the 256-bit words
whose code is uncorrectable (byte offset / 32). -/
structure Bank where
  hdr : Tbl Byte
  dir : Tbl W64
  stakes : Tbl W64
  unc : List Nat
  deriving DecidableEq, Repr

/-- A fetch in flight or landed (02 R41-R46): its landing buffer (0-11 DDR5, 12 port complex), its slots, where they are
reserved (partition of an owner or the common pool), its consuming stakes as absolute cycles and lane (none: free lane),
when it landed, and the line it carries. -/
structure Fetch where
  id : Nat
  buf : Nat
  slots : Nat
  part : Nat
  lease : Option Nat
  tenant : BitVec 12
  consume : List (Nat × Nat)
  landed : Option Nat
  data : List (BitVec 8)
  /-- 64-byte halves still to be consumed, two to a slot (02 R42) -/
  left : Nat
  missed : Bool
  step : Nat
  /-- free-lane rank of its requester, and the DDR5 line that it reads (none: a read request of a port) -/
  rank : Nat
  line : Option Nat
  /-- scratchpad words that its data is to go to: pitch x 2^20 + word (02 R46) -/
  plan : List Nat
  deriving DecidableEq, Repr

/-- Data on its way inside the die (02 R35, R38): a scratchpad word read for its step, or 64 bytes on a lane. -/
structure Flight where
  /-- absolute cycle in which it was read, and from which it is there -/
  read : Nat
  there : Nat
  /-- 0-24 the output lane of a ridgepole port, 32 + n its input lane, 64 the unit that asked for a word -/
  place : Nat
  step : Nat
  lease : Option Nat
  /-- scratchpad words it was read from, and those it is to be written to: pitch x 2^20 + word -/
  src : List Nat
  dst : List Nat
  data : List (BitVec 256)
  deriving DecidableEq, Repr

/-- A write that a bank port made in a recent cycle (07 R248, R249): its word, port, byte mask and data, and the word before it. -/
structure PortWr where
  cycle : Nat
  word : Nat
  port : Nat
  mask : BitVec 32
  data : BitVec 256
  old : BitVec 256
  oldBad : Bool
  deriving DecidableEq, Repr

/-- The schedule block (02). -/
structure Sched where
  /-- device frame count and cycle within the frame (01 R21, 02 R29) -/
  frame : W64
  cycle : Nat
  bankA : Bank
  bankB : Bank
  /-- the running check: the bank it reads (true = B) and whether a swap is armed on its pass (02 R75) -/
  check : Option (Bool × Bool)
  /-- the pending swap: target bank, frame it takes effect, and whether that is later than asked (02 R68) -/
  swap : Option (Bool × W64 × Bool)
  /-- LEASE_CFG writes that take effect at the next cycle 0 (02 R77) -/
  leasePending : Tbl W32
  /-- refresh debt, and end of the refresh window as an absolute cycle, per channel (02 R49, R50) -/
  debt : Tbl Nat
  refreshEnd : Tbl Nat
  /-- landing partitions of the image (02 R40): buffer x 512 + owner (0-255 lease, 256 front end, 257 ranger) -/
  partition : Tbl Nat
  fetches : List Fetch
  nextFetch : Nat
  /-- requests that lost their grant and request again (02 R56) -/
  waiting : List Req
  /-- claims of recent cycles: absolute cycle, kind, instance (output lanes as kind 16; 02 R35, R57) -/
  busy : List (Nat × Nat × Nat)
  /-- data on the lanes; the writes of the bank ports in recent cycles -/
  flights : List Flight
  writes : List PortWr
  /-- lines in the pitches' receive holding buffers, oldest first (02 R69) -/
  held : List Flight
  deriving DecidableEq, Repr

/-! ## Submission and completion queues (03) -/

/-- A function of an endpoint port (03 R79, R80, R110-R112, R121). `ident` is in the layout of ASSIGN_IDENT. An MSI-X table
entry is address (63:0), data (95:64) and vector control (127:96). -/
structure Fn where
  present : Bool
  ident : W32
  bme : Bool
  d3 : Bool
  pmeEn : Bool
  pmeStatus : Bool
  maskAll : Bool
  msix : Tbl (BitVec 128)
  pba : BitVec 256
  /-- vectors whose pending message is owed to something else than a CQ (08 R284, 01 R28) -/
  owed : BitVec 256
  /-- frame of the last PME (03 R111) -/
  pmeAt : W64
  deriving DecidableEq, Repr

/-- One scan result of an SQ, in unit order: an admitted entry or a skip (03 R96, R99, R102). -/
structure Item where
  unit : W64
  len : Nat
  skip : Bool
  /-- units as read; the header is the first (03 R84) -/
  units : List (BitVec 256)
  seq : W32
  /-- slot of the target CQ in the function, and whether it is not the CQ named (0xF001) -/
  cq : Nat
  f001 : Bool
  /-- both copies written; ACCEPT moved past it; dispatched or completed at dispatch; completion decided; completion written -/
  durable : Bool
  accepted : Bool
  dispatched : Bool
  decided : Bool
  posted : Bool
  /-- placed by a recovery procedure (05 R180) -/
  recovered : Bool
  /-- fragments of a kind 3 entry, once its tables were read (03 R89) -/
  frags : Option (List (W64 × Nat))
  /-- a fragment table read is outstanding: address that is read, the number of the table, descriptors of it that have landed before, and the
  fragments so far -/
  fragWait : Option (W64 × Nat × Nat × List (W64 × Nat))
  /-- MSEQ of the mirror record of its acceptance in a camp (11 R387) -/
  mseq : Option Nat
  /-- channel context it was dispatched to -/
  ctx : Option Nat
  /-- recover_entry is still to run: the image changed, its pitch's scratchpad was lost (05 R188) -/
  again : Option (Bool × Bool)
  /-- the progress record it is placed from, the context that holds it (8,192: none), whether its command has NOTIFY, and the COUNT of its
  step or chain (05 R182, R188) -/
  resume : Option (Nat × BitVec 512 × Bool × Nat)
  /-- a context whose progress record is the entry's until the context it was placed in writes its own (05 R177, R188) -/
  stale : Option Nat
  deriving DecidableEq, Repr

/-- A scan round (03 R96): waiting for PRODUCER, or for ring units up to `limit`; `units` have landed, from NEXT on; `fresh`:
waiting for the second read of the entry at NEXT (R88). -/
structure Round where
  gotProducer : Bool
  limit : Nat
  /-- unit index one past the last unit that landed -/
  upTo : Nat
  units : List (BitVec 256)
  fresh : Bool
  /-- ring reads in flight, oldest first: first unit, units still to land, and whether they are fresh copies -/
  reads : List (Nat × Nat × Bool)
  deriving DecidableEq, Repr

/-- A submission queue slot (03). -/
structure SQ where
  assign : W32
  leases : W64
  base : W64
  index : W64
  cfg : W32
  seqBase : W32
  start : W64
  state : Nat
  generation : BitVec 16
  enableErr : Nat
  errorCause : Nat
  accept : W64
  consumed : W64
  completedSeq : W32
  nextUnit : W64
  rescan : Bool
  expected : W32
  round : Option Round
  /-- a round paused by R100: the target CQ slot without a free slot (some), or the SEQ window (none) -/
  paused : Option (Option Nat)
  items : List Item
  tenant : BitVec 12
  master : BitVec 14
  /-- a queue reset is ending the SQ (05 R192) -/
  resetting : Bool
  /-- the state SQ_STATUS shows, and the MSEQ its record waits for in a camp; bits of
the index record still to be written: 0 ACCEPT, 1 CONSUMED and COMPLETED_SEQ, 2 GENERATION (11 R387, 03 R111) -/
  shown : Nat
  gate : Option Nat
  indexDue : Nat
  /-- the home pitch that ASSIGN_QUEUE was given, while a re-home is in force (01 R17) -/
  assignedHome : Option Nat
  /-- taken over from the partner and not enabled since (11 R396) -/
  migrated : Bool
  deriving DecidableEq, Repr

/-- A completion decided by the front end and waiting to be posted (03 R104, 05 R172). -/
structure Compl where
  sqFn : Nat
  sqSlot : Nat
  seq : W32
  index : W32
  entry : BitVec 256
  immediate : Bool
  /-- the MSEQ its records wait for in a camp (11 R387) -/
  gate : Option Nat
  /-- a recovered completion is written again at its index (05 R189) -/
  rewrite : Bool
  /-- its place in the order in which the device finished entries (03 R111) -/
  nth : Nat
  deriving DecidableEq, Repr

/-- A completion queue slot (03). -/
structure CQ where
  assign : W32
  base : W64
  cfg : W32
  mod : W32
  state : Nat
  enableErr : Nat
  headErr : Bool
  head : W32
  tail : W32
  /-- index that the next decided completion takes: TAIL plus the completions still to be posted -/
  decided : W32
  reservations : Nat
  unsignalled : Nat
  timer : Option W64
  due : Bool
  posts : List Compl
  /-- the state CQ_STATUS shows, and the MSEQ its record waits for in a camp (11 R387) -/
  shown : Nat
  gate : Option Nat
  deriving DecidableEq, Repr

/-! ## Channel programs (04) -/

/-- A channel context (04 R163) and what R176 records of it. -/
structure Ctx where
  /-- 0 FREE, 1 FETCH, 2 RUN, 3 WAIT, 4 SUSPENDED, 5 HELD, 6 END -/
  state : Nat
  /-- the state that a HELD context left (04 R164) -/
  held : Nat
  fn : Nat
  slot : Nat
  sq : BitVec 14
  generation : BitVec 16
  seq : W32
  tag : W32
  unit : W64
  kind : Nat
  program : BitVec 16
  tenant : BitVec 12
  master : BitVec 14
  lease : Option Nat
  param : W64
  data : W64
  /-- the entry's units after the header: parameter block or inline commands -/
  block : List (BitVec 256)
  /-- working copies of the command about to run or running, and of its data chain (04 R131, R137) -/
  cmds : List (BitVec 256)
  /-- positions of those commands -/
  poss : List W64
  /-- a hosted command read is outstanding at this address (04 R133) -/
  fetching : Option W64
  position : W64
  ordinal : Nat
  budget : Nat
  cond : BitVec 4
  /-- a step has begun and not ended; its first operation was issued; its committing record is written -/
  running : Bool
  issued : Bool
  committing : Bool
  /-- the PAUSE of the present command has been honoured by a resume (04 R142) -/
  resumed : Bool
  /-- when the context suspended (03 R118) -/
  suspendedAt : Option (W64 × Nat)
  /-- event time of a step that waits for its acknowledgement (04 R144, R145) -/
  time : W64
  /-- data of the step is done and FENCE waits for the acknowledgement (04 R145) -/
  fenceWait : Bool
  moved : Nat
  /-- bytes already moved of the step that a placed program repeats, the COUNT of that step or chain, and whether the next step is one that
  recovery repeats (05 R179, R182, R188) -/
  resumeMoved : Nat
  resumeTotal : Nat
  repeats : Bool
  /-- the context whose progress record is still the entry's (05 R188) -/
  oldRec : Option Nat
  /-- DDR5 channels in which the engine has staged data of the present step (05 R191) -/
  stagedIn : List Nat
  waitFrame : W64
  waitEdge : Option (Nat × Nat × Nat)
  sampleIndex : Nat
  sampleFrame : W64
  sampleDone : Nat
  /-- absolute cycle in which the present step began, or in which it first requested its port (04 R157) -/
  begun : Nat
  /-- core time, in 2^-16 ns, and frame in which the present step began (04 R151) -/
  beganTime : Nat
  beganFrame : Nat
  /-- the latest word of a WAIT WORD read from DDR5 or scratchpad: status, word, and the absolute cycle of its read (04 R147) -/
  word : Option (Nat × W32 × Nat)
  /-- the timeout of a WAIT passed while the context was held (04 R164) -/
  waitLate : Bool
  /-- what a held context goes on with when its function may access memory again: the result of a device step, or a sample (04 R164) -/
  heldDone : Option DevResult
  heldSample : Option (Nat × Nat × W64)
  devStatus : BitVec 16
  lastResidual : W32
  eventTime : Option W64
  meter : Nat
  scratch : Bool
  recovered : Bool
  partialDone : Bool
  /-- status handed to the front end in END -/
  status : BitVec 16
  residual : W32
  /-- last NVMe completion entry (04 R155 SENSE) -/
  nvme : BitVec 128
  /-- the mirror record that the context waits for in a camp (11 R387) -/
  mseq : Option Nat
  /-- the call of a CALL step has entered a core's queue (06 R239) -/
  called : Bool
  /-- cycle of the engine slot that selected it last (02 R38) -/
  slotAt : Option Nat
  deriving DecidableEq, Repr

/-- A library record (04 R129-R130): number, budget, substitutions (command, field, source, mode, offset) and commands. -/
structure LibRec where
  program : BitVec 16
  budget : BitVec 16
  subs : List (Nat × Nat × Nat × Nat × Nat)
  cmds : List (BitVec 256)
  deriving DecidableEq, Repr

/-- Channel engines and what they share (04). -/
structure Prog where
  /-- contexts by (pitch x 16 + engine) x 64 + context -/
  ctxs : Tbl Ctx
  /-- library copy of each pitch, by program number; and which copies are good -/
  library : Tbl LibRec
  libraryBad : List Nat
  /-- device table entries, 16 bytes each (04 R153) -/
  devices : Tbl (BitVec 128)
  /-- Ethernet frame counters: MAC x 8 + counter (04 R456) -/
  macCounts : Tbl W64
  /-- completions decided so far: the order of 03 R111 -/
  finished : Nat
  deriving DecidableEq, Repr

/-! ## Recovery (05) -/

/-- The recovery area and what recovery keeps (05). Areas hold 64-byte blocks by offset / 64; `bad` lists the unreadable
blocks of a copy. -/
structure Recov where
  copyA : Tbl (BitVec 512)
  copyB : Tbl (BitVec 512)
  badA : List Nat
  badB : List Nat
  lostA : Bool
  lostB : Bool
  /-- rebuild in progress: the channel being copied into -/
  rebuild : Option Nat
  /-- writes to queue configuration held while recovery runs (05 R196): function, offset in its page, value -/
  heldWrites : List (Nat × Nat × W64)
  /-- SQs (key of function and slot) whose recovery waits for access to host memory (05 R189) -/
  heldSqs : List Nat
  /-- CQs (key of function and slot) whose message of step 6 is still to be sent; the area header is to be written once recovery has ended
  (05 R189, R196) -/
  heldCqs : List Nat
  headerDue : Bool
  readPending : Bool
  deriving DecidableEq, Repr

/-! ## Isquin cores (06) -/

/-- One register bank of a core (06 R206): G0-G7, C, P1-P7 (bit 0 unused: P0 reads 1), AC0 and AC1. -/
structure RegBank where
  g : Tbl W32
  c : W32
  p : BitVec 8
  ac0 : BitVec 80
  ac1 : BitVec 80
  deriving DecidableEq, Repr

/-- A call queued to or run by a core (06 R239-R242): routine number and entry address, calling context, its call block,
the caller's identities and lease class, and the limit with the frame and cycle of its begin. -/
structure IsqCall where
  routine : Nat
  entry : W32
  ctx : Nat
  block : W32
  tenant : BitVec 12
  master : BitVec 14
  lease : Option Nat
  frame : W64
  cycle : Nat
  limit : Nat
  /-- the step already ended by its limit: a CRET result is discarded (06 R242) -/
  expired : Bool
  /-- a window read of the routine was uncorrectable (07 R253) -/
  uncorr : Bool
  deriving DecidableEq, Repr

/-- One Isquin core (06): cores 4p + k are the pitch cores, core 32 is the ranger core. -/
structure Core where
  main : RegBank
  fast : RegBank
  pc : W32
  csr : W32
  ccr : W32
  trapCause : W32
  trapAddr : W32
  trapInsn0 : W32
  trapInsn1 : W32
  trapInsn2 : W32
  fpc : W32
  fcsr : W32
  callSp : W32
  callRet : W32
  aperture : W32
  x : Tbl Byte
  y : Tbl Byte
  imem : Tbl Byte
  /-- 256-bit words with an uncorrectable error: memory (0 X, 1 Y, 2 instruction) x 2^16 + word -/
  bad : List Nat
  /-- HALT_CAUSE, 0 running -/
  halt : Nat
  sleeping : Bool
  cwaiting : Bool
  /-- iterations left of the repeat whose prefix PC addresses, whether its first iteration is still to run, and whether RETI resumed
  it (06 R207, R221, R223) -/
  repLeft : Nat
  repFresh : Bool
  repBack : Bool
  calls : List IsqCall
  current : Option IsqCall
  /-- cycles that executed instructions took (06 R225); the model's own count -/
  cc : Nat
  /-- firmware store of the core (06 R243): its three memories, and whether its digest matches -/
  storeX : Tbl Byte
  storeY : Tbl Byte
  storeI : Tbl Byte
  storeGood : Bool
  /-- the SHAKE256 digest kept with the store; none before trailhead has loaded one -/
  storeDigest : Option (List Byte)
  deriving DecidableEq, Repr

/-! ## Memories and canopy (07) -/

/-- An entry of a shadow buffer (07 R255): its word, and its check bytes where they are not those of the word's code. -/
structure Shadow where
  valid : Bool
  bad : Bool
  data : BitVec 256
  check : Option (BitVec 32)
  deriving DecidableEq, Repr

/-- The background test step of one pitch (07 R253-R258): the next access 0-767 (0: no step begun), the rows 0-3 of the
step that failed, and whether the step was aborted and its restore is pending. -/
structure TestStep where
  access : Nat
  failed : List Nat
  aborted : Bool
  deriving DecidableEq, Repr

/-- Scratchpad, DDR5 and canopy (07). -/
structure Mem where
  /-- scratchpad bytes: pitch x 2^25 + offset -/
  sp : Tbl Byte
  /-- uncorrectable scratchpad words: pitch x 2^20 + offset / 32 -/
  spBad : List Nat
  /-- check bytes of the words whose check bytes are not those of their code, by the same key (07 R246, R254) -/
  spCheck : Tbl (Option W32)
  /-- soft repairs made: pitch, bank, row -/
  repairs : List (Nat × Nat × Nat)
  tests : Tbl TestStep
  /-- shadow buffer entries: pitch x 64 + entry -/
  shadow : Tbl Shadow
  /-- DDR5 bytes by 42-bit address (07 R261) -/
  ddr : Tbl Byte
  /-- uncorrectable DDR5 lines: address / 128 -/
  ddrBad : List Nat
  /-- patrol scrub: corrected line waiting for its write-back (line + 1), and sweeps finished in the running period -/
  scrubPending : Tbl Nat
  sweepDone : Tbl Nat
  /-- WINDOW_LO in force (07 R273), by master x 16 + window; the register file holds the value written -/
  loInForce : Tbl W64
  canopyBad : List Nat
  denyDisarmed : Bool
  /-- fetches that were in flight when the drain began (07 R274) -/
  draining : List Nat
  deriving DecidableEq, Repr

/-! ## Mailboxes and interrupt controller (08) -/

/-- A mailbox (08 R278-R282): notice is POINTER (63:0), LENGTH (95:64), STAMP (127:96). -/
structure Mbox where
  full : Bool
  serial : BitVec 8
  agent : Nat
  notice : BitVec 128
  deriving DecidableEq, Repr

/-- An entry of a return queue (08 R286). -/
structure Ret where
  tenant : Bool
  aborted : Bool
  number : Nat
  notice : BitVec 128
  deriving DecidableEq, Repr

/-- Mailboxes (08 R277-R290). -/
structure Mail where
  ctl : Tbl Mbox
  ten : Tbl Mbox
  ret : Tbl (List Ret)
  lost : List Nat
  /-- messages held by D3hot or Bus Master Enable: function, vector and mailbox (`heldKey`, 08 R284) -/
  held : List Nat
  deriving DecidableEq, Repr

/-- An interrupt source (08 R292): `core` is the core that holds it ACTIVE. -/
structure Src where
  pending : Bool
  active : Bool
  count : Nat
  lastClaim : Nat
  core : Nat
  deriving DecidableEq, Repr

/-- The interrupt controller (08 R291-R301): sources, and each core's priority stack, top first, of (source, priority,
fast). -/
structure Intc where
  src : Tbl Src
  stack : Tbl (List (Nat × Nat × Bool))
  deriving DecidableEq, Repr

/-! ## Lantern and metering (09) -/

/-- What the lantern keeps of a PPS input (09 R311): consecutive good edges, the last good edge (ps of lantern time), seconds
passed without an edge in the window, and whether it is qualified. -/
structure Pps where
  good : Nat
  last : Nat
  missed : Nat
  qualified : Bool
  deriving DecidableEq, Repr

/-- Lantern time (09 R305): its three fields, the fraction in 2^-16 ns; `sub` is what the rate has added below that, in 2^-40 ns (R306). -/
structure LTime where
  sec : BitVec 48
  ns : BitVec 32
  frac : BitVec 16
  sub : BitVec 24
  deriving DecidableEq, Repr

/-- The time in units of 2^-40 ns, and the time of so many units. -/
def LTime.units (t : LTime) : Nat := (t.sec.toNat * 1000000000 + t.ns.toNat) * 2 ^ 40 + t.frac.toNat * 2 ^ 24 + t.sub.toNat
def LTime.of (u : Nat) : LTime :=
  { sec := BitVec.ofNat 48 (u / 2 ^ 40 / 1000000000), ns := BitVec.ofNat 32 (u / 2 ^ 40 % 1000000000), frac := BitVec.ofNat 16 (u / 2 ^ 24)
    sub := BitVec.ofNat 24 u }

/-- The lantern (09). -/
structure Lantern where
  /-- lantern time at cycle 0 of the present frame, with the steps applied since; M of the present frame and of the one
  before it, in 0.1 ns, and the frame difference core time extrapolates with (09 R308) -/
  time : LTime
  mNow : Nat
  m1 : Nat
  delta : Nat
  stepCur : Bool
  stepPrev : Bool
  /-- 0 FREE, 1 ACQUIRING, 2 LOCKED, 3 HOLDOVER (09 R314) -/
  state : Nat
  everLocked : Bool
  selected : Nat
  /-- the selected source has just been selected: its first error decides step or state (09 R313, R314) -/
  fresh : Bool
  pps : Tbl Pps
  /-- the holdover time has reached HOLD_VALID (09 R315) -/
  expired : Bool
  /-- magnitudes in ps of the last errors of the selected source, newest first; consecutive errors over 1,000 ns -/
  errors : List Nat
  bigErrors : Nat
  /-- the rate adjustment in each of the last seconds of LOCKED, newest first (09 R314) -/
  rates : List Int
  /-- a step by -e (ps) waits for the next second boundary; true: all fields (partner) -/
  pendingStep : Option (Int × Bool)
  refLost : Bool
  /-- lantern time at which the holdover began, in 2^-40 ns -/
  holdStart : Nat
  coreLocked : Bool
  /-- CORE_LOCKED was set at cycle 0 of the present frame (09 R316) -/
  frameLocked : Bool
  goodFrames : Nat
  lockNext : Bool
  /-- the pending set: mode, seconds, NS (09 R350) -/
  pendingSet : Option (Nat × Nat × W32)
  todCount : BitVec 8
  /-- 16 OTP commit slots of calibration values (09 R331), newest last; a commit is being written -/
  commits : List (Tbl W64)
  committing : Bool
  /-- the reset in progress holds TIME_VALID low (09 R315) -/
  inReset : Bool
  deriving DecidableEq, Repr

/-- Lantern time at cycle 0 of the present frame, measured to 0.1 ns (09 R308). -/
def Lantern.now (l : Lantern) : Nat := (l.time.units * 10 + 2 ^ 39) / 2 ^ 40

/-- Counts of one tenant (09 R333); energy in nJ, carry included. -/
structure TRec where
  bytesIn : Nat
  bytesOut : Nat
  stake : Nat
  free : Nat
  commands : Nat
  misses : Nat
  entries : Nat
  energy : Nat
  bound : Bool
  deriving DecidableEq, Repr

/-- What the meter keeps of the open minute (09 R336-R340). -/
structure Minute where
  minute : Nat
  part : Nat
  firstFrame : W64
  frames : Nat
  locked : Nat
  freeOnly : Nat
  swaps : Nat
  devCycles : Nat
  baseNj : Nat
  devNj : Nat
  feedStale : Bool
  gap : Nat
  lost : Nat
  recs : Tbl TRec
  deriving DecidableEq, Repr

/-- A closed block waiting for delivery (09 R340-R344): head entry bytes, records (none once dropped), whether its head
was signed and whether its records were written. -/
structure Block where
  seq : W64
  minute : Nat
  header : List Byte
  digest : List Byte
  prevHead : List Byte
  head : List Byte
  recs : Option (Tbl TRec)
  signature : Option (List Byte)
  signFailed : Bool
  /-- it entered the backlog (09 R344) -/
  waits : Bool
  deriving DecidableEq, Repr

/-- The meter and signing engines (09). -/
structure Meter where
  started : Bool
  cur : Minute
  /-- counts of the present frame by unit x 4,096 + tenant (unit 0-7 pitches, 8 central), and device cycles by unit -/
  frame : Tbl TRec
  frameDev : Tbl Nat
  /-- uses of the running interval per tenant, device uses, its length in 0.1 ns, frames, length
  in force and the remainder of R338 in 0.1 pJ -/
  useT : Tbl Nat
  useDev : Nat
  intNs : Nat
  intFrames : Nat
  intLen : Nat
  remainder : Nat
  /-- feeds: power in force in mW (0-7, 8 internal), frames since the last sample -/
  power : Tbl Nat
  feedAge : Tbl Nat
  blocks : List Block
  chainSeq : W64
  prevHead : List Byte
  checkpoint : Option Minute
  cpFrame : W64
  deriving DecidableEq, Repr

/-! ## Ports (10) -/

/-- A port (10 R353-R361): link state 0 down, 1 L0, 2 L1, 3 leaving L1; an MSI-X that waits for L0. -/
structure Port where
  link : Nat
  width : Nat
  due : List (Nat × Nat)
  deriving DecidableEq, Repr

/-- A receive queue of a MAC (10 R360, 04 R155): frames landed, oldest first, an overflow not yet reported, delivery paused. -/
structure RxQueue where
  frames : List (List Byte)
  overflow : Bool
  paused : Bool
  deriving DecidableEq, Repr

/-- A lane's PRBS checker (10 R372-R375): its running counters. -/
structure Lane where
  bits : Nat
  errs : Nat
  deriving DecidableEq, Repr

/-- A field port's pins (10 R362-R365): settings record in force (16 bytes), sampled levels, driven levels, PWM settings by
pin, edge requests. -/
structure Field where
  settings : BitVec 128
  pins : BitVec 8
  driven : BitVec 8
  pwm : Tbl (Nat × Nat)
  deriving DecidableEq, Repr

/-- A guyline in one direction (10 R367, R368): its write pointer, modulo twice its depth; the entries whose read its writer does not see yet, by
the times at which the reader can read the entry, reads it, and the writer sees that; when the reader is ready for the next. Times are
in thousandths of a core cycle. -/
structure Guy where
  wr : Nat
  words : List (Nat × Nat × Nat)
  next : Nat
  deriving DecidableEq, Repr

/-- Ports, lanes and field ports (10). -/
structure Ports where
  ports : Tbl Port
  /-- receive queues: MAC x 256 + queue; steering records of the image: MAC x 256 + entry (10 R360, 12 R411) -/
  rx : Tbl RxQueue
  /-- receive queues in the order in which their frames arrived; halves of 64 bytes of waiting frames that have left their buffer, by
  landing partition (02 R47) -/
  arrivals : List Nat
  crossed : Tbl Nat
  steer : Tbl (BitVec 128)
  lanes : Tbl Lane
  /-- guylines, by 2 g + direction -/
  guy : Tbl Guy
  field : Tbl Field
  /-- management Ethernet: next transmit and receive descriptor -/
  mgmtTx : Nat
  mgmtRx : Nat
  /-- the management port is sending the frame of its next transmit descriptor -/
  mgmtBusy : Bool
  /-- MACs enabled for PTP (09 R320) -/
  ptp : List Nat
  deriving DecidableEq, Repr

/-! ## Camp (11) -/

/-- A message of the Ploet link (11 R383). -/
structure Msg where
  type : Nat
  mseq : Nat
  arg : W64
  body : List Byte
  deriving DecidableEq, Repr

/-- Camp state (11). -/
structure Camp where
  /-- R389 code; consecutive silent frames; an HB flit was accepted in this frame -/
  state : Nat
  silent : Nat
  heartbeat : Bool
  /-- 0 LOW, 1 TOGGLING, 2 HIGH; 0 low, 1 LIVE, 2 CLAIM -/
  arbIn : Nat
  arbOut : Nat
  claimFrame : W64
  up : Bool
  x4 : Bool
  everUp : Bool
  matched : Bool
  /-- next flit sequence number, unacknowledged flits (sequence, messages), flit the last replay started from and how many
  replays in a row started there, last in-order flit accepted -/
  txSeq : Nat
  unacked : List (Nat × List Msg)
  /-- content of the flits in the retry buffer, by sequence number (11 R382, R384) -/
  built : Tbl (List (BitVec 8))
  /-- messages that wait for room in the retry buffer (11 R384) -/
  txQueue : List Msg
  replayFrom : Nat
  replays : Nat
  rxSeq : Nat
  /-- messages of accepted flits, in order, waiting to be acted on -/
  inbox : List Msg
  /-- MSEQ of the last message sent, and MSEQ that the partner's DURABLE covers -/
  mseq : Nat
  durable : Nat
  ownEnd : Option Nat
  partnerEnd : Bool
  /-- mirror area, copies A and B, in 64-byte blocks (11 R386) -/
  mirrorA : Tbl (BitVec 512)
  mirrorB : Tbl (BitVec 512)
  /-- a copy of the mirror area was lost with its channel; blocks of a copy that are unreadable -/
  lostA : Bool
  lostB : Bool
  badA : List Nat
  badB : List Nat
  /-- departure L of the last TIME flit here (t1), of the one before, arrival of the partner's last (11 R400) -/
  txTime : W64
  txPrev : W64
  rxTime : W64
  partnerState : Nat
  partnerSource : Nat
  partnerValid : Bool
  deriving DecidableEq, Repr

/-! ## Trailhead, trust and power (12, 13) -/

/-- What trailhead keeps of the running image (12 R407, R411). -/
structure Image where
  imageId : W64
  svn : Nat
  keySlot : Nat
  otpLock : Bool
  digest : List Byte
  settingsDigest : List Byte
  libraryDigest : List Byte
  deviceDigest : List Byte
  deriving DecidableEq, Repr

/-- An OTP key-ring slot (12 R421): 0 EMPTY, 1 VALID, 2 REVOKED, 3 DEFECTIVE. -/
structure KeySlot where
  state : Nat
  hash : List Byte
  deriving DecidableEq, Repr

/-- Trailhead, OTP, flash and attestation (12). -/
structure Trust where
  /-- 0 held in reset, 1 running an image, 2 no-image state, 3 stopped (lantern and always-on domain lost), 4 trailhead (it ends at the
  next frame start) -/
  phase : Nat
  /-- 1 power-on, 2 cold, 3 warm, 4 fault -/
  resetKind : Nat
  fromB : Bool
  image : Image
  /-- the image store holds the reloaded sections of the image in force (12 R413): the image's flash bytes -/
  store : Tbl Byte
  /-- of the SETTINGS in force: endpoints with TotalVFs + 1 by port, EtherType of peer acknowledgements, timers (unit, feature,
  argument) -/
  endpoints : Tbl Nat
  mgmtFn : Nat
  peerType : BitVec 16
  timers : List (Nat × Nat × Nat)
  /-- flash devices; an unlisted byte is erased (0xFF) -/
  flash0 : Tbl Byte
  flash1 : Tbl Byte
  /-- the running flash operation: TH_FLASH_CTRL, TH_FLASH_ADDR and the bytes to program, as they were at its start -/
  flashOp : Option (W32 × W32 × List Byte)
  /-- OTP: anti-rollback bits written, key slots, change log (16-byte entries, oldest first) -/
  rollback : Nat
  slots : Tbl KeySlot
  log : List (BitVec 128)
  armed : Option W64
  otpOp : Option (Nat × Nat)
  calWaiting : Bool
  /-- attestation: report begun and not signed, whether its signature is being computed, boot report, last report -/
  report : Option (List Byte)
  signing : Bool
  bootReport : List Byte
  lastReport : List Byte
  deriving DecidableEq, Repr

/-- Power (13). -/
structure Power where
  pwrgood : Bool
  /-- PWR_DOMAIN registers: RESULT, REQ and STATE of each domain (13) -/
  dom : Tbl W32
  /-- requests of the other kind written during entry or exit (13 R436): domain -> 1 ON, 2 bivouac -/
  queued : Tbl Nat
  /-- 1 more than the cycle in which something that needs the domain last started its exit (13 R436); 0 none -/
  wokenAt : Tbl Nat
  /-- frame of a pending request of a warm reset (13 R439) -/
  warmPending : Option W64
  /-- pitch resets asked through PWR_RESET.PITCH, and pitches whose domain was lost -/
  pitchPending : List Nat
  pitchAsked : List Nat
  /-- pitches whose domain was lost and whose reset has not yet been made (05 R190) -/
  pitchLost : List Nat
  tripped : Bool
  heartbeat : Bool
  /-- temperature samples of the running second, and of those above 110 °C of the running hot second (13 PWR_MISSION) -/
  samples : Nat
  hotSamples : Nat
  deriving DecidableEq, Repr

/-- The whole device. -/
structure State where
  /-- register file; an unlisted key holds its register's reset value -/
  regs : Tbl W64
  sched : Sched
  fns : Tbl Fn
  sqs : Tbl SQ
  cqs : Tbl CQ
  prog : Prog
  recov : Recov
  cores : Tbl Core
  mem : Mem
  mail : Mail
  intc : Intc
  lant : Lantern
  meter : Meter
  ports : Ports
  camp : Camp
  trust : Trust
  power : Power
  /-- what the device has sent outward, oldest first; the model's own record -/
  out : List Out
  /-- data the last register read returned -/
  busData : W64
  /-- counter that Config's free values are applied to; the model's own field -/
  free : Nat
  /-- commands waiting, first in first out -/
  pending : List Instr
  deriving DecidableEq, Repr

/-! ## Reset values -/

def Bank.empty : Bank := { hdr := [], dir := [], stakes := [], unc := [] }

def Sched.reset : Sched :=
  { frame := 0, cycle := 0, bankA := Bank.empty, bankB := Bank.empty, check := none, swap := none, leasePending := [],
    debt := [], refreshEnd := [], partition := [], fetches := [], nextFetch := 0, waiting := [], busy := [], flights := [], writes := [],
    held := [] }

/-- A function that does not exist: no identity; its MSI-X vectors are masked (PCIe). -/
def Fn.reset : Fn :=
  { present := false, ident := 0, bme := false, d3 := false, pmeEn := false, pmeStatus := false, maskAll := false,
    msix := [], pba := 0, owed := 0, pmeAt := 0 }

/-- An MSI-X table entry at reset: masked. -/
def msixReset : BitVec 128 := 1#128 <<< 96

def SQ.reset : SQ :=
  { assign := 0, leases := 0, base := 0, index := 0, cfg := 0, seqBase := 0, start := 0, state := 0, generation := 0,
    enableErr := 0, errorCause := 0, accept := 0, consumed := 0, completedSeq := 0, nextUnit := 0, rescan := false,
    expected := 0, round := none, paused := none, items := [], tenant := 0, master := 0, resetting := false, shown := 0,
    gate := none, indexDue := 0, assignedHome := none, migrated := false }

/-- CQ_MOD resets to COUNT 1 (03 CQ_MOD). -/
def CQ.reset : CQ :=
  { assign := 0, base := 0, cfg := 0, mod := 0x00010000, state := 0, enableErr := 0, headErr := false, head := 0, tail := 0,
    decided := 0, reservations := 0, unsignalled := 0, timer := none, due := false, posts := [],
    shown := 0, gate := none }

def Ctx.reset : Ctx :=
  { state := 0, held := 0, fn := 0, slot := 0, sq := 0, generation := 0, seq := 0, tag := 0, unit := 0, kind := 0,
    program := 0, tenant := 0, master := 0, lease := none, param := 0, data := 0, block := [], cmds := [], poss := [],
    fetching := none, position := 0, ordinal := 0, budget := 0, cond := 0, running := false, issued := false,
    committing := false, resumed := false, suspendedAt := none, time := 0, fenceWait := false, moved := 0, resumeMoved := 0, resumeTotal := 0,
    repeats := false, oldRec := none, stagedIn := [],
    waitFrame := 0, waitEdge := none, sampleIndex := 0, sampleFrame := 0, sampleDone := 0, begun := 0, beganTime := 0, beganFrame := 0, word := none, waitLate := false,
    heldDone := none, heldSample := none, devStatus := 0,
    lastResidual := 0, eventTime := none, meter := 0, scratch := false, recovered := false, partialDone := false,
    status := 0, residual := 0, nvme := 0, mseq := none, called := false, slotAt := none }

def LibRec.absent : LibRec := { program := 0, budget := 0, subs := [], cmds := [] }

def Prog.reset : Prog :=
  { ctxs := [], library := [], libraryBad := [], devices := [], macCounts := [], finished := 0 }

def Recov.reset : Recov :=
  { copyA := [], copyB := [], badA := [], badB := [], lostA := false, lostB := false, rebuild := none, heldWrites := [], heldSqs := [],
    heldCqs := [], headerDue := false,
    readPending := false }

def RegBank.reset : RegBank := { g := [], c := 0, p := 0, ac0 := 0, ac1 := 0 }

def Core.reset : Core :=
  { main := RegBank.reset, fast := RegBank.reset, pc := 0, csr := 0, ccr := 0, trapCause := 0, trapAddr := 0,
    trapInsn0 := 0, trapInsn1 := 0, trapInsn2 := 0, fpc := 0, fcsr := 0, callSp := 0, callRet := 0,
    aperture := 0, x := [], y := [], imem := [], bad := [], halt := 0, sleeping := false,
    cwaiting := false, repLeft := 0, repFresh := false, repBack := false, calls := [], current := none, cc := 0, storeX := [], storeY := [],
    storeI := [], storeGood := true, storeDigest := none }

def TestStep.reset : TestStep := { access := 0, failed := [], aborted := false }
def Shadow.reset : Shadow := { valid := false, bad := false, data := 0, check := none }

def Mem.reset : Mem :=
  { sp := [], spBad := [], spCheck := [], repairs := [], tests := [], shadow := [], ddr := [], ddrBad := [], scrubPending := [],
    sweepDone := [], loInForce := [], canopyBad := [], denyDisarmed := false, draining := [] }

/-- An empty mailbox: posting agent 0x3F (08 CMB_STATE). -/
def Mbox.reset : Mbox := { full := false, serial := 0, agent := 0x3F, notice := 0 }

def Mail.reset : Mail := { ctl := [], ten := [], ret := [], lost := [], held := [] }

/-- A source at rest: core 0x3F, none (08 IC_SRC_STATE). -/
def Src.reset : Src := { pending := false, active := false, count := 0, lastClaim := 0, core := 0x3F }

def Intc.reset : Intc := { src := [], stack := [] }

def Pps.reset : Pps := { good := 0, last := 0, missed := 0, qualified := false }

/-- Power-on: time zero, state FREE (09 R307). -/
def Lantern.reset : Lantern :=
  { time := LTime.of 0, mNow := 0, m1 := 0, delta := 10000, stepCur := false, stepPrev := false, state := 0, everLocked := false,
    selected := 0, fresh := false, pps := [], expired := false, errors := [], bigErrors := 0, rates := [],
    pendingStep := none, refLost := false, holdStart := 0, coreLocked := false, frameLocked := false, goodFrames := 0, lockNext := false,
    pendingSet := none, todCount := 0, commits := [], committing := false, inReset := true }

def TRec.reset : TRec :=
  { bytesIn := 0, bytesOut := 0, stake := 0, free := 0, commands := 0, misses := 0, entries := 0, energy := 0, bound := false }

def Minute.reset : Minute :=
  { minute := 0, part := 0, firstFrame := 0, frames := 0, locked := 0, freeOnly := 0, swaps := 0, devCycles := 0,
    baseNj := 0, devNj := 0, feedStale := false, gap := 0, lost := 0, recs := [] }

def Meter.reset : Meter :=
  { started := false, cur := Minute.reset, frame := [], frameDev := [], useT := [], useDev := 0, intNs := 0,
    intFrames := 0, intLen := 1000, remainder := 0, power := [], feedAge := [], blocks := [], chainSeq := 0,
    prevHead := [], checkpoint := none, cpFrame := 0 }

def Port.reset : Port := { link := 0, width := 0, due := [] }
def RxQueue.reset : RxQueue := { frames := [], overflow := false, paused := false }
def Lane.reset : Lane := { bits := 0, errs := 0 }
def Field.reset : Field := { settings := 0, pins := 0, driven := 0, pwm := [] }

def Guy.reset : Guy := { wr := 0, words := [], next := 0 }

def Ports.reset : Ports :=
  { ports := [], rx := [], arrivals := [], crossed := [], steer := [], lanes := [], guy := [], field := [], mgmtTx := 0, mgmtRx := 0, mgmtBusy := false, ptp := [] }

def Camp.reset : Camp :=
  { state := 0, silent := 0, heartbeat := false, arbIn := 0, arbOut := 0, claimFrame := 0, up := false, x4 := false,
    everUp := false, matched := false, txSeq := 0, unacked := [], txQueue := [], replayFrom := 0, replays := 0, rxSeq := 0, inbox := [],
    mseq := 0, durable := 0, ownEnd := none, partnerEnd := false, built := [], mirrorA := [],
    mirrorB := [], lostA := false, lostB := false, badA := [], badB := [], txTime := 0, txPrev := 0, rxTime := 0, partnerState := 0, partnerSource := 0, partnerValid := false }

def Image.none : Image :=
  { imageId := 0, svn := 0, keySlot := 0, otpLock := false, digest := [], settingsDigest := [], libraryDigest := [],
    deviceDigest := [] }

def KeySlot.empty : KeySlot := { state := 0, hash := [] }

def Trust.reset : Trust :=
  { phase := 0, resetKind := 1, fromB := false, image := Image.none, store := [], endpoints := [], mgmtFn := 0,
    peerType := 0, timers := [], flash0 := [], flash1 := [], flashOp := none, rollback := 0,
    slots := [(0, { state := 1, hash := Config.slot0Hash })], log := Config.factoryLog, armed := none, otpOp := none, calWaiting := false, report := none, signing := false, bootReport := [],
    lastReport := [] }

def Power.reset : Power :=
  { pwrgood := true, dom := [], queued := [], wokenAt := [], warmPending := none, pitchPending := [], pitchAsked := [], pitchLost := [],
    tripped := false, heartbeat := false, samples := 0, hotSamples := 0 }

/-- The device right after a power-on reset, before trailhead has read an image: every register at the value of its Reset
column, every memory empty, no command waiting (13 R438, 12 R415). -/
def State.reset : State :=
  { regs := [], sched := Sched.reset, fns := [], sqs := [], cqs := [], prog := Prog.reset, recov := Recov.reset, cores := [],
    mem := Mem.reset, mail := Mail.reset, intc := Intc.reset, lant := Lantern.reset, meter := Meter.reset,
    ports := Ports.reset, camp := Camp.reset, trust := Trust.reset, power := Power.reset, out := [], busData := 0,
    free := 0, pending := [] }

end Sys2Proof.Machine
end

