-- ==== Sys2Proof/Machine/Ops.lean ====
section
/-! DEFINITION. The named operations on registers, memories and records that the meanings share. -/
namespace Sys2Proof.Machine

/-! ## Bit fields and byte order (00 R8, R9) -/

/-- Width of a field. -/
def fwidth (f : Nat × Nat) : Nat := f.1 + 1 - f.2

/-- Field `f` = (high, low) of `v`. -/
def fget (v : Nat) (f : Nat × Nat) : Nat := v / 2 ^ f.2 % 2 ^ fwidth f

/-- `v` with field `f` holding the low bits of `x`. -/
def fset (v : Nat) (f : Nat × Nat) (x : Nat) : Nat :=
  v % 2 ^ f.2 + x % 2 ^ fwidth f * 2 ^ f.2 + v / 2 ^ (f.1 + 1) * 2 ^ (f.1 + 1)

/-- Bits hi:lo of a word, as a number. -/
def bitsOf {w : Nat} (v : BitVec w) (hi lo : Nat) : Nat := v.toNat / 2 ^ lo % 2 ^ (hi + 1 - lo)

def b2n (b : Bool) : Nat := if b then 1 else 0

/-- The `n` bytes of `v`, least significant first. -/
def leBytes : Nat → Nat → List Byte
  | 0, _ => []
  | n + 1, v => BitVec.ofNat 8 v :: leBytes n (v / 256)

/-- The number whose bytes are given, least significant first. -/
def leNat : List Byte → Nat
  | [] => 0
  | b :: bs => b.toNat + 256 * leNat bs

/-- `n` bytes of a list from offset `o`, zero past its end. -/
def bytesAt (l : List Byte) (o n : Nat) : List Byte := ((l.drop o).take n) ++ List.replicate (n - ((l.drop o).take n).length) 0#8

/-- The little-endian number of `n` bytes at offset `o`. -/
def leAt (l : List Byte) (o n : Nat) : Nat := leNat ((l.drop o).take n)

/-- Replace the bytes of `l` from `o` on by `bs`. -/
def splice (l : List Byte) (o : Nat) (bs : List Byte) : List Byte := l.take o ++ bs ++ l.drop (o + bs.length)

/-! ## The register file (00 R10-R13) -/

/-- ISQ_CTRL, ISQ_STATUS, ISQ_PC and ISQ_ECC of the ranger core (06, Management registers). -/
def R.RANGER_CTRL : RegD := ⟨.mgmt, 0x1000, 0, 1, 0, 1, 32, 0, [⟨31, 3, .ro⟩, ⟨2, 0, .w1s⟩]⟩
def R.RANGER_STATUS : RegD := ⟨.mgmt, 0x1004, 0, 1, 0, 1, 32, 0, [⟨31, 0, .ro⟩]⟩
def R.RANGER_PC : RegD := ⟨.mgmt, 0x1008, 0, 1, 0, 1, 32, 0, [⟨31, 0, .ro⟩]⟩
def R.RANGER_ECC : RegD := ⟨.mgmt, 0x1010, 0, 1, 0, 1, 64, 0, [⟨63, 48, .rc⟩, ⟨47, 32, .rc⟩, ⟨31, 16, .rc⟩, ⟨15, 0, .rc⟩]⟩

/-- Key of a register in the file: page, page number and offset. -/
def pageKey (pg : Page) (p off : Nat) : Nat :=
  match pg with
  | .mgmt => off
  | .core => 2 ^ 32 + p * 2 ^ 16 + off
  | .agent => 2 ^ 33 + p * 2 ^ 16 + off
  | .fn => 2 ^ 34 + p * 2 ^ 16 + off

def regKey (d : RegD) (i j p : Nat) : Nat := pageKey d.page p (d.off + i * d.s1 + j * d.s2)

/-- Reset value of a register: the Reset column, and the values that differ by index or by part. -/
def resetVal (d : RegD) (i j : Nat) : W64 :=
  if d.page = .mgmt ∧ d.off = R.IC_GROUP.off ∧ i = 0 then 0x100000000#64
  else if d.page = .mgmt ∧ d.off = R.CAL_FACTORY.off then Config.calFactory i
  else if d.page = .mgmt ∧ d.off = R.SP_BANK_REPAIR.off then
    BitVec.ofNat 64 (fset 0 F.SP_BANK_REPAIR_HARD (Config.hardRepairs (i * 32 + j)))
  else BitVec.ofNat 64 d.reset

/-- Value of a register. -/
def rg (s : State) (d : RegD) (i : Nat := 0) (j : Nat := 0) (p : Nat := 0) : Nat :=
  (Tbl.get (resetVal d i j) s.regs (regKey d i j p)).toNat

/-- Give a register a value. -/
def wr (s : State) (d : RegD) (v : Nat) (i : Nat := 0) (j : Nat := 0) (p : Nat := 0) : State :=
  { s with regs := Tbl.set (resetVal d i j) s.regs (regKey d i j p) (BitVec.ofNat 64 (v % 2 ^ d.width)) }

/-- Value of a field. -/
def rf (s : State) (d : RegD) (f : Nat × Nat) (i : Nat := 0) (j : Nat := 0) (p : Nat := 0) : Nat := fget (rg s d i j p) f

/-- Give a field a value. -/
def wf (s : State) (d : RegD) (f : Nat × Nat) (x : Nat) (i : Nat := 0) (j : Nat := 0) (p : Nat := 0) : State :=
  wr s d (fset (rg s d i j p) f x) i j p

/-- A one-bit field. -/
def rb (s : State) (d : RegD) (f : Nat × Nat) (i : Nat := 0) (j : Nat := 0) (p : Nat := 0) : Bool := rf s d f i j p == 1

/-- Add `n` to a field that saturates at all ones. -/
def satAdd (s : State) (d : RegD) (f : Nat × Nat) (n : Nat) (i : Nat := 0) (j : Nat := 0) : State :=
  wf s d f (min (rf s d f i j + n) (2 ^ fwidth f - 1)) i j

/-! ## What a code finds (07 R251, R263, R264) -/

/-- Errors that a code cannot correct are uncorrectable; `cap` says of which symbols or devices it corrects them all. -/
def judged (cap : List Nat → Bool) : EccResult → EccResult
  | .corrected ds => if cap ds then .corrected ds else .uncorrectable
  | r => r

/-- The on-die code corrects any two of a word's 36 symbols (07 R251). -/
def dieCap (ds : List Nat) : Bool := decide (ds.eraseDups.length ≤ 2) && ds.all fun d => decide (d < 36)

/-- The bits of a register that have access code `a`. -/
def accMask (d : RegD) (a : Acc) : Nat :=
  d.flds.foldl (fun m f => if f.acc = a then m + (2 ^ (f.hi + 1) - 2 ^ f.lo) else m) 0

/-- Fields packed from the least significant bit up, each as (width, value). -/
def pack : List (Nat × Nat) → Nat
  | [] => 0
  | (w, v) :: r => v % 2 ^ w + 2 ^ w * pack r

/-- Software writes the RW fields of a register; other bits stay (00 R13). -/
def swRw (s : State) (d : RegD) (v : Nat) (i : Nat := 0) (j : Nat := 0) (p : Nat := 0) : State :=
  let m := accMask d .rw
  wr s d ((v &&& m) ||| (rg s d i j p &&& (2 ^ 64 - 1 - m))) i j p

/-! ## Records of the outside, free values -/

def emit (s : State) (o : Out) : State := { s with out := s.out ++ [o] }

/-- The next free word, and the state that has used it. -/
def takeFree (s : State) : W64 × State := (Config.freeWord s.free, { s with free := s.free + 1 })

/-! ## Named records -/

def State.core (s : State) (k : Nat) : Core := Tbl.get Core.reset s.cores k
def State.setCore (s : State) (k : Nat) (c : Core) : State := { s with cores := Tbl.set Core.reset s.cores k c }
def State.fn (s : State) (f : Nat) : Fn := Tbl.get Fn.reset s.fns f
def State.setFn (s : State) (f : Nat) (x : Fn) : State := { s with fns := Tbl.set Fn.reset s.fns f x }

/-- Key of a queue slot: function and slot. -/
def qkey (fn slot : Nat) : Nat := fn * 256 + slot

def State.sq (s : State) (fn slot : Nat) : SQ := Tbl.get SQ.reset s.sqs (qkey fn slot)
def State.setSq (s : State) (fn slot : Nat) (q : SQ) : State := { s with sqs := Tbl.set SQ.reset s.sqs (qkey fn slot) q }
def State.cq (s : State) (fn slot : Nat) : CQ := Tbl.get CQ.reset s.cqs (qkey fn slot)
def State.setCq (s : State) (fn slot : Nat) (q : CQ) : State := { s with cqs := Tbl.set CQ.reset s.cqs (qkey fn slot) q }
def State.ctx (s : State) (c : Nat) : Ctx := Tbl.get Ctx.reset s.prog.ctxs c
def State.setCtx (s : State) (c : Nat) (x : Ctx) : State :=
  { s with prog := { s.prog with ctxs := Tbl.set Ctx.reset s.prog.ctxs c x } }

/-- Identity of a function (03 R79, R80): valid, tenant, master. -/
def Fn.identValid (f : Fn) : Bool := f.ident.getLsbD 31
def Fn.tenant (f : Fn) : BitVec 12 := f.ident.extractLsb' 16 12
def Fn.master (f : Fn) : BitVec 14 := f.ident.extractLsb' 0 14

/-! ## Bytes of memory -/

/-- `n` bytes of a byte table from key `a`; an unlisted byte reads `d`. -/
def tread (d : Byte) (t : Tbl Byte) (a : Nat) : Nat → List Byte
  | 0 => []
  | n + 1 => Tbl.get d t a :: tread d t (a + 1) n

/-- Store bytes from key `a` on. -/
def twrite (d : Byte) (t : Tbl Byte) (a : Nat) : List Byte → Tbl Byte
  | [] => t
  | b :: bs => twrite d (Tbl.set d t a b) (a + 1) bs

/-- Scratchpad bytes of a pitch (07 R245). -/
def spKey (p off : Nat) : Nat := p * 2 ^ 25 + off
def spRead (s : State) (p off n : Nat) : List Byte := tread 0 s.mem.sp (spKey p off) n
def spWrite (s : State) (p off : Nat) (bs : List Byte) : State :=
  { s with mem := { s.mem with sp := twrite 0 s.mem.sp (spKey p off) bs } }

/-- DDR5 bytes (07 R261). -/
def ddrRead (s : State) (a n : Nat) : List Byte := tread 0 s.mem.ddr a n
def ddrWrite (s : State) (a : Nat) (bs : List Byte) : State :=
  { s with mem := { s.mem with ddr := twrite 0 s.mem.ddr a bs } }

/-! ## Time (09 R305, R308) -/

/-- Core time at the present cycle in units of 2^-16 ns, rounded down (DESIGN CHOICE, log entry 6). -/
def coreTime (s : State) : Nat :=
  (s.lant.m1 * 3000 + (3000 + s.sched.cycle) * s.lant.delta) * 65536 / 30000

/-- Core time in whole nanoseconds, in seconds, and the nanoseconds of its second. -/
def coreNs (s : State) : Nat := coreTime s / 65536
def coreSec (s : State) : Nat := coreNs s / 1000000000
def coreSubNs (s : State) : Nat := coreNs s % 1000000000

/-- The present core cycle as one number. -/
def absCycle (s : State) : Nat := s.sched.frame.toNat * 3000 + s.sched.cycle

/-! ## Power domains (13 R432) -/

/-- State of a power domain: 0 ON, 1 ENTERING, 2 BIVOUAC, 3 EXITING, 4 OFF, 5 LOST. -/
def domState (s : State) (d : Nat) : Nat := fget (Tbl.get 0 s.power.dom d).toNat F.PWR_DOMAIN_STATE
/-- Field of PWR_DOMAIN[d]. -/
def domField (s : State) (f : Nat × Nat) (d : Nat) : Nat := fget (Tbl.get 0 s.power.dom d).toNat f
def setDom (s : State) (f : Nat × Nat) (x d : Nat) : State :=
  { s with power := { s.power with
      dom := Tbl.set 0 s.power.dom d (BitVec.ofNat 32 (fset (Tbl.get 0 s.power.dom d).toNat f x)) } }

/-- Powered, retention included (13 R434). -/
def domPowered (s : State) (d : Nat) : Bool := decide (domState s d < 4)

/-- Leave bivouac, as a write of REQ = 0 does (13 R434-R436): at once from BIVOUAC, when entry ends from ENTERING. -/
def startExit (s : State) (d : Nat) : State :=
  let s1 := setDom s F.PWR_DOMAIN_REQ 0 d
  if domState s d = 2 then setDom s1 F.PWR_DOMAIN_STATE 3 d
  else if domState s d = 1 then { s1 with power := { s1.power with queued := Tbl.set 0 s1.power.queued d 1 } }
  else if domState s d = 3 then { s1 with power := { s1.power with queued := Tbl.set 0 s1.power.queued d 0 } }
  else s1

/-- Something that needs a domain in bivouac starts its exit, and wins over a request of bivouac in the same cycle (13 R435, R436). -/
def wakeDomain (s : State) (d : Nat) : State :=
  if domState s d = 1 ∨ domState s d = 2 then
    let t := startExit s d
    { t with power := { t.power with wokenAt := Tbl.set 0 t.power.wokenAt d (absCycle s + 1) } }
  else s

def domOn (s : State) (d : Nat) : Bool := domState s d == 0

/-- Power domain of a core. -/
def coreDomain (k : Nat) : Nat := if k < 32 then k / 4 else 48

/-- The ranger core, which handles the management function's registers, has not been lost (01 R15, R22). -/
def mgmtAnswers (s : State) : Bool := domState s 48 != 5

/-- The device runs an image (12 R415). -/
def running (s : State) : Bool := s.trust.phase == 1

/-- A step over a list of indices. -/
def overList {α : Type} (l : List α) (s : State) (f : State → α → State) : State := l.foldl f s

end Sys2Proof.Machine
end

