-- ==== Sys2Proof/Machine/Guyline.lean ====
section
/-! DEFINITION. Guylines: the dual-clock queues between the core domain and the others, by guyline `g` and direction `d` (0 outward, 1 inward)
(01 R24, 10 R367-R371). Times are in thousandths of a core cycle, since no two domains share a clock. -/
namespace Sys2Proof.Machine

/-- Entries of a guyline (10 R370). -/
def guyDepth (g d : Nat) : Nat := if g < 25 then (if d = 0 then 32 else 64) else if g < 37 then 32 else 16

/-- The quad of a data guyline works for Ethernet. -/
def guyMac (s : State) (g : Nat) : Bool := decide (g < 24) && rf s R.QUAD_CFG F.QUAD_CFG_PERSONALITY g == 3

/-- Clock period of the domain at the other end (01 R23). -/
def guyClock (s : State) (g : Nat) : Nat :=
  if g < 24 then (if guyMac s g then 1920 else 3000) else if g = 24 then 3429 else if g < 37 then 1875
  else if g = 37 then 2400 else if g = 38 then 15000 else 30000

/-- Period of the synchronizing clock there (10 R370). -/
def guySync (s : State) (g : Nat) : Nat :=
  if g < 24 then (if guyMac s g then 960 else 1500) else if g = 24 then 1714 else if g < 37 then 938
  else if g = 37 then 2400 else if g = 38 then 1875 else 30000

/-- Worst crossing of a pointer: its register, and four periods of the synchronizing clock; outward the table's, inward the same with the
core's clock (10 R370; DESIGN CHOICE, log entry 82). -/
def guyCross (s : State) (g d : Nat) : Nat := if d = 0 then 1000 + 4 * guySync s g else guyClock s g + 4000

/-- Time that the reader takes for an entry: outward the drain rate of the port, or one cycle of the domain; inward a core cycle
(10 R368, R369). -/
def guyPace (s : State) (g d : Nat) : Nat := if d = 1 then 1000 else if g < 24 then (if guyMac s g then 3840 else 6000) else guyClock s g

def State.guy (s : State) (g d : Nat) : Guy := Tbl.get Guy.reset s.ports.guy (2 * g + d)

/-- Occupancy that the writer sees at a time: its write pointer less the read pointer as it has crossed (10 R368). -/
def guyOcc (s : State) (g d t : Nat) : Nat := (s.guy g d).words.countP fun w => decide (t < w.2.2)

/-- FULL, seen by the writer (10 R368). -/
def guyFull (s : State) (g d t : Nat) : Bool := decide (guyDepth g d ≤ guyOcc s g d t)

/-- EMPTY, seen by the reader: every word whose write pointer has crossed has been read (10 R368). -/
def guyEmpty (s : State) (g d t : Nat) : Bool := !(s.guy g d).words.any fun w => decide (w.1 ≤ t ∧ t < w.2.1)

/-- The read pointer, modulo twice the depth (10 R367). -/
def guyRead (s : State) (g d t : Nat) : Nat :=
  ((s.guy g d).wr + 2 * guyDepth g d - (s.guy g d).words.countP fun w => decide (t < w.2.1)) % (2 * guyDepth g d)

/-- When a writer at time `t` can write: at once, or when the read pointer that makes room has crossed (10 R368). -/
def guyRoom (s : State) (g d t : Nat) : Nat :=
  let ws := (s.guy g d).words.filter fun w => decide (t < w.2.2)
  if ws.length < guyDepth g d then t else (ws.getD (ws.length - guyDepth g d) (0, 0, t)).2.2

/-- Write one entry at time `t`, not while FULL: when the reader can read it, when it does, and when the writer sees that (10 R368-R370).
HIGH_WATER holds the highest occupancy that the writer saw. -/
def guyPush (s : State) (g d t0 : Nat) : State :=
  let t := guyRoom s g d t0
  let q := s.guy g d
  let there := t + guyCross s g d
  let read := max there q.next
  let ws := (q.words.filter fun w => decide (t < w.2.2)) ++ [(there, read, read + guyCross s g (1 - d))]
  let x : Guy := { wr := (q.wr + 1) % (2 * guyDepth g d), words := ws, next := read + guyPace s g d }
  let s1 := { s with ports := { s.ports with guy := Tbl.set Guy.reset s.ports.guy (2 * g + d) x } }
  wf s1 R.GL_STATUS F.GL_STATUS_HIGH_WATER (max (rf s R.GL_STATUS F.GL_STATUS_HIGH_WATER g d) ws.length) g d

/-- A word crosses a guyline in the present cycle (10 R368), and its reader counts what its check finds (R371). -/
def guyWord (s : State) (g d : Nat) (res : EccResult) : State :=
  let s1 := guyPush s g d (1000 * absCycle s)
  match judged dieCap res with
  | .clean | .undetected _ => s1
  | .corrected _ => satAdd s1 R.GL_STATUS F.GL_STATUS_CORR 1 g d
  | .uncorrectable => wf (satAdd s1 R.GL_STATUS F.GL_STATUS_UNCORR 1 g d) R.PORT_FAULT F.PORT_FAULT_GL_UNCORR 1

/-- Words without an error cross (01 R24). -/
def guyWords (s : State) (g d n : Nat) : State := (List.range n).foldl (fun u _ => guyWord u g d .clean) s

/-- The quad carries the port: its PCIe port, or one of its MACs, which take consecutive numbers (10 R353). -/
def quadHas (s : State) (q port : Nat) : Bool :=
  let k := rf s R.QUAD_CFG F.QUAD_CFG_PERSONALITY q
  let mode := rf s R.QUAD_CFG F.QUAD_CFG_ETH_MODE q
  let first := rf s R.QUAD_CFG F.QUAD_CFG_PORT q
  if k = 3 then decide (first ≤ port ∧ port < first + if mode = 0 then 4 else if mode = 1 then 2 else 1)
  else (k == 1 || k == 2) && port == first

/-- The guylines of a port: those of its quads, or the field ports' (10 R369, R370). -/
def guysOfPort (s : State) (port : Nat) : List Nat := if 128 ≤ port then [38] else (List.range 24).filter fun q => quadHas s q port

/-- The guyline of a port's next transfer: consecutive ones go over its quads in order (10 R369), which their write pointers count. -/
def guyOfPort (s : State) (port d : Nat) : Option Nat :=
  let gs := guysOfPort s port
  gs[(gs.foldl (fun n g => n + (s.guy g d).wr) 0) % gs.length]?

/-- A word from or to a port crosses a guyline of the port. -/
def guyPort (s : State) (port d : Nat) : State := match guyOfPort s port d with | some g => guyWord s g d .clean | none => s

end Sys2Proof.Machine
end

