-- ==== Sys2Proof/Machine/Intc.lean ====
section
/-! DEFINITION. The interrupt controller, MSI-X messages, and the edges that a change of the device's state raises (08 R291-R302,
01 R28, 03 R109-R110). -/
namespace Sys2Proof.Machine

/-! ## Sources and edges -/

/-- Reserved sources (08 R291). -/
def srcReserved (n : Nat) : Bool :=
  if n < 128 then decide (4 < n % 16)
  else decide ((193 ≤ n ∧ n ≤ 255) ∨ (269 ≤ n ∧ n ≤ 271) ∨ (312 ≤ n ∧ n ≤ 319) ∨ (353 ≤ n ∧ n ≤ 383) ∨
    (608 ≤ n ∧ n ≤ 1023) ∨ 2048 ≤ n)

def State.src (s : State) (n : Nat) : Src := Tbl.get Src.reset s.intc.src n
def State.setSrc (s : State) (n : Nat) (x : Src) : State :=
  { s with intc := { s.intc with src := Tbl.set Src.reset s.intc.src n x } }

def srcCfg (s : State) (f : Nat × Nat) (n : Nat) : Nat := rf s R.IC_SRC_CFG f n

/-- An edge on source `n` (08 R292): latched if enabled; COUNT saturates at 255. -/
def raise (s : State) (n : Nat) : State :=
  if srcCfg s F.IC_SRC_CFG_ENABLE n = 0 ∨ srcReserved n then s
  else
    let x := s.src n
    s.setSrc n { x with pending := true, count := min (x.count + 1) 255 }

/-! ## Priority stacks -/

def State.stack (s : State) (k : Nat) : List (Nat × Nat × Bool) := Tbl.get [] s.intc.stack k
def State.setStack (s : State) (k : Nat) (l : List (Nat × Nat × Bool)) : State :=
  { s with intc := { s.intc with stack := Tbl.set [] s.intc.stack k l } }

/-- Current interrupt priority: that of the top normal entry (08, Claim and completion). -/
def curPrio (s : State) (k : Nat) : Nat :=
  match (s.stack k).find? (fun e => !e.2.2) with
  | some e => e.2.1
  | none => 0

def fastActive (s : State) (k : Nat) : Bool := (s.stack k).any fun e => e.2.2

/-- A fast entry is on top: no normal request is taken. -/
def fastOnTop (s : State) (k : Nat) : Bool :=
  match s.stack k with
  | e :: _ => e.2.2
  | [] => false

/-- Asleep for routing (08 R295): in SLEEP or a waiting CWAIT. -/
def coreAsleep (c : Core) : Bool := c.sleeping || c.cwaiting

/-! ## Presentation (08 R293-R295) -/

def eligible (s : State) (k : Nat) : Bool := domPowered s (coreDomain k) && (s.core k).halt == 0

/-- Order of an awake core in the choice of R295: its priority (16 with a fast source active), then its number. -/
def routeRank (s : State) (k : Nat) : Nat := (if fastActive s k then 16 else curPrio s k) * 64 + k

/-- The least-ranked of a list of cores. -/
def leastBy (r : Nat → Nat) : List Nat → Option Nat
  | [] => none
  | k :: ks =>
    match leastBy r ks with
    | none => some k
    | some m => if r k ≤ r m then some k else some m

/-- Core that a device-wide source routed through group `g` goes to (08 R295). -/
def routeGroup (s : State) (g : Nat) : Option Nat :=
  let mask := rf s R.IC_GROUP F.IC_GROUP_CORES g
  let el := (List.range 33).filter fun k => mask.testBit k && eligible s k
  let awake := el.filter fun k => !coreAsleep (s.core k)
  if awake.isEmpty then el.head? else leastBy (routeRank s) awake

/-- Core to which a source is presented at the end of the present cycle, if any (08 R293). -/
def presentedTo (s : State) (n : Nat) : Option Nat :=
  let x := s.src n
  if srcReserved n ∨ x.pending = false ∨ x.active = true ∨ srcCfg s F.IC_SRC_CFG_ENABLE n = 0 ∨
      srcCfg s F.IC_SRC_CFG_MASK n = 1 then none
  else
    let t := srcCfg s F.IC_SRC_CFG_TARGET n
    if n < 128 then
      let k := n / 16 * 4 + t % 4
      if eligible s k then some k else none
    else routeGroup s t

def isFastSrc (s : State) (n : Nat) : Bool := srcCfg s F.IC_SRC_CFG_FAST n == 1

/-- Priority of a normal source; 0 acts as 1 (08 IC_SRC_CFG). -/
def srcPrio (s : State) (n : Nat) : Nat := max 1 (srcCfg s F.IC_SRC_CFG_PRIORITY n)

/-- Sources presented to core `k`, in rising order. -/
def presentedAt (s : State) (k : Nat) : List Nat :=
  (s.intc.src.filter fun e => presentedTo s e.1 == some k).map (·.1)

/-- The normal source of highest priority presented to core `k`, lowest number first (08 R296). -/
def bestNormal (s : State) (k : Nat) : Option Nat :=
  leastBy (fun n => (16 - srcPrio s n) * 4096 + n) ((presentedAt s k).filter fun n => !isFastSrc s n)

/-- The lowest-numbered fast source presented to core `k` (08 R299). -/
def bestFast (s : State) (k : Nat) : Option Nat := ((presentedAt s k).filter fun n => isFastSrc s n).head?

/-- Requests of a core at its next boundary (08 R293): the priority of its normal request, if any, and whether it has a fast
request. -/
def normalRequest (s : State) (k : Nat) : Option Nat := (bestNormal s k).map (srcPrio s)
def fastRequest (s : State) (k : Nat) : Bool := (bestFast s k).isSome

/-! ## MSI-X messages (03 R109, R110) -/

def Fn.entry (f : Fn) (v : Nat) : BitVec 128 := Tbl.get msixReset f.msix v

/-- The endpoint port of a function (03 R79). -/
def fnPort (fn : Nat) : Nat := fn / 256

def State.port (s : State) (p : Nat) : Port := Tbl.get Port.reset s.ports.ports p
def State.setPort (s : State) (p : Nat) (x : Port) : State :=
  { s with ports := { s.ports with ports := Tbl.set Port.reset s.ports.ports p x } }

def setPba (s : State) (fn v : Nat) : State :=
  let f := s.fn fn
  s.setFn fn { f with pba := f.pba ||| (1#256 <<< v) }

/-- The message itself leaves the device: it is no longer pending or owed. -/
def emitMsix (s : State) (fn v : Nat) : State :=
  let f := s.fn fn
  let e := f.entry v
  emit (s.setFn fn { f with pba := f.pba &&& ~~~(1#256 <<< v), owed := f.owed &&& ~~~(1#256 <<< v) })
    (.msix fn v (e.extractLsb' 0 64) (e.extractLsb' 64 32))

/-- The vector or its function is masked (PCIe). -/
def vecMasked (s : State) (fn v : Nat) : Bool := (s.fn fn).maskAll || ((s.fn fn).entry v).getLsbD 96

/-- The function may not have a message of the vector sent now: it is masked, in D3hot, or its Bus Master Enable is 0. -/
def vecHeld (s : State) (fn v : Nat) : Bool := vecMasked s fn v || (s.fn fn).d3 || !(s.fn fn).bme

/-- Send the message of a vector: a held one sets its pending bit; a link in L1 is first taken back to L0 (03 R109, R110). -/
def routeMsix (s : State) (fn v : Nat) : State :=
  if vecHeld s fn v then setPba s fn v
  else
    let p := s.port (fnPort fn)
    if p.link = 2 then emit (s.setPort (fnPort fn) { p with link := 3, due := p.due ++ [(fn, v)] }) (.l0Exit (fnPort fn))
    else if p.link = 3 then
      (if p.due.contains (fn, v) then s else s.setPort (fnPort fn) { p with due := p.due ++ [(fn, v)] })
    else emitMsix s fn v

/-- Request a vector of a function for something else than a CQ: until its message leaves, it is owed (08 R284, 01 R28). -/
def sendMsix (s : State) (fn v : Nat) : State :=
  let f := s.fn fn
  routeMsix (s.setFn fn { f with owed := f.owed ||| (1#256 <<< v) }) fn v

/-! ## The fault summary (01 R27, R28) -/

/-- Some status bit `n-1:0` of a fault register is set and its mask bit, from `m` on, is clear. -/
def unmasked (v n m : Nat) : Bool := (v % 2 ^ n) &&& (2 ^ n - 1 - v / 2 ^ m % 2 ^ n) != 0

/-- LANT_FAULT: bits 2:0 follow the lantern, bit 3 and the mask are held (09 R348). -/
def lantFault (s : State) : Nat :=
  rg s R.LANT_FAULT / 8 * 8 + b2n (s.lant.state == 3) + 2 * b2n (!s.lant.coreLocked) + 4 * b2n s.lant.refLost

/-- A core is halted with cause 2 to 4 (06 ISQ_STATUS.HALTED). -/
def coreHalted (s : State) (k : Nat) : Bool := decide (2 ≤ (s.core k).halt)

/-- Bit `n` of GLOBAL_FAULT_SUMMARY. -/
def faultBit (s : State) (n : Nat) : Bool :=
  if n = 12 then coreHalted s 32
  else if n = 11 then unmasked (rg s R.PWR_FAULT / 4) 2 16
  else if n = 10 then unmasked (rg s R.PWR_FAULT) 2 16
  else if n = 9 then unmasked (rg s R.TH_FAULT) 4 16
  else if n = 8 then unmasked (rg s R.CAMP_FAULT) 6 16
  else if n = 7 then unmasked (lantFault s) 3 16
  else if n = 6 then unmasked (rg s R.PORT_FAULT) 5 16
  else if n = 5 then
    (List.range 8).any (fun p => unmasked (rg s R.PITCH_FAULT p) 3 16) || (List.range 32).any (coreHalted s)
  else if n = 4 then
    (List.range 8).any (fun p => unmasked (rg s R.SP_FAULT p) 2 16) ||
      (List.range 12).any (fun c => unmasked (rg s R.DDR5_FAULT c) 2 16) ||
      rb s R.RECOV_STATUS F.RECOV_STATUS_LOST || rb s R.RECOV_STATUS F.RECOV_STATUS_SINGLE_COPY
  else if n = 3 then rb s R.SCHED_FAULT F.SCHED_FAULT_CONTRACT
  else if n = 2 then unmasked (rg s R.METER_FAULT) 5 16
  else if n = 1 then rb s R.GLOBAL_FAULT_SUMMARY F.GLOBAL_FAULT_SUMMARY_UNMAPPED
  else if n = 0 then rb s R.GLOBAL_FAULT_SUMMARY F.GLOBAL_FAULT_SUMMARY_BAD_ACCESS
  else false

/-- GLOBAL_FAULT_SUMMARY as it reads. -/
def faultSummary (s : State) : Nat := ((List.range 13).map fun n => b2n (faultBit s n) * 2 ^ n).foldl (· + ·) 0

/-! ## Edges of a state change -/

/-- Minutes in the present holdover (09 LANT_STATUS.HOLD_MIN), and TIME_VALID (09 R315): the lantern is LOCKED, or in HOLDOVER
without REF_LOST whose time has not reached HOLD_VALID, and no reset is in progress. -/
def holdMin (s : State) : Nat :=
  if s.lant.state = 3 then min 0xFFFF ((s.lant.time.units - s.lant.holdStart) / (60000000000 * 2 ^ 40)) else 0
def timeValid (s : State) : Bool :=
  !s.lant.inReset && (s.lant.state == 2 ||
    (s.lant.state == 3 && !s.lant.refLost && !s.lant.expired))

/-- Sources that the change from `s` to `t` raises: summary bits (01 R28), core halts (06 R229), lantern (09 R347: 512, 513,
517, 518, 519), meter (531) and camp events (11: 576, 577, 578, 580, 584). -/
def edgesOf (s t : State) : List Nat :=
  ((List.range 13).filter fun n => !faultBit s n && faultBit t n).map (256 + ·) ++
  ((List.range 32).filter fun k => (s.core k).halt == 0 && (t.core k).halt != 0).map (272 + ·) ++
  (if s.lant.state = t.lant.state then [] else [512]) ++
  (if timeValid s = timeValid t then [] else [513]) ++
  (if s.lant.coreLocked = t.lant.coreLocked then [] else [517]) ++
  (if s.lant.selected = t.lant.selected then [] else [518]) ++
  (if t.lant.refLost && !s.lant.refLost then [519] else []) ++
  (if (rg t R.METER_FAULT % 32) &&& (31 - rg s R.METER_FAULT % 32) = 0 then [] else [531]) ++
  (if t.camp.up && !s.camp.up then [576] else []) ++
  (if s.camp.up && !t.camp.up then [577] else []) ++
  (if s.camp.state = t.camp.state then [] else [578]) ++
  (if s.camp.arbIn = t.camp.arbIn then [] else [580]) ++
  (if t.camp.state = 3 ∧ s.camp.state ≠ 3 then [584] else [])

/-- Summary bits that rise and request the fault MSI-X vector (01 R28). -/
def faultMessages (s t : State) : List Nat :=
  (List.range 13).filter fun n => !faultBit s n && faultBit t n && (rg t R.GLOBAL_FAULT_ENABLE).testBit n

/-- A source presented to the ranger core in bivouac starts its exit (13 R435). -/
def wakeRanger (s : State) : State :=
  if (presentedAt s 32).isEmpty then s else wakeDomain s 48

/-- End of a command that took the device from `s` to `t`: the edges of the change are latched and the fault message is
requested. Nothing but the interrupt controller, MSI-X state, the power request of the ranger core and the record of what was
sent changes. -/
def commit (s t : State) : State :=
  wakeRanger ((faultMessages s t).foldl (fun u _ => sendMsix u u.trust.mgmtFn Config.faultVector) ((edgesOf s t).foldl raise t))

/-- The answer of a meaning: the device's next state. Only a device that runs an image does what the command says; until trailhead
ends, in the no-image state and in reset it has no effect (12 R416, R419, 13 R438). -/
def done (s t : State) : Host.Outcome State Fault Refusal := .next (if running s then commit s t else s)

/-- A write to a register of the management function: no effect while nothing answers there (01 R22). -/
def mgmtOnly (s t : State) : State := if mgmtAnswers s then t else s

def doneMgmt (s t : State) : Host.Outcome State Fault Refusal := done s (mgmtOnly s t)

/-- A write to a mailbox register of agent `a`; agent 33 is the management function. -/
def agentOnly (s : State) (a : Nat) (t : State) : State := if a = 33 then mgmtOnly s t else t

/-- The same for a command that also acts in the no-image state: trailhead, power and function configuration (12 R419). -/
def doneReg (s t : State) : Host.Outcome State Fault Refusal :=
  .next (if s.trust.phase = 1 ∨ s.trust.phase = 2 then commit s t else s)

/-- The same for what goes on while trailhead runs as well: links and the lantern (12 R416, 09 R307). -/
def doneUp (s t : State) : Host.Outcome State Fault Refusal :=
  .next (if s.trust.phase = 1 ∨ s.trust.phase = 2 ∨ s.trust.phase = 4 then commit s t else s)

/-- The same for the lantern, which goes on while the ridgepole and central domain is lost; nothing of that domain notices (09 R307). -/
def doneLant (s t : State) : Host.Outcome State Fault Refusal :=
  .next (if s.trust.phase = 0 ∧ domState s 45 = 5 then t
    else if s.trust.phase = 1 ∨ s.trust.phase = 2 ∨ s.trust.phase = 4 then commit s t else s)

/-! ## The controller's commands -/

/-- A write of source `n` to IC_RAISE (08 R291, core page): an edge on 1024 to 2047, otherwise ignored. -/
def icRaiseS (v : Nat) (s : State) : State :=
  let n := v % 2 ^ 11
  if 1024 ≤ n then raise s n else s

/-- Value of IC_CLAIM for a claimed source. -/
def claimWord (n count : Nat) : W64 := BitVec.ofNat 64 (2 ^ 31 + count * 2 ^ 16 + n)

/-- Claim source `n` on core `k` (08 R296): the read returns it, PENDING and COUNT clear, ACTIVE on the core, pushed. -/
def claimS (s : State) (k n : Nat) (fast : Bool) : State :=
  let x := s.src n
  let s1 := s.setSrc n { x with pending := false, count := 0, active := true, core := k, lastClaim := x.count }
  { s1.setStack k ((n, (if fast then 0 else srcPrio s n), fast) :: s.stack k) with busData := claimWord n x.count }

/-- A read of IC_CLAIM by core `k` (08 R296). -/
def icClaimS (k : Nat) (s : State) : State :=
  match bestNormal s k with
  | some n => if curPrio s k < srcPrio s n then claimS s k n false else { s with busData := 0 }
  | none => { s with busData := 0 }

/-- A read of IC_FCLAIM by core `k` (08 R299). -/
def icFclaimS (k : Nat) (s : State) : State :=
  match bestFast s k with
  | some n => if fastActive s k then { s with busData := 0 } else claimS s k n true
  | none => { s with busData := 0 }

/-- A completion (08 R298): pops the top entry of its class, or is a stack-order fault. -/
def icCompleteS (k v : Nat) (fast : Bool) (s : State) : State :=
  let n := v % 2 ^ 11
  match s.stack k with
  | (m, _, f) :: rest =>
    if m = n ∧ f = fast then
      let x := s.src n
      (s.setSrc n { x with active := false, core := 0x3F }).setStack k rest
    else raise (wf s R.IC_STATUS F.IC_STATUS_STACK_FAULT 1 0 0 k) (320 + k)
  | [] => raise (wf s R.IC_STATUS F.IC_STATUS_STACK_FAULT 1 0 0 k) (320 + k)

/-- A reset of core `k` empties its stack; its ACTIVE sources become inactive and keep PENDING and COUNT (08 R301). -/
def icCoreReset (s : State) (k : Nat) : State :=
  { s with intc :=
    { src := (s.intc.src.map fun e =>
        if e.2.active ∧ e.2.core = k then (e.1, { e.2 with active := false, core := 0x3F }) else e).filter fun e => e.2 ≠ Src.reset
      stack := Tbl.del s.intc.stack k } }

/-- A write of IC_SRC_CFG[n] (08 R292): ENABLE = 0 clears PENDING and COUNT; reserved sources and bits do not change. -/
def icSrcCfgWrite (n v : Nat) (s : State) : State :=
  if srcReserved n then s
  else
    let keep := if n < 128 then 0xE0F00003 else 0xE0F00007
    let s1 := wr s R.IC_SRC_CFG (v &&& keep) n
    if v.testBit 31 then s1
    else s1.setSrc n { s1.src n with pending := false, count := 0 }

/-- A write of IC_SRC_STATE[n]: 1 to PENDING clears PENDING and COUNT (08 IC_SRC_STATE). -/
def icSrcStateWrite (n v : Nat) (s : State) : State :=
  if v.testBit 31 then s.setSrc n { s.src n with pending := false, count := 0 } else s

/-- IC_SRC_STATE[n] as it reads. -/
def icSrcStateRead (s : State) (n : Nat) : Nat :=
  let x := s.src n
  let core := if x.active then x.core else (presentedTo s n).getD 0x3F
  b2n x.pending * 2 ^ 31 + b2n x.active * 2 ^ 30 + core * 2 ^ 24 + x.lastClaim * 2 ^ 8 + x.count

/-- IC_CORE_STATE[k] as it reads. -/
def icCoreStateRead (s : State) (k : Nat) : Nat :=
  b2n (coreAsleep (s.core k)) * 2 ^ 31 + b2n ((s.core k).halt != 0) * 2 ^ 30 + b2n (fastActive s k) * 2 ^ 29 +
    (s.stack k).length * 2 ^ 16 + curPrio s k

/-- IC_STATUS of core `k` as it reads. -/
def icStatusRead (s : State) (k : Nat) : Nat :=
  (s.stack k).length * 2 ^ 8 + curPrio s k * 2 ^ 4 + b2n (fastActive s k) * 2 +
    rf s R.IC_STATUS F.IC_STATUS_STACK_FAULT 0 0 k

/-- IC_RAISE (08 R291). -/
def execIcRaise (v : W32) (s : State) : Host.Outcome State Fault Refusal := done s (icRaiseS v.toNat s)

/-- IC_CLAIM (08 R296). -/
def execIcClaim (core : Nat) (s : State) : Host.Outcome State Fault Refusal := done s (icClaimS core s)

/-- IC_FCLAIM (08 R299). -/
def execIcFclaim (core : Nat) (s : State) : Host.Outcome State Fault Refusal := done s (icFclaimS core s)

/-- IC_COMPLETE (08 R298). -/
def execIcComplete (core : Nat) (v : W32) (s : State) : Host.Outcome State Fault Refusal :=
  done s (icCompleteS core v.toNat false s)

/-- IC_FCOMPLETE (08 R298). -/
def execIcFcomplete (core : Nat) (v : W32) (s : State) : Host.Outcome State Fault Refusal :=
  done s (icCompleteS core v.toNat true s)

end Sys2Proof.Machine
end

