-- ==== Sys2Proof/Machine/Ploet.lean ====
section
/-! DEFINITION. Sending on the Ploet link (11 R382-R388). -/
namespace Sys2Proof.Machine

def State.withCamp (s : State) (c : Camp) : State := { s with camp := c }

/-- This device is a camp member, and its role (11 CAMP_CFG). -/
def campOn (s : State) : Bool := rb s R.CAMP_CFG F.CAMP_CFG_ENABLE
def campRole (s : State) : Nat := rf s R.CAMP_CFG F.CAMP_CFG_ROLE

/-- A FENCED device issues no access to the outside (11 R394). -/
def fenced (s : State) : Bool := s.camp.state == 6

/-- The camp waits for DURABLE: PAIRED or SILENT (11 R387, R389). -/
def campWaits (s : State) : Bool := s.camp.state == 3 || s.camp.state == 4

/-- A message: its header of 16 bytes, whose LEN counts units of 16 bytes, and its body (11 R383). -/
def Msg.bytes (m : Msg) : List Byte :=
  leBytes 16 (pack [(8, m.type), (8, 1 + (m.body.length + 15) / 16), (16, 0), (32, m.mseq), (64, m.arg.toNat)]) ++ m.body

/-- The content of a flit that is built now, of messages or idle, with HB or not; ACK holds the last flit accepted in order (11 R382). -/
def flitContent (s : State) (seq : Nat) (hb : Bool) (ms : List Msg) : List Byte :=
  let p := ms.flatMap Msg.bytes
  leBytes 16 (pack [(12, seq), (4, b2n !ms.isEmpty), (12, s.camp.rxSeq), (4, 0), (32, s.sched.frame.toNat), (8, s.camp.state), (8, b2n hb), (48, 0)]) ++
    p ++ List.replicate (208 - p.length) 0

/-- A flit crosses the Ploet guyline, 64 bytes to an entry (10 R367, R370). -/
def guyFlit (s : State) (d : Nat) : State := guyWords s 24 d 4

/-- A flit with these messages is built and kept for retry (11 R384). Sequence numbers have 12 bits. -/
def sendFlit (s : State) (ms : List Msg) : State :=
  let c := s.camp
  let content := flitContent s c.txSeq false ms
  let s1 := s.withCamp { c with
    txSeq := (c.txSeq + 1) % 4096, unacked := c.unacked ++ [(c.txSeq, ms)], built := Tbl.set [] c.built c.txSeq content }
  emit (emit (ms.foldl (fun t m => emit t (.ploetMsg m.type m.mseq m.arg m.body)) (guyFlit s1 0)) (.ploetContent content)) (.ploetFlit c.txSeq)

/-- Send a message, one to a flit (DESIGN CHOICE, log entry 7); it waits while the retry buffer holds 1,024 flits. -/
def sendMsg (s : State) (m : Msg) : State :=
  if s.camp.unacked.length < 1024 then sendFlit s [m]
  else s.withCamp { s.camp with txQueue := s.camp.txQueue ++ [m] }

/-- Messages that waited are sent as the buffer empties. -/
def drainTx (s : State) : State :=
  let n := 1024 - s.camp.unacked.length
  (s.camp.txQueue.take n).foldl (fun t m => sendFlit t [m]) (s.withCamp { s.camp with txQueue := s.camp.txQueue.drop n })

/-- Send a message of a type while the link is up; RECORD, RESYNC_START and RESYNC_END take the next MSEQ (11 R383, R388). -/
def campSend (s : State) (type : Nat) (arg : W64) (body : List Byte) : State :=
  if s.camp.up then
    if type = 1 ∨ type = 6 ∨ type = 7 then
      let q := (s.camp.mseq + 1) % 2 ^ 32
      sendMsg (s.withCamp { s.camp with mseq := q }) { type := type, mseq := q, arg := arg, body := body }
    else sendMsg s { type := type, mseq := 0, arg := arg, body := body }
  else s

/-- DURABLE covers message `m` (11 R386), modulo 2^32. -/
def msgDurable (s : State) (m : Nat) : Bool := decide ((s.camp.durable + 2 ^ 32 - m) % 2 ^ 32 < 2 ^ 31)

/-- What a gated record just written waits for (11 R387, R388): the MSEQ it was sent with while the camp waits; a number not
yet sent where the link is down; nothing otherwise. -/
def gateOf (s : State) : Option Nat :=
  if campWaits s then some (if s.camp.up then s.camp.mseq else (s.camp.mseq + 1) % 2 ^ 32) else none
def gateOpen (s : State) (g : Option Nat) : Bool :=
  match g with
  | none => true
  | some m => !campWaits s || msgDurable s m

end Sys2Proof.Machine
end

