-- ==== Sys2Proof/Machine/Mail.lean ====
section
/-! DEFINITION. Mailboxes: identities, posts, snapshots, emptying, returns and resets (08 R277-R290, R304, 11 R402). A mailbox is
named by its kind (true: tenant notice) and number. -/
namespace Sys2Proof.Machine

def State.mbox (s : State) (t : Bool) (n : Nat) : Mbox := Tbl.get Mbox.reset (if t then s.mail.ten else s.mail.ctl) n
def State.setMbox (s : State) (t : Bool) (n : Nat) (b : Mbox) : State :=
  if t then { s with mail := { s.mail with ten := Tbl.set Mbox.reset s.mail.ten n b } }
  else { s with mail := { s.mail with ctl := Tbl.set Mbox.reset s.mail.ctl n b } }

def mgmtFn (s : State) : Nat := s.trust.mgmtFn

/-! ## Identities (06 R204, 08 R279) -/

def coreInCall (c : Core) : Bool := c.csr.getLsbD 14

/-- Master identity, tenant tag and lease class a pitch core acts under (06 R204). -/
def coreIdent (s : State) (k : Nat) : BitVec 14 × BitVec 12 × Option Nat :=
  let c := s.core k
  let fw := (BitVec.ofNat 14 (rf s R.ISQ_FW_IDENT F.ISQ_FW_IDENT_MASTER (k / 4) (k % 4)),
    BitVec.ofNat 12 (rf s R.ISQ_FW_IDENT F.ISQ_FW_IDENT_TENANT (k / 4) (k % 4)), some 0)
  match c.current with
  | some call => if coreInCall c ∧ c.csr.getLsbD 13 = false ∧ curPrio s k = 0 then (call.master, call.tenant, call.lease) else fw
  | none => fw

/-- Identity of agent `a` (08 R279): a pitch core, the ranger core, the management function. -/
def agentIdent (s : State) (a : Nat) : BitVec 14 × BitVec 12 :=
  if a < 32 then ((coreIdent s a).1, (coreIdent s a).2.1)
  else if a = 32 then (BitVec.ofNat 14 (rf s R.CANOPY_CTRL F.CANOPY_CTRL_RANGER_MASTER), 0)
  else ((s.fn (mgmtFn s)).master, (s.fn (mgmtFn s)).tenant)

/-- Reset generation of an agent (08 R277). -/
def agentGen (s : State) (a : Nat) : Nat := rf s R.IC_AGENT_GEN F.IC_AGENT_GEN_GEN a

/-- Sender stamp (08 R279). -/
def stampOf (gen : Nat) (m : BitVec 14) (t : BitVec 12) : W32 := BitVec.ofNat 32 (gen * 2 ^ 26 + t.toNat * 2 ^ 14 + m.toNat)

def noticeOf (ptr : W64) (len stamp : W32) : BitVec 128 := stamp ++ len ++ ptr

/-! ## Signals (08 R284) -/

/-- A held message: function, vector, and what it tells of: 0 a tenant notice, 1 + n control mailbox n, 65 the return queue of the management
function. -/
def heldKey (fn v what : Nat) : Nat := fn * 2 ^ 16 + v * 2 ^ 8 + what

/-- Request a vector for a mailbox event; while the function may not write to memory the message is held, one for each mailbox (08 R284). -/
def mailVector (s : State) (fn v what : Nat) : State :=
  let f := s.fn fn
  if f.d3 ∨ f.bme = false then
    { s with mail := { s.mail with
        held := (s.mail.held.filter fun x => x / 2 ^ 16 ≠ fn ∨ x % 2 ^ 8 ≠ what) ++ [heldKey fn v what] } }
  else sendMsix s fn v

/-- MB_MGMT_CFG's vector, if enabled. -/
def mgmtVector (s : State) (what : Nat) : State :=
  if rb s R.MB_MGMT_CFG F.MB_MGMT_CFG_IEN then mailVector s (mgmtFn s) (rf s R.MB_MGMT_CFG F.MB_MGMT_CFG_VECTOR) what else s

/-- Functions that receive from tenant mailbox `t` (08 R281). -/
def tenantFns (s : State) (t : Nat) : List Nat :=
  (s.fns.filter fun e => e.2.present && e.2.identValid && e.2.tenant.toNat == t).map (·.1)

def bind (s : State) (f : Nat × Nat) (n : Nat) : Nat := rf s R.CMB_BIND f n

/-- A notice has arrived in a mailbox (08 R284). -/
def arrive (s : State) (t : Bool) (n : Nat) : State :=
  if t then
    (tenantFns s n).foldl (fun u fn =>
      if rb u R.FN_NOTICE_CFG F.FN_NOTICE_CFG_IEN 0 0 fn then mailVector u fn (rf u R.FN_NOTICE_CFG F.FN_NOTICE_CFG_VECTOR 0 0 fn) 0
      else u) s
  else if bind s F.CMB_BIND_RX_MGMT n = 1 then mgmtVector s (1 + n)
  else raise s (128 + n)

/-- What a held message tells of still stands: the mailbox is FULL, or the return queue holds entries. -/
def heldDue (s : State) (x : Nat) : Bool :=
  let what := x % 2 ^ 8
  if what = 0 then (s.mbox true (s.fn (x / 2 ^ 16)).tenant.toNat).full
  else if what = 65 then !(Tbl.get [] s.mail.ret 33).isEmpty
  else (s.mbox false (what - 1)).full

/-- A function may write to host memory again: each held message is sent if its mailbox is still FULL (08 R284). -/
def mailRelease (s : State) (fn : Nat) : State :=
  let (mine, rest) := s.mail.held.partition fun x => x / 2 ^ 16 == fn
  (mine.filter (heldDue s)).foldl (fun u x => sendMsix u fn (x / 2 ^ 8 % 2 ^ 8)) { s with mail := { s.mail with held := rest } }

/-! ## Posting (08 R280-R283) -/

/-- Control mailbox that this device sends twin notices through, and the one it receives them in (11 R402). -/
def twinTx (s : State) : Nat := if campRole s = 0 then 62 else 63
def twinRx (s : State) : Nat := if campRole s = 0 then 63 else 62
def isTwin (s : State) (n : Nat) : Bool := campOn s && (n == 62 || n == 63)

/-- The sender is permitted (08 R280, R281). -/
def postAllowed (s : State) (a : Nat) (t : Bool) (n : Nat) : Bool :=
  if t then
    if a < 32 ∧ coreInCall (s.core a) then
      match (s.core a).current with
      | some call => call.tenant.toNat == n
      | none => false
    else true
  else
    bind s F.CMB_BIND_VALID n == 1 && bind s F.CMB_BIND_SENDER n == (agentIdent s a).1.toNat &&
      !(isTwin s n && n == twinRx s)

/-- RESULT of a post (08 R282): 1 posted, 2 busy, 3 not permitted, 4 no such mailbox. -/
def postResult (s : State) (a : Nat) (t : Bool) (n : Nat) : Nat :=
  if !t ∧ 63 < n then 4
  else if postAllowed s a t n = false then 3
  else if (s.mbox t n).full ∨ (!t ∧ isTwin s n ∧ s.camp.up = false) then 2
  else 1

/-- Store a notice of agent `a` and signal the receiver; a twin notice goes to the partner (08 R282, 11 R402). -/
def postStore (s : State) (a : Nat) (t : Bool) (n : Nat) (notice : BitVec 128) : State :=
  let b := s.mbox t n
  let s1 := s.setMbox t n { full := true, serial := b.serial + 1, agent := a, notice := notice }
  if !t ∧ isTwin s n then campSend s1 4 (BitVec.ofNat 64 n) (leBytes 16 notice.toNat)
  else arrive s1 t n

/-- A post by a core or the management function through its MB_NOTICE registers (08 R282). -/
def mbPostS (a v : Nat) (s : State) : State :=
  let t := fget v F.MB_POST_TENANT == 1
  let n := fget v F.MB_POST_NUMBER
  let r := postResult s a t n
  let w := fun i => BitVec.ofNat 32 (rg s R.MB_NOTICE i 0 a)
  let (m, tn) := agentIdent s a
  let s1 := if r = 1 then postStore s a t n (noticeOf (w 1 ++ w 0) (w 2) (stampOf (agentGen s a) m tn)) else s
  wr s1 R.MB_RESULT r 0 0 a

/-- A NOTE or NOTIFY notice of a channel context of pitch `p` (04 R143): dropped on a full mailbox. -/
def noteS (s : State) (p : Nat) (t : BitVec 12) (m : BitVec 14) (ptr : W64) (len : W32) : State :=
  if (s.mbox true t.toNat).full then satAdd s R.PITCH_PROG_COUNTS F.PITCH_PROG_COUNTS_NOTES_DROPPED 1 p
  else postStore s (34 + p) true t.toNat (noticeOf ptr len (stampOf (agentGen s (34 + p)) m t))

/-! ## Returns (08 R286) -/

def retQueue (s : State) (a : Nat) : List Ret := Tbl.get [] s.mail.ret a

/-- Signal a new return entry (08 R286). -/
def retSignal (s : State) (a : Nat) : State :=
  if a < 32 then raise s (a / 4 * 16 + 1 + a % 4) else if a = 32 then raise s 192 else mgmtVector s 65

/-- GEN of a stamped notice, and the notice with a stamp bit set. -/
def noticeGen (n : BitVec 128) : Nat := bitsOf n 125 122
def noticeSet (n : BitVec 128) (bit : Nat) : BitVec 128 := n ||| (1#128 <<< (96 + bit))

/-- Empty a mailbox and make the return entry (08 R286, R287). -/
def returnNotice (s : State) (t : Bool) (n : Nat) (aborted : Bool) : State :=
  let b := s.mbox t n
  let s1 := s.setMbox t n { full := false, serial := b.serial, agent := 0x3F, notice := 0 }
  let note := if aborted then noticeSet b.notice 31 else b.notice
  if 33 < b.agent ∨ agentGen s b.agent ≠ noticeGen b.notice then s1
  else if 16 ≤ (retQueue s b.agent).length then
    (if s1.mail.lost.contains b.agent then s1 else { s1 with mail := { s1.mail with lost := s1.mail.lost ++ [b.agent] } })
  else
    let e : Ret := { tenant := t, aborted := aborted, number := n, notice := note }
    retSignal { s1 with mail := { s1.mail with ret := Tbl.set [] s1.mail.ret b.agent (retQueue s b.agent ++ [e]) } } b.agent

/-- Take the notice out of a mailbox. The receiver of a twin notice has no local sender: it sends EMPTIED (11 R402). -/
def emptyBox (s : State) (t : Bool) (n : Nat) (aborted : Bool) : State :=
  if !t ∧ isTwin s n ∧ n = twinRx s then
    let b := s.mbox false n
    campSend (s.setMbox false n { full := false, serial := b.serial, agent := 0x3F, notice := 0 }) 5
      (BitVec.ofNat 64 (n + b2n aborted * 2 ^ 63)) []
  else returnNotice s t n aborted

/-! ## Receiving (08 R285) -/

/-- Agent `a` may take from control mailbox `n` (08 R280). -/
def rxAllowed (s : State) (a n : Nat) : Bool :=
  bind s F.CMB_BIND_VALID n == 1 && (bind s F.CMB_BIND_RX_MGMT n == 1) == (a == 33) &&
    bind s F.CMB_BIND_RECEIVER n == (agentIdent s a).1.toNat

def setWords (s : State) (d : RegD) (a : Nat) (v : BitVec 128) : State :=
  [0, 1, 2, 3].foldl (fun u i => wr u d (bitsOf v (32 * i + 31) (32 * i)) i 0 a) s

/-- A write to MB_RX_SELECT takes the snapshot (08 R285). -/
def mbRxSelectS (a v : Nat) (s : State) : State :=
  let n := v % 64
  let s1 := wr s R.MB_RX_SELECT n 0 0 a
  if rxAllowed s a n then
    let b := s.mbox false n
    setWords (wr s1 R.MB_RX_STATUS (b2n b.full * 2 ^ 31 + 2 ^ 30 + b.serial.toNat) 0 0 a) R.MB_RX_NOTICE a b.notice
  else setWords (wr s1 R.MB_RX_STATUS 0 0 0 a) R.MB_RX_NOTICE a 0

/-- A write to MB_RX_EMPTY (08 R285). -/
def mbRxEmptyS (a v : Nat) (s : State) : State :=
  let n := rf s R.MB_RX_SELECT F.MB_RX_SELECT_NUMBER 0 0 a
  let b := s.mbox false n
  if b.full ∧ b.serial.toNat = v % 256 ∧ rxAllowed s a n then emptyBox s false n false else s

/-- A read of FN_NOTICE_STATUS takes the function's snapshot (08 R304). -/
def fnNoticeStatusS (fn : Nat) (s : State) : State :=
  let f := s.fn fn
  if f.identValid = false then { s with busData := 0 }
  else
    let b := s.mbox true f.tenant.toNat
    let v := b2n b.full * 2 ^ 31 + b.serial.toNat
    let s1 := wr s R.FN_NOTICE_STATUS v 0 0 fn
    let s2 := wr s1 R.FN_NOTICE_PTR (if b.full then bitsOf b.notice 63 0 else 0) 0 0 fn
    { wr s2 R.FN_NOTICE_INFO (bitsOf b.notice 127 96 * 2 ^ 32 + bitsOf b.notice 95 64) 0 0 fn with busData := BitVec.ofNat 64 v }

/-- A write to FN_NOTICE_EMPTY (08 R285, R304). -/
def fnNoticeEmptyS (fn v : Nat) (s : State) : State :=
  let f := s.fn fn
  let b := s.mbox true f.tenant.toNat
  if f.identValid ∧ b.full ∧ b.serial.toNat = v % 256 then emptyBox s true f.tenant.toNat false else s

/-- A write to MB_RET_POP (08 R286). -/
def mbRetPopS (a : Nat) (s : State) : State :=
  { s with mail := { s.mail with ret := Tbl.set [] s.mail.ret a (retQueue s a).tail, lost := s.mail.lost.filter (· ≠ a) } }

/-- MB_RET_INFO of agent `a` as it reads. -/
def mbRetInfoRead (s : State) (a : Nat) : Nat :=
  let q := retQueue s a
  let h := b2n (s.mail.lost.contains a) * 2 ^ 28 + q.length * 2 ^ 16
  match q with
  | e :: _ => 2 ^ 31 + b2n e.aborted * 2 ^ 30 + b2n e.tenant * 2 ^ 29 + h + e.number
  | [] => h

/-- CMB_STATE or TNM_STATE as it reads. -/
def mbStateRead (s : State) (t : Bool) (n : Nat) : Nat :=
  let b := s.mbox t n
  b2n b.full * 2 ^ 31 + b.serial.toNat * 2 ^ 8 + b.agent

/-! ## Resets (08 R287-R289) -/

/-- A receiver reset of one mailbox (08 R287). -/
def receiverReset (s : State) (t : Bool) (n : Nat) : State :=
  if (s.mbox t n).full then emptyBox s t n true else s

/-- A write to TNM_CLEAR (08 R287). -/
def tnmClearS (v : Nat) (s : State) : State := receiverReset s true (v % 4096)

/-- Set STALE in the held notices of agent `a` (08 R288). -/
def markStale (a : Nat) (t : Tbl Mbox) : Tbl Mbox :=
  t.map fun e => if e.2.full ∧ e.2.agent = a then (e.1, { e.2 with notice := noticeSet e.2.notice 30 }) else e

/-- The reset generation of an agent moves on (08 R277). -/
def genStep (s : State) (a : Nat) : State := wf s R.IC_AGENT_GEN F.IC_AGENT_GEN_GEN (agentGen s a + 1) a

/-- The sender's part of a reset of agent `a` (08 R277, R288): its generation moves on, its notices become STALE, its return queue is empty. -/
def senderReset (s : State) (a : Nat) : State :=
  let s1 := genStep s a
  { s1 with mail := { s1.mail with
    ctl := markStale a s1.mail.ctl
    ten := markStale a s1.mail.ten
    ret := Tbl.del s1.mail.ret a
    lost := s1.mail.lost.filter (· ≠ a) } }

/-- Control mailboxes that agent `a` receives from (08 R287). -/
def receives (s : State) (a : Nat) : List Nat :=
  (List.range 64).filter fun n =>
    if a = 33 then bind s F.CMB_BIND_RX_MGMT n == 1
    else decide (a < 33) && bind s F.CMB_BIND_RX_MGMT n == 0 && bind s F.CMB_BIND_RECEIVER n == (agentIdent s a).1.toNat

/-- The receiver's part of a reset of agent `a` (08 R287), and a core's interrupt stack is emptied (R301). -/
def receiverPart (s : State) (a : Nat) : State :=
  let s1 := (receives s a).foldl (fun u n => receiverReset u false n) s
  if a < 33 then icCoreReset s1 a else s1

/-- Agents that are reset together: as senders first, so that no return reaches one of them (08 R286-R288). -/
def agentsReset (s : State) (as : List Nat) : State := as.foldl receiverPart (as.foldl senderReset s)

/-- A reset of agent `a`. -/
def agentReset (s : State) (a : Nat) : State := agentsReset s [a]

/-- Power-on, cold, warm and fault resets empty every mailbox and return queue; SERIAL stays (08 R289). -/
def mailClear (s : State) : State :=
  let clear := fun (t : Tbl Mbox) =>
    (t.map fun e => (e.1, { e.2 with full := false, agent := 0x3F, notice := 0 })).filter fun e => e.2 ≠ Mbox.reset
  { s with mail := { ctl := clear s.mail.ctl, ten := clear s.mail.ten, ret := [], lost := [], held := [] } }

/-! ## The mailbox commands -/

/-- MB_POST (08 R282). -/
def execMbPost (agent : Nat) (v : W32) (s : State) : Host.Outcome State Fault Refusal := done s (agentOnly s agent (mbPostS agent v.toNat s))

/-- MB_RX_SELECT (08 R285). -/
def execMbRxSelect (agent : Nat) (v : W32) (s : State) : Host.Outcome State Fault Refusal :=
  done s (agentOnly s agent (mbRxSelectS agent v.toNat s))

/-- FN_NOTICE_STATUS (08 R285, R304). -/
def execFnNoticeStatus (fn : Nat) (s : State) : Host.Outcome State Fault Refusal := done s (fnNoticeStatusS fn s)

/-- MB_RX_EMPTY (08 R285). -/
def execMbRxEmpty (agent : Nat) (v : W32) (s : State) : Host.Outcome State Fault Refusal :=
  done s (agentOnly s agent (mbRxEmptyS agent v.toNat s))

/-- FN_NOTICE_EMPTY (08 R285). -/
def execFnNoticeEmpty (fn : Nat) (v : W32) (s : State) : Host.Outcome State Fault Refusal :=
  done s (fnNoticeEmptyS fn v.toNat s)

/-- MB_RET_POP (08 R286): a write of 1 to POP. -/
def execMbRetPop (agent : Nat) (s : State) : Host.Outcome State Fault Refusal := done s (agentOnly s agent (mbRetPopS agent s))

/-- TNM_CLEAR (08 R287). -/
def execTnmClear (v : W32) (s : State) : Host.Outcome State Fault Refusal := doneMgmt s (tnmClearS v.toNat s)

end Sys2Proof.Machine
end

