-- ==== Sys2Proof/Machine/Memory.lean ====
section
/-! DEFINITION. Scratchpad with its background test and row repair, and the DDR5 channels with their line code and patrol scrub
(07 R245-R267). Which words and lines are uncorrectable is state (`spBad`, `ddrBad`). -/
namespace Sys2Proof.Machine

def State.withMem (s : State) (m : Mem) : State := { s with mem := m }

/-! ## Scratchpad words (07 R245, R252-R255) -/

/-- Bytes of one bank. -/
def bankBytes : Nat := 0xC0000

def testOf (s : State) (p : Nat) : TestStep := Tbl.get TestStep.reset s.mem.tests p
def setTest (s : State) (p : Nat) (t : TestStep) : State :=
  s.withMem { s.mem with tests := Tbl.set TestStep.reset s.mem.tests p t }
def shadowOf (s : State) (p i : Nat) : Shadow := Tbl.get Shadow.reset s.mem.shadow (p * 64 + i)
def setShadow (s : State) (p i : Nat) (x : Shadow) : State :=
  s.withMem { s.mem with shadow := Tbl.set Shadow.reset s.mem.shadow (p * 64 + i) x }

/-- First scratchpad word of the step under test in a pitch: BANK and STEP of BGT_STATUS. -/
def testBase (s : State) (p : Nat) : Nat :=
  rf s R.BGT_STATUS F.BGT_STATUS_BANK p * (bankBytes / 32) + rf s R.BGT_STATUS F.BGT_STATUS_STEP p * 64

/-- Entry of word `w` of pitch `p` in the shadow buffer, where the word is redirected: an entry that is VALID, or one that a
write would make (07 R255). -/
def redirected (s : State) (p w : Nat) : Option Nat :=
  let b := testBase s p
  let t := testOf s p
  if b ≤ w ∧ w < b + 64 then
    if (shadowOf s p (w - b)).valid then some (w - b)
    else if 0 < t.access ∧ t.access ≤ 704 + (w - b) ∧ t.aborted = false then some (w - b)
    else none
  else none

/-- Key of a scratchpad word in the list of uncorrectable words. -/
def spWordKey (p w : Nat) : Nat := p * 2 ^ 20 + w

/-- Word `w` as stored in the array. -/
def spArray (s : State) (p w : Nat) : BitVec 256 := BitVec.ofNat 256 (leNat (spRead s p (w * 32) 32))

/-- What a read of word `w` delivers, and whether it is uncorrectable (07 R253, R255). -/
def spWord (s : State) (p w : Nat) : BitVec 256 × Bool :=
  match redirected s p w with
  | some i =>
    let e := shadowOf s p i
    if e.valid then (e.data, e.bad) else (spArray s p w, s.mem.spBad.contains (spWordKey p w))
  | none => (spArray s p w, s.mem.spBad.contains (spWordKey p w))

/-- Words that `n` bytes from `off` touch. -/
def wordsOf (off n unit : Nat) : List Nat :=
  if n = 0 then [] else (List.range ((off + n - 1) / unit - off / unit + 1)).map (off / unit + ·)

/-- Read bytes of a scratchpad (07 R253: stored bits are delivered even where they are uncorrectable). -/
def spRd (s : State) (p off n : Nat) : List Byte :=
  (((wordsOf off n 32).flatMap fun w => leBytes 32 (spWord s p w).1.toNat).drop (off % 32)).take n

/-- Some word of the range is uncorrectable. -/
def spUncorr (s : State) (p off n : Nat) : Bool := (wordsOf off n 32).any fun w => (spWord s p w).2

/-- Bits that reach the reader wrong, of the `n` bytes from byte `o` of what was read. -/
def flipsAt (r : EccResult) (o n : Nat) : Nat :=
  match r with
  | .undetected f => f.toNat / 2 ^ (8 * o) % 2 ^ (8 * n)
  | _ => 0

/-- Count one uncorrectable read of word `w` (07 R253). -/
def spCount (s : State) (p w : Nat) : State :=
  wf (satAdd s R.SP_BANK_ERR F.SP_BANK_ERR_UNCORR 1 p (w / (bankBytes / 32))) R.SP_FAULT F.SP_FAULT_UNCORR 1 p

/-- A pitch fault starts a pitch reset (04 R166). -/
def pitchFaultS (p : Nat) (s : State) : State :=
  let s1 := wf s R.PITCH_FAULT F.PITCH_FAULT_FAULT 1 p
  if s1.power.pitchPending.contains p then s1
  else { s1 with power := { s1.power with pitchPending := s1.power.pitchPending ++ [p] } }

/-- What the code of a word finds as it is read (07 R252, R253): a corrected read is counted; an uncorrectable word of the array keeps
its bits and is uncorrectable from then on (the access that reads it counts it). -/
def spEcc (s : State) (p w : Nat) (res : EccResult) : State :=
  match judged dieCap res with
  | .clean | .undetected _ => s
  | .corrected _ => satAdd s R.SP_BANK_ERR F.SP_BANK_ERR_CORR 1 p (w / (bankBytes / 32))
  | .uncorrectable =>
    if (match redirected s p w with | some i => (shadowOf s p i).valid | none => false) then s
    else s.withMem { s.mem with spBad := s.mem.spBad.filter (· ≠ spWordKey p w) ++ [spWordKey p w] }

/-- Count the uncorrectable words of a range that is read. -/
def spNote (s : State) (p off n : Nat) : State :=
  (wordsOf off n 32).foldl (fun u w => if (spWord u p w).2 then spCount u p w else u) s

/-- The check bytes of word `w` as stored: those of its code, or what stands there (07 R246). -/
def spCheckOf (s : State) (p w : Nat) : W32 := (Tbl.get none s.mem.spCheck (spWordKey p w)).getD (Config.rsCheck (spArray s p w))

/-- Store the 288 bits of word `w` in the array; `bad` says whether its code finds them uncorrectable. -/
def spStore (s : State) (p w : Nat) (v : BitVec 256) (check : Option W32) (bad : Bool) : State :=
  let s1 := spWrite s p (w * 32) (leBytes 32 v.toNat)
  let rest := s1.mem.spBad.filter (· ≠ spWordKey p w)
  s1.withMem { s1.mem with
    spBad := if bad then rest ++ [spWordKey p w] else rest, spCheck := Tbl.set none s1.mem.spCheck (spWordKey p w) check }

/-- Store word `w`, or its entry where it is redirected (07 R255), with the check bytes of its code. -/
def spPut (s : State) (p w : Nat) (v : BitVec 256) : State :=
  match redirected s p w with
  | some i => setShadow s p i { valid := true, bad := false, data := v, check := none }
  | none => spStore s p w v none false

/-- Write bytes `o` to `o + bs.length` of word `w`: a masked write to an uncorrectable word writes nothing (07 R246, R253);
a redirected write goes to the entry, merged with the array word (R255). -/
def spWrWord (s : State) (p w o : Nat) (bs : List Byte) : State :=
  let (d, bad) := spWord s p w
  let whole := o = 0 ∧ bs.length = 32
  if bad ∧ ¬whole then spCount s p w
  else spPut s p w (BitVec.ofNat 256 (leNat (splice (leBytes 32 d.toNat) o bs)))

/-- A word with the bytes of a mask replaced (07 R246). -/
def mergeMask (old new : BitVec 256) (mask : BitVec 32) : BitVec 256 :=
  BitVec.ofNat 256 (leNat ((List.range 32).map fun i =>
    if mask.getLsbD i then BitVec.ofNat 8 (new.toNat / 2 ^ (8 * i)) else BitVec.ofNat 8 (old.toNat / 2 ^ (8 * i))))

/-- A write of one port access: the masked bytes of `d` into word `w` (07 R246, R253). -/
def spWrMask (s : State) (p w : Nat) (mask : BitVec 32) (d : BitVec 256) : State :=
  if (spWord s p w).2 ∧ mask ≠ BitVec.allOnes 32 then spCount s p w else spPut s p w (mergeMask (spWord s p w).1 d mask)

/-- Write bytes to a scratchpad, word by word. -/
def spWr (s : State) (p off : Nat) (bs : List Byte) : State :=
  (wordsOf off bs.length 32).foldl (fun u w =>
    let a := max off (w * 32)
    let b := min (off + bs.length) (w * 32 + 32)
    spWrWord u p w (a - w * 32) ((bs.drop (a - off)).take (b - a))) s

/-! ## Background test (07 R253-R258) -/

/-- Word and kind of march access `m` (0-639): the word within the step, and whether it reads (07, March C−). -/
def marchAccess (m : Nat) : Nat × Bool :=
  if m < 64 then (m, false)
  else if m < 576 then
    let e := (m - 64) / 128
    let j := (m - 64) % 128 / 2
    (if e < 2 then j else 63 - j, (m - 64) % 2 == 0)
  else (m - 576, true)

/-- Whether march access `m` writes, or expects, the inverse background. -/
def marchInverse (m : Nat) : Bool :=
  let e := (m - 64) / 128
  if m < 64 ∨ 576 ≤ m then false else if (m - 64) % 2 = 0 then e % 2 == 1 else e % 2 == 0

/-- The 288 bits of a data background in word `w` of a bank, and their inverse (07 R254). The spec names the backgrounds; their bits are
DESIGN CHOICE, log entry 94. -/
def background (pattern w : Nat) (inverse : Bool) : BitVec 256 × W32 :=
  let even := BitVec.ofNat 288 ((2 ^ 288 - 1) / 3)
  let b : BitVec 288 :=
    if pattern = 0 then 0
    else if pattern = 1 then (if w % 2 = 0 then even else ~~~even)
    else if pattern = 2 then (if w % 2 = 0 then ~~~even else even)
    else if w / 16 % 2 = 0 then 0 else BitVec.allOnes 288
  let v := if inverse then ~~~b else b
  (v.truncate 256, v.extractLsb' 256 32)

/-- Map a failed row to the next unused spare, or set EXHAUSTED (07 R256, R257). -/
def mapRow (s : State) (p bank row : Nat) : State :=
  let soft := rf s R.SP_BANK_REPAIR F.SP_BANK_REPAIR_SOFT p bank
  if soft < 8 then
    let s1 := wf (wf s R.SP_BANK_REPAIR F.SP_BANK_REPAIR_SOFT (soft + 1) p bank) R.SP_BANK_REPAIR F.SP_BANK_REPAIR_LAST_ROW row p bank
    s1.withMem { s1.mem with repairs := s1.mem.repairs ++ [(p, bank, row)] }
  else
    wf (wf s R.SP_BANK_REPAIR F.SP_BANK_REPAIR_EXHAUSTED 1 p bank) R.SP_FAULT F.SP_FAULT_EXHAUSTED 1 p

/-- Write entry `i` back into the array, or into the spare of its row; a BAD entry stays uncorrectable (07 R255). -/
def restoreEntry (s : State) (p i : Nat) : State :=
  let e := shadowOf s p i
  if e.valid then
    setShadow (spStore s p (testBase s p + i) e.data e.check e.bad) p i Shadow.reset
  else s

/-- The step has made its last access: on to the next step, bank and sweep (07 R254, BGT_STATUS). -/
def nextStep (s : State) (p : Nat) : State :=
  let st := rf s R.BGT_STATUS F.BGT_STATUS_STEP p
  let bk := rf s R.BGT_STATUS F.BGT_STATUS_BANK p
  if st < 383 then wf s R.BGT_STATUS F.BGT_STATUS_STEP (st + 1) p
  else
    let s1 := wf s R.BGT_STATUS F.BGT_STATUS_STEP 0 p
    if bk < 31 then wf s1 R.BGT_STATUS F.BGT_STATUS_BANK (bk + 1) p
    else
      let s2 := wf s1 R.BGT_STATUS F.BGT_STATUS_BANK 0 p
      let s3 := wf s2 R.BGT_STATUS F.BGT_STATUS_PATTERN (rf s2 R.BGT_STATUS F.BGT_STATUS_PATTERN p + 1) p
      wf s3 R.BGT_STATUS F.BGT_STATUS_SWEEPS (rf s3 R.BGT_STATUS F.BGT_STATUS_SWEEPS p + 1) p

/-- A march access: a write of the background into the array, or a read that compares all 288 bits; `fails` says that the cells gave other
bits than were written (07 R254). -/
def marchStep (p : Nat) (fails : Bool) (s : State) : State :=
  let t := testOf s p
  let (i, rd) := marchAccess (t.access - 64)
  let w := testBase s p + i
  let want := background (rf s R.BGT_STATUS F.BGT_STATUS_PATTERN p) (rf s R.BGT_STATUS F.BGT_STATUS_STEP p * 64 + i) (marchInverse (t.access - 64))
  let row := i / 16
  if rd then
    let bad := fails || spArray s p w != want.1 || spCheckOf s p w != want.2
    setTest s p { t with access := t.access + 1, failed := if bad ∧ ¬t.failed.contains row then t.failed ++ [row] else t.failed }
  else setTest (spStore s p w want.1 (some want.2) false) p { t with access := t.access + 1 }

/-- The next access of the test step of pitch `p`; the operands say whether a march read mismatched and what the code of a saved word
found. -/
def testAccess (p : Nat) (fails : Bool) (ecc : EccResult) (s : State) : State :=
  let t := testOf s p
  let a := t.access
  if a < 64 then
    let w := testBase s p + a
    let s1 := if (shadowOf s p a).valid then s
      else
        let bad := judged dieCap ecc == .uncorrectable || s.mem.spBad.contains (spWordKey p w)
        let s0 := if bad then spCount s p w else spEcc s p w ecc
        setShadow s0 p a {
          valid := true, bad := bad, data := spArray s p w ^^^ BitVec.ofNat 256 (flipsAt ecc 0 32)
          check := if bad then some (spCheckOf s p w) else none }
    setTest s1 p { t with access := a + 1 }
  else if a < 704 then marchStep p fails s
  else
    let i := a - 704
    let bank := rf s R.BGT_STATUS F.BGT_STATUS_BANK p
    let row := rf s R.BGT_STATUS F.BGT_STATUS_STEP p * 4 + i / 16
    let s1 := if i % 16 = 0 ∧ t.failed.contains (i / 16) then mapRow s p bank row else s
    let s2 := restoreEntry s1 p i
    if a < 767 then setTest s2 p { t with access := a + 1 } else nextStep (setTest s2 p TestStep.reset) p

/-- The first entry of a shadow buffer that is VALID. -/
def firstValid (s : State) (p : Nat) : Option Nat := (List.range 64).find? fun i => (shadowOf s p i).valid

/-- Abort the test step of a pitch (07 R258): its VALID entries wait for their restore. -/
def abortTest (s : State) (p : Nat) : State :=
  if (testOf s p).access = 0 then s
  else setTest s p { access := 0, failed := [], aborted := (firstValid s p).isSome }

/-- Test steps run in pitch `p`: enabled, powered, under a timetable, and no aborted step waits (07 R258, 02 R73). -/
def testRuns (s : State) (p : Nat) : Bool :=
  decide (p < 8) && rb s R.BGT_CTRL F.BGT_CTRL_ENABLE p && domOn s p && !(testOf s p).aborted &&
    !rb s R.SCHED_STATUS F.SCHED_STATUS_FREE_ONLY

/-- One write of the restore of an aborted step: the first VALID entry; with the last, the step is as if it had never begun (07 R258). -/
def restoreOne (p : Nat) (s : State) : State :=
  if (testOf s p).aborted = false then s
  else
    let s1 := match firstValid s p with | some i => restoreEntry s p i | none => s
    if (firstValid s1 p).isNone then setTest s1 p TestStep.reset else s1

/-- A write of BGT_CTRL[p] (07 BGT_CTRL). -/
def bgtWrite (p : Nat) (v : Nat) (s : State) : State :=
  let s1 := wf s R.BGT_CTRL F.BGT_CTRL_ENABLE (v % 2) p
  if v % 2 = 0 then abortTest s1 p else s1

/-- BGT_ENABLE_WRITE (07 R258). -/
def execBgtEnableWrite (p : Nat) (v : W32) (s : State) : Host.Outcome State Fault Refusal := doneMgmt s (bgtWrite p v.toNat s)

/-! ## DDR5 (07 R259-R267) -/

def ddrChan (a : Nat) : Nat := a / 2 ^ 38
def ddrOff (a : Nat) : Nat := a % 2 ^ 38
def ddrPresent (s : State) (ch : Nat) : Bool := decide (ch < 12) && rb s R.DDR5_INFO F.DDR5_INFO_PRESENT ch

/-- First reserved offset of a channel. -/
def ddrLimit (s : State) (ch : Nat) : Nat := rf s R.DDR5_LIMIT F.DDR5_LIMIT_LIMIT ch * 128

/-- Lines of a channel. -/
def ddrLines (s : State) (ch : Nat) : Nat := rf s R.DDR5_INFO F.DDR5_INFO_CAPACITY ch * 2 ^ 30 / 128

/-- Some line of the range is uncorrectable. -/
def ddrUncorr (s : State) (a n : Nat) : Bool := (wordsOf a n 128).any fun l => s.mem.ddrBad.contains l

/-- An uncorrectable line of a copy of the recovery area, or of the mirror area below it, makes its two blocks unreadable there (05 R167, R168,
11 R386). -/
def spoilRecord (s : State) (l : Nat) : State :=
  let o := l % 2 ^ 31
  let area := 1088 * 2 ^ 20 / 128
  let top := ddrLines s (l / 2 ^ 31)
  let a := l / 2 ^ 31 == rf s R.RECOV_CFG F.RECOV_CFG_COPY_A
  let b := l / 2 ^ 31 == rf s R.RECOV_CFG F.RECOV_CFG_COPY_B
  let add := fun (on : Bool) (base : Nat) (xs : List Nat) =>
    if on then xs.filter (· / 2 ≠ o - base) ++ [2 * (o - base), 2 * (o - base) + 1] else xs
  if rb s R.RECOV_CFG F.RECOV_CFG_ENABLE = false ∨ top ≤ o then s
  else if top ≤ o + area then
    { s with recov := { s.recov with badA := add a (top - area) s.recov.badA, badB := add b (top - area) s.recov.badB } }
  else if top ≤ o + 2 * area then
    { s with camp := { s.camp with badA := add a (top - 2 * area) s.camp.badA, badB := add b (top - 2 * area) s.camp.badB } }
  else s

/-- A line is uncorrectable from now on; it keeps its bits (07 R265). -/
def badLine (s : State) (l : Nat) : State :=
  spoilRecord (s.withMem { s.mem with ddrBad := s.mem.ddrBad.filter (· ≠ l) ++ [l] }) l

/-- Count one uncorrectable read of line `l` = address / 128 (07 R265). -/
def ddrCount (s : State) (l : Nat) : State :=
  let ch := l / 2 ^ 31
  let s1 := wf (satAdd s R.DDR5_ERR F.DDR5_ERR_UNCORR 1 ch) R.DDR5_FAULT F.DDR5_FAULT_UNCORR 1 ch
  if rb s1 R.DDR5_FIRST_UNCORR F.DDR5_FIRST_UNCORR_VALID ch then s1
  else wf (wf s1 R.DDR5_FIRST_UNCORR F.DDR5_FIRST_UNCORR_VALID 1 ch) R.DDR5_FIRST_UNCORR F.DDR5_FIRST_UNCORR_LINE (l % 2 ^ 31) ch

/-- Devices of a channel that DDR5_MARK marks (07 R264). -/
def marked (s : State) (ch : Nat) : List Nat :=
  let m := fun (v d : Nat × Nat) => if rb s R.DDR5_MARK v ch then [rf s R.DDR5_MARK d ch] else []
  (m F.DDR5_MARK_MARK0_VALID F.DDR5_MARK_MARK0_DEV ++ m F.DDR5_MARK_MARK1_VALID F.DDR5_MARK_MARK1_DEV).eraseDups

/-- The line code corrects any two devices; with marked devices, those and one more (07 R263, R264). -/
def lineCap (s : State) (ch : Nat) (ds : List Nat) : Bool :=
  let ms := marked s ch
  ds.all (fun d => decide (d < 20)) && decide ((ds.eraseDups.filter fun d => !ms.contains d).length ≤ if ms.isEmpty then 2 else 1)

/-- Place of a line in the DRAM (07 R261): bank group, bank, column block, rank and stack position, row. -/
def lineMap (s : State) (ch line : Nat) : Nat × Nat × Nat × Nat × Nat :=
  let bank := if rf s R.DDR5_INFO F.DDR5_INFO_DENSITY ch = 16 then 1 else 2
  let stack := rf s R.DDR5_INFO F.DDR5_INFO_RANKS ch + rf s R.DDR5_INFO F.DDR5_INFO_HEIGHT ch
  (line % 8, line / 8 % 2 ^ bank, line / 2 ^ (3 + bank) % 128, line / 2 ^ (10 + bank) % 2 ^ stack, line / 2 ^ (10 + bank + stack))

/-- A request for a line goes to the DRAM. -/
def ddrAsk (s : State) (l : Nat) (write : Bool) : State :=
  let (g, b, c, k, r) := lineMap s (l / 2 ^ 31) (l % 2 ^ 31)
  emit s (.ddrRequest (l / 2 ^ 31) write g b c k r)

/-- Count the devices of a channel whose symbols were corrected (07 R265). -/
def ddrDevices (s : State) (ch : Nat) (devs : List Nat) : State :=
  devs.foldl (fun t d => if d < 20 then satAdd t R.DDR5_DEV_ERR (31, 0) 1 ch d else t) s

/-- What the code of a line finds in a demand read (07 R265): a corrected read is counted with its devices; an uncorrectable line keeps
its bits and is uncorrectable from then on (the access that reads it counts it). -/
def ddrEcc (s : State) (l : Nat) (res : EccResult) : State :=
  match judged (lineCap s (l / 2 ^ 31)) res with
  | .clean | .undetected _ => s
  | .corrected devs => ddrDevices (satAdd s R.DDR5_ERR F.DDR5_ERR_CORR 1 (l / 2 ^ 31)) (l / 2 ^ 31) devs
  | .uncorrectable => badLine s l

/-- Count the uncorrectable lines of a range that is read. -/
def ddrNote (s : State) (a n : Nat) : State :=
  (wordsOf a n 128).foldl (fun u l => if u.mem.ddrBad.contains l then ddrCount u l else u) s

/-- Write bytes to DDR5: a scrub write-back of a line written is cancelled (R266); a whole line replaces uncorrectable bits. -/
def ddrWr (s : State) (a : Nat) (bs : List Byte) : State :=
  let s1 := ddrWrite s a bs
  let ls := wordsOf a bs.length 128
  let wholes := ls.filter fun l => a ≤ l * 128 ∧ l * 128 + 128 ≤ a + bs.length
  let ch := ddrChan a
  let pend := Tbl.get 0 s1.mem.scrubPending ch
  s1.withMem { s1.mem with
    ddrBad := s1.mem.ddrBad.filter fun l => !wholes.contains l
    scrubPending := if ls.any (fun l => l % 2 ^ 31 + 1 == pend) then Tbl.set 0 s1.mem.scrubPending ch 0 else s1.mem.scrubPending }

/-- An access to a channel in bivouac starts its exit (13 R435). -/
def ddrTouch (s : State) (ch : Nat) : State := wakeDomain s (32 + ch)

/-- A scrub read of the next line (07 R266): a corrected line waits for its write-back, an uncorrectable one is recorded. -/
def scrubReadS (ch : Nat) (res : EccResult) (s : State) : State :=
  if ddrPresent s ch = false ∨ rb s R.DDR5_SCRUB_CFG F.DDR5_SCRUB_CFG_ENABLE ch = false ∨ domOn s (32 + ch) = false ∨
      Tbl.get 0 s.mem.scrubPending ch ≠ 0 then s
  else
    let line := rf s R.DDR5_SCRUB_STATUS F.DDR5_SCRUB_STATUS_LINE ch
    let l := ch * 2 ^ 31 + line
    let s1 := match judged (lineCap s ch) res with
      | .clean | .undetected _ => if s.mem.ddrBad.contains l then ddrCount s l else s
      | .corrected devs =>
        let u := ddrDevices s ch devs
        u.withMem { u.mem with scrubPending := Tbl.set 0 u.mem.scrubPending ch (line + 1) }
      | .uncorrectable => badLine (ddrCount s l) l
    if line + 1 < ddrLines s1 ch then wf s1 R.DDR5_SCRUB_STATUS F.DDR5_SCRUB_STATUS_LINE (line + 1) ch
    else
      let s2 := satAdd (wf s1 R.DDR5_SCRUB_STATUS F.DDR5_SCRUB_STATUS_LINE 0 ch) R.DDR5_SCRUB_STATUS F.DDR5_SCRUB_STATUS_SWEEPS 1 ch
      s2.withMem { s2.mem with sweepDone := Tbl.upd 0 s2.mem.sweepDone ch (· + 1) }

/-- The corrected line is written back (07 R266). -/
def scrubWriteBackS (ch : Nat) (s : State) : State :=
  if Tbl.get 0 s.mem.scrubPending ch = 0 then s
  else
    let s1 := satAdd s R.DDR5_ERR F.DDR5_ERR_SCRUB_CORR 1 ch
    s1.withMem { s1.mem with scrubPending := Tbl.set 0 s1.mem.scrubPending ch 0 }

/-- A PERIOD of the scrub ends (07 R267). -/
def scrubExpiryS (ch : Nat) (s : State) : State :=
  if ddrPresent s ch = false ∨ rb s R.DDR5_SCRUB_CFG F.DDR5_SCRUB_CFG_ENABLE ch = false then s
  else
    let s1 := if Tbl.get 0 s.mem.sweepDone ch = 0 then wf s R.DDR5_FAULT F.DDR5_FAULT_SCRUB_LATE 1 ch else s
    s1.withMem { s1.mem with sweepDone := Tbl.set 0 s1.mem.sweepDone ch 0 }

/-- SCRUB_PERIOD_EXPIRY (07 R267). -/
def execScrubPeriodExpiry (ch : Nat) (s : State) : Host.Outcome State Fault Refusal := done s (scrubExpiryS ch s)

/-- The thermal sensors of a DIMM set the temperature range (07 R260). -/
def thermalReadS (ch : Nat) (hot : Bool) (s : State) : State :=
  if ddrPresent s ch then wf s R.DDR5_INFO F.DDR5_INFO_TEMP_RANGE (b2n hot) ch else s

/-- DIMM_THERMAL_READ (07 R260). -/
def execDimmThermalRead (ch : Nat) (hot : Bool) (s : State) : Host.Outcome State Fault Refusal := done s (thermalReadS ch hot s)

/-- Kinds of `Out.ddrCommand`: 0 a same-bank refresh (REFsb), 1 the replay of commands after a parity error, 2 self-refresh
entry. -/
def rcdParityS (ch : Nat) (s : State) : State := if ddrPresent s ch then emit s (.ddrCommand ch 1) else s

/-- RCD_PARITY_ERROR (07 R260): the affected commands are replayed. -/
def execRcdParityError (ch : Nat) (s : State) : Host.Outcome State Fault Refusal := done s (rcdParityS ch s)

end Sys2Proof.Machine
end

