-- ==== Sys2Proof/Machine/Canopy.lean ====
section
/-! DEFINITION. The canopy: the check of one operation, denials, windows (07 R268-R275). -/
namespace Sys2Proof.Machine

/-- Kind of an access (07 R268), numbered as CANOPY_DENY_INFO.KIND: 0 read, 1 write, 2 fetch. -/
inductive AccKind where
  | rd | wr | fetch
  deriving DecidableEq, Repr

def AccKind.code : AccKind → Nat
  | .rd => 0
  | .wr => 1
  | .fetch => 2

/-- What an access goes to: host memory of a function, DDR5, or the scratchpad of a pitch. -/
inductive Target where
  | host (addr : Nat)
  | ddr (addr : Nat)
  | sp (p off : Nat)
  deriving DecidableEq, Repr

/-- A window of master `m` grants `kind` in `space` at page `page` (07 R268, R271, R273). -/
def windowGrants (s : State) (m w space page : Nat) (kind : AccKind) : Bool :=
  let hi := rg s R.CANOPY_WINDOW_HI m w
  let lo := (Tbl.get 0 s.mem.loInForce (m * 16 + w)).toNat / 4096
  fget hi F.CANOPY_WINDOW_HI_VALID == 1 && fget hi F.CANOPY_WINDOW_HI_SPACE == space &&
    (match kind with
      | .rd => fget hi F.CANOPY_WINDOW_HI_RD == 1
      | .wr => fget hi F.CANOPY_WINDOW_HI_WR == 1
      | .fetch => fget hi F.CANOPY_WINDOW_HI_FETCH == 1) &&
    decide (lo ≤ page ∧ page ≤ fget hi F.CANOPY_WINDOW_HI_LIMIT)

/-- A region of master `m` grants `kind` at word `w` of pitch `p` (07 R270). -/
def regionGrants (s : State) (m r p w : Nat) (kind : AccKind) : Bool :=
  let v := rg s R.CANOPY_REGION m r
  fget v F.CANOPY_REGION_VALID == 1 && (fget v F.CANOPY_REGION_PITCHES).testBit p &&
    (match kind with
      | .rd => fget v F.CANOPY_REGION_RD == 1
      | .wr => fget v F.CANOPY_REGION_WR == 1
      | .fetch => false) &&
    decide (fget v F.CANOPY_REGION_BASE ≤ w ∧ w ≤ fget v F.CANOPY_REGION_LIMIT)

/-- Table words of a master, for `canopyBad`: 0-1 regions, 2-9 windows; 10 to a master. -/
def tableBad (s : State) (m : Nat) (t : Target) : Bool :=
  s.mem.canopyBad.any fun x => x / 10 == m && (match t with | .sp _ _ => x % 10 < 2 | _ => 2 ≤ x % 10)

/-- A DDR5 address that a program or window may name at all (07 R261, R271). -/
def ddrProgram (s : State) (a : Nat) : Bool := ddrPresent s (ddrChan a) && decide (ddrOff a < ddrLimit s (ddrChan a))

/-- First byte of the reserved area of a pitch (07 R247). -/
def spReserved (s : State) (p : Nat) : Nat := rf s R.SP_RESERVED F.SP_RESERVED_BASE p

/-- The core acts for the caller of its routine (06 R204, R241). -/
def actsForCaller (s : State) (k : Nat) : Bool :=
  let c := s.core k
  coreInCall c && !c.csr.getLsbD 13 && curPrio s k == 0 && c.current.isSome

/-- The call block and the parameter-block copy of the call a core runs for its caller (07 R270). -/
def ownCallArea (s : State) (k o n : Nat) : Bool :=
  match (s.core k).current with
  | some a => actsForCaller s k && decide (a.block.toNat ≤ o ∧ o + n ≤ a.block.toNat + 0x120)
  | none => false

/-- The check of one operation of master `m` (07 R268-R271). -/
def permitted (s : State) (m : BitVec 14) (kind : AccKind) (t : Target) : Bool :=
  !tableBad s m.toNat t &&
  match t with
  | .host a => (List.range 16).any fun w => windowGrants s m.toNat w 0 (a / 4096) kind
  | .ddr a => ddrProgram s a && (List.range 16).any fun w => windowGrants s m.toNat w 1 (a / 4096) kind
  | .sp p off => decide (off < spReserved s p) && (List.range 8).any fun r => regionGrants s m.toNat r p (off / 32) kind

/-- Count a denial and capture it while the capture is armed (07 R275). -/
def deny (s : State) (m : BitVec 14) (kind : AccKind) (t : Target) : State :=
  let s1 := satAdd s R.CANOPY_DENY_COUNT (31, 0) 1
  if s1.mem.denyDisarmed then s1
  else
    let (space, pitch, addr) := match t with
      | .host a => (0, 0, a)
      | .ddr a => (1, 0, a)
      | .sp p off => (2, p, off)
    let info := 2 ^ 63 + b2n (tableBad s m.toNat t) * 2 ^ 62 + pitch * 2 ^ 29 + space * 2 ^ 27 + kind.code * 2 ^ 25 + m.toNat
    let s2 := wr (wr s1 R.CANOPY_DENY_INFO info) R.CANOPY_DENY_ADDR addr
    s2.withMem { s2.mem with denyDisarmed := true }

/-- Units that an access of `n` bytes is checked in (07 R269): host pages, lines, words. -/
def splitTarget (t : Target) (n : Nat) : List Target :=
  match t with
  | .host a => (wordsOf a n 4096).map fun p => .host (max a (p * 4096))
  | .ddr a => (wordsOf a n 128).map fun l => .ddr (max a (l * 128))
  | .sp p off => (wordsOf off n 32).map fun w => .sp p (max off (w * 32))

/-- The first denied unit of an access, if any. -/
def firstDenied (s : State) (m : BitVec 14) (kind : AccKind) (t : Target) (n : Nat) : Option Target :=
  (splitTarget t n).find? fun u => !permitted s m kind u

/-- Every unit of an access is permitted. -/
def permittedAll (s : State) (m : BitVec 14) (kind : AccKind) (t : Target) (n : Nat) : Bool :=
  (firstDenied s m kind t n).isNone

/-! ## Windows -/

/-- A write to WINDOW_LO is held until the next write to WINDOW_HI (07 R273). -/
def windowLoS (m w v : Nat) (s : State) : State := swRw s R.CANOPY_WINDOW_LO v m w

/-- A write to WINDOW_HI puts both in force (07 R273). -/
def windowHiS (m w v : Nat) (s : State) : State :=
  let s1 := swRw s R.CANOPY_WINDOW_HI v m w
  s1.withMem { s1.mem with loInForce := Tbl.set 0 s1.mem.loInForce (m * 16 + w) (BitVec.ofNat 64 (rg s R.CANOPY_WINDOW_LO m w)) }

/-- CANOPY_WINDOW_LO (07 R273). -/
def execCanopyWindowLo (m w : Nat) (v : W64) (s : State) : Host.Outcome State Fault Refusal :=
  doneMgmt s (if m < 16384 ∧ w < 16 then windowLoS m w v.toNat s else s)

/-- CANOPY_WINDOW_HI (07 R273). -/
def execCanopyWindowHi (m w : Nat) (v : W64) (s : State) : Host.Outcome State Fault Refusal :=
  doneMgmt s (if m < 16384 ∧ w < 16 then windowHiS m w v.toNat s else s)

/-- A read has ended: the drain no longer waits for it (07 R274). -/
def undrain (s : State) (k : Nat) : State := s.withMem { s.mem with draining := s.mem.draining.filter (· ≠ k) }

/-- A read of CANOPY_DENY_COUNT returns and clears the count and re-arms the capture (07 R275). -/
def denyCountS (s : State) : State :=
  let s1 := wr s R.CANOPY_DENY_COUNT 0
  { s1.withMem { s1.mem with denyDisarmed := false } with busData := BitVec.ofNat 64 (rg s R.CANOPY_DENY_COUNT) }

/-- CANOPY_DENY_COUNT (07 R275). -/
def execCanopyDenyCount (s : State) : Host.Outcome State Fault Refusal := doneMgmt s (denyCountS s)

end Sys2Proof.Machine
end

