-- ==== Sys2Proof/Machine/Count.lean ====
section
/-! DEFINITION. What the meters count in a frame (09 R333-R335): per unit (0-7 pitches, 8 central) and tenant. -/
namespace Sys2Proof.Machine

def State.withMeter (s : State) (m : Meter) : State := { s with meter := m }

/-- Add to the frame counts of a unit and tenant. -/
def mCount (s : State) (unit : Nat) (t : BitVec 12) (f : TRec → TRec) : State :=
  s.withMeter { s.meter with frame := Tbl.upd TRec.reset s.meter.frame (unit * 4096 + t.toNat) f }

/-- A cycle that no tenant pays (09 R335). -/
def mDevice (s : State) (unit : Nat) : State :=
  s.withMeter { s.meter with frameDev := Tbl.upd 0 s.meter.frameDev unit (· + 1) }

def freeOnly (s : State) : Bool := rb s R.SCHED_STATUS F.SCHED_STATUS_FREE_ONLY

/-- Tenant that a lease class is bound to (02 R78). -/
def leaseTenant (s : State) (l : Nat) : BitVec 12 := BitVec.ofNat 12 (rf s R.LEASE_CFG F.LEASE_CFG_TENANT l)

/-- One stake-cycle used on a stake of class `l` (09 R334, R335). -/
def mStake (s : State) (unit l : Nat) : State :=
  if l = 0 then mDevice s unit else mCount s unit (leaseTenant s l) fun r => { r with stake := r.stake + 1 }

/-- One free-lane grant of a rank to a tenant; firmware of a core outside calls names no tenant (09 R334, R335). -/
def mFree (s : State) (unit rank : Nat) (t : BitVec 12) (firmware : Bool) : State :=
  if rank = 1 ∨ rank = 5 ∨ (rank = 6 ∧ firmware) then mDevice s unit
  else mCount s unit t fun r => { r with free := r.free + 1 }

/-- One missed consuming stake of class `l` (02 R45, 09 R334). -/
def mMiss (s : State) (unit l : Nat) : State :=
  let s1 := wf s R.LEASE_MISS F.LEASE_MISS_MISSES (rf s R.LEASE_MISS F.LEASE_MISS_MISSES l + 1) l
  if l = 0 then s1 else mCount s1 unit (leaseTenant s l) fun r => { r with misses := r.misses + 1 }

end Sys2Proof.Machine
end

