-- ==== Sys2Proof/Machine/Shake.lean ====
section
/-! DEFINITION. SHAKE256, which the spec names without defining: the Keccak sponge of FIPS 202 with rate 136 bytes (PRESUMED, log
entry 8). A Keccak state is its 25 lanes, lane x + 5 y. -/
namespace Sys2Proof.Machine

def lane (a : List (BitVec 64)) (i : Nat) : BitVec 64 := a.getD i 0#64

/-- Rotation offsets of rho, by lane. -/
def rhoOffsets : List Nat :=
  [0, 1, 62, 28, 27, 36, 44, 6, 55, 20, 3, 10, 43, 25, 39, 41, 45, 15, 21, 8, 18, 2, 61, 56, 14]

/-- Round constants of iota. -/
def keccakRC : List (BitVec 64) :=
  [0x0000000000000001#64, 0x0000000000008082#64, 0x800000000000808A#64, 0x8000000080008000#64, 0x000000000000808B#64,
   0x0000000080000001#64, 0x8000000080008081#64, 0x8000000000008009#64, 0x000000000000008A#64, 0x0000000000000088#64,
   0x0000000080008009#64, 0x000000008000000A#64] ++
  [0x000000008000808B#64, 0x800000000000008B#64, 0x8000000000008089#64, 0x8000000000008003#64, 0x8000000000008002#64,
   0x8000000000000080#64, 0x000000000000800A#64, 0x800000008000000A#64, 0x8000000080008081#64, 0x8000000000008080#64,
   0x0000000080000001#64, 0x8000000080008008#64]

/-- One round: theta, rho, pi, chi and iota. -/
def keccakRound (a : List (BitVec 64)) (rc : BitVec 64) : List (BitVec 64) :=
  let c := (List.range 5).map fun x => lane a x ^^^ lane a (x + 5) ^^^ lane a (x + 10) ^^^ lane a (x + 15) ^^^ lane a (x + 20)
  let d := (List.range 5).map fun x => lane c ((x + 4) % 5) ^^^ (lane c ((x + 1) % 5)).rotateLeft 1
  let t := (List.range 25).map fun i => (lane a i ^^^ lane d (i % 5)).rotateLeft (rhoOffsets.getD i 0)
  let b := (List.range 25).map fun i => lane t ((i % 5 + 3 * (i / 5)) % 5 + 5 * (i % 5))
  (List.range 25).map fun i =>
    let y := i / 5 * 5
    let v := lane b i ^^^ (~~~(lane b (y + (i + 1) % 5)) &&& lane b (y + (i + 2) % 5))
    if i = 0 then v ^^^ rc else v

def keccakF (a : List (BitVec 64)) : List (BitVec 64) := keccakRC.foldl keccakRound a

/-- XOR a block of 136 bytes into the state. -/
def xorBlock (a : List (BitVec 64)) (b : List Byte) : List (BitVec 64) :=
  (List.range 25).map fun i => if i < 17 then lane a i ^^^ BitVec.ofNat 64 (leAt b (8 * i) 8) else lane a i

/-- Absorb `n` blocks. -/
def absorb : Nat → List (BitVec 64) → List Byte → List (BitVec 64)
  | 0, a, _ => a
  | n + 1, a, m => absorb n (keccakF (xorBlock a (m.take 136))) (m.drop 136)

/-- The first 136 bytes of a state. -/
def squeeze (a : List (BitVec 64)) : List Byte := (List.range 17).flatMap fun i => leBytes 8 (lane a i).toNat

/-- The first 64 bytes of SHAKE256 of a message, the only output length the device uses. -/
def shake256 (m : List Byte) : List Byte :=
  let pad := 136 - m.length % 136
  let tail := if pad = 1 then [0x9F#8] else [0x1F#8] ++ List.replicate (pad - 2) 0#8 ++ [0x80#8]
  (squeeze (absorb ((m.length + pad) / 136) (List.replicate 25 0#64) (m ++ tail))).take 64

end Sys2Proof.Machine
end

