-- ==== Sys2Proof/Machine/Bank.lean ====
section
/-! DEFINITION. Frame banks: their layout, stake entries, the bank check, arming and the swap (02 R59-R70, R74-R76). -/
namespace Sys2Proof.Machine

def State.withSched (s : State) (c : Sched) : State := { s with sched := c }

/-! ## Layout (02 R62-R65) -/

def bankOf (s : State) (b : Bool) : Bank := if b then s.sched.bankB else s.sched.bankA
def setBank (s : State) (b : Bool) (x : Bank) : State :=
  s.withSched (if b then { s.sched with bankB := x } else { s.sched with bankA := x })

/-- Register at an offset of a bank, by width in bytes; stake memory begins at 0x100000 (02 R62, R63). -/
def bankReg (off : Nat) : Option Nat :=
  if off = 0 ∨ off = 0x10 ∨ off = 0x12 then some 2
  else if off = 2 ∨ off = 3 then some 1
  else if off = 4 ∨ off = 0x14 then some 4
  else if (off = 8 ∨ (0x18 ≤ off ∧ off < 0x80)) ∧ off % 8 = 0 then some 8
  else if 0x1000 ≤ off ∧ off < 0x4000 ∧ off % 8 = 0 then some 8
  else if 0x100000 ≤ off ∧ off < 0x300000 ∧ off % 8 = 0 then some 8
  else none

/-- Fields of the header marked zero: they read as zero and do not store (02 R63, 00 R11). -/
def bankZero (off : Nat) : Bool := off == 3 || decide (0x12 ≤ off ∧ off < 0x40)

def Bank.read (b : Bank) (off n : Nat) : Nat :=
  if off < 0x1000 then leNat (tread 0 b.hdr off n)
  else if off < 0x100000 then (Tbl.get 0 b.dir ((off - 0x1000) / 8)).toNat
  else (Tbl.get 0 b.stakes ((off - 0x100000) / 8)).toNat

/-- Write a word of a bank. An uncorrectable word that it is merged into stays so (02 R65; DESIGN CHOICE, log entry 106). -/
def Bank.write (b : Bank) (off n v : Nat) : Bank :=
  if off < 0x1000 then (if bankZero off then b else { b with hdr := twrite 0 b.hdr off (leBytes n v) })
  else if off < 0x100000 then { b with dir := Tbl.set 0 b.dir ((off - 0x1000) / 8) (BitVec.ofNat 64 v) }
  else { b with stakes := Tbl.set 0 b.stakes ((off - 0x100000) / 8) (BitVec.ofNat 64 v) }

def Bank.format (b : Bank) : Nat := b.read 0 2
def Bank.period (b : Bank) : Nat := b.read 2 1
def Bank.count (b : Bank) : Nat := b.read 4 4
def Bank.id (b : Bank) : Nat := b.read 8 8
def Bank.mask (b : Bank) : Nat := b.read 0x10 2
def Bank.digest (b : Bank) : List Byte := tread 0 b.hdr 0x40 64

/-- Directory entry of timetable frame `f` and issue unit `u`: first index and number of entries (02 R64). -/
def Bank.dirOf (b : Bank) (f u : Nat) : Nat × Nat :=
  let v := (Tbl.get 0 b.dir (f * 24 + u)).toNat
  (v % 2 ^ 32, v / 2 ^ 32)

def Bank.stake (b : Bank) (i : Nat) : Nat := (Tbl.get 0 b.stakes i).toNat

/-- The bytes that DIGEST covers (02 R63). -/
def Bank.covered (b : Bank) : List Byte :=
  leBytes 2 b.mask ++ ((List.range (b.period * 24)).flatMap fun i => leBytes 8 (Tbl.get 0 b.dir i).toNat) ++
    ((List.range b.count).flatMap fun i => leBytes 8 (b.stake i))

/-! ## Stake entries (02 R34-R37, R59-R61, R64) -/

/-- A stake entry: START, COUNT (number of stakes), spacing, lease class, kind, instance and ARG. -/
structure Stake where
  start : Nat
  n : Nat
  step : Nat
  lease : Nat
  kind : Nat
  inst : Nat
  arg : Nat
  deriving DecidableEq, Repr

def stakeOf (v : Nat) : Stake :=
  { start := v / 2 ^ 52 % 2 ^ 12, n := v / 2 ^ 40 % 2 ^ 12 + 1, step := v / 2 ^ 36 % 16 + 1, lease := v / 2 ^ 28 % 256,
    kind := v / 2 ^ 24 % 16, inst := v / 2 ^ 14 % 1024, arg := v % 2 ^ 14 }

/-- Kinds 3 and 4 count DDR5 slots, the others cycles. -/
def inSlots (kind : Nat) : Bool := kind == 3 || kind == 4

/-- Cycle of DDR5 slot `k` (02 R37). -/
def slotCycle (k : Nat) : Nat := 15 * k / 2

/-- A valid port number of kind 5 (02 R36). -/
def portValid (p : Nat) : Bool :=
  decide (p < 24 ∨ (32 ≤ p ∧ p < 48) ∨ (64 ≤ p ∧ p < 96) ∨ (128 ≤ p ∧ p < 144))

/-- KIND, INSTANCE and ARG are valid (02 R34, R36, R59, R60). -/
def stakeValid (e : Stake) : Bool :=
  (if inSlots e.kind then decide (e.start < 400) else decide (e.start < 3000)) &&
  (if e.kind = 0 then decide (e.inst < 512) && e.arg == 0
   else if e.kind = 1 then decide (e.inst < 16) && decide (e.arg < 3)
   else if e.kind = 2 then decide (e.inst < 25) && decide (e.arg < 25)
   else if e.kind = 3 then decide (e.inst < 12) && (e.arg == 0 || decide (181 ≤ e.arg))
   else if e.kind = 4 then decide (e.inst < 12) && e.arg == 0
   else if e.kind = 5 then decide (e.inst < 256) && portValid e.inst
   else if e.kind = 6 then decide (e.inst < 128) && e.arg == 0
   else if e.kind = 7 then decide (e.inst < 32) && decide (e.arg < 64)
   else if e.kind = 8 then decide (e.inst < 8) && e.arg == 0
   else if e.kind = 9 then decide (e.inst < 9) && e.arg == 0
   else false)

/-- Issue unit of a kind and instance (02 R64). -/
def unitOf (kind inst : Nat) : Nat :=
  if kind = 0 then inst / 64
  else if kind = 1 then inst / 2
  else if kind = 2 then 20
  else if kind = 3 ∨ kind = 4 then 8 + inst
  else if kind = 5 then 21
  else if kind = 6 then inst / 16
  else if kind = 7 then inst / 4
  else if kind = 8 then inst
  else if inst = 8 then 22 else inst

/-- Last cycle or slot of an entry (02 R61). -/
def stakeLast (e : Stake) : Nat := e.start + (e.n - 1) * e.step
def stakeFits (e : Stake) : Bool := if inSlots e.kind then decide (stakeLast e < 400) else decide (stakeLast e < 3000)

/-- The entry has a stake at cycle or slot `t`. -/
def stakeAt (e : Stake) (t : Nat) : Bool :=
  decide (e.start ≤ t ∧ t ≤ stakeLast e) && (t - e.start) % e.step == 0

/-- Entries of a unit in a timetable frame, with their indices. -/
def Bank.entries (b : Bank) (f u : Nat) : List (Nat × Stake) :=
  let (i, n) := b.dirOf f u
  (List.range n).map fun k => (i + k, stakeOf (b.stake (i + k)))

/-! ## The running timetable (02 R29, R35, R71, R72) -/

/-- The DDR5 request slot at a cycle (02 R37). -/
def ddrSlotAt (t : Nat) : Option Nat := let k := (2 * t + 14) / 15; if slotCycle k = t then some k else none

/-- The entry has a stake at cycle `t` of its frame. -/
def stakeNow (e : Stake) (t : Nat) : Bool :=
  if inSlots e.kind then (match ddrSlotAt t with | some k => stakeAt e k | none => false) else stakeAt e t

/-- What an entry claims at cycle `t` of its frame, as kind and instance; an output lane is kind 16, named in the cycle of its stake
(02 R35, R48, R52, R60). -/
def stakeClaims (e : Stake) (t : Nat) : List (Nat × Nat) :=
  if e.kind = 4 then
    match ddrSlotAt t with
    | some k => (if stakeAt e k then [(3, e.inst)] else []) ++ (if 0 < k ∧ stakeAt e (k - 1) then [(3, e.inst)] else [])
    | none => []
  else if stakeNow e t = false then []
  else if e.kind = 2 then [(2, e.inst), (16, e.arg)]
  else if e.kind = 7 then [(7, e.inst), (0, e.inst / 4 * 64 + e.arg)]
  else if e.kind = 8 then (8, e.inst) :: (List.range 32).map fun k => (0, e.inst * 64 + 2 * k + 1)
  else [(e.kind, e.inst)]

/-- Entries of a unit's list that can issue: no stake of an uncorrectable word or of an invalid entry ever does (02 R72). -/
def Bank.live (b : Bank) (f u : Nat) : List Stake :=
  ((b.entries f u).filter fun e => !b.unc.contains ((0x100000 + e.1 * 8) / 32) && stakeValid e.2 && stakeFits e.2 &&
    unitOf e.2.kind e.2.inst == u).map (·.2)

/-- Stakes of a unit's list that claim an instance at cycle `t` of timetable frame `f`, one for each claim. -/
def Bank.claimants (b : Bank) (f kind inst t : Nat) : List Stake :=
  (b.live f (if kind = 16 then 20 else unitOf kind inst)).flatMap fun e => List.replicate ((stakeClaims e t).count (kind, inst)) e

/-- The stake collides at cycle `t`: something it claims is claimed twice (02 R71). -/
def Bank.collides (b : Bank) (f : Nat) (e : Stake) (t : Nat) : Bool :=
  (stakeClaims e t).any fun k => decide (2 ≤ (b.claimants f k.1 k.2 t).length)

/-- An event that ends the schedule: its cycle, cause, and for a collision the instance and the two lowest lease classes (02 R71-R73). -/
structure Event where
  cycle : Nat
  cause : Nat
  kind : Nat
  inst : Nat
  leaseA : Nat
  leaseB : Nat
  deriving DecidableEq, Repr

/-- The earlier of two events; in one cycle the lower kind, then the lower instance is the first (DESIGN CHOICE, log entry 95). -/
def Event.earlier (a b : Event) : Event :=
  if a.cycle < b.cycle ∨ (a.cycle = b.cycle ∧ (a.kind < b.kind ∨ (a.kind = b.kind ∧ a.inst ≤ b.inst))) then a else b

/-- Cycles in which an entry claims something. -/
def stakeCycles (e : Stake) : List Nat :=
  (List.range e.n).flatMap fun i =>
    let k := e.start + i * e.step
    if e.kind = 4 then [slotCycle k, slotCycle (k + 1)] else if e.kind = 3 then [slotCycle k] else [k]

/-- Two entries of one unit can claim one instance at all. -/
def sharesInst (e x : Stake) : Bool :=
  if e.kind = x.kind then e.inst == x.inst || (e.kind == 2 && e.arg == x.arg) || (e.kind == 7 && e.inst / 4 == x.inst / 4 && e.arg == x.arg)
  else if inSlots e.kind ∧ inSlots x.kind then true
  else
    let port := fun (y : Stake) => if y.kind = 7 then y.inst / 4 * 64 + y.arg else y.inst
    let onPort := fun (y : Stake) => y.kind == 0 || y.kind == 7
    if e.kind = 8 then onPort x && port x % 2 == 1
    else if x.kind = 8 then onPort e && port e % 2 == 1
    else onPort e && onPort x && port e == port x

/-- Collisions of one entry with the entries of its unit in the cycles from `lo` to `hi` - 1 of frame `f`. -/
def Bank.clashes (b : Bank) (f lo hi : Nat) (e : Stake) : List Event :=
  if ((b.live f (unitOf e.kind e.inst)).countP (sharesInst e)) < 2 ∧ ¬(e.kind = 4 ∧ e.step = 1 ∧ 1 < e.n) then [] else
  ((stakeCycles e).filter fun t => decide (lo ≤ t ∧ t < hi)).flatMap fun t =>
    (stakeClaims e t).filterMap fun k =>
      let ls := (b.claimants f k.1 k.2 t).map (·.lease)
      if ls.length < 2 then none
      else
        let a := ls.foldl min 255
        some ⟨t, 1, if k.1 = 16 then 2 else k.1, if k.1 = 16 then e.inst else k.2, a, (ls.erase a).foldl min 255⟩

/-- A unit that would have to expand more than 64 entries in one cycle (02 R72). -/
def Bank.overruns (b : Bank) (f u lo hi : Nat) : List Event :=
  let es := b.live f u
  if es.length ≤ 64 then []
  else es.filterMap fun e =>
    let t := if inSlots e.kind then slotCycle e.start else e.start
    if lo ≤ t ∧ t < hi ∧ 64 < (es.filter fun x => x.start ≤ e.start && e.start ≤ stakeLast x).length then some ⟨t, 4, 0, 0, 0, 0⟩ else none

/-- The first event of a frame in the cycles from `lo` to `hi` - 1. -/
def Bank.firstEvent (b : Bank) (f lo hi : Nat) : Option Event :=
  (List.range 24).foldl (fun acc u =>
    (((b.live f u).flatMap (b.clashes f lo hi)) ++ b.overruns f u lo hi).foldl (fun acc e =>
      match acc with
      | none => some e
      | some x => some (x.earlier e)) acc) none

/-! ## The bank check (02 R66, R67) -/

/-- Result of a check or of one of its steps: a code, and the entry, frame and unit of the failure. -/
structure CheckInfo where
  code : Nat
  entry : Nat
  frame : Nat
  unit : Nat
  deriving DecidableEq, Repr

/-- A 256-bit word of the bank is uncorrectable; words are numbered by byte offset / 32 (02 R62, R63). -/
def Bank.hdrBad (b : Bank) : Bool := b.unc.any fun w => w < 4
def Bank.dirBad (b : Bank) (f u : Nat) : Bool := b.unc.contains ((0x1000 + (f * 24 + u) * 8) / 32)
def Bank.stakeBad (b : Bank) (i : Nat) : Bool := b.unc.contains ((0x100000 + i * 8) / 32)

/-- Frames and units of a period, in order. -/
def Bank.lists (b : Bank) : List (Nat × Nat) := (List.range b.period).flatMap fun f => (List.range 24).map fun u => (f, u)

/-- Where entry `i` is listed first. -/
def Bank.listing (b : Bank) (i : Nat) : Nat × Nat :=
  ((b.lists).find? fun (f, u) => let (j, n) := b.dirOf f u; j ≤ i && i < j + n).getD (0, 0)

/-- Step 1 (02 R66): header, words read, digest. -/
def check1 (b : Bank) : Option CheckInfo :=
  if b.hdrBad then some ⟨14, 0, 0, 0⟩
  else if b.format ≠ 1 ∨ b.period = 0 ∨ 64 < b.period ∨ 0x1000 ≤ b.mask ∨ 0x40000 < b.count then some ⟨2, 0, 0, 0⟩
  else
    match (b.lists).find? fun (f, u) => b.dirBad f u with
    | some (f, u) => some ⟨14, (b.dirOf f u).1 % 2 ^ 18, f, u⟩
    | none =>
      match (List.range b.count).find? b.stakeBad with
      | some i => some ⟨14, i, (b.listing i).1, (b.listing i).2⟩
      | none => if shake256 b.covered = b.digest then none else some ⟨3, 0, 0, 0⟩

/-- Entries of one unit that are expanding in cycle or slot `t`. -/
def expanding (es : List (Nat × Stake)) (t : Nat) : Nat := (es.filter fun e => e.2.start ≤ t && t ≤ stakeLast e.2).length

/-- Step 2 for one list (02 R59-R61, R64): of its failures the first is found in this order (DESIGN CHOICE, log entry 13). -/
def check2 (b : Bank) (f u : Nat) : Option CheckInfo :=
  let (i, n) := b.dirOf f u
  if b.count < i + n ∨ (u = 23 ∧ n ≠ 0) then some ⟨5, i % 2 ^ 18, f, u⟩
  else
    let es := b.entries f u
    match es.find? fun e => !stakeValid e.2 || unitOf e.2.kind e.2.inst != u with
    | some e => some ⟨4, e.1, f, u⟩
    | none =>
      match (es.zip es.tail).find? fun p => p.2.2.start < p.1.2.start with
      | some p => some ⟨5, p.2.1, f, u⟩
      | none =>
        match es.find? fun e => !stakeFits e.2 with
        | some e => some ⟨5, e.1, f, u⟩
        | none =>
          match es.find? fun e => 64 < expanding es e.2.start with
          | some e => some ⟨6, e.1, f, u⟩
          | none => none

/-- Step 2 for the entries below ENTRY_COUNT that no directory entry lists: they have no unit and no frame, so their fields and their last
stake are verified, after the lists, and a failure shows frame 0 and unit 0 (02 R66; DESIGN CHOICE, log entry 96). -/
def check2Rest (b : Bank) : Option CheckInfo :=
  ((List.range b.count).find? fun i =>
    let e := stakeOf (b.stake i)
    (!stakeValid e || !stakeFits e) && !(b.lists.any fun (f, u) => let (j, n) := b.dirOf f u; decide (j ≤ i ∧ i < j + n))).map fun i =>
      ⟨if stakeValid (stakeOf (b.stake i)) then 5 else 4, i, 0, 0⟩

/-- Cycles or slots of the stakes of a kind and instance in a frame, in entry order. -/
def Bank.timesOf (b : Bank) (f kind inst : Nat) : List Nat :=
  (b.entries f (unitOf kind inst)).flatMap fun e =>
    if e.2.kind = kind ∧ e.2.inst = inst then (List.range e.2.n).map fun k => e.2.start + k * e.2.step else []

/-- Background test cycles of a pitch are one run of 24 (02 R52). -/
def isRun24 (l : List Nat) : Bool :=
  match l with
  | [] => false
  | c :: _ => l == (List.range 24).map (c + ·)

/-- Step 3 for one frame (02 R30, R48, R52, R54): device stakes, then lease class 0. Which of several failures is the first, and the ENTRY of a
missing stake, the first index of its list, are the model's choice (DESIGN CHOICE, log entry 13). -/
def check3 (b : Bank) (f : Nat) : Option CheckInfo :=
  let bad := fun u => some (CheckInfo.mk 7 ((b.dirOf f u).1 % 2 ^ 18) f u)
  match (List.range 12).find? fun c => b.mask.testBit c &&
      (b.timesOf f 4 c != [0, 80, 160, 240, 320] || (b.timesOf f 3 c).any fun k => k % 80 < 2 && decide (k < 322)) with
  | some c => bad (8 + c)
  | none =>
    match (List.range 8).find? fun p => !isRun24 (b.timesOf f 8 p) with
    | some p => bad p
    | none =>
      match (List.range 9).find? fun m => b.timesOf f 9 m != [2999] with
      | some m => bad (unitOf 9 m)
      | none =>
        match (List.range 24).findSome? fun u => ((b.entries f u).find? fun e =>
            let dev := e.2.kind == 4 || e.2.kind == 8 || e.2.kind == 9
            (dev && e.2.lease != 0) || (!dev && e.2.kind != 7 && e.2.lease == 0)).map fun e => (e.1, u) with
        | some (i, u) => some ⟨8, i, f, u⟩
        | none => none

/-- The bank holds a ridgepole stake of class `l` from one of `srcs` at cycle `c` of timetable frame `f`. -/
def Bank.ridge (b : Bank) (f c l : Nat) (srcs : List Nat) : Bool :=
  (b.entries f 20).any fun e => e.2.kind == 2 && srcs.contains e.2.inst && e.2.lease == l && stakeAt e.2 c

/-- Source ports that read the landing buffer of a fetch: of a DDR5 channel, or of the port complex (02 R40). -/
def landingPorts (kind inst : Nat) : List Nat := if kind = 3 then [8 + inst] else [20, 21, 22, 23]

/-- Step 4 for one frame (02 R66): every paired fetch has its first consuming stake. -/
def check4 (b : Bank) (f : Nat) : Option CheckInfo :=
  ((List.range 24).findSome? fun u => ((b.entries f u).find? fun e =>
    (e.2.kind == 3 || e.2.kind == 5) && e.2.arg != 0 &&
      (List.range e.2.n).any fun k =>
        let t := e.2.start + k * e.2.step
        let c := (if e.2.kind = 3 then slotCycle t else t) + e.2.arg
        !b.ridge ((f + c / 3000) % b.period) (c % 3000) e.2.lease (landingPorts e.2.kind e.2.inst)).map fun e => (e.1, u)).map
    fun (i, u) => ⟨9, i, f, u⟩

/-- DDR5 channel that an entry names, if any: its slots, or a landing buffer or destination on the ridgepole. -/
def stakeChannels (e : Stake) : List Nat :=
  if inSlots e.kind then [e.inst]
  else if e.kind = 2 then ([e.inst, e.arg].filter fun p => 8 ≤ p && p < 20).map (· - 8)
  else []

/-- Step 5 (02 R66): no stake on a channel outside CHANNEL_MASK, and every channel in it in service; a channel that is not shows the first index of
its own list in frame 0 (DESIGN CHOICE, log entry 13). -/
def check5 (s : State) (b : Bank) : Option CheckInfo :=
  match (b.lists).findSome? fun (f, u) => ((b.entries f u).find? fun e =>
      (stakeChannels e.2).any fun c => !b.mask.testBit c).map fun e => (e.1, f, u) with
  | some (i, f, u) => some ⟨10, i, f, u⟩
  | none =>
    let used := fun c => (b.lists).any fun (f, u) => (b.entries f u).any fun e =>
      e.2.kind != 4 && (stakeChannels e.2).contains c
    match (List.range 12).find? fun c => b.mask.testBit c &&
        !(ddrPresent s c && (domOn s (32 + c) || (decide (domState s (32 + c) < 4) && !used c))) with
    | some c => some ⟨10, (b.dirOf 0 (8 + c)).1 % 2 ^ 18, 0, 8 + c⟩
    | none => none

/-- Resource instances an entry claims at its stake `t` of frame `f`, as (frame and cycle or slot, kind, instance) in one
number; output lanes are kind 16 and fall six cycles later, wrapping with the period (02 R35, R52, R60). -/
def claimsOf (period f : Nat) (e : Stake) (t : Nat) : List Nat :=
  let key := fun (f t kind inst : Nat) => ((f * 4096 + t) * 32 + kind) * 1024 + inst
  if e.kind = 2 then
    let g := if t + 6 < 3000 then (f, t + 6) else ((f + 1) % period, t + 6 - 3000)
    [key f t 2 e.inst, key g.1 g.2 16 e.arg]
  else if e.kind = 4 then [key f t 3 e.inst, key f (t + 1) 3 e.inst]
  else if e.kind = 7 then [key f t 7 e.inst, key f t 0 (e.inst / 4 * 64 + e.arg)]
  else if e.kind = 8 then key f t 8 e.inst :: (List.range 32).map fun k => key f t 0 (e.inst * 64 + 2 * k + 1)
  else [key f t e.kind e.inst]

/-- Step 6 (02 R66): the first entry one of whose claims is already taken. -/
def check6 (b : Bank) : Option CheckInfo :=
  ((b.lists).foldl (fun (acc : Tbl Unit × Option CheckInfo) (f, u) =>
    (b.entries f u).foldl (fun acc e =>
      ((List.range e.2.n).flatMap fun k => claimsOf b.period f e.2 (e.2.start + k * e.2.step)).foldl (fun acc c =>
        match acc.2 with
        | some _ => acc
        | none =>
          if (acc.1.find? fun x => x.1 == c).isSome then (acc.1, some ⟨11, e.1, f, u⟩)
          else (Tbl.ins acc.1 c (), none)) acc) acc) ([], none)).2

/-- The bank check (02 R66): code 1 is a pass. -/
def checkBank (s : State) (b : Bank) : CheckInfo :=
  match check1 b with
  | some i => i
  | none =>
    match ((b.lists).findSome? fun (f, u) => check2 b f u).orElse fun _ => check2Rest b with
    | some i => i
    | none =>
      match (List.range b.period).findSome? fun f => check3 b f with
      | some i => i
      | none =>
        match (List.range b.period).findSome? fun f => check4 b f with
        | some i => i
        | none =>
          match check5 s b with
          | some i => i
          | none => (check6 b).getD ⟨1, 0, 0, 0⟩

/-! ## Control (02 R65-R70, R75) -/

/-- The active bank; none while free-lane-only. -/
def activeBank (s : State) : Option Bool :=
  if freeOnly s then none else some (rb s R.SCHED_STATUS F.SCHED_STATUS_ACTIVE)

def checkedField (b : Bool) : Nat × Nat := if b then F.SCHED_STATUS_CHECKED_B else F.SCHED_STATUS_CHECKED_A

def stf (s : State) (f : Nat × Nat) (v : Nat) : State := wf s R.SCHED_STATUS f v

/-- A bank is no longer checked: a swap pending to it is cancelled (02 R65, R66, R68). -/
def unchecked (s : State) (b : Bool) : State :=
  let s1 := stf s (checkedField b) 0
  match s1.sched.swap with
  | some (t, _, _) =>
    if t = b then
      stf (stf (s1.withSched { s1.sched with swap := none }) F.SCHED_STATUS_SWAP_PENDING 0) F.SCHED_STATUS_SWAP_RESULT 3
    else s1
  | none => s1

/-- An arm request for bank `b` (02 R68), with the SCHED_SWAP_FRAME of now: of a check that arms, that at its completion (DEDUCED, log entry 13). -/
def armSwap (s : State) (b : Bool) : State :=
  if activeBank s = some b then stf s F.SCHED_STATUS_SWAP_RESULT 4
  else if rb s R.SCHED_STATUS (checkedField b) = false then stf s F.SCHED_STATUS_SWAP_RESULT 3
  else
    let f := rg s R.SCHED_SWAP_FRAME
    let g := s.sched.frame.toNat
    let p := if g + 2 ≤ f then (b, BitVec.ofNat 64 f, false) else (b, BitVec.ofNat 64 (g + 2), true)
    stf (s.withSched { s.sched with swap := some p }) F.SCHED_STATUS_SWAP_PENDING 1

/-- A check of bank `b` ends with a result (02 R66, R67). -/
def endCheck (s : State) (b arm : Bool) (i : CheckInfo) : State :=
  let s1 := stf (stf (s.withSched { s.sched with check := none }) F.SCHED_STATUS_CHECK_BUSY 0) F.SCHED_STATUS_CHECK_RESULT i.code
  let info := fset (fset (fset 0 F.SCHED_CHECK_INFO_ENTRY i.entry) F.SCHED_CHECK_INFO_FRAME i.frame) F.SCHED_CHECK_INFO_UNIT i.unit
  let s2 := wr s1 R.SCHED_CHECK_INFO info
  if i.code = 1 then
    let s3 := stf s2 (checkedField b) 1
    if arm then armSwap s3 b else s3
  else
    let s3 := unchecked s2 b
    if arm then stf s3 F.SCHED_STATUS_SWAP_RESULT 3 else s3

/-- SCHED_CTRL as it reads: SWAP_ARM as SWAP_PENDING, CHECK as CHECK_BUSY (02 SCHED_CTRL). -/
def schedCtrlRead (s : State) : Nat :=
  rg s R.SCHED_CTRL % 2 + 2 * rf s R.SCHED_STATUS F.SCHED_STATUS_CHECK_BUSY + 4 * rf s R.SCHED_STATUS F.SCHED_STATUS_SWAP_PENDING

/-- A write of SCHED_CTRL (02 R66, R68, R75). -/
def schedCtrlS (v : Nat) (s : State) : State :=
  let b := v % 2 == 1
  let arm := v / 4 % 2 == 1
  let s1 := wf s R.SCHED_CTRL F.SCHED_CTRL_TARGET (v % 2)
  if v / 2 % 2 = 1 ∧ s1.sched.check = none then
    if activeBank s1 = some b then
      let s2 := stf s1 F.SCHED_STATUS_CHECK_RESULT 13
      if arm then armSwap s2 b else s2
    else stf (s1.withSched { s1.sched with check := some (b, arm) }) F.SCHED_STATUS_CHECK_BUSY 1
  else if arm then armSwap s1 b else s1

/-- CHECK (02 R66): a write of SCHED_CTRL with CHECK set. -/
def execBankCheck (v : W32) (s : State) : Host.Outcome State Fault Refusal :=
  doneMgmt s (if v.getLsbD 1 then schedCtrlS v.toNat s else s)

/-- SWAP_ARM (02 R68): a write of SCHED_CTRL with SWAP_ARM set. -/
def execSwapArm (v : W32) (s : State) : Host.Outcome State Fault Refusal :=
  doneMgmt s (if v.getLsbD 2 then schedCtrlS v.toNat s else s)

/-- The running check ends. -/
def checkCompleteS (s : State) : State :=
  match s.sched.check with
  | some (b, arm) => endCheck s b arm (checkBank s (bankOf s b))
  | none => s

/-- CHECK_COMPLETE (02 R66). -/
def execCheckComplete (s : State) : Host.Outcome State Fault Refusal := done s (checkCompleteS s)

/-- A write to a frame bank (02 R65, R66). -/
def bankWriteS (b : Bool) (off n v : Nat) (s : State) : State :=
  if activeBank s = some b then stf s F.SCHED_STATUS_BANK_WRITE_DENIED 1
  else
    let s1 := unchecked (setBank s b ((bankOf s b).write off n v)) b
    match s1.sched.check with
    | some (t, arm) => if t = b then endCheck s1 b arm ⟨12, 0, 0, 0⟩ else s1
    | none => s1

/-- BANK_WRITE (02 R65): a write of the width of the register at the offset. -/
def execBankWrite (bank : Bool) (off size : Nat) (v : W64) (s : State) : Host.Outcome State Fault Refusal :=
  doneMgmt s (if bankReg off = some size then bankWriteS bank off size v.toNat s else s)

/-- Timetable frame of bank `b` that the present frame executes (02 R29). -/
def timetableFrame (s : State) (b : Bank) : Nat :=
  (s.sched.frame.toNat - rg s R.SCHED_LAST_SWAP) % b.period

/-- Stakes of class `n` may be used (02 R77). -/
def leaseOn (s : State) (n : Nat) : Bool := n == 0 || rb s R.LEASE_CFG F.LEASE_CFG_ENABLE n

/-- Lines that a pitch's receive holding buffer holds (02 R69). -/
def heldIn (s : State) (p : Nat) : Nat := s.sched.held.countP fun x => x.place == p

/-- Data of old output-lane claims delivered to pitches without a mover stake of its class one cycle later goes to the holding buffers
(02 R69); a free-lane transfer has its mover cycle since its grant (R57). -/
def holdDeliveries (s : State) (b : Bank) : State :=
  let base := s.sched.frame.toNat * 3000
  let due := s.sched.flights.filter fun x => decide (x.place < 8 ∧ base ≤ x.there ∧ x.there < base + 6) &&
    !((b.live 0 x.place).any fun e => e.kind == 1 && e.arg == 0 && x.lease == some e.lease && leaseOn s e.lease && stakeAt e (x.there - base + 1)) &&
    !(s.sched.busy.any fun y => y.1 == x.there + 1 && y.2.1 == 1 && y.2.2 / 2 == x.place)
  s.withSched { s.sched with flights := s.sched.flights.filter fun x => !due.contains x, held := s.sched.held ++ due }

/-- Consuming stakes of paired fetches at or after a cycle are dropped; their data is consumed in the free lane (02 R69, R73). -/
def unbindFrom (s : State) (c : Nat) : State :=
  let free := fun (f : Fetch) => if f.consume.any (fun e => decide (c ≤ e.1)) then { f with consume := [] } else f
  s.withSched { s.sched with fetches := s.sched.fetches.map free }

/-- The swap at cycle 0 of its frame (02 R69, R70, R74). A bank that is still CHECKED although its CHANNEL_MASK
names a channel lost since ends free-lane-only operation like any other, without a new fault (DESIGN CHOICE, log entry 108). -/
def swapTo (s : State) (b : Bool) (late : Bool) : State :=
  let bank := bankOf s b
  let s1 := stf (stf (stf s F.SCHED_STATUS_ACTIVE (b2n b)) F.SCHED_STATUS_FREE_ONLY 0) F.SCHED_STATUS_SWAP_PENDING 0
  let s2 := stf (stf s1 F.SCHED_STATUS_SWAP_RESULT (if late then 2 else 1)) F.SCHED_STATUS_ACTIVE_PERIOD bank.period
  let s3 := wr (s2.withSched { s2.sched with swap := none }) R.SCHED_LAST_SWAP s2.sched.frame.toNat
  let s4 := wf (wf s3 R.SCHED_FAULT F.SCHED_FAULT_CONTRACT 0) R.SCHED_FAULT F.SCHED_FAULT_CAUSE 0
  let s5 := wr (wr s4 R.SCHED_FAULT_INFO 0) R.SCHED_FAULT_LEASES 0
  let s6 := s5.withMeter { s5.meter with cur := { s5.meter.cur with swaps := s5.meter.cur.swaps + 1 } }
  unbindFrom (holdDeliveries s6 bank) (s6.sched.frame.toNat * 3000)

/-- A write of LEASE_CFG[n] takes effect at the next frame; class 0 ignores it (02 R77). -/
def leaseCfgS (n v : Nat) (s : State) : State :=
  if n = 0 ∨ 256 ≤ n then s
  else
    let w := fset (fset 0 F.LEASE_CFG_ENABLE (fget v F.LEASE_CFG_ENABLE)) F.LEASE_CFG_TENANT (fget v F.LEASE_CFG_TENANT)
    s.withSched { s.sched with leasePending := Tbl.ins s.sched.leasePending n (BitVec.ofNat 32 w) }

/-- LEASE_CFG_WRITE (02 R77). -/
def execLeaseCfgWrite (n : Nat) (v : W32) (s : State) : Host.Outcome State Fault Refusal := doneMgmt s (leaseCfgS n v.toNat s)

/-- LEASE_CFG[n] as it reads: class 0 is fixed, a write not yet in force is shown. -/
def leaseCfgRead (s : State) (n : Nat) : Nat :=
  if n = 0 then 0x80000000
  else
    match s.sched.leasePending.find? fun e => e.1 == n with
    | some e => e.2.toNat
    | none => rg s R.LEASE_CFG n

end Sys2Proof.Machine
end

