-- ==== Sys2Proof/Machine/Sched.lean ====
section
/-! DEFINITION. The running schedule: the passing of cycles, the contract fault, landing buffers, what an operation does on the instances it
is issued on, stakes, the free lane, responses and refresh (02 R31-R58, R71-R73). Cycles are absolute: frame x 3,000 + cycle. -/
namespace Sys2Proof.Machine

/-! ## Free-lane-only operation (02 R71-R74) -/

/-- A schedule contract fault (02 R71-R73): the first since the last swap is recorded; no stake issues from then on. -/
def contractFault (s : State) (cause kind inst leaseA leaseB : Nat) : State :=
  let s1 := if rf s R.SCHED_FAULT F.SCHED_FAULT_CAUSE ≠ 0 then s
    else
      let i0 := fset 0 F.SCHED_FAULT_INFO_FRAME_LOW s.sched.frame.toNat
      let i1 := fset (fset (fset i0 F.SCHED_FAULT_INFO_CYCLE s.sched.cycle) F.SCHED_FAULT_INFO_KIND kind) F.SCHED_FAULT_INFO_INSTANCE inst
      let l := fset (fset 0 F.SCHED_FAULT_LEASES_LEASE_A leaseA) F.SCHED_FAULT_LEASES_LEASE_B leaseB
      wr (wr (wf s R.SCHED_FAULT F.SCHED_FAULT_CAUSE cause) R.SCHED_FAULT_INFO i1) R.SCHED_FAULT_LEASES l
  let s2 := wf s1 R.SCHED_FAULT F.SCHED_FAULT_CONTRACT 1
  let s3 := stf (stf s2 F.SCHED_STATUS_FREE_ONLY 1) F.SCHED_STATUS_ACTIVE_PERIOD 0
  (List.range 8).foldl abortTest (unbindFrom s3 0)

/-! ## Landing buffers (02 R40-R47) -/

/-- Slots of a landing buffer: 0-11 DDR5, 12 the port complex. -/
def bufSlots (b : Nat) : Nat := if b < 12 then 512 else 8192

/-- Partition number of an owner: 511 is the common pool (02 R40). -/
def partOf (s : State) (b : Nat) (o : Owner) : Nat :=
  let k := match o with
    | .lease n => n
    | .frontEnd => 256
    | .ranger => 257
    | .freeOnly => 511
  if Tbl.get 0 s.sched.partition (b * 512 + k) = 0 then 511 else k

/-- Slots of a partition, or of the common pool. -/
def partSlots (s : State) (b k : Nat) : Nat :=
  if k = 511 then bufSlots b - ((s.sched.partition.filter fun e => e.1 / 512 == b).map (·.2)).foldl (· + ·) 0
  else Tbl.get 0 s.sched.partition (b * 512 + k)

/-- Slots of 128 bytes that a received frame takes (02 R40, 10 R360). -/
def frameSlots (f : List Byte) : Nat := (f.length + 127) / 128

/-- Slots of a partition in use: by fetches, and in the port complex by the part of received frames that has not left. -/
def usedSlots (s : State) (b k : Nat) : Nat :=
  let fetched := ((s.sched.fetches.filter fun f => f.buf == b && f.part == k).map (·.slots)).foldl (· + ·) 0
  let frames := ((s.ports.rx.filter fun e => Config.rxPartition e.1 == k).flatMap fun e => e.2.frames.map frameSlots).foldl (· + ·) 0
  if b = 12 then fetched + (frames - Tbl.get 0 s.ports.crossed k / 2) else fetched

def slotsFree (s : State) (b : Nat) (o : Owner) (n : Nat) : Bool :=
  decide (usedSlots s b (partOf s b o) + n ≤ partSlots s b (partOf s b o))

/-- Frames that wait in a landing partition, in the order of their arrival; `n` counts those of a queue already passed. -/
def framesIn (rx : Tbl RxQueue) (k : Nat) : List Nat → Tbl Nat → List (List Byte)
  | [], _ => []
  | q :: qs, n =>
    let rest := framesIn rx k qs (Tbl.upd 0 n q (· + 1))
    if Config.rxPartition q = k then (Tbl.get RxQueue.reset rx q).frames.getD (Tbl.get 0 n q) [] :: rest else rest

/-- The 64-byte halves of a frame, in whole landing slots. -/
def frameHalves (f : List Byte) : List (List Byte) := (List.range (2 * frameSlots f)).map fun i => bytesAt f (64 * i) 64

/-- The next half of unrequested traffic of a partition: oldest arrival first (02 R47). -/
def nextHalf (s : State) (k : Nat) : Option (List Byte) :=
  ((framesIn s.ports.rx k s.ports.arrivals []).flatMap frameHalves)[Tbl.get 0 s.ports.crossed k]?

/-- The timetable frame of a bank at an absolute cycle (02 R29). -/
def frameAt (s : State) (bank : Bank) (c : Nat) : Nat := (c / 3000 - rg s R.SCHED_LAST_SWAP) % bank.period

/-- The active timetable has a ridgepole stake of class `l` from landing port `src` at absolute cycle `c`. -/
def ridgeAt (s : State) (l src c : Nat) : Bool :=
  match activeBank s with
  | none => false
  | some b => ((bankOf s b).claimants (frameAt s (bankOf s b) c) 2 src (c % 3000)).any fun e => e.lease == l

/-- Move one consuming stake past cycle `upto`, counting a miss at each cycle it passes (02 R45); none where the next frame has
no such stake. -/
def moveStake (s : State) (l : Nat) (upto : Nat) : Nat → Nat × Nat → Nat × Option (Nat × Nat)
  | 0, e => (0, some e)
  | n + 1, (c, src) =>
    if upto < c then (0, some (c, src))
    else if ridgeAt s l src (c + 3000) then
      let (m, r) := moveStake s l upto n (c + 3000, src)
      (m + 1, r)
    else (1, none)

/-- Misses of one fetch whose data has not landed by the end of cycle `upto` (02 R44, R45). -/
def missFetch (s : State) (upto : Nat) (f : Fetch) : Nat × Fetch :=
  match f.lease with
  | none => (0, f)
  | some l =>
    if f.landed.isSome then (0, f)
    else
      let rs := f.consume.map fun e => moveStake s l upto ((upto - e.1) / 3000 + 1) e
      ((rs.map (·.1)).foldl (· + ·) 0, { f with consume := rs.filterMap (·.2), missed := f.missed || rs.any fun r => r.1 != 0 })

/-- Count every consuming stake that has passed without its data by the end of cycle `upto`. -/
def settleMisses (s : State) (upto : Nat) : State :=
  s.sched.fetches.foldl (fun u f =>
    let (n, g) := missFetch u upto f
    let u1 := u.withSched { u.sched with fetches := u.sched.fetches.map fun x => if x.id = f.id then g else x }
    (List.range n).foldl (fun t _ => mMiss t 8 (f.lease.getD 0)) u1) s

/-- Consuming stakes of a paired fetch (02 R42): the stake of class `l` on the landing buffer's port at cycle `c`, and the following ones of
that class on that port, two to a slot, looked for within the periods that follow. -/
def consumeStakes (s : State) (bank : Bank) (l kind inst c n : Nat) : List (Nat × Nat) :=
  match (landingPorts kind inst).find? fun src => ridgeAt s l src c with
  | none => []
  | some src =>
    let frames := (List.range (bank.period * (n + 1) + 1)).map (c / 3000 + ·)
    let all := frames.flatMap fun fr =>
      let es := (bank.live (frameAt s bank (fr * 3000)) 20).filter fun e => e.kind == 2 && e.inst == src && e.lease == l
      if es.isEmpty then [] else ((List.range 3000).filter fun t => es.any fun e => stakeAt e t).map fun t => (fr * 3000 + t, src)
    (all.filter fun e => decide (c ≤ e.1)).take n

/-! ## Claims and bank ports (02 R33, R38, 07 R248-R250) -/

/-- Claim an instance for a cycle; claims older than a few cycles are forgotten. Output lanes are kind 16. -/
def claim (s : State) (c kind inst : Nat) : State :=
  s.withSched { s.sched with busy := (s.sched.busy.filter fun e => c ≤ e.1 + 16) ++ [(c, kind, inst)] }

def claimed (s : State) (c kind inst : Nat) : Bool := s.sched.busy.contains (c, kind, inst)

/-- What a stake claims, from absolute cycle `c` on: the output lane of a ridgepole stake six cycles later (02 R35). -/
def claimStake (s : State) (e : Stake) (c : Nat) : State :=
  (stakeClaims e (c % 3000)).foldl (fun u k => claim u (if k.1 = 16 then c + 6 else c) k.1 k.2) s

/-- Data read from a scratchpad word in the cycle of a write to it is the word as written (07 R248). -/
def refreshReads (s : State) (c w : Nat) : State :=
  s.withSched { s.sched with flights := s.sched.flights.map fun x =>
    if x.read = c ∧ x.src.contains w then
      { x with data := (x.src.zip x.data).map fun e => if e.1 = w then (spWord s (w / 2 ^ 20) (w % 2 ^ 20)).1 else e.2 }
    else x }

/-- Put a word back as it was before a write that is discarded (07 R249). -/
def spUndo (s : State) (q : PortWr) : State :=
  let p := q.word / 2 ^ 20
  let w := q.word % 2 ^ 20
  match redirected s p w with
  | some i => setShadow s p i { shadowOf s p i with data := q.old, bad := q.oldBad }
  | none => spStore s p w q.old (if q.oldBad then some (spCheckOf s p w) else none) q.oldBad

/-- A write through a bank port in cycle `c` (07 R246, R248, R249): against an identical write of the other port in that cycle the word is
written once; otherwise port A's write is performed in full, port B's is discarded in full, and the collision is counted. -/
def portWrite (s : State) (c p w port : Nat) (mask : BitVec 32) (d : BitVec 256) : State :=
  let key := p * 2 ^ 20 + w
  let mine : PortWr :=
    { cycle := c, word := key, port := port, mask := mask, data := d, old := (spWord s p w).1, oldBad := (spWord s p w).2 }
  let s1 := s.withSched { s.sched with writes := (s.sched.writes.filter fun x => decide (c ≤ x.cycle + 16)) ++ [mine] }
  match s.sched.writes.find? fun x => x.cycle == c && x.word == key && x.port != port with
  | none => refreshReads (spWrMask s1 p w mask d) c key
  | some q =>
    if q.mask = mask ∧ mergeMask 0 q.data mask = mergeMask 0 d mask then s1
    else
      let s2 := satAdd s1 R.SP_BANK_ERR F.SP_BANK_ERR_WW_COLLISIONS 1 p (w / (bankBytes / 32))
      if port = 0 then refreshReads (spWrMask (spUndo s2 q) p w mask d) c key else s2

/-- Key of a word of a pitch, and the first of the two ports of its bank. -/
def wordKey (p w : Nat) : Nat := p * 2 ^ 20 + w
def firstPort (w : Nat) : Nat := w / 2 ^ 20 * 64 + w % 2 ^ 20 / (bankBytes / 32) * 2

/-- The timetable gives class `l` the stake of an instance at an absolute cycle, and it collides with nothing. -/
def stakedFor (s : State) (l kind inst c : Nat) : Bool :=
  match activeBank s with
  | none => false
  | some b =>
    match (bankOf s b).claimants (frameAt s (bankOf s b) c) kind inst (c % 3000) with
    | [e] => e.kind == kind && e.lease == l && !(bankOf s b).collides (frameAt s (bankOf s b) c) e (c % 3000)
    | _ => false

/-- A stake of the device takes the instance in its cycle: the background test its bank's port B, a refresh its slots (02 R33, R49, R52). -/
def deviceTakes (s : State) (e : Stake) (kind inst t : Nat) : Bool :=
  if e.kind = 8 then
    testRuns s e.inst && kind == 0 && inst == e.inst * 64 + 2 * rf s R.BGT_STATUS F.BGT_STATUS_BANK e.inst + 1
  else e.kind == 4 && (ddrSlotAt t).any (stakeAt e) && domOn s (32 + e.inst) && decide (0 < Tbl.get 0 s.sched.debt e.inst)

/-- An instance is free for the free lane in a cycle: claimed by nothing that issued, in no collision, and not about to be taken by a stake
of the device (02 R33, R55, R71); a DDR5 request falls in a slot (R37). -/
def instFree (s : State) (kind inst c : Nat) : Bool :=
  !claimed s c kind inst && (kind != 3 || (ddrSlotAt (c % 3000)).isSome) &&
  match activeBank s with
  | none => true
  | some b =>
    let es := (bankOf s b).claimants (frameAt s (bankOf s b) c) kind inst (c % 3000)
    decide (es.length < 2) && !es.any fun e => deviceTakes s e kind inst (c % 3000)

/-- The timetable has a stake on an instance at a later cycle (02 R57). -/
def stakedLater (s : State) (kind inst c : Nat) : Bool :=
  match activeBank s with
  | none => false
  | some b => !((bankOf s b).claimants (frameAt s (bankOf s b) c) kind inst (c % 3000)).isEmpty

/-- A bank port for a word in cycle `c`, other than `skip`: a stake of the class, or in the free lane port A first, then port B
(07 R250). -/
def portFor (s : State) (lease : Option Nat) (c w : Nat) (skip : List Nat) : Option Nat :=
  [firstPort w, firstPort w + 1].find? fun i => !skip.contains i && !claimed s c 0 i &&
    (match lease with
      | some l => stakedFor s l 0 i c
      | none => instFree s 0 i c && (c == absCycle s || !stakedLater s 0 i c))

/-- Bank ports for words, one to each. -/
def portsFor (s : State) (lease : Option Nat) (c : Nat) : List Nat → List Nat → Option (List Nat)
  | [], got => some got
  | w :: ws, got =>
    match portFor s lease c w got with
    | some i => portsFor s lease c ws (got ++ [i])
    | none => none

/-- The two words of a 64-byte move: adjacent in one bank, or in two banks (02 R38). -/
def pairOk (l : List Nat) : Bool :=
  match l with
  | [a, b] => firstPort a != firstPort b || b == a + 1
  | _ => false

/-! ## Requests (02 R31, R55) -/

/-- The SQ with a device-wide number. -/
def sqWithNum (s : State) (n : Nat) : Option SQ := (s.sqs.find? fun e => e.2.assign.getLsbD 31 && bitsOf e.2.assign 13 0 == n).map (·.2)

/-- A request with what its requester is: the rank, order, lease class, tenant and master identity of a context, a core, the ranger core, a
queue or the device; none from a context without a program, or for a queue that is not there. A context without a lease class comes after
those that have one (DESIGN CHOICE, log entry 97). -/
def normReq (s : State) (r : Req) : Option Req :=
  let own : Req := { r with lease := none, hosted := false, owner := .frontEnd, step := max 8192 r.step }
  if r.rank ≤ 3 then some own
  else if r.rank = 4 then (sqWithNum s r.key1).map fun q => { own with tenant := q.tenant, master := q.master }
  else if r.rank = 5 then
    some { own with tenant := 0, master := BitVec.ofNat 14 (rf s R.CANOPY_CTRL F.CANOPY_CTRL_RANGER_MASTER), owner := .ranger }
  else if r.rank = 6 then
    let k := 4 * r.key1 + r.key2
    let (m, t, l) := coreIdent s k
    if k < 32 ∧ r.key2 < 4 then some { own with lease := l, tenant := t, master := m, owner := .freeOnly } else none
  else
    let x := s.ctx r.step
    if r.step < 8192 ∧ x.state ≠ 0 then
      let l := if x.kind = 1 then none else x.lease
      some { r with
        rank := if x.kind = 1 then 8 else 7, key1 := (x.lease.map (·)).getD 256, key2 := r.step / 64, key3 := r.step % 64
        lease := l, hosted := x.kind == 1, tenant := x.tenant, master := x.master
        owner := match l with | some n => .lease n | none => .freeOnly }
    else none

/-- The instance belongs to the requester: a context uses the ports, movers and engine slots of its own pitch, a core its windows. -/
def ownsInst (r : Req) (kind inst : Nat) : Bool :=
  if 7 ≤ r.rank then
    (if kind = 0 then inst / 64 == r.step / 1024 else if kind = 1 then inst / 2 == r.step / 1024
     else if kind = 2 then decide (8 ≤ inst) || inst == r.step / 1024 else if kind = 6 then inst == r.step / 64 else kind != 7)
  else if r.rank = 6 then (kind == 7 && inst == 4 * r.key1 + r.key2) || (kind == 0 && inst / 64 == r.key1)
  else true

/-- A context that an engine slot selected in cycle t may use stakes from t + 4 (02 R38). -/
def selected (s : State) (r : Req) (c : Nat) : Bool :=
  r.rank != 7 || r.kind == 6 || (s.ctx r.step).slotAt.all fun t => decide (t + 4 ≤ c)

/-- An operation on scratchpad or DDR5 lies in the device's reserved map; none for other operations (07 R272). -/
def inReserved (s : State) (inst : Nat) (o : Op) : Option Bool :=
  let sp := fun (w : Nat) => some (decide (spReserved s (inst / 64) ≤ inst / 2 % 32 * bankBytes + w * 32))
  let ddr := fun (l : Nat) => some (ddrPresent s (ddrChan (l * 128)) && decide (ddrLimit s (ddrChan (l * 128)) ≤ ddrOff (l * 128)))
  match o with
  | .bankRead w _ => sp w
  | .bankWrite w _ _ => sp w
  | .ddrRead l _ => ddr l
  | .ddrWrite l => ddr l
  | _ => none

/-- The read is the fetch of a hosted command (04 R133). -/
def isFetch (s : State) (r : Req) : Bool := r.hosted && (s.ctx r.step).state == 1

/-- What the canopy checks of an operation (07 R268-R272). Operations of the device and the front end on memory, and the engines' staging in
the reserved areas, are checked against no master's entries; a core's read of the call area of its call is permitted. -/
def opChecks (s : State) (r : Req) (inst : Nat) : List (AccKind × Target) :=
  let free := decide (r.rank ≤ 4) || (decide (7 ≤ r.rank) && inReserved s inst r.op == some true)
  let off := fun (w : Nat) => inst / 2 % 32 * bankBytes + w * 32
  let read := if isFetch s r then AccKind.fetch else .rd
  let words := fun (p : Nat) (k : AccKind) (l : List Nat) =>
    if r.rank ≤ 4 then []
    else (l.filter fun w => decide (r.rank ≤ 6 ∨ w * 32 < spReserved s p)).map fun w => (k, Target.sp p (w * 32))
  match r.op with
  | .bankRead w _ =>
    if free ∨ (r.rank = 6 ∧ ownCallArea s (4 * r.key1 + r.key2) (off w) 32) then [] else [(.rd, .sp (inst / 64) (off w))]
  | .bankWrite w _ _ => if free then [] else [(.wr, .sp (inst / 64) (off w))]
  | .ddrRead l _ => if free then [] else [(read, .ddr (l * 128))]
  | .ddrWrite l => if free then [] else [(.wr, .ddr (l * 128))]
  | .portRead a _ _ => if r.rank ≤ 3 then [] else [(read, .host a)]
  | .moverMove 1 l => words (inst / 2) .rd l
  | .moverMove 2 l => words (inst / 2) .rd (l.take 2) ++ words (inst / 2) .wr (l.drop 2)
  | .hop d l _ => if d < 8 then words d .wr l else []
  | _ => []

/-- Landing slots that an operation needs, and the buffer. -/
def opSlots (kind inst : Nat) (o : Op) : Option (Nat × Nat) :=
  match o with
  | .ddrRead _ _ => some (inst, 1)
  | .portRead _ n _ => some (if kind = 3 then inst else 12, n)
  | _ => none

/-! ## Data on its way (02 R16, R35, R38, R42, R46, R47) -/

/-- Data of a step at a place of the die in cycle `c`. -/
def flightAt (s : State) (place step c : Nat) : Option Flight :=
  s.sched.flights.find? fun x => x.place == place && x.step == step && x.there == c

/-- Data that has left its place long ago is forgotten; halves of a line wait at a DDR5 channel for their write. -/
def addFlight (s : State) (c : Nat) (x : Flight) : State :=
  s.withSched { s.sched with
    flights := (s.sched.flights.filter fun y => decide (c ≤ y.there + 16) || decide (8 ≤ y.place ∧ y.place < 20)) ++ [x] }

def dropFlight (s : State) (x : Flight) : State := s.withSched { s.sched with flights := s.sched.flights.erase x }

/-- The halves of a line that have reached a channel's output lane for a step before cycle `c` (02 R38). -/
def lineHalves (s : State) (ch step c : Nat) : List Flight :=
  (s.sched.flights.filter fun x => x.place == 8 + ch && x.step == step && decide (x.there < c)).take 2

/-- 64 bytes as two words. -/
def twoWords (bs : List Byte) : List (BitVec 256) := [BitVec.ofNat 256 (leNat (bs.take 32)), BitVec.ofNat 256 (leNat ((bs.drop 32).take 32))]
def wordBytes (l : List (BitVec 256)) : List Byte := l.flatMap fun w => leBytes 32 w.toNat

/-- The landed response whose half a transfer from landing port `inst` takes: on a stake the one bound to it, in the free lane one with
halves that no stake is to carry (02 R42, R44). -/
def halfOf (s : State) (step inst c : Nat) (staked : Bool) : Option Fetch :=
  s.sched.fetches.find? fun f => f.step == step && f.landed.any (fun t => decide (t < c)) &&
    (landingPorts (if f.buf < 12 then 3 else 5) f.buf).contains inst &&
    (if staked then f.consume.contains (c, inst) else decide (f.consume.length < f.left))

/-- Take one 64-byte half of a landed response off its buffer (02 R42); its slots are free when the last half has left. -/
def takeHalf (s : State) (f : Fetch) (c src : Nat) : State :=
  let g := { f with left := f.left - 1, consume := f.consume.erase (c, src) }
  s.withSched { s.sched with
    fetches := if g.left = 0 then s.sched.fetches.filter fun x => x.id ≠ f.id
      else s.sched.fetches.map fun x => if x.id = f.id then g else x }

/-- The partition whose unrequested traffic a transfer may take: that of the stake's class, or of the owner in the free lane (02 R47). -/
def trafficPart (s : State) (r : Req) (stake : Option Stake) : Nat :=
  match stake with
  | some e => if partOf s 12 (.lease e.lease) = 511 then 512 else e.lease
  | none => partOf s 12 r.owner

/-- What a ridgepole transfer from port `inst` carries in cycle `c`, and the state that has given it up; none where it finds nothing. -/
def hopData (s : State) (r : Req) (inst c : Nat) (stake : Option Stake) (own : BitVec 512) : Option (List (BitVec 256) × State) :=
  if inst < 8 then (flightAt s (32 + inst) r.step c).map fun x => (x.data, dropFlight s x)
  else if inst = 24 then some ([own.truncate 256, own.extractLsb' 256 256], s)
  else
    match halfOf s r.step inst c stake.isSome with
    | some f => some (twoWords (bytesAt f.data (64 * (2 * f.slots - f.left)) 64), takeHalf s f c inst)
    | none =>
      if 20 ≤ inst ∧ ¬(s.sched.fetches.any fun f => f.consume.contains (c, inst)) then
        let k := trafficPart s r stake
        (nextHalf s k).map fun h =>
          (twoWords h, { s with ports := { s.ports with crossed := Tbl.upd 0 s.ports.crossed k (· + 1) } })
      else none

/-- The line that a mover takes into scratchpad in cycle `c`: what reached the pitch's output lane for the step in the cycle before, or in
the free lane a line of the step in the holding buffer (02 R38, R69). -/
def inbound (s : State) (p step c : Nat) (lease : Option Nat) : Option Flight :=
  (s.sched.flights.find? fun x => x.place == p && x.step == step && x.there + 1 == c).orElse fun _ =>
    if lease.isNone then s.sched.held.find? fun x => x.place == p && x.step == step else none

/-! ## An operation on its instance (02 R31, R32, R35, R38, R60) -/

/-- Kind of resource that an operation uses. -/
def opKind : Op → Nat
  | .bankRead _ _ | .bankWrite _ _ _ | .restore => 0
  | .moverMove _ _ => 1
  | .hop _ _ _ => 2
  | .ddrRead _ _ | .ddrWrite _ => 3
  | .refresh => 4
  | .portSend _ _ | .portRead _ _ _ => 5
  | .engineSlot => 6
  | .window => 7

/-- Words of scratchpad that data of a step is still to reach: of a response that missed its consuming stake, or on its way (02 R46). -/
def awaited (s : State) (step : Nat) : List Nat :=
  ((s.sched.fetches.filter fun f => f.step == step && f.missed).flatMap fun f => f.plan.drop (2 * (2 * f.slots - f.left))) ++
    ((s.sched.flights ++ s.sched.held).filter fun x => x.step == step && decide (x.place < 8)).flatMap (·.dst)

/-- Output lane `d` is free for a transfer that enters the ridgepole in cycle `c`: nothing that issued has it, and no collision (02 R57, R71). -/
def laneFree (s : State) (d c : Nat) : Bool :=
  !claimed s (c + 6) 16 d &&
  match activeBank s with
  | none => true
  | some b => decide (((bankOf s b).claimants (frameAt s (bankOf s b) c) 16 d (c % 3000)).length < 2)

/-- A mover of pitch `d` that no stake and no grant has in a later cycle (02 R57). -/
def freeMover (s : State) (d c : Nat) : Option Nat :=
  [2 * d, 2 * d + 1].find? fun m => !claimed s c 1 m && !stakedLater s 1 m c

/-- Host memory may be accessed for the requester through a port: the function of a context is in D0 with Bus Master Enable
(03 R111, R112). -/
def portLive (s : State) (r : Req) (port : Nat) : Bool :=
  decide (24 ≤ port ∨ r.rank < 7) || (let f := s.fn (s.ctx r.step).fn; f.bme && !f.d3)

/-- The paired stakes of a fetch are free for its step (02 R43). -/
def pairFree (s : State) (r : Req) (kind inst c n : Nat) (stake : Option Stake) : Bool :=
  match stake, activeBank s with
  | some e, some b => e.arg == 0 ||
      (let cs := consumeStakes s (bankOf s b) e.lease kind inst (c + e.arg) (2 * n)
       !s.sched.fetches.any fun f => f.step != r.step && f.consume.any fun x => cs.contains x)
  | _, _ => true

/-- A transfer finds what it carries, and is for where the data is to go (02 R42, R46, R47). -/
def hopReady (s : State) (r : Req) (inst c : Nat) (stake : Option Stake) (d : Nat) (dst : List Nat) (data : BitVec 512) : Bool :=
  let keys := dst.map (wordKey d)
  (hopData s r inst c stake data).isSome && decide (d < 25) && (decide (8 ≤ d) || pairOk keys) &&
  match halfOf s r.step inst c stake.isSome with
  | some f => decide (8 ≤ d ∨ inst < 8 ∨ f.plan = []) || (f.plan.drop (2 * (2 * f.slots - f.left))).take 2 == keys
  | none => true

/-- What an operation needs to issue on an instance in cycle `c`, on a stake or in the free lane: the kind and, on a stake, the ARG; its data; the
further ports, movers, lanes and landing slots it uses (02 R35, R38, R41-R49, R57, R60, R69; 07 R258, R272; 10 R371). -/
def opReady (s : State) (r : Req) (kind inst c : Nat) (stake : Option Stake) : Bool :=
  let lease := stake.map (·.lease)
  let argIs := fun n => stake.all fun e => e.arg == n
  opKind r.op == kind && (decide (4 < r.rank) || inReserved s inst r.op != some false) &&
  (match opSlots kind inst r.op with
    | some (b, n) => decide (0 < n) && slotsFree s b r.owner n && pairFree s r kind inst c n stake
    | none => true) &&
  match r.op with
  | .bankRead w _ => decide (w < bankBytes / 32)
  | .bankWrite w _ _ => decide (w < bankBytes / 32)
  | .ddrRead l _ => l / 2 ^ 31 == inst && !guyFull s (25 + inst) 0 (1000 * c)
  | .ddrWrite l => l / 2 ^ 31 == inst && (lineHalves s inst r.step c).length == 2 && !guyFull s (25 + inst) 0 (1000 * c)
  | .portSend g _ => decide (g < 40) && !guyFull s g 0 (1000 * c) && [20, 21, 22, 23].any fun o => (flightAt s o r.step c).isSome
  | .portRead a n _ => decide (a % 4096 + n * 128 ≤ 4096) && portLive s r inst
  | .moverMove 0 _ => argIs 0 &&
      (match inbound s (inst / 2) r.step c lease with
        | some x => (portsFor s lease c x.dst []).isSome
        | none => false)
  | .moverMove 1 ws =>
    let ks := ws.map (wordKey (inst / 2))
    argIs 1 && pairOk ks && ws.all (fun w => decide (w < 32 * (bankBytes / 32))) && (portsFor s lease c ks []).isSome &&
      !ks.any fun k => (awaited s r.step).contains k
  | .moverMove 2 ws =>
    let ks := ws.map (wordKey (inst / 2))
    argIs 2 && pairOk (ks.take 2) && pairOk (ks.drop 2) && ws.all (fun w => decide (w < 32 * (bankBytes / 32))) &&
      (portsFor s lease c (ks.take 2) []).isSome && (portsFor s lease (c + 4) (ks.drop 2) []).isSome &&
      !(ks.take 2).any fun k => (awaited s r.step).contains k
  | .moverMove _ _ => false
  | .hop d dst data => argIs d && hopReady s r inst c stake d dst data &&
      (stake.isSome || (laneFree s d c && (decide (8 ≤ d) ||
        (decide (heldIn s d < 16) && (freeMover s d (c + 7)).isSome && (portsFor s none (c + 7) (dst.map (wordKey d)) []).isSome))))
  | .engineSlot => true
  | .window => stake.isSome
  | .refresh => stake.isNone && r.rank == 1 && decide (0 < Tbl.get 0 s.sched.debt inst) && domOn s (32 + inst) && instFree s 3 inst c &&
      (activeBank s).all fun b => !(bankOf s b).mask.testBit inst
  | .restore => stake.isNone && r.rank == 1 && (testOf s (inst / 64)).aborted &&
      inst / 2 % 32 == rf s R.BGT_STATUS F.BGT_STATUS_BANK (inst / 64)

/-- A fetch is issued (02 R41-R43). -/
def issueFetch (s : State) (r : Req) (kind inst c slots : Nat) (stake : Option Stake) (plan : List Nat) : State :=
  let buf := if kind = 3 then inst else 12
  let consume := match stake, activeBank s with
    | some e, some b => if e.arg = 0 then [] else consumeStakes s (bankOf s b) e.lease kind inst (c + e.arg) (2 * slots)
    | _, _ => []
  let f : Fetch :=
    { id := s.sched.nextFetch, buf := buf, slots := slots, part := partOf s buf r.owner, lease := stake.map (·.lease), tenant := r.tenant,
      consume := consume, landed := none, data := [], left := 2 * slots, missed := false, step := r.step,
      rank := r.rank, line := (match r.op with | .ddrRead l _ => some l | _ => none), plan := plan }
  s.withSched { s.sched with fetches := s.sched.fetches ++ [f], nextFetch := s.sched.nextFetch + 1 }

/-- The slot after the one at a cycle (02 R37). -/
def nextSlot (c : Nat) : Nat := if c % 3000 % 15 = 0 then c + 7 else c + 8

/-- A REFsb takes its two slots and opens the refresh window of a channel (02 R48-R50). -/
def refreshNow (s0 : State) (ch c : Nat) : State :=
  let s := claim (claim s0 c 3 ch) (nextSlot c) 3 ch
  let w := rf s R.DDR5_INFO F.DDR5_INFO_REFW ch
  let s1 := s.withSched { s.sched with
    debt := Tbl.upd 0 s.sched.debt ch (· - 1), refreshEnd := Tbl.set 0 s.sched.refreshEnd ch (c + w) }
  emit s1 (.ddrCommand ch 0)

/-- Function of a port that carries a master identity: the lowest, or the PF (07 R271). -/
def fnOfMaster (s : State) (port : Nat) (m : BitVec 14) : Nat :=
  ((s.fns.find? fun e => e.1 / 256 == port && e.2.master == m).map (·.1)).getD (port * 256)

/-- The access of a request is made by a row of its own, which counts its denial and its uncorrectable data: reads of the front end,
instructions of the cores, the step that a context runs (log entry 77). -/
def ownRow (s : State) (rank step : Nat) : Bool := decide (4 ≤ rank ∧ rank ≤ 6) || (decide (step < 8192) && (s.ctx step).running)

/-- A denied request issues nothing (07 R268, R275). -/
def denyReq (s : State) (r : Req) (a : AccKind) (t : Target) : State := if ownRow s r.rank r.step then s else deny s r.master a t

/-- Scratchpad words read for a request, and what the reader counts (07 R253). -/
def readWords (s : State) (r : Req) (ks : List Nat) : State :=
  if ownRow s r.rank r.step then s else ks.foldl (fun u k => spNote u (k / 2 ^ 20) (k % 2 ^ 20 * 32) 32) s

def wordsAt (s : State) (ks : List Nat) : List (BitVec 256) := ks.map fun k => (spWord s (k / 2 ^ 20) (k % 2 ^ 20)).1

/-- Write words through bank ports in cycle `c`, claiming the ports. -/
def writeWords (s : State) (c : Nat) (ks ports : List Nat) (ds : List (BitVec 256)) : State :=
  (ks.zip (ports.zip ds)).foldl (fun u e =>
    portWrite (claim u c 0 e.2.1) c (e.1 / 2 ^ 20) (e.1 % 2 ^ 20) (e.2.1 % 2) (BitVec.allOnes 32) e.2.2) s

def claimPorts (s : State) (c : Nat) (ports : List Nat) : State := ports.foldl (fun u i => claim u c 0 i) s

/-- A line is taken into scratchpad from the lane or the holding buffer, through these ports. -/
def takeLine (s : State) (c : Nat) (x : Flight) (ports : List Nat) : State :=
  writeWords ((dropFlight s x).withSched { (dropFlight s x).sched with held := s.sched.held.erase x }) c x.dst ports x.data

/-- Data that waits at place 65 for its write: the words with the bank port of each (02 R38). -/
def laterWrite (s : State) (c there : Nat) (r : Req) (lease : Option Nat) (ks ports : List Nat) (ds : List (BitVec 256)) : State :=
  addFlight (claimPorts s there ports) c
    { read := c, there := there, place := 65, step := r.step, lease := lease, src := [], dst := (ks.zip ports).map fun e => 2 * e.1 + e.2 % 2,
      data := ds }

/-- A transfer through the ridgepole: on its output lane six cycles later; one that the free lane granted into a pitch goes on into scratchpad in
the cycle after, through the mover and the bank ports that it was granted with (02 R38, R57; the bank ports: DESIGN CHOICE, log entry 98). -/
def issueHop (s : State) (r : Req) (inst c : Nat) (stake : Option Stake) (d : Nat) (dst : List Nat) (data : BitVec 512) : State :=
  match hopData s r inst c stake data with
  | none => s
  | some (ds, s1) =>
    let ks := dst.map (wordKey d)
    let s2 := if stake.isNone then claim s1 (c + 6) 16 d else s1
    if stake.isNone ∧ d < 8 then
      match freeMover s2 d (c + 7), portsFor s2 none (c + 7) ks [] with
      | some m, some ps => laterWrite (claim s2 (c + 7) 1 m) c (c + 7) r none ks ps ds
      | _, _ => s
    else
      addFlight s2 c
        { read := c, there := c + 6, place := d, step := r.step, lease := stake.map (·.lease), src := [], dst := if d < 8 then ks else [],
          data := ds }

/-- A move of a data mover (02 R38): from the pitch's output lane, to its input lane, or within its scratchpad. -/
def issueMove (s : State) (r : Req) (p c : Nat) (lease : Option Nat) (dir : Nat) (ws : List Nat) : State :=
  let ks := ws.map (wordKey p)
  if dir = 0 then
    match inbound s p r.step c lease with
    | some x => (match portsFor s lease c x.dst [] with | some ps => takeLine s c x ps | none => s)
    | none => s
  else if dir = 1 then
    match portsFor s lease c ks [] with
    | some ps =>
      addFlight (readWords (claimPorts s c ps) r ks) c
        { read := c, there := c + 4, place := 32 + p, step := r.step, lease := lease, src := ks, dst := [], data := wordsAt s ks }
    | none => s
  else
    match portsFor s lease c (ks.take 2) [], portsFor s lease (c + 4) (ks.drop 2) [] with
    | some ps, some qs =>
      laterWrite (readWords (claimPorts s c ps) r (ks.take 2)) c (c + 4) r lease (ks.drop 2) qs (wordsAt s (ks.take 2))
    | _, _ => s

/-- A line leaves for DDR5 (02 R38); a context's data in the reserved area is staged in the channel (05 R191). -/
def issueWrite (s : State) (r : Req) (ch c l : Nat) : State :=
  let hs := lineHalves s ch r.step c
  let s1 := hs.foldl dropFlight (guyWords (ddrAsk (ddrTouch s ch) l true) (25 + ch) 0 4)
  let s2 := ddrWr s1 (l * 128) (wordBytes (hs.flatMap (·.data)))
  if r.step < 8192 ∧ inReserved s ch r.op = some true then
    let x := s2.ctx r.step
    s2.setCtx r.step { x with stagedIn := if x.stagedIn.contains ch then x.stagedIn else x.stagedIn ++ [ch] }
  else s2

/-- Sixty-four bytes enter a port's guyline (02 R38); a word that its check finds uncorrectable spoils what they belong to (10 R371). -/
def issueSend (s : State) (r : Req) (port c g : Nat) (ecc : EccResult) : State :=
  match [20, 21, 22, 23].findSome? fun o => flightAt s o r.step c with
  | none => s
  | some x =>
    let d : BitVec 512 := BitVec.ofNat 512 ((x.data.getD 0 0).toNat + 2 ^ 256 * (x.data.getD 1 0).toNat)
    let s1 := emit (guyWord (dropFlight s x) g 0 ecc) (.portData port d)
    if judged dieCap ecc = .uncorrectable then emit s1 (.spoiled port) else s1

/-- Effect of an operation issued on an instance in a cycle (02 R38); its own instance has been claimed. -/
def issueOp (s : State) (r : Req) (kind inst c : Nat) (stake : Option Stake) : State :=
  match r.op with
  | .bankRead w ecc =>
    let v := inst / 2 % 32 * (bankBytes / 32) + w
    let s1 := readWords (spEcc s (inst / 64) v ecc) r [wordKey (inst / 64) v]
    addFlight s1 c
      { read := c, there := c + 3, place := 64, step := r.step, lease := stake.map (·.lease), src := [wordKey (inst / 64) v], dst := []
        data := [(spWord s1 (inst / 64) v).1 ^^^ BitVec.ofNat 256 (flipsAt ecc 0 32)] }
  | .bankWrite w mask d => portWrite s c (inst / 64) (inst / 2 % 32 * (bankBytes / 32) + w) (inst % 2) mask d
  | .ddrRead l plan => issueFetch (guyWords (ddrAsk (ddrTouch s inst) l false) (25 + inst) 0 1) r kind inst c 1 stake plan
  | .ddrWrite l => issueWrite s r inst c l
  | .portSend g ecc => issueSend s r inst c g ecc
  | .portRead a n plan => emit (issueFetch (guyPort s inst 0) r kind inst c n stake plan) (.hostRead (fnOfMaster s inst r.master) a (n * 128))
  | .moverMove dir ws => issueMove s r (inst / 2) c (stake.map (·.lease)) dir ws
  | .hop d dst data => issueHop s r inst c stake d dst data
  | .engineSlot => s.setCtx r.step { s.ctx r.step with slotAt := some c }
  | .window => match stake with
    | some e => claim s c 18 (inst * 64 + e.arg)
    | none => s
  | .refresh => refreshNow s inst c
  | .restore => restoreOne (inst / 64) s

/-- Stakes or grants that an operation uses: a move uses its mover and its bank ports (02 R38, R57). -/
def opUses (stake : Option Stake) : Op → Nat
  | .moverMove 0 _ => 3
  | .moverMove _ ws => 1 + ws.length
  | .hop d _ _ => if stake.isNone ∧ d < 8 then 4 else 1
  | _ => 1

/-- Unit whose counters an instance's use is charged in (09 R334): a pitch, or the central block. -/
def meterUnit (kind inst : Nat) : Nat := if unitOf kind inst < 8 then unitOf kind inst else 8

/-- METER_DELTA of the context whose step used a stake of its lease class (04 R160); steps are numbered by context, and 8,192 and
above are not a context's. -/
def mStep (s : State) (step l : Nat) : State :=
  let x := s.ctx step
  if step < 8192 ∧ x.state ≠ 0 ∧ x.lease = some l then s.setCtx step { x with meter := x.meter + 1 } else s

/-- Firmware of a core outside calls asks with rank 6 and lease class 0 (02 R31, 06 R204, 09 R335). -/
def isFirmware (r : Req) : Bool := r.rank == 6 && r.lease == some 0

/-- The context that a request works for: its own, or the caller of the routine that a core runs (04 R160, 06 R240); 8,192 for none. -/
def payer (s : State) (r : Req) : Nat :=
  if r.rank = 6 then
    (match (s.core (4 * r.key1 + r.key2)).current with
      | some a => if coreInCall (s.core (4 * r.key1 + r.key2)) ∧ a.expired = false then a.ctx else 8192
      | none => 8192)
  else r.step

/-- One use is charged (09 R334, R335): on a stake to its class, in the free lane to the requester. -/
def charge (s : State) (r : Req) (kind inst : Nat) (stake : Option Stake) : State :=
  match stake with
  | some e => mStep (mStake s (meterUnit kind inst) e.lease) (payer s r) e.lease
  | none => mFree s (meterUnit kind inst) r.rank r.tenant (isFirmware r)

/-- A ready request meets the canopy before it issues (01 R20, 07 R268): denied, it issues nothing; else it claims, issues and is charged. -/
def runReq (s : State) (r : Req) (kind inst c : Nat) (stake : Option Stake) : State :=
  match (opChecks s r inst).find? fun e => !permitted s r.master e.1 e.2 with
  | some e => denyReq s r e.1 e.2
  | none =>
    let s1 := match stake with | some e => claimStake s e c | none => claim s c kind inst
    (List.range (opUses stake r.op)).foldl (fun u _ => charge u r kind inst stake) (issueOp s1 r kind inst c stake)

/-! ## The passing of cycles -/

/-- Writes of moves that fall due by an absolute cycle (02 R38). -/
def landMoves (s : State) (c : Nat) : State :=
  (s.sched.flights.filter fun x => x.place == 65 && decide (x.there ≤ c)).foldl (fun u x =>
    (x.dst.zip x.data).foldl (fun u e => portWrite u x.there (e.1 / 2 / 2 ^ 20) (e.1 / 2 % 2 ^ 20) (e.1 % 2) (BitVec.allOnes 32) e.2)
      (dropFlight u x)) s

/-- The present cycle of the frame becomes `c`: moves are written, and the consuming stakes of the cycles before have been used or missed. -/
def settleAt (s : State) (c : Nat) : State :=
  let s1 := s.withSched { s.sched with cycle := min c 2999 }
  landMoves (settleMisses s1 (s.sched.frame.toNat * 3000 + c - 1)) (absCycle s1)

/-- What the collision detector and the issue units find in the cycles from the present one to `c` - 1 of the frame (02 R71, R72). The spec does
not say which resource an expansion overrun shows: KIND and INSTANCE are free values (log entry 2). -/
def runEvent (s : State) (e : Event) : State :=
  let s0 := settleAt s e.cycle
  let s1 := settleMisses s0 (absCycle s0)
  if e.cause = 4 then
    let (w, s2) := takeFree s1
    contractFault s2 4 (w.toNat % 16) (w.toNat / 16 % 1024) 0 0
  else contractFault s1 e.cause e.kind e.inst e.leaseA e.leaseB

/-- Time passes to cycle `c` of the frame (3,000: to its end). A fault of a cycle ends the schedule from the next cycle on. -/
def passTo (s : State) (c : Nat) : State :=
  match activeBank s with
  | none => settleAt s c
  | some b =>
    match (bankOf s b).firstEvent (timetableFrame s (bankOf s b)) s.sched.cycle c with
    | none => settleAt s c
    | some e => settleAt (runEvent s e) c

/-- Run an event at a cycle of the present frame, not earlier than the present one. -/
def atCycle (c : Nat) (s : State) (f : State → State) : State :=
  if s.sched.cycle ≤ c ∧ c < 3000 then f (passTo s c) else s

/-! ## Stakes (02 R30-R33, R41-R46, R71) -/

/-- The power domain of a resource instance, where R432 gives one other than the central domain. -/
def instDomain (kind inst : Nat) : Option Nat :=
  if kind = 3 ∨ kind = 4 then some (32 + inst)
  else if kind = 0 ∨ kind = 1 ∨ kind = 6 ∨ kind = 7 ∨ kind = 8 then some (unitOf kind inst)
  else if kind = 2 ∧ inst < 8 then some inst
  else none

/-- The instance's domain is ON; in bivouac its stakes are unused (13 R435). -/
def instOn (s : State) (kind inst : Nat) : Bool :=
  match instDomain kind inst with
  | some d => domOn s d
  | none => true

/-- A request for a DDR5 channel in bivouac starts its exit, and waits for it (13 R435). -/
def wakeInst (s : State) (kind inst : Nat) : State := if kind = 3 then ddrTouch s inst else s

/-- A request may use a stake: of its lease class, for an instance of its own, ready (02 R31, R32, R58); class 0 serves the window of a core
outside calls (R30, R31). -/
def mayUse (s : State) (e : Stake) (c : Nat) (r : Req) : Bool :=
  !r.hosted && r.lease == some e.lease && (e.lease != 0 || e.kind == 7) && r.kind == e.kind && r.inst == e.inst && ownsInst r e.kind e.inst &&
    selected s r c && opReady s r e.kind e.inst c (some e)

/-- What a stake claims has already been claimed by something that issued. -/
def stakeTaken (s : State) (e : Stake) (c : Nat) : Bool :=
  (stakeClaims e (c % 3000)).any fun k => claimed s (if k.1 = 16 then c + 6 else c) k.1 k.2

/-- The stake of an instance at the present cycle: its first ready owner issues; none where it collides, where its class is not enabled, or where
it is a stake of the device (02 R32, R71, R77). -/
def stakeIssueS (kind inst : Nat) (ready : List Req) (s : State) : State :=
  match activeBank s with
  | none => s
  | some b =>
    let c := absCycle s
    let f := timetableFrame s (bankOf s b)
    match (bankOf s b).claimants f kind inst s.sched.cycle with
    | [e] =>
      if e.kind ≠ kind ∨ kind = 4 ∨ 8 ≤ kind ∨ (bankOf s b).collides f e s.sched.cycle = true ∨ leaseOn s e.lease = false ∨ instOn s kind inst = false ∨
          stakeTaken s e c = true then s
      else
        match (ready.filterMap (normReq s)).find? (mayUse s e c) with
        | some r => runReq s r kind inst c (some e)
        | none => s
    | _ => s

/-- STAKE_ISSUE (02 R38). -/
def execStakeIssue (cycle kind inst : Nat) (ready : List Req) (s : State) : Host.Outcome State Fault Refusal :=
  done s (atCycle cycle s (stakeIssueS kind inst ready))

/-! ## The free lane (02 R55-R58, 07 R250) -/

/-- Order of two requests for one instance (02 R55). -/
def reqBefore (a b : Req) : Bool :=
  decide (a.rank < b.rank ∨ (a.rank = b.rank ∧ (a.key1 < b.key1 ∨ (a.key1 = b.key1 ∧ (a.key2 < b.key2 ∨
    (a.key2 = b.key2 ∧ a.key3 ≤ b.key3))))))

/-- The first of several requests, each with the waiting request it stands for. -/
def firstReq : List (Req × Req) → Option (Req × Req)
  | [] => none
  | r :: rs =>
    match firstReq rs with
    | none => some r
    | some q => if reqBefore r.2 q.2 then some r else some q

/-- Instances that a request for `inst` may be granted on, in order: either port of its bank, port A first (07 R250). -/
def grantInsts (kind inst : Nat) : List Nat := if kind = 0 then [inst / 2 * 2, inst / 2 * 2 + 1] else [inst]

/-- A waiting request may be granted the instance in cycle `c` (02 R55-R58, R69). -/
def grantable (s : State) (c kind inst : Nat) (r : Req) : Bool :=
  r.kind == kind && grantInsts kind r.inst == grantInsts kind inst && ownsInst r kind inst && opReady s r kind inst c none

/-- A mover cycle that no request takes moves one line of its pitch's receive holding buffer into scratchpad (02 R69). -/
def unholdLine (s : State) (c mover : Nat) : State :=
  match s.sched.held.find? fun x => x.place == mover / 2 with
  | none => s
  | some x =>
    match portsFor s none c x.dst [] with
    | none => s
    | some ps =>
      let t := (s.ctx x.step).tenant
      (List.range 3).foldl (fun u _ => mFree u (mover / 2) 7 t false) (takeLine (claim s c 1 mover) c x ps)

/-- The waiting requests that may be granted an instance now, each with what its requester makes of it. -/
def candidates (s : State) (kind inst : Nat) : List (Req × Req) :=
  (s.sched.waiting.filterMap fun q => (normReq s q).map fun r => (q, r)).filter fun e => grantable s (absCycle s) kind inst e.2

/-- Grant one instance to the first of its waiting requests, if it is free. -/
def grantOne (kind : Nat) (s : State) (inst : Nat) : State :=
  let c := absCycle s
  if instFree s kind inst c = false then s
  else if instOn s kind inst = false then
    (if s.sched.waiting.any fun r => r.kind == kind && r.inst == inst then wakeInst s kind inst else s)
  else
    match firstReq (candidates s kind inst) with
    | none => if kind = 1 then unholdLine s c inst else s
    | some (q, r) => runReq (s.withSched { s.sched with waiting := s.sched.waiting.erase q }) r kind inst c none

/-- Requests wait until granted (02 R56); one whose requester is gone waits no more. -/
def freeLaneS (kind inst : Nat) (reqs : List Req) (s : State) : State :=
  let s1 := s.withSched { s.sched with waiting := (s.sched.waiting ++ reqs).filter fun q => (normReq s q).isSome }
  (grantInsts kind inst).foldl (grantOne kind) s1

/-- FREE_LANE_GRANT (02 R55). -/
def execFreeLaneGrant (cycle kind inst : Nat) (reqs : List Req) (s : State) : Host.Outcome State Fault Refusal :=
  done s (atCycle cycle s (freeLaneS kind inst reqs))

/-! ## Responses and refresh -/

/-- Data of a response: of a DDR5 line what memory holds, as far as its code lets it through; else what came from outside. -/
def landData (s : State) (f : Fetch) (data : List Byte) (ecc : EccResult) : List Byte :=
  match f.line with
  | some l => leBytes 128 (Nat.xor (leNat (ddrRead s (l * 128) 128)) (flipsAt ecc 0 128))
  | none => data

/-- A response lands by the end of the present cycle (02 R44). -/
def landS (id : Nat) (data : List Byte) (ecc : EccResult) (s : State) : State :=
  let c := absCycle s
  let s1 := undrain (settleMisses s c) id
  s1.withSched { s1.sched with
    fetches := s1.sched.fetches.map fun f =>
      if f.id = id ∧ f.landed.isNone then { f with landed := some c, data := landData s1 f data ecc } else f }

/-- The checks that the response of a fetch passes as it lands: the words of each guyline that brought them (10 R371), and the code of a
DDR5 line (07 R263-R265). -/
def landChecks (fetch : Option Fetch) (ecc : EccResult) (words : List (Nat × EccResult)) (s : State) : State :=
  match fetch with
  | none => s
  | some f =>
    let s1 := words.foldl (fun u e => guyWord u e.1 1 e.2) s
    match f.line with
    | none => s1
    | some l =>
      let s2 := ddrEcc s1 l ecc
      if ownRow s f.rank f.step then s2 else ddrNote s2 (l * 128) 128

/-- RESPONSE_LANDED (02 R44). -/
def execResponseLanded (fetch cycle : Nat) (data : List (BitVec 8)) (ecc : EccResult) (words : List (Nat × EccResult)) (s : State) :
    Host.Outcome State Fault Refusal :=
  done s (atCycle cycle s fun u =>
    landChecks (u.sched.fetches.find? fun f => f.id == fetch && f.landed.isNone) ecc words (landS fetch data ecc u))

/-- REFRESH_DEBT_TICK (02 R49): the debt of a channel that is in service and ON grows by one. -/
def debtTickS (ch : Nat) (s : State) : State :=
  if ddrPresent s ch ∧ domOn s (32 + ch) then s.withSched { s.sched with debt := Tbl.upd 0 s.sched.debt ch (· + 1) } else s

def execRefreshDebtTick (ch : Nat) (s : State) : Host.Outcome State Fault Refusal := done s (debtTickS ch s)

/-- A refresh stake of a channel at the present cycle (02 R48, R49, R71, 13 R435). -/
def refreshStakeS (ch : Nat) (s : State) : State :=
  match activeBank s, ddrSlotAt s.sched.cycle with
  | some b, some k =>
    let f := timetableFrame s (bankOf s b)
    match ((bankOf s b).live f (8 + ch)).find? fun e => e.kind == 4 && e.inst == ch && stakeAt e k with
    | none => s
    | some e =>
      if (bankOf s b).collides f e s.sched.cycle = true ∨ domOn s (32 + ch) = false ∨ Tbl.get 0 s.sched.debt ch = 0 ∨
          claimed s (absCycle s) 3 ch = true then s
      else mDevice (refreshNow s ch (absCycle s)) 8
  | _, _ => s

/-- REFRESH_STAKE (02 R49). -/
def execRefreshStake (ch cycle : Nat) (s : State) : Host.Outcome State Fault Refusal :=
  done s (atCycle cycle s (refreshStakeS ch))

/-! ## The lists of the active bank, and the swap (02 R69, R72) -/

/-- What the issue units find in the lists of the active bank for the present frame: for each unit that finds one, its first
uncorrectable word (cause 2) or invalid entry (cause 6) in list order (02 R72). -/
def listFaults (s : State) (b : Bank) : List (Nat × Nat) :=
  (List.range 24).filterMap fun u => (b.entries (timetableFrame s b) u).findSome? fun e =>
    if b.stakeBad e.1 then some (2, u)
    else if !stakeValid e.2 || !stakeFits e.2 || unitOf e.2.kind e.2.inst != u then some (6, u)
    else none

/-- The lists of the frame are read. The spec does not fix the cycle of a read, so the frame and cycle recorded are free, and so is
which of several units reads first (02 R72, log entry 25); INSTANCE is the unit. -/
def readLists (s : State) : State :=
  match activeBank s with
  | none => s
  | some k =>
    match listFaults s (bankOf s k) with
    | [] => s
    | e :: es =>
      let (w, s1) := takeFree s
      let (cause, u) := (e :: es).getD (w.toNat / 2 ^ 48 % (es.length + 1)) e
      if rf s R.SCHED_FAULT F.SCHED_FAULT_CAUSE ≠ 0 then contractFault s1 cause 0 u 0 0
      else
        let s2 := contractFault s1 cause 0 u 0 0
        wf (wf s2 R.SCHED_FAULT_INFO F.SCHED_FAULT_INFO_FRAME_LOW w.toNat) R.SCHED_FAULT_INFO F.SCHED_FAULT_INFO_CYCLE (w.toNat / 2 ^ 32 % 3000)

/-- The pending swap takes effect in this frame (02 R68). -/
def swapDue (s : State) : Bool :=
  match s.sched.swap with
  | some (_, f, _) => decide (f.toNat ≤ s.sched.frame.toNat)
  | none => false

/-- The swap, if it is pending and its frame has begun; the issue units have read the new bank's lists of that frame. -/
def bankSwapS (s : State) : State :=
  match s.sched.swap with
  | some (b, f, late) => if f.toNat ≤ s.sched.frame.toNat ∧ s.sched.cycle = 0 then readLists (swapTo s b late) else s
  | none => s

/-- SWAP (02 R69). -/
def execBankSwap (s : State) : Host.Outcome State Fault Refusal := done s (bankSwapS s)

end Sys2Proof.Machine
end

