-- ==== Sys2Proof/Machine/Clock.lean ====
section
/-! DEFINITION. The passing of a core cycle. -/
namespace Sys2Proof.Machine

/-- One core cycle passes within the frame of a running device (02 R29); the last cycle lasts until FRAME_START opens the
next frame, and in a device that does not run nothing passes. DESIGN CHOICE: log entry 1. -/
def idle (s : State) : State :=
  if s.trust.phase = 1 then passTo s (min (s.sched.cycle + 1) 2999) else s

end Sys2Proof.Machine
end

