-- ==== Sys2Proof/Machine/Flash.lean ====
section
/-! DEFINITION. The bytes of a configuration image, and what a pitch takes again from the stored image at its reset: its library copy and its
routine table (04 R129, 06 R238, R243; 07 R247, R454; 12 R409, R410). -/
namespace Sys2Proof.Machine

/-- `n` bytes of a flash device from offset `a`, and the little-endian number of them. -/
def flBytes (fl : Tbl Byte) (a n : Nat) : List Byte := tread 0xFF fl a n
def flNat (fl : Tbl Byte) (a n : Nat) : Nat := leNat (flBytes fl a n)

/-- `n` bytes from `a` are zero. -/
def flZero : Nat → Tbl Byte → Nat → Bool
  | 0, _, _ => true
  | n + 1, fl, a => Tbl.get 0xFF fl a == 0 && flZero n fl (a + 1)

def imgSections (fl : Tbl Byte) : Nat := flNat fl 6 2

/-- A directory entry: type, offset and length (12 R409). -/
structure Sect where
  type : Nat
  off : Nat
  len : Nat
  deriving DecidableEq, Repr

def dirAt (i : Nat) : Nat := 0xDC0 + 80 * i
def sectAt (fl : Tbl Byte) (i : Nat) : Sect :=
  { type := flNat fl (dirAt i) 2, off := flNat fl (dirAt i + 4) 4, len := flNat fl (dirAt i + 8) 4 }
def sects (fl : Tbl Byte) : List Sect := (List.range (imgSections fl)).map (sectAt fl)

/-- The section of a type; an absent one has length 0. -/
def sectOf (fl : Tbl Byte) (ty : Nat) : Sect := ((sects fl).find? fun e => e.type == ty).getD ⟨ty, 0, 0⟩

/-- Where the record of program `p` lies in the library section; none if absent. -/
def libOff (fl : Tbl Byte) (p : Nat) : Option Nat :=
  let o := flNat fl ((sectOf fl 3).off + 4 * p) 4
  if o = 0 then none else some o

/-- Offset of the commands of a record (04 R129). -/
def cmdsOff (subs : Nat) : Nat := (0x10 + subs * 8 + 31) / 32 * 32

/-- Offset and length of image `m` (0 instruction, 1 X, 2 Y) of core `k`, from the section's start. -/
def coreImage (fl : Tbl Byte) (k m : Nat) : Nat × Nat :=
  let a := (sectOf fl 4).off + 8192 + 32 * k + 8 * m
  (flNat fl a 4, flNat fl (a + 4) 4)

/-- Bytes of memory `m` of core `k` (06 R203, R244). -/
def coreMemSize (k m : Nat) : Nat := if m ≠ 0 then 0x8000 else if k = 32 then 0x80000 else 0x20000

def routineAt (fl : Tbl Byte) (n : Nat) : Nat := flNat fl ((sectOf fl 4).off + 8 * n) 8

/-- The LIBRARY section of the image in force stands in the reserved area of pitch `p`, from SP_RESERVED.BASE on (07 R247, R454). -/
def libCopy (p : Nat) (s : State) : State :=
  if s.trust.store = [] then s
  else
    let e := sectOf s.trust.store 3
    let base := rf s R.SP_RESERVED F.SP_RESERVED_BASE p
    let s1 := spWrite s p base (flBytes s.trust.store e.off e.len)
    let other := fun (k : Nat) => k / 2 ^ 20 != p || decide (k % 2 ^ 20 * 32 < base ∨ base + e.len ≤ k % 2 ^ 20 * 32)
    { s1 with mem := { s1.mem with spBad := s1.mem.spBad.filter other, spCheck := Tbl.keep other s1.mem.spCheck } }

/-- Scratchpad word of the command at a position of library program `n` in pitch `p` (04 R128, R129). -/
def libWord (s : State) (p n pos : Nat) : Option Nat :=
  if s.trust.store = [] then none
  else (libOff s.trust.store n).map fun o =>
    (rf s R.SP_RESERVED F.SP_RESERVED_BASE p + o +
      cmdsOff (flNat s.trust.store ((sectOf s.trust.store 3).off + o + 6) 1)) / 32 + pos

/-- The routine table of pitch `p` as the stored image gives it (06 R238, R243). -/
def routineCopy (p : Nat) (s : State) : State :=
  if s.trust.store = [] then s else (List.range 1024).foldl (fun w n => wr w R.ROUTINE (routineAt s.trust.store n) p n) s

end Sys2Proof.Machine
end

