-- ==== Sys2Proof/Machine/Records.lean ====
section
/-! DEFINITION. The recovery area and the records written into it, with their mirror messages (05 R167-R178, 11 R386-R388).
Blocks are numbered by byte offset / 64. -/
namespace Sys2Proof.Machine

def State.withRecov (s : State) (r : Recov) : State := { s with recov := r }

/-- The recovery area is kept (05 RECOV_CFG.ENABLE). -/
def recovOn (s : State) : Bool := rb s R.RECOV_CFG F.RECOV_CFG_ENABLE

/-- Recovery runs (05 R196). -/
def recovering (s : State) : Bool := rb s R.RECOV_STATUS F.RECOV_STATUS_RUNNING

/-- A block of a copy that is kept. -/
def recBlock (s : State) (b : Nat) : BitVec 512 := Tbl.get 0 (if s.recov.lostA then s.recov.copyB else s.recov.copyA) b

/-- Write a block into copy A, copy B or both; a lost copy takes no write (05 R170), a written block is readable again. -/
def putBlock (a b : Bool) (s : State) (e : Nat × BitVec 512) : State :=
  let r := s.recov
  let a := a && !r.lostA
  let b := b && !r.lostB
  s.withRecov { r with
    copyA := if a then Tbl.set 0 r.copyA e.1 e.2 else r.copyA
    copyB := if b then Tbl.set 0 r.copyB e.1 e.2 else r.copyB
    badA := if a then r.badA.filter (· ≠ e.1) else r.badA
    badB := if b then r.badB.filter (· ≠ e.1) else r.badB }

/-- Write a record whole; with the write into copy A it is sent to the partner as one RECORD message (05 R168, 11 R386). -/
def putRecord (s : State) (a b : Bool) (block : Nat) (v : List (BitVec 512)) : State :=
  if recovOn s then
    let s1 := ((List.range v.length).map (block + ·)).zip v |>.foldl (putBlock a b) s
    if a then campSend s1 1 (BitVec.ofNat 64 (block * 64)) (v.flatMap fun x => leBytes 64 x.toNat) else s1
  else s

/-- Write the changed blocks of an 8 KiB record, one RECORD message for each (11 R386). -/
def putChanged (s : State) (e : List (Nat × BitVec 512)) : State :=
  if recovOn s then
    e.foldl (fun u x => if recBlock u x.1 = x.2 then u
      else campSend (putBlock true true u x) 1 (BitVec.ofNat 64 (x.1 * 64)) (leBytes 64 x.2.toNat)) s
  else s

/-- Block of each record (05 R167). -/
def progBlock (c : Nat) : Nat := 0x400 + c
def cqBlock (n : Nat) : Nat := 0x4000 + n
def sqBlock (n : Nat) : Nat := 0x8000 + n * 2
def peerBlock (n : Nat) : Nat := 0x10000 + n * 128
def fnBlock (f : Nat) : Nat := 0x40000 + f * 128
def journalBlock (q seq : Nat) : Nat := 0x100000 + q * 1024 + seq % 1024

/-! ## Fields of queue slots (03) -/

def SQ.valid (q : SQ) : Bool := q.assign.getLsbD 31
def SQ.num (q : SQ) : Nat := bitsOf q.assign 13 0
def SQ.home (q : SQ) : Nat := bitsOf q.assign 18 16
/-- ASSIGN_QUEUE as assigned, without a re-home in force (01 R17). -/
def SQ.ownAssign (q : SQ) : W32 :=
  match q.assignedHome with
  | some h => BitVec.ofNat 32 (fset q.assign.toNat (18, 16) h)
  | none => q.assign
/-- The slot with home pitch `h` in force until it is next enabled (01 R17). -/
def SQ.rehomeTo (q : SQ) (h : Nat) : SQ :=
  { q with assign := BitVec.ofNat 32 (fset q.assign.toNat (18, 16) h), assignedHome := some (q.assignedHome.getD q.home) }
def SQ.size (q : SQ) : Nat := 2 ^ bitsOf q.cfg 28 24
def SQ.reread (q : SQ) : Bool := q.cfg.getLsbD 30
def SQ.defaultCq (q : SQ) : Nat := bitsOf q.cfg 13 0
/-- SQ_CFG as it reads (03 R116). -/
def SQ.cfgRead (q : SQ) : Nat := q.cfg.toNat % 2 ^ 31 + b2n (q.state == 1 || q.state == 3) * 2 ^ 31

/-- Lease-set member `n`: valid, and its class. -/
def SQ.memberValid (q : SQ) (n : Nat) : Bool := (q.assign.toNat / 2 ^ 23).testBit n
def SQ.member (q : SQ) (n : Nat) : Nat := bitsOf q.leases (8 * n + 7) (8 * n)

def CQ.valid (q : CQ) : Bool := q.assign.getLsbD 31
def CQ.num (q : CQ) : Nat := bitsOf q.assign 13 0
def CQ.size (q : CQ) : Nat := 2 ^ bitsOf q.cfg 28 24
def CQ.ien (q : CQ) : Bool := q.cfg.getLsbD 30
def CQ.vector (q : CQ) : Nat := bitsOf q.cfg 7 0
def CQ.cfgRead (q : CQ) : Nat := q.cfg.toNat % 2 ^ 31 + b2n (q.state == 1) * 2 ^ 31

/-! ## The records -/

/-- Journal record (05 R171); state 1 ACCEPTED, 2 COMPLETING. -/
def journalRec (q : SQ) (i : Item) (tcq state cqIndex : Nat) (entry : BitVec 256) : BitVec 512 :=
  let h := (i.units.headD 0).toNat
  BitVec.ofNat 512 (pack [(16, q.num), (16, q.generation.toNat), (32, i.seq.toNat), (64, i.unit.toNat), (8, state), (8, h),
    (16, tcq + b2n i.f001 * 2 ^ 15), (32, h / 2 ^ 32), (32, cqIndex), (32, 0), (256, entry.toNat)])

/-- SQ state record (05 R173), with a write count. -/
def sqRec (q : SQ) (fn slot update : Nat) : Nat :=
  pack [(64, q.consumed.toNat), (32, q.completedSeq.toNat), (16, q.generation.toNat), (8, q.state + q.errorCause * 16), (8, 0),
    (32, update), (16, fn), (8, slot), (72, 0), (64, q.base.toNat), (64, q.index.toNat), (32, q.cfgRead), (32, q.seqBase.toNat),
    (64, q.start.toNat), (32, q.assign.toNat), (32, 0), (64, q.leases.toNat), (384, 0)]

/-- CQ state record (05 R174), with its TAIL and a write count. -/
def cqRec (q : CQ) (fn slot tail update : Nat) : Nat :=
  pack [(32, tail), (32, q.head.toNat), (8, q.state), (56, 0), (32, update), (16, fn), (8, slot), (8, 0), (64, q.base.toNat),
    (32, q.cfgRead), (32, q.mod.toNat), (32, q.assign.toNat), (160, 0)]

/-- The progress record of context `c` in a state, with its ORDINAL and MOVED (05 R176). -/
def progRec (x : Ctx) (c state ordinal moved update : Nat) : Nat :=
  let flags := x.cond.toNat + b2n x.scratch * 16 + b2n x.eventTime.isSome * 32 + b2n x.recovered * 64 + b2n x.partialDone * 128
  pack [(16, x.sq.toNat), (16, x.generation.toNat), (32, x.seq.toNat), (8, state), (8, flags), (16, ordinal), (16, x.budget),
    (8, x.lease.getD 0), (8, c / 1024), (64, x.position.toNat), (64, moved), (64, (x.eventTime.getD 0).toNat), (32, x.meter),
    (32, x.lastResidual.toNat), (64, 0), (32, update), (32, 0)]

/-- Next write count of a record, whose present count stands at bits `lo` + 31 to `lo` of block `b`. -/
def nextUpdate (s : State) (b lo : Nat) : Nat := bitsOf (recBlock s b) (lo + 31) lo + 1

/-- The front end writes the SQ state record of a slot (05 R173). -/
def writeSqRec (s : State) (fn slot : Nat) : State :=
  let q := s.sq fn slot
  let b := sqBlock q.num
  let v := sqRec q fn slot (nextUpdate s b 128)
  putRecord s true true b [BitVec.ofNat 512 v, BitVec.ofNat 512 (v / 2 ^ 512)]

/-- The front end writes the CQ state record of a slot (05 R174). -/
def writeCqRec (s : State) (fn slot tail : Nat) : State :=
  let q := s.cq fn slot
  let b := cqBlock q.num
  putRecord s true true b [BitVec.ofNat 512 (cqRec q fn slot tail (nextUpdate s b 128))]

/-- The progress record of context `c` is that of the entry: SQ, GENERATION and SEQ match and it is not FREE (05 R188). -/
def progIs (s : State) (c sq gen seq : Nat) : Bool :=
  let b := recBlock s (progBlock c)
  bitsOf b 13 0 == sq && bitsOf b 31 16 == gen && bitsOf b 63 32 == seq && bitsOf b 71 64 != 0

/-- A context whose entry's completion was written marks its record FREE (05 R177). -/
def freeProg (s : State) (c : Nat) : State :=
  let b := progBlock c
  putRecord s true true b [BitVec.ofNat 512 (pack [(448, 0), (32, nextUpdate s b 448), (32, 0)])]

/-- A context writes its progress record (05 R176, R177); the record of the context that an entry was recovered from is then no longer the
entry's, and becomes FREE (DESIGN CHOICE, log entry 92). -/
def writeProg (s : State) (c state ordinal moved : Nat) : State :=
  let b := progBlock c
  let x := s.ctx c
  let s1 := putRecord s true true b [BitVec.ofNat 512 (progRec x c state ordinal moved (nextUpdate s b 448))]
  match x.oldRec with
  | some k => if k ≠ c ∧ progIs s1 k x.sq.toNat x.generation.toNat x.seq.toNat then freeProg s1 k else s1
  | none => s1

/-- The function record: identity, and the MSI-X table from +0x1000 (05 R175). -/
def writeFnRec (s : State) (fn : Nat) : State :=
  let f := s.fn fn
  let b := fnBlock fn
  putChanged s ((b, BitVec.ofNat 512 f.ident.toNat) :: (List.range 64).map fun i =>
    (b + 64 + i, BitVec.ofNat 512 (pack ((List.range 4).map fun k => (128, (f.entry (4 * i + k)).toNat)))))

/-- Journal record of an entry of a slot in ACCEPTED, into copy A or copy B (05 R172). -/
def writeAccepted (s : State) (fn slot : Nat) (i : Item) (a b : Bool) : State :=
  let q := s.sq fn slot
  putRecord s a b (journalBlock q.num i.seq.toNat) [journalRec q i (s.cq fn i.cq).num 1 0 0]

end Sys2Proof.Machine
end

