-- ==== Sys2Proof/Machine/Queue.lean ====
section
/-! DEFINITION. Submission and completion queues: states, scanning, acceptance, completions and moderation (03). -/
namespace Sys2Proof.Machine

/-! ## Host access for a function (03 R80, R111, R112, 11 R394) -/

/-- The function may access host memory. -/
def fnLive (s : State) (fn : Nat) : Bool := (s.fn fn).bme && !(s.fn fn).d3 && !fenced s

/-- The denied state, where the canopy denies an access of master `m` to host memory. -/
def hostDenied (s : State) (m : BitVec 14) (kind : AccKind) (addr n : Nat) : Option State :=
  (firstDenied s m kind (.host addr) n).map fun t => deny s m kind t

/-- Slot of the CQ numbered `n` that belongs to the function and is ACTIVE (03 R99). -/
def activeCq (s : State) (fn n : Nat) : Option Nat :=
  ((s.cqs.find? fun e => e.1 / 256 == fn && e.2.valid && e.2.num == n && e.2.state == 1).map (·.1 % 256))

/-- Change queue records by slot. -/
def updSq (s : State) (fn slot : Nat) (f : SQ → SQ) : State := s.setSq fn slot (f (s.sq fn slot))
def updCq (s : State) (fn slot : Nat) (f : CQ → CQ) : State := s.setCq fn slot (f (s.cq fn slot))

/-- Change the entry of a slot with a SEQ. -/
def updItem (s : State) (fn slot : Nat) (seq : W32) (f : Item → Item) : State :=
  updSq s fn slot fun q => { q with items := q.items.map fun i => if i.skip = false ∧ i.seq = seq then f i else i }

def findItem (q : SQ) (seq : W32) : Option Item := q.items.find? fun i => !i.skip && i.seq == seq

/-- Unit index one past an entry or a skip. -/
def Item.next (i : Item) : W64 := i.unit + BitVec.ofNat 64 i.len

/-- An SQ is being recovered (05 R196). -/
def sqRecovering (s : State) (fn slot : Nat) : Bool :=
  recovering s || s.recov.heldSqs.contains (qkey fn slot) || (s.sq fn slot).items.any (·.again.isSome)

/-! ## States of an SQ (03 R114, 11 R387) -/

/-- Put an SQ into a state, with its record; in a camp that waits, the new state is shown once the record is camp-durable. -/
def setSqState (s : State) (fn slot st : Nat) : State :=
  let s1 := writeSqRec (updSq s fn slot fun q => { q with state := st }) fn slot
  let g := gateOf s1
  updSq s1 fn slot fun q => { q with gate := g, shown := if g.isNone then st else q.shown }

/-- Key of the reads of a scan round (07 R274). -/
def roundKey (fn slot : Nat) : Nat := 2 ^ 33 + qkey fn slot

/-- An ACTIVE SQ enters ERROR with a cause (03 R80, R96, R99). -/
def sqError (s : State) (fn slot cause : Nat) : State :=
  if (s.sq fn slot).state = 1 then
    setSqState (undrain (updSq s fn slot fun q => { q with errorCause := cause, round := none, paused := none, rescan := false })
      (roundKey fn slot)) fn slot 3
  else s

/-! ## The index record (03 R91, R93, R115) -/

/-- Writes of the parts still due: offset and bytes. -/
def indexParts (q : SQ) : List (Nat × List Byte) :=
  (if q.indexDue.testBit 0 then [(8, leBytes 8 q.accept.toNat)] else []) ++
  (if q.indexDue.testBit 1 then [(16, leBytes 8 q.consumed.toNat ++ leBytes 8 q.completedSeq.toNat)] else []) ++
  (if q.indexDue.testBit 2 then [(32, leBytes 2 q.generation.toNat)] else [])

/-- One posted write to the index record; a denied one puts the SQ into ERROR with cause 4 (03 R80). -/
def indexPart (fn slot : Nat) (s : State) (p : Nat × List Byte) : State :=
  let q := s.sq fn slot
  let a := q.index.toNat + p.1
  match hostDenied s q.master .wr a p.2.length with
  | some d => sqError d fn slot 4
  | none => emit s (.hostWrite fn a p.2)

/-- Write the parts that are due, if the function may access its memory and no record is waited for. -/
def flushIndex (s : State) (fn slot : Nat) : State :=
  let q := s.sq fn slot
  if q.indexDue = 0 ∨ fnLive s fn = false ∨ gateOpen s q.gate = false then s
  else (indexParts q).foldl (indexPart fn slot) (updSq s fn slot fun q => { q with indexDue := 0 })

/-- Parts `mask` of the index record have changed. -/
def oweIndex (s : State) (fn slot mask : Nat) : State :=
  flushIndex (updSq s fn slot fun q => { q with indexDue := q.indexDue ||| mask }) fn slot

/-! ## Scan rounds (03 R95-R100) -/

/-- CHANNEL_STATUS of a completion entry. -/
def entryStatus (e : BitVec 256) : Nat := bitsOf e 79 64

/-- A queue-migrated completion of the SQ waits to be written (11 R398). -/
def migrating (s : State) (fn slot : Nat) : Bool :=
  s.cqs.any fun e => e.1 / 256 == fn && e.2.posts.any fun c => c.sqSlot == slot && entryStatus c.entry == 0xF006

/-- Start a round of an ACTIVE SQ, or remember the request while one runs or the function may not access its memory. -/
def startRound (s : State) (fn slot : Nat) : State :=
  let q := s.sq fn slot
  if q.state ≠ 1 then s
  else if q.round.isSome ∨ fnLive s fn = false ∨ migrating s fn slot then updSq s fn slot fun q => { q with rescan := true }
  else
    match hostDenied s q.master .rd q.index.toNat 8 with
    | some d => sqError d fn slot 4
    | none =>
      emit (updSq s fn slot fun q => { q with
          round := some { gotProducer := false, limit := 0, upTo := 0, units := [], fresh := false, reads := [] }
          paused := none, rescan := false })
        (.hostRead fn q.index.toNat 8)

/-- A round ends (03 R96). -/
def endRound (s : State) (fn slot : Nat) (stopped : Bool) : State :=
  let q := s.sq fn slot
  let s1 := undrain (updSq s fn slot fun q => { q with round := none }) (roundKey fn slot)
  if q.rescan ∨ (stopped = false ∧ q.nextUnit.toNat < q.consumed.toNat + q.size) then startRound s1 fn slot else s1

/-- Reads of units `x` to `to_` - 1 of a ring, split at the ring end and at 512-byte boundaries: first unit and length. -/
def ringReads (size to_ : Nat) : Nat → Nat → List (Nat × Nat)
  | 0, _ => []
  | fuel + 1, x =>
    if to_ ≤ x then []
    else
      let n := min (to_ - x) (min (16 - x % 16) (size - x % size))
      (x, n) :: ringReads size to_ fuel (x + n)

/-- Issue reads of ring units, fresh copies or not; a denied one puts the SQ into ERROR with cause 4. Where the function may not access
its memory the round stops at NEXT, and a new one starts when it may (03 R111, R112). -/
def issueRing (s : State) (fn slot x to_ : Nat) (fresh : Bool) : State :=
  let q := s.sq fn slot
  if fnLive s fn = false then undrain (updSq s fn slot fun q => { q with round := none, rescan := true }) (roundKey fn slot)
  else
  (ringReads q.size to_ (to_ - x) x).foldl (fun u r =>
    if (u.sq fn slot).state ≠ 1 then u
    else
      let a := q.base.toNat + r.1 % q.size * 32
      match hostDenied u q.master .rd a (r.2 * 32) with
      | some d => sqError d fn slot 4
      | none => emit (updSq u fn slot fun q => { q with round := q.round.map fun rd => { rd with reads := rd.reads ++ [(r.1, r.2, fresh)] } })
          (.hostRead fn a (r.2 * 32))) s

/-- The PRODUCER read lands (03 R96). -/
def indexLandedS (fn slot : Nat) (r : Rsp) (producer : W64) (s : State) : State :=
  let q := s.sq fn slot
  match q.round with
  | none => s
  | some rd =>
    if rd.gotProducer then s
    else if r ≠ .ok then sqError s fn slot 3
    else
      let x := q.nextUnit.toNat
      let limit := min (producer.toNat + 8) (min (q.consumed.toNat + q.size) (x + 64))
      let s1 := updSq s fn slot fun q => { q with round := some { rd with gotProducer := true, limit := limit, upTo := x } }
      if limit ≤ x then endRound s1 fn slot false else issueRing s1 fn slot x limit false

/-- INDEX_RECORD_LANDED (03 R96). -/
def execIndexRecordLanded (fn slot : Nat) (r : Rsp) (producer : W64) (s : State) : Host.Outcome State Fault Refusal :=
  done s (indexLandedS fn slot r producer s)

/-- The target CQ of an entry that names CQ `n`: its slot, and whether it is not the CQ named (03 R99). -/
def targetCq (s : State) (fn : Nat) (q : SQ) (n : Nat) : Option (Nat × Bool) :=
  match activeCq s fn n with
  | some c => some (c, false)
  | none => (activeCq s fn q.defaultCq).map fun c => (c, true)

/-- Free slots of a CQ (03 R101). -/
def cqFree (q : CQ) : Nat := q.size - (q.tail - q.head).toNat - q.reservations

/-- Condition 2 of R99: the SEQ lies less than 1,024 above that of the oldest entry without a completion entry. -/
def windowOpen (q : SQ) (seq : W32) : Bool :=
  match q.items.find? fun i => !i.skip && !i.posted with
  | some o => decide ((seq - o.seq).toNat < 1024)
  | none => true

/-- Pause the round before the entry at NEXT (03 R100). -/
def pauseRound (s : State) (fn slot : Nat) (why : Option Nat) : State :=
  endRound (updSq s fn slot fun q => { q with paused := some why }) fn slot true

/-- Take `n` units off the front of a round: NEXT moves past them. -/
def passUnits (q : SQ) (n : Nat) : SQ :=
  { q with nextUnit := q.nextUnit + BitVec.ofNat 64 n, round := q.round.map fun r => { r with units := r.units.drop n } }

/-- admit(x) for the entry of `n` units at NEXT (03 R99): an ERROR, a pause, or the entry is admitted, its reservation taken and
the acceptance record requested (R172). -/
def admitEntry (s : State) (fn slot : Nat) (units : List (BitVec 256)) : State :=
  let q := s.sq fn slot
  let h := (units.headD 0)
  let seq : W32 := h.extractLsb' 64 32
  if seq ≠ q.expected then sqError s fn slot 1
  else if windowOpen q seq = false then pauseRound s fn slot none
  else
    match targetCq s fn q (bitsOf h 125 112) with
    | none => sqError s fn slot 5
    | some (c, f001) =>
      if cqFree (s.cq fn c) = 0 then pauseRound s fn slot (some c)
      else
        let i : Item :=
          { unit := q.nextUnit, len := units.length, skip := false, units := units, seq := seq, cq := c, f001 := f001, durable := false,
            accepted := false, dispatched := false, decided := false, posted := false, recovered := false, frags := none,
            fragWait := none, mseq := none, ctx := none, again := none, resume := none, stale := none }
        let s1 := writeAccepted (updCq s fn c fun k => { k with reservations := k.reservations + 1 }) fn slot i true false
        updSq s1 fn slot fun q =>
          passUnits { q with items := q.items ++ [{ i with mseq := gateOf s1 }], expected := q.expected + 1 } units.length

/-! ## ACCEPT and CONSUMED (03 R93, R102) -/

/-- ACCEPT stands past the accepted entries and the skips that follow them. -/
def settleAccept (s : State) (fn slot : Nat) : State :=
  let q := s.sq fn slot
  let pre := q.items.takeWhile fun i => i.skip || i.accepted
  match pre.getLast? with
  | none => s
  | some i =>
    let s1 := updSq s fn slot fun q => { q with
      accept := i.next
      items := (pre.map fun i => { i with accepted := true }) ++ q.items.drop pre.length }
    if i.next = q.accept then s1 else oweIndex s1 fn slot 1

/-- A queue reset overwrites the SQ's journal slots with STATE 0 (05 R192). -/
def clearJournal (s : State) (q : SQ) : State :=
  let b := journalBlock q.num 0
  let held := if s.recov.lostA then s.recov.copyB else s.recov.copyA
  (held.filter fun e => b ≤ e.1 ∧ e.1 < b + 1024).foldl (fun u e => putRecord u true true e.1 [0]) s

/-- A DRAINING SQ without outstanding entries becomes DISABLED, and makes no further access to its index record (03 R114, 05 R192). -/
def sqDrained (s : State) (fn slot : Nat) : State :=
  let q := s.sq fn slot
  if q.state = 2 ∧ q.items.all (·.skip) then
    let s1 := if q.resetting then clearJournal s q else s
    setSqState (updSq s1 fn slot fun q => { q with items := [], resetting := false, indexDue := 0 }) fn slot 0
  else s

/-- CONSUMED advances (03 R93), with its record (05 R173). -/
def advanceConsumed (s : State) (fn slot : Nat) : State :=
  let q := s.sq fn slot
  let pre := q.items.takeWhile fun i => if i.skip then i.accepted else i.posted
  match pre.getLast? with
  | none => sqDrained s fn slot
  | some i =>
    let seqs := (pre.filter fun i => !i.skip).map (·.seq)
    let s1 := updSq s fn slot fun q => { q with
      consumed := i.next, completedSeq := seqs.getLast?.getD q.completedSeq, items := q.items.drop pre.length }
    sqDrained (writeSqRec (oweIndex s1 fn slot 2) fn slot) fn slot

/-! ## Examining landed units (03 R86-R88, R96) -/

/-- Units of the entry at NEXT outside its header's 64-byte block. -/
def freshUnits (x n : Nat) : Nat := n - min n (2 - x % 2)

/-- The scan consumes a skip entry (03 R86, R102). -/
def passSkip (s : State) (fn slot n : Nat) (h : BitVec 256) : State :=
  let i : Item :=
    { unit := (s.sq fn slot).nextUnit, len := n, skip := true, units := [h], seq := 0, cq := 0, f001 := false, durable := false,
      accepted := false, dispatched := false, decided := false, posted := false, recovered := false, frags := none,
      fragWait := none, mseq := none, ctx := none, again := none, resume := none, stale := none }
  let s1 := updSq s fn slot fun q => passUnits { q with items := q.items ++ [i] } n
  advanceConsumed (settleAccept s1 fn slot) fn slot

/-- Examine landed units from NEXT on (03 R96); a round that a pause or a skip has just begun waits for its PRODUCER. -/
def ringLoop (fn slot : Nat) : Nat → State → State
  | 0, s => s
  | fuel + 1, s =>
    let q := s.sq fn slot
    match q.round with
    | none => s
    | some r =>
      let x := q.nextUnit.toNat
      if r.gotProducer = false then s
      else if r.limit ≤ x then endRound s fn slot false
      else
        match r.units with
        | [] => s
        | h :: _ =>
          if bitsOf h 0 0 ≠ (x / q.size + 1) % 2 then endRound s fn slot true
          else
            let n := bitsOf h 3 1 + 1
            if q.size < x % q.size + n then sqError s fn slot 2
            else if bitsOf h 7 4 = 15 then ringLoop fn slot fuel (passSkip s fn slot n h)
            else if r.limit < x + n then
              ringLoop fn slot fuel (issueRing (updSq s fn slot fun q => { q with round := some { r with limit := x + n } })
                fn slot r.limit (x + n) false)
            else if r.units.length < n then s
            else if q.reread ∧ freshUnits x n ≠ 0 then
              issueRing (updSq s fn slot fun q => { q with round := some { r with fresh := true } })
                fn slot (x + (n - freshUnits x n)) (x + n) true
            else ringLoop fn slot fuel (admitEntry s fn slot (r.units.take n))

/-- Landing units against the reads in flight, oldest first: the reads still in flight, and the units that landed as prefetch and as fresh
copies, each fresh one with its unit index. -/
def landReads : List (Nat × Nat × Bool) → List (BitVec 256) → List (Nat × Nat × Bool) × List (BitVec 256) × List (Nat × BitVec 256)
  | [], _ => ([], [], [])
  | (a, n, f) :: rs, us =>
    let now := us.take n
    let (rest, pre, fr) := if n ≤ us.length then landReads rs (us.drop n) else ((a + now.length, n - now.length, f) :: rs, [], [])
    if f then (rest, pre, ((List.range now.length).map (a + ·)).zip now ++ fr) else (rest, now ++ pre, fr)

/-- Put the fresh copies that landed in the place of the units first read, of which the first is unit `x` (03 R88). -/
def freshen (x : Nat) (units : List (BitVec 256)) (fr : List (Nat × BitVec 256)) : List (BitVec 256) :=
  fr.foldl (fun us e => us.set (e.1 - x) e.2) units

/-- Ring units land (03 R96), of the reads in flight from the oldest on (log entry 83): those read next of the round, and the fresh copies
of R88, with the last of which the entry at NEXT is judged. -/
def ringLandedS (fn slot : Nat) (rsp : Rsp) (units : List (BitVec 256)) (s : State) : State :=
  let q := s.sq fn slot
  match q.round with
  | none => s
  | some r =>
    if r.gotProducer = false then s
    else if rsp ≠ .ok then sqError s fn slot 3
    else
      let x := q.nextUnit.toNat
      let (rest, pre, fr) := landReads r.reads units
      let us := freshen x (r.units ++ pre.drop (x - r.upTo)) fr
      let done := r.fresh && !rest.any (·.2.2)
      let s1 := updSq s fn slot fun q => { q with
        round := some { r with upTo := r.upTo + pre.length, units := us, reads := rest, fresh := r.fresh && !done } }
      if done then ringLoop fn slot 80 (admitEntry s1 fn slot (us.take (bitsOf (us.headD 0) 3 1 + 1)))
      else if r.fresh then s1
      else ringLoop fn slot 80 s1

/-- RING_UNITS_LANDED (03 R96). -/
def execRingUnitsLanded (fn slot : Nat) (r : Rsp) (units : List (BitVec 256)) (s : State) : Host.Outcome State Fault Refusal :=
  done s (ringLandedS fn slot r units s)

/-- The condition that paused a round has cleared: a new round starts (03 R100). A target CQ that is no longer ACTIVE no longer blocks
either, since the entry's target is then found anew (DEDUCED, log entry 84). -/
def pauseReleaseS (fn slot : Nat) (s : State) : State :=
  let q := s.sq fn slot
  match q.paused with
  | none => s
  | some none => if windowOpen q q.expected then startRound s fn slot else s
  | some (some c) => if (s.cq fn c).state ≠ 1 ∨ 0 < cqFree (s.cq fn c) then startRound s fn slot else s

/-- ROUND_PAUSE_RELEASE (03 R100). -/
def execRoundPauseRelease (fn slot : Nat) (s : State) : Host.Outcome State Fault Refusal := done s (pauseReleaseS fn slot s)

/-- A doorbell of an SQ (03 R95): ignored unless ACTIVE, and while recovery runs (05 R196). -/
def sqDoorbellS (fn slot : Nat) (s : State) : State :=
  if (s.sq fn slot).valid ∧ sqRecovering s fn slot = false then startRound s fn slot else s

/-- SQ_DOORBELL (03 R95). -/
def execSqDoorbell (fn slot : Nat) (s : State) : Host.Outcome State Fault Refusal := done s (sqDoorbellS fn slot (guyPort s (fnPort fn) 1))

/-! ## Deciding a completion (03 R104-R106, 05 R172) -/

/-- How an entry ended: CHANNEL_STATUS, DEVICE_STATUS, RESIDUAL, FAIL_INDEX, FLAGS (bit 0 TS, 1 RECOVERED, 2 PARTIAL), the time
of a TS completion, and METER_DELTA. -/
structure Ending where
  status : Nat
  dev : Nat
  residual : Nat
  fail : Nat
  flags : Nat
  time : Nat
  meter : Nat
  deriving DecidableEq, Repr

/-- Ending with a queue-level status (03 R105). -/
def Ending.queue (status : Nat) (recovered : Bool) : Ending :=
  { status := status, dev := 0, residual := 0, fail := 0xFFFF, flags := 2 * b2n recovered, time := 0, meter := 0 }

/-- A completion entry (03 R104). -/
def complEntry (tag sq seq phase n : Nat) (e : Ending) : BitVec 256 :=
  BitVec.ofNat 256 (pack [(32, tag), (14, sq), (17, 0), (1, phase), (16, e.status), (16, e.dev), (32, e.residual), (16, e.fail),
    (8, n / 2 ^ 32), (8, e.flags), (32, n), (32, seq), (32, min e.meter 0xFFFFFFFF)])

/-- PHASE of the completion entry at a CQ index (03 R104). -/
def cqPhase (q : CQ) (idx : W32) : Nat := (idx.toNat / q.size + 1) % 2

/-- A completion of the function is held (03 R111). -/
def fnHolds (s : State) (fn : Nat) : Bool := s.cqs.any fun e => e.1 / 256 == fn && !e.2.posts.isEmpty

/-- The first completion held in D3hot sends PME, if PME_En is set (03 R111). -/
def sendPme (s : State) (fn : Nat) : State :=
  let f := s.fn fn
  if f.d3 ∧ f.pmeEn then emit (s.setFn fn { f with pmeStatus := true, pmeAt := s.sched.frame }) (.pme fn) else s

/-- PME is repeated every 100 ms, as PCIe requires, for as long as PME_Status stays set in D3hot (03 R111; the period is PRESUMED, log
entry 85). -/
def repeatPme (s : State) : State :=
  (s.fns.filter fun e => e.2.d3 && e.2.pmeEn && e.2.pmeStatus && decide (e.2.pmeAt.toNat + 100000 ≤ s.sched.frame.toNat)).foldl
    (fun u e => sendPme u e.1) s

/-- Queue a decided completion on CQ slot `c`, with the gate of the records just written. -/
def queuePost (s : State) (fn c : Nat) (p : Compl) : State :=
  let first := !fnHolds s fn
  let g := gateOf s
  let s0 := { s with prog := { s.prog with finished := s.prog.finished + 1 } }
  let s1 := updCq s0 fn c fun k => { k with posts := k.posts ++ [{ p with gate := g, nth := s.prog.finished }] }
  if first then sendPme s1 fn else s1

/-- Count a completion of the recovery class (05 RECOV_COUNTS). -/
def countRecovery (s : State) (status : Nat) : State :=
  if status = 0x0701 then satAdd s R.RECOV_COUNTS F.RECOV_COUNTS_IN_DOUBT 1
  else if status = 0x0702 then satAdd s R.RECOV_COUNTS F.RECOV_COUNTS_ABANDONED 1
  else s

/-- The front end decides the completion of an entry (05 R172): its index, its COMPLETING and CQ records. -/
def decideItem (s : State) (fn slot : Nat) (seq : W32) (e : Ending) : State :=
  let q := s.sq fn slot
  match findItem q seq with
  | none => s
  | some i =>
    if i.decided then s
    else
      let k := s.cq fn i.cq
      let n := if e.flags % 2 = 1 then e.time else coreNs s
      let h := i.units.headD 0
      let entry := complEntry (bitsOf h 63 32) q.num seq.toNat (cqPhase k k.decided) n
        { e with flags := e.flags ||| (2 * b2n i.recovered) }
      let s1 := updItem (updCq s fn i.cq fun k => { k with decided := k.decided + 1 }) fn slot seq fun i => { i with decided := true, again := none }
      let s2 := putRecord s1 true true (journalBlock q.num seq.toNat) [journalRec q i k.num 2 k.decided.toNat entry]
      let s3 := writeCqRec s2 fn i.cq (k.decided + 1).toNat
      queuePost (countRecovery s3 e.status) fn i.cq
        { sqFn := fn, sqSlot := slot, seq := seq, index := k.decided, entry := entry, immediate := bitsOf h 8 8 == 1, gate := none, rewrite := false,
          nth := 0 }

/-! ## Interrupts and moderation (03 R109, R110) -/

/-- The message of vector `v` has been sent: the CQs that waited for it with interrupts enabled start over. -/
def cqSent (s : State) (fn v : Nat) : State :=
  (s.cqs.filter fun e => e.1 / 256 == fn && e.2.vector == v && e.2.due && e.2.ien).foldl (fun u e =>
    updCq u fn (e.1 % 256) fun k => { k with due := false, unsignalled := 0, timer := none }) s

/-- Some CQ with interrupts enabled, or something else than a CQ, still waits for the message of a vector (03 R109). -/
def vecDue (s : State) (fn v : Nat) : Bool :=
  (s.fn fn).owed.getLsbD v || s.cqs.any fun e => e.1 / 256 == fn && e.2.vector == v && e.2.due && e.2.ien

/-- Send the message of a vector, if something still waits for it and the canopy admits it: a held message sets its pending bit, as a
denied one does, which is counted (03 R80, R109, R110, 07 R271). The CQs start over once the message has left. -/
def trySend (s : State) (fn v : Nat) : State :=
  if vecDue s fn v = false then s
  else if vecHeld s fn v then setPba s fn v
  else
    match hostDenied s (s.fn fn).master .wr (bitsOf ((s.fn fn).entry v) 63 0) 4 with
    | some d => setPba d fn v
    | none =>
      let l := (s.port (fnPort fn)).link
      if l = 2 ∨ l = 3 then routeMsix s fn v else cqSent (routeMsix s fn v) fn v

/-- An interrupt of a CQ is due (03 R109, R110, 07 R271). -/
def cqInterrupt (s : State) (fn slot : Nat) : State :=
  trySend (updCq s fn slot fun k => { k with due := true }) fn (s.cq fn slot).vector

/-- `n` completion entries were written, with or without an IMMEDIATE one (03 R109). -/
def moderate (s : State) (fn slot n : Nat) (imm : Bool) : State :=
  let k := s.cq fn slot
  if k.ien = false ∨ n = 0 then s
  else
    let u := min (k.unsignalled + n) 255
    let s1 := updCq s fn slot fun k => { k with unsignalled := u, timer := if k.unsignalled = 0 then some s.sched.frame else k.timer }
    if imm ∨ max 1 (bitsOf k.mod 23 16) ≤ u then cqInterrupt s1 fn slot else s1

/-- The moderation timer of a CQ expires (03 R109). -/
def timerS (fn slot : Nat) (s : State) : State :=
  let k := s.cq fn slot
  match k.timer with
  | none => s
  | some f => if k.ien ∧ fnLive s fn ∧ f.toNat + bitsOf k.mod 15 0 < s.sched.frame.toNat then cqInterrupt s fn slot else s

/-- MODERATION_TIMER (03 R109). -/
def execModerationTimer (fn slot : Nat) (s : State) : Host.Outcome State Fault Refusal := done s (timerS fn slot s)

/-- Send the pending messages of a function's unmasked vectors. -/
def sendPending (s : State) (fn : Nat) : State :=
  (List.range 256).foldl (fun u v =>
    if (u.fn fn).pba.getLsbD v ∧ vecMasked u fn v = false ∧ fnLive u fn then trySend u fn v else u) s

/-- Unmask a vector of a function, or the function (03 R109). -/
def unmaskS (fn : Nat) (vec : Option (BitVec 8)) (s : State) : State :=
  let f := s.fn fn
  match vec with
  | some v =>
    let e := f.entry v.toNat
    sendPending (writeFnRec (s.setFn fn { f with msix := Tbl.set msixReset f.msix v.toNat (e &&& ~~~(1#128 <<< 96)) }) fn) fn
  | none => sendPending (s.setFn fn { f with maskAll := false }) fn

/-- VECTOR_UNMASK (03 R109). -/
def execVectorUnmask (fn : Nat) (vec : Option (BitVec 8)) (s : State) : Host.Outcome State Fault Refusal :=
  doneReg s (if (s.fn fn).present then unmaskS fn vec s else s)

/-- A host link reaches L0: the due messages are sent (03 R110). -/
def reachesL0S (port : Nat) (s : State) : State :=
  let p := s.port port
  if p.link = 2 ∨ p.link = 3 then
    p.due.foldl (fun u e => trySend u e.1 e.2) (s.setPort port { p with link := 1, due := [] })
  else s

/-- LINK_REACHES_L0 (03 R110). -/
def execLinkReachesL0 (port : Nat) (s : State) : Host.Outcome State Fault Refusal := doneUp s (reachesL0S port s)

/-! ## Writing completion entries (03 R80, R101, R107, 01 R19) -/

/-- Put a CQ into a state, with its record, whose TAIL stands after every decided completion (03 R117, 05 R174, 11 R387). -/
def setCqState (s : State) (fn slot st : Nat) : State :=
  let s1 := updCq s fn slot fun k => { k with state := st }
  let s2 := writeCqRec s1 fn slot (s1.cq fn slot).decided.toNat
  let g := gateOf s2
  updCq s2 fn slot fun k => { k with gate := g, shown := if g.isNone then st else k.shown }

/-- A DRAINING CQ without reservations and held completions becomes DISABLED (03 R117). -/
def cqDrained (s : State) (fn slot : Nat) : State :=
  let k := s.cq fn slot
  if k.state = 2 ∧ k.reservations = 0 ∧ k.posts.isEmpty then setCqState s fn slot 0 else s

/-- The progress record of an entry's context becomes FREE once its completion is written (05 R177). -/
def freeEnded (s : State) (q : SQ) (i : Item) : State :=
  (i.ctx.toList ++ (i.resume.map (·.1)).toList ++ i.stale.toList).foldl (fun u c =>
    if progIs u c q.num q.generation.toNat i.seq.toNat then freeProg u c else u) s

/-- Write the first waiting completion of a CQ, and the index record of its SQ (03 R80, R107, R93); a rewrite stands at its own
index and takes no slot (05 R189). A write that issues is charged to the SQ that the entry answers (09 R334). -/
def postOne (s : State) (fn slot : Nat) (p : Compl) : State :=
  let k := s.cq fn slot
  let q := s.sq p.sqFn p.sqSlot
  let a := k.base.toNat + (if p.rewrite then p.index else k.tail).toNat % k.size * 32
  let s1 := match hostDenied s q.master .wr a 32 with
    | some d => sqError d p.sqFn p.sqSlot 4
    | none => mCount (emit s (.hostWrite fn a (leBytes 32 p.entry.toNat))) 8 q.tenant fun r => { r with entries := r.entries + 1 }
  let s2 := updCq s1 fn slot fun k =>
    if p.rewrite then { k with posts := k.posts.tail }
    else { k with tail := k.tail + 1, reservations := k.reservations - 1, posts := k.posts.tail }
  if entryStatus p.entry = 0xF006 then cqDrained (startRound s2 p.sqFn p.sqSlot) fn slot
  else
    match findItem q p.seq with
    | none => cqDrained s2 fn slot
    | some i =>
      let s3 := freeEnded (updItem s2 p.sqFn p.sqSlot p.seq fun i => { i with posted := true }) q i
      cqDrained (advanceConsumed s3 p.sqFn p.sqSlot) fn slot

/-- The first completion of a CQ that may be written now: neither its own records nor that of its SQ's state are waited for, so that the
index record follows the entry (01 R19). -/
def postReady (s : State) (fn slot : Nat) : Option Compl :=
  match (s.cq fn slot).posts with
  | [] => none
  | p :: _ =>
    let k := s.cq fn slot
    if fnLive s fn ∧ k.state ≠ 0 ∧ gateOpen s p.gate ∧ gateOpen s (s.sq p.sqFn p.sqSlot).gate ∧ (p.rewrite ∨ (k.tail - k.head).toNat < k.size) then some p else none

/-- A completion is posted: entry, index record, then the interrupt (01 R19). -/
def completionS (fn slot : Nat) (s : State) : State :=
  match postReady s fn slot with
  | none => s
  | some p => moderate (postOne s fn slot p) fn slot (b2n (!p.rewrite)) p.immediate

/-- COMPLETION_POSTED (01 R19). -/
def execCompletionPosted (fn slot : Nat) (s : State) : Host.Outcome State Fault Refusal := done s (completionS fn slot s)

/-- Slots of a function's queues that are listed. -/
def fnSqs (s : State) (fn : Nat) : List Nat := (s.sqs.filter fun e => e.1 / 256 == fn).map (·.1 % 256)
def fnCqs (s : State) (fn : Nat) : List Nat := (s.cqs.filter fun e => e.1 / 256 == fn).map (·.1 % 256)

/-- The CQ of a function whose first completion may be written now and was finished before those of its other CQs (03 R111). -/
def firstHeld (s : State) (fn : Nat) : Option (Nat × Compl) :=
  (fnCqs s fn).foldl (fun b c =>
    match postReady s fn c, b with
    | some p, none => some (c, p)
    | some p, some (c0, p0) => if p.nth < p0.nth then some (c, p) else some (c0, p0)
    | none, _ => b) none

/-- Write the held completions of a function in the order in which they were finished (03 R111), and list for each the CQ, whether it counts,
and whether it is IMMEDIATE. -/
def postHeld (fn : Nat) : Nat → State → State × List (Nat × Nat × Bool)
  | 0, s => (s, [])
  | fuel + 1, s =>
    match firstHeld s fn with
    | none => (s, [])
    | some (c, p) =>
      let (s1, l) := postHeld fn fuel (postOne s fn c p)
      (s1, (c, b2n (!p.rewrite), p.immediate && !p.rewrite) :: l)

/-- A function may access its memory again: held completions, index records, messages and rounds (03 R111, R112). -/
def releaseQueues (s : State) (fn : Nat) : State :=
  if fnLive s fn then
    let (s0, l) := postHeld fn ((fnCqs s fn).map fun c => (s.cq fn c).posts.length).sum s
    let s1 := (fnCqs s fn).foldl (fun u c =>
      let w := l.filter (·.1 == c)
      moderate u fn c (w.map (·.2.1)).sum (w.any (·.2.2))) s0
    let s2 := (fnSqs s1 fn).foldl (fun u q => flushIndex u fn q) s1
    let s3 := mailRelease (sendPending ((fnCqs s2 fn).foldl (fun u c => timerS fn c u) s2) fn) fn
    (fnSqs s3 fn).foldl (fun u q => if (u.sq fn q).rescan ∧ (u.sq fn q).round.isNone then startRound u fn q else u) s3
  else s

/-! ## CQ commands (03 R108, R116, R117) -/

/-- A CQ is being recovered: rewrites or its message are still due (05 R189, R196). -/
def cqRecovering (s : State) (fn slot : Nat) : Bool :=
  recovering s || s.recov.heldCqs.contains (qkey fn slot) || (s.cq fn slot).posts.any (·.rewrite)

/-- A CQ head doorbell (03 R108), ignored while the CQ is being recovered (05 R196). -/
def cqDoorbellS (fn slot : Nat) (v : W64) (s : State) : State :=
  let k := s.cq fn slot
  let h : W32 := v.truncate 32
  if k.valid = false ∨ cqRecovering s fn slot then s
  else if (k.tail - k.head).toNat < (h - k.head).toNat then updCq s fn slot fun k => { k with headErr := true }
  else updCq s fn slot fun k => { k with head := h }

/-- CQ_DOORBELL (03 R108). -/
def execCqDoorbell (fn slot : Nat) (v : W64) (s : State) : Host.Outcome State Fault Refusal := done s (cqDoorbellS fn slot v (guyPort s (fnPort fn) 1))

/-- CQ_CFG bits that store: IEN, SIZE_LOG2 and VECTOR. -/
def cqCfgMask : Nat := 0x5F0000FF

/-- A write of ENABLE = 1 to a DISABLED CQ (03 R117). -/
def cqEnableS (fn slot v : Nat) (s : State) : State :=
  let s1 := updCq s fn slot fun k => { k with cfg := BitVec.ofNat 32 (v &&& cqCfgMask) }
  let m := bitsOf (s1.cq fn slot).cfg 28 24
  let err := if (s1.cq fn slot).valid = false then 1 else if m < 6 ∨ 16 < m then 2 else 0
  if err ≠ 0 then updCq s1 fn slot fun k => { k with enableErr := err }
  else
    setCqState (updCq s1 fn slot fun k => { k with
      head := 0, tail := 0, decided := 0, unsignalled := 0, timer := none, due := false, reservations := 0, posts := [],
      enableErr := 0 }) fn slot 1

/-- A write of ENABLE = 0 to an ACTIVE CQ; IEN takes effect in any state (03 R116, R117). -/
def cqDisableS (fn slot v : Nat) (s : State) : State :=
  let s1 := updCq s fn slot fun k => { k with cfg := BitVec.ofNat 32 (k.cfg.toNat % 2 ^ 30 + v / 2 ^ 30 % 2 * 2 ^ 30) }
  if (s1.cq fn slot).state = 1 then cqDrained (setCqState s1 fn slot 2) fn slot else s1

/-- A write of CQ_CFG as the state of the CQ gives it (03 R116). Interrupts enabled again send what had become due (03 R109). -/
def cqCfgS (fn slot v : Nat) (s : State) : State :=
  if (s.cq fn slot).state = 0 then
    if v.testBit 31 then cqEnableS fn slot v s
    else updCq s fn slot fun k => { k with cfg := BitVec.ofNat 32 (v &&& cqCfgMask) }
  else if v.testBit 31 then
    sendPending (updCq s fn slot fun k => { k with cfg := BitVec.ofNat 32 (k.cfg.toNat % 2 ^ 30 + v / 2 ^ 30 % 2 * 2 ^ 30) }) fn
  else cqDisableS fn slot v s

/-! ## SQ commands (03 R114-R116) -/

/-- SQ_CFG bits that store: REREAD, SIZE_LOG2 and DEFAULT_CQ. -/
def sqCfgMask : Nat := 0x5F003FFF

/-- A DDR5 pattern run in exclusive mode is in progress on some channel (10 R378). -/
def patternExclusive (s : State) : Bool :=
  (List.range 12).any fun c => rb s R.DDR5_PAT_CTRL F.DDR5_PAT_CTRL_START c && rb s R.DDR5_PAT_CTRL F.DDR5_PAT_CTRL_EXCLUSIVE c

/-- A valid lease-set member that does not fit the tenant (03 R81). -/
def badMember (s : State) (q : SQ) (t : BitVec 12) : Bool :=
  (List.range 8).any fun n => q.memberValid n && (q.member n == 0 || leaseTenant s (q.member n) != t)

/-- The enable checks in order (03 R115): 0 where all pass. -/
def enableErr (s : State) (fn : Nat) (q : SQ) : Nat :=
  let f := s.fn fn
  let k := bitsOf q.cfg 28 24
  if q.valid = false ∨ f.identValid = false then 1
  else if k < 6 ∨ 16 < k then 2
  else if (activeCq s fn q.defaultCq).isNone then 3
  else if badMember s q f.tenant then 4
  else if domOn s q.home = false then 5
  else if patternExclusive s then 6
  else 0

/-- A write of ENABLE = 1 to a DISABLED SQ (03 R115). In a camp that waits, the index record and the first round wait for the
state record (11 R387). The home pitch is the one assigned (01 R17). A successful enable also returns ENABLE_ERR and ERROR_CAUSE to 0, 'none'
(DESIGN CHOICE, log entry 86). -/
def sqEnableS (fn slot v : Nat) (s : State) : State :=
  let s1 := updSq s fn slot fun q => { q with cfg := BitVec.ofNat 32 (v &&& sqCfgMask) }
  let err := enableErr s1 fn { s1.sq fn slot with assign := (s1.sq fn slot).ownAssign }
  if err ≠ 0 then updSq s1 fn slot fun q => { q with enableErr := err }
  else
    let f := s.fn fn
    let s2 := updSq s1 fn slot fun q => { q with
      assign := q.ownAssign, assignedHome := none
      generation := q.generation + 1, accept := q.start, consumed := q.start, completedSeq := q.seqBase - 1, nextUnit := q.start,
      expected := q.seqBase, tenant := f.tenant, master := f.master, items := [], round := none, paused := none, rescan := false,
      enableErr := 0, errorCause := 0, resetting := false, migrated := false }
    let s3 := oweIndex (setSqState s2 fn slot 1) fn slot 7
    if gateOpen s3 (s3.sq fn slot).gate then startRound s3 fn slot else updSq s3 fn slot fun q => { q with rescan := true }

/-- A write of ENABLE = 0 to an ACTIVE or ERROR SQ (03 R114). -/
def sqDisableS (fn slot : Nat) (s : State) : State :=
  sqDrained (setSqState (undrain (updSq s fn slot fun q => { q with round := none, paused := none, rescan := false })
    (roundKey fn slot)) fn slot 2) fn slot

/-- A write of SQ_CFG as the state of the SQ gives it (03 R116). -/
def sqCfgS (fn slot v : Nat) (s : State) : State :=
  let q := s.sq fn slot
  if q.state = 0 then
    if v.testBit 31 then sqEnableS fn slot v s
    else updSq s fn slot fun q => { q with cfg := BitVec.ofNat 32 (v &&& sqCfgMask) }
  else if v.testBit 31 = false ∧ (q.state = 1 ∨ q.state = 3) then sqDisableS fn slot s
  else s

/-- What waits for the record of a queue's state has become camp-durable (11 R387). -/
def showStates (s : State) : State :=
  let s1 := s.sqs.foldl (fun u e =>
    let fn := e.1 / 256
    let slot := e.1 % 256
    let q := u.sq fn slot
    if q.gate.isSome ∧ gateOpen u q.gate then
      let u1 := flushIndex (updSq u fn slot fun q => { q with gate := none, shown := q.state }) fn slot
      if (u1.sq fn slot).rescan ∧ (u1.sq fn slot).round.isNone then startRound u1 fn slot else u1
    else u) s
  s1.cqs.foldl (fun u e =>
    let k := u.cq (e.1 / 256) (e.1 % 256)
    if k.gate.isSome ∧ gateOpen u k.gate then updCq u (e.1 / 256) (e.1 % 256) fun k => { k with gate := none, shown := k.state }
    else u) s1

/-! ## The assignment window (03 R122) -/

def assignFn (s : State) : Nat := rf s R.ASSIGN_SELECT F.ASSIGN_SELECT_FUNCTION 0 0 (mgmtFn s)
def assignSlot (s : State) : Nat := rf s R.ASSIGN_SELECT F.ASSIGN_SELECT_SLOT 0 0 (mgmtFn s)
def assignCq (s : State) : Bool := rb s R.ASSIGN_SELECT F.ASSIGN_SELECT_CQ 0 0 (mgmtFn s)

/-- ASSIGN_STATUS.RESULT of the write just made. -/
def assignResult (s : State) (r : Nat) : State := wr s R.ASSIGN_STATUS r 0 0 (mgmtFn s)

/-- The function exists: its physical function or a virtual function its port may enable (01 R10, 12). -/
def fnExists (s : State) (fn : Nat) : Bool := decide (fn % 256 < Tbl.get 0 s.trust.endpoints (fn / 256))

/-- A write to ASSIGN_IDENT (03 R122). -/
def assignIdentS (v : Nat) (s : State) : State :=
  let fn := assignFn s
  if fnExists s fn = false then assignResult s 3
  else if (fnSqs s fn).any (fun q => (s.sq fn q).state != 0) || (fnCqs s fn).any (fun c => (s.cq fn c).state != 0) then assignResult s 1
  else assignResult (writeFnRec (s.setFn fn { s.fn fn with ident := BitVec.ofNat 32 (v &&& 0x8FFF3FFF) }) fn) 0

/-- ASSIGN_IDENT (03 R122). -/
def execAssignIdent (v : W32) (s : State) : Host.Outcome State Fault Refusal := doneMgmt s (assignIdentS v.toNat s)

/-- QNUM is assigned to another slot, or, while the Ploet link is up, in the mirror area (03 R122, 11 R391). -/
def qnumTaken (s : State) (cq : Bool) (n key : Nat) : Bool :=
  (if cq then s.cqs.any fun e => e.1 != key && e.2.valid && e.2.num == n
   else s.sqs.any fun e => e.1 != key && e.2.valid && e.2.num == n) ||
  (s.camp.up &&
    let m := if s.camp.lostA then s.camp.mirrorB else s.camp.mirrorA
    if cq then (Tbl.get 0 m (cqBlock n)).getLsbD (0x28 * 8 + 31) else (Tbl.get 0 m (sqBlock n + 1)).getLsbD 31)

/-- A write to ASSIGN_QUEUE (03 R122). -/
def assignQueueS (v : Nat) (s : State) : State :=
  let fn := assignFn s
  let slot := assignSlot s
  let cq := assignCq s
  if fnExists s fn = false then assignResult s 3
  else if (if cq then (s.cq fn slot).state else (s.sq fn slot).state) ≠ 0 then assignResult s 1
  else if v.testBit 31 ∧ qnumTaken s cq (v % 2 ^ 14) (qkey fn slot) then assignResult s 2
  else if cq then
    let s1 := updCq s fn slot fun k => { k with assign := BitVec.ofNat 32 (v &&& 0x80003FFF) }
    assignResult (writeCqRec s1 fn slot (s1.cq fn slot).tail.toNat) 0
  else assignResult (writeSqRec (updSq s fn slot fun q => { q with assign := BitVec.ofNat 32 (v &&& 0xFF873FFF), assignedHome := none }) fn slot) 0

/-- ASSIGN_QUEUE (03 R122). -/
def execAssignQueue (v : W32) (s : State) : Host.Outcome State Fault Refusal := doneMgmt s (assignQueueS v.toNat s)

/-- A write to ASSIGN_LEASE (03 R122): SQ slots only. -/
def assignLeaseS (v : W64) (s : State) : State :=
  let fn := assignFn s
  let slot := assignSlot s
  if fnExists s fn = false then assignResult s 3
  else if (if assignCq s then (s.cq fn slot).state else (s.sq fn slot).state) ≠ 0 then assignResult s 1
  else if assignCq s then assignResult s 0
  else assignResult (writeSqRec (updSq s fn slot fun q => { q with leases := v }) fn slot) 0

/-- ASSIGN_LEASE (03 R122). -/
def execAssignLease (v : W64) (s : State) : Host.Outcome State Fault Refusal := doneMgmt s (assignLeaseS v s)

end Sys2Proof.Machine
end

