-- ==== Sys2Proof/Machine/Programs.lean ====
section
/-! DEFINITION. Channel programs: commands, program addresses, fetching, steps, their ends, suspension and dispatch (04, 03 R82,
R89, R90, R103). Contexts are numbered (pitch x 16 + engine) x 64 + context. -/
namespace Sys2Proof.Machine

/-! ## The channel command (04 R124-R126) -/

def cCode (c : BitVec 256) : Nat := bitsOf c 7 0
def cFlag (c : BitVec 256) (n : Nat) : Bool := c.getLsbD (16 + n)
def cDevice (c : BitVec 256) : Nat := bitsOf c 47 32
def cHi (c : BitVec 256) : Nat := bitsOf c 63 48
def cCount (c : BitVec 256) : Nat := bitsOf c 95 64
def cMid (c : BitVec 256) : Nat := bitsOf c 127 96
def cAddr (c : BitVec 256) : Nat := bitsOf c 191 128
def cLo (c : BitVec 256) : Nat := bitsOf c 255 192

def cFollow (c : BitVec 256) : Bool := cFlag c 0
def cFence (c : BitVec 256) : Bool := cFlag c 1
def cTs (c : BitVec 256) : Bool := cFlag c 2
def cJoin (c : BitVec 256) : Bool := cFlag c 3
def cLenok (c : BitVec 256) : Bool := cFlag c 4
def cDrop (c : BitVec 256) : Bool := cFlag c 5
def cPause (c : BitVec 256) : Bool := cFlag c 6
def cNotify (c : BitVec 256) : Bool := cFlag c 7
def cIda (c : BitVec 256) : Bool := cFlag c 8

/-- Codes that move data (04 R125, R156); POST and STAMP write records, which are not channel data (09 R334). -/
def isData (code : Nat) : Bool := [0x09, 0x0A, 0x0B, 0x0C, 0x0D, 0x0E, 0x13, 0x21, 0x30].contains code

/-- Codes that leave COND as it is: NOP, TIC, TIC-COND and NOTE (04 R140). -/
def keepsCond (code : Nat) : Bool := [0x01, 0x02, 0x03, 0x06].contains code

/-- Codes that act on a device of the device table (04 R125). -/
def isDevice (code : Nat) : Bool := decide ((0x0A ≤ code ∧ code ≤ 0x0E) ∨ (0x10 ≤ code ∧ code ≤ 0x3F))

/-! ## Program addresses (04 R127, R134) -/

def progTarget (p a : Nat) : Target :=
  if a / 2 ^ 56 = 0xFE then .ddr (a % 2 ^ 42) else if a / 2 ^ 56 = 0xFD then .sp p (a % 2 ^ 25) else .host a

/-- Bytes `o` to `o` + `n` - 1 of a fragment region, as addresses and lengths. -/
def regionBytes : List (W64 × Nat) → Nat → Nat → List (Nat × Nat)
  | [], _, _ => []
  | (a, l) :: fs, o, n =>
    if n = 0 then []
    else if l ≤ o then regionBytes fs (o - l) n
    else
      let k := min n (l - o)
      (a.toNat + o, k) :: regionBytes fs 0 (n - k)

/-- The fragments of the entry that a context runs. -/
def fragsOf (s : State) (x : Ctx) : List (W64 × Nat) :=
  ((findItem (s.sq x.fn x.slot) x.seq).bind (·.frags)).getD []

/-- Where `n` data bytes of a command lie: none is the program check 0x0105. -/
def resolve (s : State) (x : Ctx) (p : Nat) (c : BitVec 256) (n : Nat) : Option (List (Target × Nat)) :=
  if cIda c then
    let fs := fragsOf s x
    if x.kind = 3 ∧ cAddr c + n ≤ (fs.map (·.2)).foldl (· + ·) 0 then
      some ((regionBytes fs (cAddr c) n).map fun (a, k) => (progTarget p a, k))
    else none
  else some [(progTarget p (cAddr c), n)]

/-- Where the data of a chain lies, command by command; DROP on READ or SENSE gives none (04 R137, R139). -/
def resolveChain (s : State) (x : Ctx) (p : Nat) : List (BitVec 256) → Option (List (Target × Nat))
  | [] => some []
  | c :: cs =>
    match resolve s x p c (cCount c), resolveChain s x p cs with
    | some a, some b => some (a ++ b)
    | _, _ => none

/-- The checked units of a piece of data: each with its length (07 R269). -/
def unitsOf (t : Target) (n : Nat) : List (Target × Nat) :=
  match t with
  | .host a => (wordsOf a n 4096).map fun p => (.host (max a (p * 4096)), min (a + n) (p * 4096 + 4096) - max a (p * 4096))
  | .ddr a => (wordsOf a n 128).map fun l => (.ddr (max a (l * 128)), min (a + n) (l * 128 + 128) - max a (l * 128))
  | .sp p o => (wordsOf o n 32).map fun w => (.sp p (max o (w * 32)), min (o + n) (w * 32 + 32) - max o (w * 32))

/-- A DDR5 channel that programs cannot reach now: lost, or under an exclusive pattern run (04 R162, 10 R378). -/
def ddrGone (s : State) (a : Nat) : Bool :=
  let ch := ddrChan a
  decide (4 ≤ domState s (32 + ch)) || (rb s R.DDR5_PAT_CTRL F.DDR5_PAT_CTRL_START ch && rb s R.DDR5_PAT_CTRL F.DDR5_PAT_CTRL_EXCLUSIVE ch)

/-- Channel status of a host read that did not end well (04 R158, R161, R162). -/
def rspStatus : Rsp → Nat
  | .ok => 0
  | .ur => 0x0403
  | .poison => 0x0404
  | .timeout => 0x0401

/-- Write data to its pieces in order (none: the bytes are dropped), for function `fn` and master `m`: the bytes written, and the status of the unit that
stopped it, 0 if none (04 R161). -/
def memWrite (fn : Nat) (m : BitVec 14) : List (Option Target × Nat) → List Byte → Nat → State → State × Nat × Nat
  | [], _, k, s => (s, k, 0)
  | (none, n) :: us, bs, k, s => memWrite fn m us (bs.drop n) (k + n) s
  | (some t, n) :: us, bs, k, s =>
    if permitted s m .wr t = false then (deny s m .wr t, k, 0x0301)
    else
      let d := bytesAt bs 0 n
      match t with
      | .host a => memWrite fn m us (bs.drop n) (k + n) (emit s (.hostWrite fn a d))
      | .ddr a =>
        if ddrGone s a then (s, k, 0x0401)
        else if ddrUncorr s a n ∧ n < 128 then (ddrNote (ddrTouch s (ddrChan a)) a n, k, 0x0402)
        else memWrite fn m us (bs.drop n) (k + n) (ddrWr (ddrTouch s (ddrChan a)) a d)
      | .sp p o =>
        let s1 := spWr s p o d
        if spUncorr s p o n ∧ n < 32 then (s1, k, 0x0402) else memWrite fn m us (bs.drop n) (k + n) s1

/-- Read data from its pieces in order; `ext` is what host memory gave and `r` how that read ended. -/
def memRead (m : BitVec 14) (r : Rsp) : List (Target × Nat) → List Byte → List Byte → State → State × List Byte × Nat
  | [], _, acc, s => (s, acc, 0)
  | (t, n) :: us, ext, acc, s =>
    if permitted s m .rd t = false then (deny s m .rd t, acc, 0x0301)
    else
      match t with
      | .host _ => if r = .ok then memRead m r us (ext.drop n) (acc ++ bytesAt ext 0 n) s else (s, acc, rspStatus r)
      | .ddr a =>
        if ddrGone s a then (s, acc, 0x0401)
        else
          let s1 := ddrNote (ddrTouch s (ddrChan a)) a n
          if ddrUncorr s a n then (s1, acc, 0x0402) else memRead m r us ext (acc ++ ddrRead s a n) s1
      | .sp p o =>
        let s1 := spNote s p o n
        if spUncorr s p o n then (s1, acc, 0x0402) else memRead m r us ext (acc ++ spRd s p o n) s1

/-- Some piece lies in host memory, or in scratchpad. -/
def toHost (l : List (Target × Nat)) : Bool := l.any fun e => match e.1 with | .host _ => decide (0 < e.2) | _ => false
def toSp (l : List (Target × Nat)) : Bool := l.any fun e => match e.1 with | .sp _ _ => decide (0 < e.2) | _ => false

def flatUnits (l : List (Target × Nat)) : List (Target × Nat) := l.flatMap fun e => unitsOf e.1 e.2

/-- A target some bytes further on. -/
def tAdd (t : Target) (k : Nat) : Target :=
  match t with
  | .host a => .host (a + k)
  | .ddr a => .ddr (a + k)
  | .sp p o => .sp p (o + k)

/-- Bytes `off` to `off` + `n` - 1 of a list of pieces. -/
def slicePieces : List (Option Target × Nat) → Nat → Nat → List (Option Target × Nat)
  | [], _, _ => []
  | (t, l) :: r, off, n =>
    if n = 0 then []
    else if l ≤ off then slicePieces r (off - l) n
    else
      let k := min n (l - off)
      (t.map fun t => tAdd t off, k) :: slicePieces r 0 (n - k)

/-- Checked units of pieces of which some are dropped. -/
def destUnits (l : List (Option Target × Nat)) : List (Option Target × Nat) :=
  l.flatMap fun e => match e.1 with | some t => (unitsOf t e.2).map fun u => (some u.1, u.2) | none => [(none, e.2)]

/-! ## Where commands come from (04 R128-R133) -/

def libRec (s : State) (n : Nat) : LibRec := Tbl.get LibRec.absent s.prog.library n

/-- Place and width of a substitution FIELD. -/
def subField (f : Nat) : Nat × Nat :=
  if f = 0 then (64, 32) else if f = 1 then (128, 64) else if f = 2 then (192, 64) else if f = 3 then (96, 32)
  else if f = 4 then (48, 16) else (32, 16)

/-- The parameter block: the entry's units after the header. -/
def paramBlock (x : Ctx) : List Byte := x.block.flatMap fun u => leBytes 32 u.toNat

/-- Apply one substitution to a command (04 R130, R131). -/
def substitute (x : Ctx) (c : BitVec 256) (e : Nat × Nat × Nat × Nat × Nat) : BitVec 256 :=
  let (_, f, src, mode, off) := e
  let (lo, w) := subField f
  let v := if src = 0 then x.param.toNat else if src = 1 then x.data.toNat else leAt (paramBlock x) off (w / 8)
  let old := bitsOf c (lo + w - 1) lo
  BitVec.ofNat 256 (fset c.toNat (lo + w - 1, lo) (if mode = 0 then v else old + v))

/-- Commands of a library or inline program. -/
def progLen (s : State) (x : Ctx) : Nat := if x.kind = 2 then x.block.length else (libRec s x.program.toNat).cmds.length

/-- The working copy of the command at a position of a library or inline program. -/
def cmdAt (s : State) (x : Ctx) (pos : Nat) : Option (BitVec 256) :=
  if x.kind = 2 then x.block[pos]?
  else
    let r := libRec s x.program.toNat
    r.cmds[pos]?.map fun c => (r.subs.filter fun e => e.1 == pos).foldl (substitute x) c

/-- Position after a command. -/
def nextPos (x : Ctx) (pos : Nat) : Nat := if x.kind = 1 then pos + 32 else pos + 1

/-- Target of a TIC, if it is aligned and inside the program (04 R128). -/
def ticTarget (s : State) (x : Ctx) (c : BitVec 256) : Option Nat :=
  if cAddr c % 32 ≠ 0 then none
  else if x.kind = 1 then some (cAddr c)
  else if cAddr c / 32 < progLen s x then some (cAddr c / 32) else none

/-- What gathering the commands of a step comes to next (04 R137): complete, a program check, or a further command. -/
inductive ChainNext where
  | complete
  | bad (status : Nat)
  | go (pos : Nat)
  deriving DecidableEq, Repr

/-- After the commands read so far; the first is judged by its CODE, a later TIC moves the chain on. -/
def chainNext (s : State) (x : Ctx) (l : List (W64 × BitVec 256)) : ChainNext :=
  let step := fun (p : W64) => let q := nextPos x p.toNat
    if x.kind = 1 ∨ q < progLen s x then ChainNext.go q else .bad 0x0106
  match l.getLast? with
  | none => .go x.position.toNat
  | some (p, c) =>
    if l.length = 1 then
      if cJoin c = false then .complete
      else if [0x0B, 0x0C, 0x13, 0x21].contains (cCode c) then step p else .bad 0x0106
    else if cCode c = 2 then
      match ticTarget s x c with
      | some t => .go t
      | none => .bad 0x0107
    else if cJoin c then step p
    else .complete

/-- Gather the commands of a library or inline step, at most `fuel` more: status and commands. -/
def gather (s : State) (x : Ctx) : Nat → List (W64 × BitVec 256) → Nat × List (W64 × BitVec 256)
  | 0, l => (0, l)
  | fuel + 1, l =>
    match chainNext s x l with
    | .complete => (0, l)
    | .bad st => (st, l)
    | .go pos =>
      match cmdAt s x pos with
      | some c => gather s x fuel (l ++ [(BitVec.ofNat 64 pos, c)])
      | none => (0x0107, l)

/-! ## Endings (04 R158-R160, 05 R177, R180) -/

/-- Count a program's ending in PITCH_PROG_COUNTS. -/
def countEnding (s : State) (p status : Nat) : State :=
  if status / 256 = 1 then satAdd s R.PITCH_PROG_COUNTS F.PITCH_PROG_COUNTS_PROGRAM_CHECKS 1 p
  else if status = 0x0602 then satAdd s R.PITCH_PROG_COUNTS F.PITCH_PROG_COUNTS_BUDGET_EXCEEDED 1 p
  else if status = 0x0301 ∨ status = 0x0302 then satAdd s R.PITCH_PROG_COUNTS F.PITCH_PROG_COUNTS_DENIALS 1 p
  else s

/-- Fields of the completion of a context that ends. -/
def endingOf (x : Ctx) (status fail residual : Nat) : Ending :=
  { status := status, dev := if status = 0x0502 ∨ status = 0x0503 then 0 else x.devStatus.toNat, residual := residual, fail := fail,
    flags := b2n x.eventTime.isSome + 2 * b2n x.recovered + 4 * b2n x.partialDone,
    time := (x.eventTime.getD 0).toNat, meter := if x.lease.isSome then x.meter else 0 }

/-- The program of a context ends: the ENDED record, the decision of the front end, and the context is FREE. -/
def endProgram (c status fail residual : Nat) (part : Bool) (s : State) : State :=
  let x := { s.ctx c with partialDone := part, state := 6 }
  let e := endingOf x status fail residual
  let s1 := writeProg ((countEnding s (c / 1024) status).setCtx c x) c 4 fail (status + e.dev * 2 ^ 16 + residual % 2 ^ 32 * 2 ^ 32)
  undrain ((decideItem s1 x.fn x.slot x.seq e).setCtx c Ctx.reset) (2 ^ 32 + c)

/-! ## Fetching hosted commands (04 R128, R133, R161) -/

/-- The context is held until its function may access host memory (04 R163, R164). -/
def hold (c : Nat) (s : State) : State :=
  let x := s.ctx c
  if x.state = 5 then s else s.setCtx c { x with held := x.state, state := 5 }

/-- Read the hosted command at an address. -/
def fetchHosted (c pos : Nat) (s : State) : State :=
  let x := s.ctx c
  let fail := x.ordinal + x.cmds.length
  let t := progTarget (c / 1024) pos
  if pos % 32 ≠ 0 then endProgram c 0x0107 fail 0 false s
  else if permitted s x.master .fetch t = false then endProgram c 0x0302 fail 0 false (deny s x.master .fetch t)
  else
    match t with
    | .host a =>
      if fnLive s x.fn then emit (s.setCtx c { x with fetching := some (BitVec.ofNat 64 pos) }) (.hostRead x.fn a 32) else hold c s
    | .ddr a =>
      if ddrGone s a then endProgram c 0x0401 fail 0 false s
      else (ddrTouch s (ddrChan a)).setCtx c { x with fetching := some (BitVec.ofNat 64 pos) }
    | .sp _ _ => s

/-- Fetch what the present step still needs. -/
def fetchMore (c : Nat) (s : State) : State :=
  let x := s.ctx c
  if x.kind ≠ 1 ∨ x.running ∨ x.fetching.isSome ∨ x.budget < x.ordinal + x.cmds.length then s
  else
    match chainNext s x (x.poss.zip x.cmds) with
    | .go pos => fetchHosted c pos s
    | _ => s

/-- A hosted command lands, or its read fails (04 R161). -/
def hostedLandedS (c : Nat) (r : Rsp) (cmd : BitVec 256) (s : State) : State :=
  let x := s.ctx c
  match x.fetching with
  | none => s
  | some pos =>
    let fail := x.ordinal + x.cmds.length
    let take := fun (u : State) (v : BitVec 256) =>
      fetchMore c ((undrain u (2 ^ 32 + c)).setCtx c { x with fetching := none, cmds := x.cmds ++ [v], poss := x.poss ++ [pos] })
    match progTarget (c / 1024) pos.toNat with
    | .ddr a =>
      if ddrGone s a then endProgram c 0x0401 fail 0 false s
      else if ddrUncorr s a 32 then endProgram c 0x0402 fail 0 false (ddrNote s a 32)
      else take s (BitVec.ofNat 256 (leNat (ddrRead s a 32)))
    | _ => if r = .ok then take s cmd else endProgram c (rspStatus r) fail 0 false s

/-- HOSTED_COMMAND_LANDED (04 R133). -/
def execHostedCommandLanded (ctx : Nat) (r : Rsp) (cmd : BitVec 256) (s : State) : Host.Outcome State Fault Refusal :=
  done s (hostedLandedS ctx r cmd s)

/-! ## The device table (04 R153, R154, R179) -/

def devEntry (s : State) (n : Nat) : BitVec 128 := Tbl.get 0 s.prog.devices n
def devPers (e : BitVec 128) : Nat := bitsOf e 3 0
def devPeer (e : BitVec 128) : Bool := e.getLsbD 4
def devPort (e : BitVec 128) : Nat := bitsOf e 15 8
def devTimeout (e : BitVec 128) : Nat := if bitsOf e 63 32 = 0 then 10000000 else bitsOf e 63 32
def devSelect (e : BitVec 128) : Nat := bitsOf e 127 64

/-- Codes defined for each personality (04 R155, R156). -/
def codeDefined (pers code : Nat) : Bool :=
  if pers = 1 then [0x0B, 0x0C, 0x0E, 0x10, 0x11, 0x12, 0x13, 0x14].contains code
  else if pers = 2 then [0x0B, 0x0C, 0x0D, 0x0E, 0x20, 0x21].contains code
  else if pers = 3 then [0x0A, 0x0B, 0x0C, 0x0D, 0x0E, 0x30, 0x31, 0x32].contains code
  else false

/-- The device checks of a step (04 R154): 0 where it may begin. -/
def deviceCheck (s : State) (x : Ctx) (c : BitVec 256) : Nat :=
  let e := devEntry s (cDevice c)
  if devPers e = 0 then 0x0109
  else if e.getLsbD 5 = false ∧ bitsOf e 27 16 ≠ x.tenant.toNat then 0x0303
  else if codeDefined (devPers e) (cCode c) = false then 0x0103
  else 0

/-- A port can be reached: a quad port's link is up; a field port's domain is powered, bivouac included, which it then leaves (04 R157,
13 R435). -/
def portUp (s : State) (p : Nat) : Bool := if 128 ≤ p then domPowered s 46 else decide (0 < (s.port p).link)

/-- A field-port step wakes the field ports from bivouac (13 R435). -/
def wakePort (s : State) (p : Nat) : State := if 128 ≤ p then wakeDomain s 46 else s

/-- The port answers: field ports that leave bivouac do so first, untimed (13 R435). -/
def portAnswers (s : State) (p : Nat) : Bool := decide (p < 128) || domOn s 46

/-- A step may be repeated at recovery (05 R179). -/
def repeatable (s : State) (p : Nat) (c : BitVec 256) : Bool :=
  let code := cCode c
  let e := devEntry s (cDevice c)
  if code = 0x08 then rg s R.ROUTINE p (cMid c % 2 ^ 16) / 2 ^ 61 % 2 == 1
  else if isDevice code then
    if devPers e = 1 then code != 0x14
    else if devPers e = 2 then !(code == 0x0B || code == 0x21) || devPeer e
    else if devPers e = 3 then !([0x0B, 0x0C, 0x30, 0x32].contains code)
    else true
  else true

/-- A command moves channel data: CONTROL of an Ethernet device moves none (04 R155). -/
def movesData (s : State) (c : BitVec 256) : Bool :=
  isData (cCode c) && !(cCode c == 0x0D && devPers (devEntry s (cDevice c)) == 2)

/-! ## The end of a step (04 R136, R140, R143-R145, 05 R177) -/

/-- Bytes that each command of a chain moved, of `moved` in all; a TIC of a chain moves none. -/
def perCommand : List (BitVec 256) → Nat → List Nat
  | [], _ => []
  | c :: cs, moved => if cCode c = 2 then 0 :: perCommand cs moved else min (cCount c) moved :: perCommand cs (moved - min (cCount c) moved)

/-- Notices of the commands of a step that ended normally (04 R143); PAUSE counts on the first command only (R137). -/
def stepNotices (c : Nat) (x : Ctx) (s : State) : State :=
  ((x.cmds.zip (perCommand x.cmds (if isData (cCode (x.cmds.headD 0)) then x.moved else 0))).zip (List.range x.cmds.length)).foldl (fun u e =>
    let ((cmd, n), i) := e
    if cNotify cmd ∧ ¬(i = 0 ∧ cPause cmd) then
      noteS u (c / 1024) x.tenant x.master (BitVec.ofNat 64 (cAddr cmd)) (BitVec.ofNat 32 n)
    else u) s

/-- After a normal end the program goes on to a next command (04 R136). -/
def followed (x : Ctx) : Bool :=
  let first := cCode (x.cmds.headD 0)
  first == 2 || first == 3 || cFollow (x.cmds.getLast?.getD 0)

/-- The context goes on after a step whose record needs no further wait. -/
def stepContinue (c : Nat) (s : State) : State :=
  let x := s.ctx c
  let s1 := (stepNotices c x s).setCtx c
    { x with running := false, issued := false, cmds := [], poss := [], moved := 0, mseq := none, fenceWait := false, state := 2, repeats := false,
             stagedIn := [] }
  if followed x then
    if x.kind = 1 then fetchMore c s1
    else if x.position.toNat < progLen s x then s1
    else endProgram c 0x0107 (x.ordinal - 1) x.residual.toNat false s1
  else endProgram c 0 (x.ordinal - 1) x.residual.toNat x.partialDone s1

/-- A step or chain ends normally: COND, event time, and the RUNNING record, for which a FENCE step of a camp waits (11 R387).
`next` is the position that follows, `cond` the bits that apply, `time` the event time, `res` the residual. -/
def stepEnd (c next cond time res : Nat) (s : State) : State :=
  let x := s.ctx c
  let first := x.cmds.headD 0
  let x1 := { x with
    cond := if keepsCond (cCode first) then x.cond else BitVec.ofNat 4 cond
    ordinal := x.ordinal + x.cmds.length
    position := BitVec.ofNat 64 next
    committing := false
    issued := true
    residual := BitVec.ofNat 32 res
    lastResidual := if movesData s first then BitVec.ofNat 32 res else x.lastResidual
    eventTime := if x.cmds.any cTs then some (BitVec.ofNat 64 time) else x.eventTime
    partialDone := x.partialDone && !followed x }
  let s1 := undrain (writeProg (s.setCtx c x1) c 1 x1.ordinal 0) (2 ^ 32 + c)
  if cFence first ∧ (gateOf s1).isSome then s1.setCtx c { x1 with mseq := gateOf s1 } else stepContinue c s1

/-- Position after the commands of the present step. -/
def afterStep (x : Ctx) : Nat := nextPos x (x.poss.getLast?.getD x.position).toNat

/-- A step that moves no data ends normally at the present cycle. -/
def plainEnd (c : Nat) (s : State) : State := stepEnd c (afterStep (s.ctx c)) 0 (coreNs s) 0 s

/-- The command of a chain at which a transfer of `moved` bytes stopped: it, its bytes and its place (04 R160). -/
def stopAt (x : Ctx) (moved : Nat) : (BitVec 256 × Nat) × Nat :=
  let per := perCommand x.cmds moved
  (((x.cmds.zip per).zip (List.range x.cmds.length)).find? fun e => cCode e.1.1 != 2 && decide (e.1.2 < cCount e.1.1)).getD
    ((x.cmds.getLast?.getD 0, per.getLast?.getD 0), x.cmds.length - 1)

/-- The step ends with an exception after `moved` bytes: FAIL_INDEX and RESIDUAL of the command it stopped at (04 R160), PARTIAL
if it moved a byte (05 R180). -/
def stepFail (c status moved : Nat) (s : State) : State :=
  let x := s.ctx c
  let stop := stopAt x moved
  let res := if movesData s (x.cmds.headD 0) then cCount stop.1.1 - stop.1.2 else 0
  endProgram c status (x.ordinal + stop.2) res (decide (0 < moved)) s

/-! ## The beginning of a step (04 R135, R142, 05 R177, R178) -/

/-- A context may begin its next step. -/
def stepReady (s : State) (c : Nat) : Bool :=
  let x := s.ctx c
  (x.state == 1 || x.state == 2) && !x.running && x.fetching.isNone && x.mseq.isNone && !fenced s && domOn s (c / 1024)

/-- The commands of the next step, with the status that gathering them met. -/
def nextChain (s : State) (x : Ctx) : Nat × List (W64 × BitVec 256) :=
  if x.kind = 1 then
    let l := x.poss.zip x.cmds
    match chainNext s x l with
    | .bad st => (st, l)
    | .complete => (0, l)
    | .go _ => if x.budget < x.ordinal + l.length then (0, l) else (0, [])
  else gather s x (x.budget + 1 - x.ordinal) []

/-- The program suspends before a command with PAUSE (04 R142, R143). -/
def suspend (c : Nat) (pos : W64) (cmd : BitVec 256) (s : State) : State :=
  let x := s.ctx c
  let x1 := { x with state := 4, suspendedAt := some (s.sched.frame, s.sched.cycle), cmds := [], poss := [] }
  let s1 := writeProg (s.setCtx c x1) c 3 x.ordinal 0
  if cNotify cmd then noteS s1 (c / 1024) x.tenant x.master pos 0 else s1

/-- A command of the chain reaches scratchpad through a program address (05 R176 SCRATCH). -/
def touchesSp (s : State) (x : Ctx) (p : Nat) (l : List (BitVec 256)) : Bool :=
  l.any fun c =>
    (isData (cCode (l.headD 0)) || [0x05, 0x07].contains (cCode c)) &&
      ((match resolve s x p c (cCount c) with | some t => toSp t | none => false) ||
       (([0x09, 0x30].contains (cCode c)) && toSp [(progTarget p (cLo c), cCount c)])) ||
    (cCode c == 4 && decide (2 ≤ cHi c % 16) && cAddr c / 2 ^ 56 == 0xFD)

/-- A repeated step of this command goes on from its MOVED checkpoint (05 R179). -/
def restartsAtMoved (s : State) (c : BitVec 256) : Bool :=
  [0x09, 0x0A].contains (cCode c) ||
    (devPers (devEntry s (cDevice c)) == 1 && [0x0B, 0x0C, 0x11, 0x12, 0x13].contains (cCode c))

/-- The step begins: it is counted, and runs (09 R334); its time is that of this cycle (04 R151). -/
def beginStep (c : Nat) (l : List (W64 × BitVec 256)) (s : State) : State :=
  let x := s.ctx c
  let cmds := l.map (·.2)
  let x1 := { x with
    state := 2, running := true, issued := false, resumed := false, fenceWait := false, cmds := cmds, poss := l.map (·.1)
    moved := if restartsAtMoved s (cmds.headD 0) then x.resumeMoved else 0,
    resumeMoved := 0, resumeTotal := 0, stagedIn := [], begun := absCycle s, beganTime := coreTime s, beganFrame := s.sched.frame.toNat, scratch := x.scratch || touchesSp s x (c / 1024) cmds }
  mCount (s.setCtx c x1) (c / 1024) x.tenant fun r => { r with commands := r.commands + l.length }

/-- The operations of a step that its row issues need host memory (03 R112): the record of a POST or STAMP, the
source of data that goes out or is moved. -/
def needsHost (s : State) (x : Ctx) (p : Nat) (l : List (BitVec 256)) : Bool :=
  let first := l.headD 0
  let code := cCode first
  (if [0x05, 0x07, 0x0B, 0x0D, 0x13, 0x21, 0x30].contains code then
     (match resolveChain s x p (l.filter fun c => cCode c != 2) with | some ps => toHost ps | none => false)
   else false) ||
  (code == 0x14 && toHost [(progTarget p (cAddr first), 64)]) || (code == 0x09 && toHost [(progTarget p (cLo first), cCount first)])

/-- Issue the first operation of a step, or hold the context where that operation needs host memory which its function may not access
(03 R112, 04 R163). -/
def startOp (c : Nat) (op : State → State) (s : State) : State :=
  let x := s.ctx c
  if needsHost s x (c / 1024) x.cmds ∧ fnLive s x.fn = false then hold c s else op (s.setCtx c { x with issued := true })

/-- A step of a committing command writes its COMMITTING record before its first operation (05 R178); in a camp that operation
waits (11 R387). `op` issues it. -/
def commitThen (c : Nat) (op : State → State) (s : State) : State :=
  let x := s.ctx c
  let first := x.cmds.headD 0
  if cFence first ∨ repeatable s (c / 1024) first = false then
    let s1 := writeProg (s.setCtx c { x with committing := true }) c 2 x.ordinal x.moved
    match gateOf s1 with
    | some m => s1.setCtx c { s1.ctx c with mseq := some m }
    | none => startOp c op s1
  else startOp c op s

/-- Place in a step of the first command that carries IDA and may not: outside a kind 3 entry, or with bytes outside the fragment region
(04 R134). DROP leaves ADDRESS unused (04 R139). -/
def idaStop (s : State) (x : Ctx) (p : Nat) (l : List (BitVec 256)) : Option Nat :=
  let reads := [0x0C, 0x0E].contains (cCode (l.headD 0))
  l.findIdx? fun c => cIda c && (x.kind != 3 ||
    (isData (cCode (l.headD 0)) && cCode c != 2 && !(reads && cDrop c) && (resolve s x p c (cCount c)).isNone))

/-- RESIDUAL of a step that a program check ends at its command `i` before it moved a byte (04 R160). -/
def checkResidual (s : State) (l : List (BitVec 256)) (i : Nat) : Nat :=
  let c := l.getD i 0
  if movesData s (l.headD 0) ∧ (i = 0 ∨ cCode c ≠ 2) then cCount c else 0

/-- A program check of the step, with the command at which it stands (04 R134, R154, R160): the device and code checks come before that
of IDA (DESIGN CHOICE, log entry 87). -/
def checkStep (c k : Nat) (go : State → State) (s : State) : State :=
  let x := s.ctx c
  match idaStop s x (c / 1024) x.cmds with
  | some i =>
    if k = 0 ∨ k = 0x0105 then endProgram c 0x0105 (x.ordinal + i) (checkResidual s x.cmds i) false s else stepFail c k 0 s
  | none => if k ≠ 0 then stepFail c k 0 s else go s

/-- A command of a library step stands in an uncorrectable word of the pitch's library copy (04 R166). -/
def libraryUncorr (s : State) (c : Nat) (poss : List W64) : Bool :=
  let x := s.ctx c
  (x.kind == 0 || x.kind == 3) && (s.prog.libraryBad.contains (c / 1024) || poss.any fun q =>
    match libWord s (c / 1024) x.program.toNat q.toNat with
    | some w => (spWord s (c / 1024) w).2
    | none => false)

/-- The library copy of a pitch is bad: a pitch fault (04 R166). -/
def libraryFault (p : Nat) (s : State) : State :=
  pitchFaultS p { s with prog := { s.prog with libraryBad := s.prog.libraryBad.filter (· ≠ p) ++ [p] } }

/-- Begin the next step of context `c` if its command's CODE is one that `code` admits: budget, PAUSE, program checks of the chain,
the step's own checks (`check` gives a status), then its operation. -/
def runStep (c : Nat) (code : Nat → Bool) (check : State → Ctx → BitVec 256 → Nat) (op : Nat → State → State) (s : State) : State :=
  if stepReady s c = false then s
  else
    let x := s.ctx c
    match nextChain s x with
    | (_, []) => s
    | (st, (pos, cmd) :: l) =>
      if code (cCode cmd) = false then s
      else if libraryUncorr s c (pos :: l.map (·.1)) then libraryFault (c / 1024) s
      else if x.budget ≤ x.ordinal ∨ (st = 0 ∧ x.budget < x.ordinal + l.length + 1) then endProgram c 0x0602 x.ordinal 0 false s
      else if cPause cmd ∧ x.resumed = false then suspend c pos cmd s
      else
        let s1 := beginStep c ((pos, cmd) :: l) s
        if st ≠ 0 then endProgram c st (x.ordinal + l.length) (checkResidual s (cmd :: l.map (·.2)) l.length) false s1
        else checkStep c (check s1 (s1.ctx c) cmd) (commitThen c (op c)) s1

/-- No check beyond those of every step. -/
def noCheck (_ : State) (_ : Ctx) (_ : BitVec 256) : Nat := 0

/-! ## Codes without data (04 R125, R141) -/

def isInvalid (code : Nat) : Bool := code == 0
/-- Codes that no row names: reserved ones, and device-class codes that R156 does not list. -/
def isReserved (code : Nat) : Bool :=
  code == 0x0F || decide (0x40 ≤ code) || (decide (0x15 ≤ code ∧ code ≤ 0x3F) && !([0x20, 0x21, 0x30, 0x31, 0x32].contains code))

/-- CODE 0x00 (04 R125). -/
def execInvalidCode (ctx : Nat) (s : State) : Host.Outcome State Fault Refusal :=
  done s (runStep ctx isInvalid (fun _ _ _ => 0x0101) (fun _ u => u) s)

/-- Status of a reserved code; an unlisted device-class code is checked as a device step (04 R125, R154, R156). -/
def reservedStatus (s : State) (x : Ctx) (c : BitVec 256) : Nat := if isDevice (cCode c) then deviceCheck s x c else 0x0102

/-- CODE 0x0F or 0x40-0xFF (04 R125). -/
def execReservedCode (ctx : Nat) (s : State) : Host.Outcome State Fault Refusal :=
  done s (runStep ctx isReserved reservedStatus (fun _ u => u) s)

/-- NOP (04 R125). -/
def execNop (ctx : Nat) (s : State) : Host.Outcome State Fault Refusal := done s (runStep ctx (· == 1) noCheck plainEnd s)

/-- Continue at the TIC's target, or end with 0x0107 (04 R128, R141). -/
def ticOp (c : Nat) (s : State) : State :=
  let x := s.ctx c
  match ticTarget s x (x.cmds.headD 0) with
  | some t => stepEnd c t 0 (coreNs s) 0 s
  | none => endProgram c 0x0107 x.ordinal 0 false s

/-- TIC (04 R141). -/
def execTic (ctx : Nat) (s : State) : Host.Outcome State Fault Refusal := done s (runStep ctx (· == 2) noCheck ticOp s)

/-- TIC-COND is taken (04 R141). -/
def ticTaken (x : Ctx) (c : BitVec 256) : Bool := ((x.cond.toNat &&& (cHi c % 16)) != 0) != (cHi c).testBit 4

def ticCondOp (c : Nat) (s : State) : State :=
  if ticTaken (s.ctx c) ((s.ctx c).cmds.headD 0) then ticOp c s else plainEnd c s

/-- TIC-COND (04 R141). -/
def execTicCond (ctx : Nat) (s : State) : Host.Outcome State Fault Refusal := done s (runStep ctx (· == 3) noCheck ticCondOp s)

/-- NOTE (04 R143): the notice of its ADDRESS and COUNT. -/
def noteOp (c : Nat) (s : State) : State :=
  let x := s.ctx c
  let cmd := x.cmds.headD 0
  plainEnd c (noteS s (c / 1024) x.tenant x.master (BitVec.ofNat 64 (cAddr cmd)) (BitVec.ofNat 32 (cCount cmd)))

/-- NOTE (04 R143). -/
def execNote (ctx : Nat) (s : State) : Host.Outcome State Fault Refusal := done s (runStep ctx (· == 6) noCheck noteOp s)

/-! ## Resume (03 R118, 04 R142) -/

/-- Contexts that run entries of an SQ, in SEQ order of the SQ's entries. -/
def sqCtxs (s : State) (fn slot : Nat) : List Nat := (s.sq fn slot).items.filterMap fun i => if i.skip ∨ i.decided then none else i.ctx

/-- The time stamp (frame, cycle) lies before the present cycle. -/
def beforeNow (s : State) (t : W64 × Nat) : Bool :=
  decide (t.1.toNat < s.sched.frame.toNat ∨ (t.1 = s.sched.frame ∧ t.2 < s.sched.cycle))

def resumeOne (s : State) (c : Nat) : State :=
  let x := s.ctx c
  match x.suspendedAt with
  | none => s
  | some t =>
    if x.state = 4 ∧ beforeNow s t then fetchMore c (s.setCtx c { x with state := 2, resumed := true, suspendedAt := none }) else s

/-- A resume doorbell (03 R118). -/
def sqResumeS (fn slot : Nat) (s : State) : State :=
  if (s.sq fn slot).valid ∧ (s.sq fn slot).state ≠ 0 then (sqCtxs s fn slot).foldl resumeOne s else s

/-- SQ_RESUME (03 R118). -/
def execSqResume (fn slot : Nat) (s : State) : Host.Outcome State Fault Refusal := done s (sqResumeS fn slot s)

/-! ## Dispatch (03 R82, R85, R89, R90, R103) -/

def eKind (h : BitVec 256) : Nat := bitsOf h 7 4
def eProgram (h : BitVec 256) : Nat := bitsOf h 111 96
def eParam (h : BitVec 256) : W64 := h.extractLsb' 128 64
def eData (h : BitVec 256) : W64 := h.extractLsb' 192 64

/-- KIND is reserved or LEN is not allowed for it (03 R85). -/
def kindBad (h : BitVec 256) (len : Nat) : Bool :=
  decide (3 < eKind h) || (eKind h == 2 && len == 1) || (eKind h == 3 && len != 1)

/-- The queue-level status of an entry at dispatch, 0 if it takes a context (03 R103, R105). -/
def dispatchStatus (s : State) (i : Item) : Nat :=
  let h := i.units.headD 0
  if kindBad h i.len then 0xF002
  else if (eKind h = 0 ∨ eKind h = 3) ∧ (libRec s (eProgram h)).cmds.isEmpty then 0xF003
  else if i.f001 then 0xF001
  else 0

/-- The lease class that an entry is bound to (03 R82); of a taken-over SQ a member with another tenant counts as invalid (11 R396). -/
def bindLease (s : State) (q : SQ) (h : BitVec 256) : Option Nat :=
  let hint := bitsOf h 23 16
  let ok := fun n => q.memberValid n && (hint == 0 || hint.testBit n) && leaseOn s (q.member n) &&
    (!q.migrated || leaseTenant s (q.member n) == q.tenant)
  ((List.range 8).find? ok).map q.member

/-- The step budget of a program dispatched to a pitch (04 R128). -/
def budgetOf (s : State) (p : Nat) (h : BitVec 256) : Nat :=
  if eKind h = 0 ∨ eKind h = 3 then (libRec s (eProgram h)).budget.toNat
  else min 65534 (max 1 (rf s R.PITCH_TENANT_BUDGET F.PITCH_TENANT_BUDGET_BUDGET p))

/-- The context of an entry as dispatch makes it (03 R103, 04 R163). -/
def newCtx (s : State) (fn slot : Nat) (i : Item) (p : Nat) : Ctx :=
  let q := s.sq fn slot
  let h := i.units.headD 0
  { Ctx.reset with
    state := 1, fn := fn, slot := slot, sq := BitVec.ofNat 14 q.num, generation := q.generation, seq := i.seq,
    tag := h.extractLsb' 32 32, unit := i.unit, kind := eKind h,
    program := if eKind h = 0 ∨ eKind h = 3 then BitVec.ofNat 16 (eProgram h) else 0
    tenant := q.tenant, master := q.master, lease := if eKind h = 1 then none else bindLease s q h
    param := eParam h, data := eData h, block := i.units.tail
    position := if eKind h = 1 then eParam h else 0
    budget := budgetOf s p h, recovered := i.recovered, oldRec := i.stale }

/-- Bind an entry to context `c` (03 R103, 05 R177). -/
def bindCtx (s : State) (fn slot : Nat) (i : Item) (c : Nat) : State :=
  let s1 := (updItem s fn slot i.seq fun i => { i with dispatched := true, ctx := some c }).setCtx c (newCtx s fn slot i (c / 1024))
  fetchMore c (writeProg s1 c 1 0 0)

/-- Descriptors of a fragment table that one read takes, of which `seen` have landed before: those that are left of 256, up to the end of
the 4 KiB page (DESIGN CHOICE, log entry 15). -/
def tableUnits (addr seen : Nat) : Nat := min (256 - seen) (max 1 ((4096 - addr % 4096) / 16))

/-- Read a fragment table, or the part of it that lies in the next page, where the canopy admits all of the read (03 R80, R89, R90). -/
def readTable (s : State) (fn slot : Nat) (i : Item) (addr : W64) (tables seen : Nat) (acc : List (W64 × Nat)) : State :=
  let n := 16 * tableUnits addr.toNat seen
  if 16 < tables then decideItem s fn slot i.seq (Ending.queue 0xF004 i.recovered)
  else
    match hostDenied s (s.sq fn slot).master .rd addr.toNat n with
    | some d => decideItem d fn slot i.seq (Ending.queue 0xF004 i.recovered)
    | none => emit (updItem s fn slot i.seq fun i => { i with fragWait := some (addr, tables, seen, acc) }) (.hostRead fn addr.toNat n)

/-- The first accepted entry of an SQ that is neither dispatched nor decided, if its turn has come (03 R84 BARRIER, R103). -/
def dispatchable (q : SQ) : Option Item :=
  match q.items.find? fun i => !i.skip && !i.dispatched && !i.decided with
  | none => none
  | some i =>
    let h := i.units.headD 0
    if i.accepted = false ∨ q.resetting ∨ i.fragWait.isSome ∨ i.again.isSome then none
    else if bitsOf h 9 9 = 1 ∧ q.items.any (fun j => !j.skip && !j.posted && j.seq != i.seq && (i.seq - j.seq).toNat < 1024) then none
    else some i

/-- Context `c` holds the progress record of another entry that waits to be placed (05 R188). -/
def ctxReserved (s : State) (fn slot c : Nat) (seq : W32) : Bool :=
  s.sqs.any fun e => e.2.items.any fun i =>
    match i.resume with
    | some (k, _) => k == c && !(e.1 == qkey fn slot && i.seq == seq)
    | none => i.stale == some c && !i.posted && progIs s c e.2.num e.2.generation.toNat i.seq.toNat && !(e.1 == qkey fn slot && i.seq == seq)

/-- Context `c` can take an entry of the SQ: FREE, of its home pitch, which is powered (03 R103). -/
def ctxFits (s : State) (fn slot c : Nat) (seq : W32) : Bool :=
  decide (c < 8192) && c / 1024 == (s.sq fn slot).home && (s.ctx c).state == 0 && domOn s (c / 1024) && !ctxReserved s fn slot c seq

/-- The context of an entry as its progress record gives it (05 R188). -/
def resumeCtx (s : State) (fn slot : Nat) (i : Item) (p : Nat) (r : BitVec 512) : Ctx :=
  { newCtx s fn slot i p with
    ordinal := bitsOf r 95 80, position := BitVec.ofNat 64 (bitsOf r 191 128), cond := BitVec.ofNat 4 (bitsOf r 75 72)
    budget := bitsOf r 111 96, meter := bitsOf r 351 320, lastResidual := r.extractLsb' 352 32
    eventTime := if r.getLsbD 77 then some (r.extractLsb' 256 64) else none
    scratch := r.getLsbD 76, recovered := true, partialDone := r.getLsbD 79
    lease := if bitsOf r 119 112 = 0 then none else some (bitsOf r 119 112)
    resumeMoved := if bitsOf r 71 64 = 1 then bitsOf r 255 192 else 0, repeats := bitsOf r 71 64 == 1 }

/-- Place an entry into context `c` from its record, which context `c0` holds and keeps until `c` writes its own (05 R177, R188). -/
def placeCtx (s : State) (fn slot : Nat) (i : Item) (c c0 : Nat) (r : BitVec 512) (note : Bool) (total : Nat) : State :=
  let st := bitsOf r 71 64
  let stale := if c = c0 then none else some c0
  let x := { resumeCtx s fn slot i (c / 1024) r with resumeTotal := total, oldRec := stale }
  let x1 := if st = 3 then { x with state := 4, suspendedAt := some (s.sched.frame, s.sched.cycle) } else x
  let s1 := (updItem s fn slot i.seq fun i => { i with dispatched := true, ctx := some c, resume := none, stale := stale }).setCtx c x1
  let s2 := satAdd s1 R.RECOV_COUNTS F.RECOV_COUNTS_RECOVERED 1
  if st ≠ 3 then fetchMore c s2
  else if note then noteS s2 (c / 1024) x.tenant x.master x.position 0
  else s2

/-- Dispatch the next entry of an SQ to context `c`, or complete it (03 R103); a recovered one is placed (05 R188). -/
def dispatchS (fn slot c : Nat) (s : State) : State :=
  let q := s.sq fn slot
  match dispatchable q with
  | none => s
  | some i =>
    if recovering s ∨ fenced s then s
    else if let some (c0, r, note, total) := i.resume then
      if ctxFits s fn slot c i.seq then placeCtx s fn slot i c c0 r note total else s
    else
      let st := dispatchStatus s i
      let h := i.units.headD 0
      if st ≠ 0 then decideItem s fn slot i.seq (Ending.queue st i.recovered)
      else if eKind h = 3 ∧ i.frags.isNone then (if fnLive s fn then readTable s fn slot i (eData h) 1 0 [] else s)
      else if ctxFits s fn slot c i.seq then bindCtx s fn slot i c
      else s

/-- DISPATCH (03 R103). -/
def execDispatch (fn slot : Nat) (ctx : Nat) (s : State) : Host.Outcome State Fault Refusal := done s (dispatchS fn slot ctx s)

/-- What the descriptors of one table come to (03 R89, R90): the fragments added, and the next table; none is 0xF004. -/
def walkTable : List (BitVec 128) → List (W64 × Nat) → Option (List (W64 × Nat) × Option W64)
  | [], _ => none
  | d :: ds, acc =>
    let e := d.getLsbD 96
    let ch := d.getLsbD 97
    if e ∧ ch then none
    else if ch then some (acc, some (d.extractLsb' 0 64))
    else if bitsOf d 95 64 = 0 then none
    else
      let acc1 := acc ++ [(d.extractLsb' 0 64, bitsOf d 95 64)]
      if e then some (acc1, none) else walkTable ds acc1

/-- The table goes on after these descriptors: each names a fragment, and none is the last (03 R89, R90). -/
def tableOpen (ds : List (BitVec 128)) : Bool := ds.all fun d => !d.getLsbD 96 && !d.getLsbD 97 && bitsOf d 95 64 != 0

def tableFrags (ds : List (BitVec 128)) : List (W64 × Nat) := ds.map fun d => (d.extractLsb' 0 64, bitsOf d 95 64)

/-- A fragment table lands, or a page's part of it (03 R90). Where what is read next may not be read now, dispatch reads the tables again
later (03 R112). -/
def fragLandedS (fn slot : Nat) (r : Rsp) (descs : List (BitVec 128)) (s : State) : State :=
  match (s.sq fn slot).items.find? fun i => i.fragWait.isSome with
  | none => s
  | some i =>
    match i.fragWait with
    | none => s
    | some (addr, n, seen, acc) =>
      let k := tableUnits addr.toNat seen
      let ds := descs.take k
      let s1 := undrain (updItem s fn slot i.seq fun i => { i with fragWait := none }) (2 ^ 34 + qkey fn slot)
      let bad := fun (u : State) => decideItem u fn slot i.seq (Ending.queue 0xF004 i.recovered)
      if r ≠ .ok then bad s1
      else if ds.length = k ∧ tableOpen ds ∧ seen + k < 256 then
        (if fnLive s1 fn then readTable s1 fn slot i (addr + BitVec.ofNat 64 (16 * k)) n (seen + k) (acc ++ tableFrags ds) else s1)
      else
        match walkTable ds acc with
        | none => bad s1
        | some (acc1, none) => updItem s1 fn slot i.seq fun i => { i with frags := some acc1 }
        | some (acc1, some a) => if fnLive s1 fn then readTable s1 fn slot i a (n + 1) 0 acc1 else s1

/-- FRAGMENT_TABLE_LANDED (03 R90). -/
def execFragmentTableLanded (fn slot : Nat) (r : Rsp) (descs : List (BitVec 128)) (s : State) : Host.Outcome State Fault Refusal :=
  done s (fragLandedS fn slot r descs s)

/-! ## Acceptance (01 R18, 03 R102) and the resets that end entries (05 R182, R192, R193) -/

/-- Fields of an entry that recovery ends, from its progress record (05 R181). -/
def recordEnding (r : BitVec 512) (status fail residual : Nat) (part : Bool) : Ending :=
  { status := status, dev := 0, residual := residual, fail := fail, flags := b2n (r.getLsbD 77) + 2 + 4 * b2n part,
    time := bitsOf r 319 256, meter := if bitsOf r 119 112 = 0 then 0 else bitsOf r 351 320 }

/-- No step of the entry has begun, as its record shows (05 R188): a COMMITTING or ENDED record shows one. -/
def recordFresh (r : BitVec 512) : Bool :=
  bitsOf r 95 80 == 0 && bitsOf r 255 192 == 0 && bitsOf r 71 64 != 2 && bitsOf r 71 64 != 4

/-- The present step has issued an operation (05 R180): a WAIT changes no target but by its record, a CALL issues when a core has begun it,
a MEASURE with its first sample. -/
def stepActed (s : State) (c : Nat) : Bool :=
  let x := s.ctx c
  let code := cCode (x.cmds.headD 0)
  x.running && x.issued &&
    (if code = 0x04 then decide (0 < x.moved)
     else if code = 0x08 then (List.range 4).any fun k => (s.core (c / 1024 * 4 + k)).current.any fun a => a.ctx == c && !a.expired
     else if code = 0x0A then decide (0 < x.moved) || x.sampleIndex != x.sampleDone
     else true)

/-- Fields of an entry that a queue reset ends between a step that recovery is to repeat and its repetition, or between steps: from its
record (05 R182). -/
def resetRecord (r : BitVec 512) (total : Nat) (i : Item) : Ending :=
  let moved := if bitsOf r 71 64 = 1 then bitsOf r 255 192 else 0
  if recordFresh r then Ending.queue 0xF005 i.recovered
  else recordEnding r 0xF005 (bitsOf r 95 80) (if moved = 0 then 0 else total - moved) (moved != 0)

/-- Fields of an entry ended by a queue reset (05 R182). -/
def resetEnding (s : State) (i : Item) : Ending :=
  match i.ctx with
  | none =>
    match i.resume with
    | some (_, r, _, total) => resetRecord r total i
    | none => Ending.queue 0xF005 i.recovered
  | some c =>
    let x := s.ctx c
    if x.ordinal = 0 ∧ x.running = false ∧ x.resumeMoved = 0 then Ending.queue 0xF005 i.recovered
    else if x.running = false ∧ x.resumeMoved ≠ 0 then endingOf { x with partialDone := true } 0xF005 x.ordinal (x.resumeTotal - x.resumeMoved)
    else
      let first := x.cmds.headD 0
      let total := (x.cmds.map fun c => if cCode c = 2 then 0 else cCount c).foldl (· + ·) 0
      let res := if x.running ∧ movesData s first then total - x.moved else 0
      let dev := if x.running ∧ isDevice (cCode first) then 0 else x.devStatus.toNat
      { endingOf { x with partialDone := stepActed s c } 0xF005 x.ordinal res with dev := dev }

/-- Abandon a device step (04 R157). -/
def abandon (s : State) (c : Nat) : State :=
  let x := s.ctx c
  let first := x.cmds.headD 0
  if x.running ∧ x.issued ∧ isDevice (cCode first) then emit s (.deviceAbort (cDevice first)) else s

/-! ## The call queues of the cores (06 R239) -/

/-- The routine table entry of a pitch; 0 for a number beyond the table. -/
def routine (s : State) (p n : Nat) : Nat := if n < 1024 then rg s R.ROUTINE p n else 0

/-- Scratchpad offset of the call area of a context (07 R454). -/
def callArea (c : Nat) : Nat := 0x017B0000 + c % 1024 * 0x140

/-- The permitted core of the pitch that takes the call: not halted, with room, with the fewest queued calls (06 R239). -/
def callCore (s : State) (p r : Nat) : Option Nat :=
  leastBy (fun k => (s.core k).calls.length * 64 + k)
    (((List.range 4).map (p * 4 + ·)).filter fun k =>
      (r / 2 ^ 52).testBit (k % 4) && (s.core k).halt == 0 && decide ((s.core k).calls.length < 16))

/-- Put the call of a waiting step into a core's queue, if one has room. -/
def queueCall (c : Nat) (s : State) : State :=
  let x := s.ctx c
  let n := cMid (x.cmds.headD 0) % 2 ^ 16
  let r := routine s (c / 1024) n
  match callCore s (c / 1024) r with
  | none => s
  | some k =>
    let co := s.core k
    let call : IsqCall := {
      routine := n, entry := BitVec.ofNat 32 (r % 2 ^ 17), ctx := c, block := BitVec.ofNat 32 (callArea c), tenant := x.tenant, master := x.master, lease := x.lease,
      frame := BitVec.ofNat 64 (x.begun / 3000), cycle := x.begun % 3000, limit := r / 2 ^ 28 % 2 ^ 24, expired := false, uncorr := false }
    (s.setCore k { co with calls := co.calls ++ [call] }).setCtx c { x with called := true }

/-- CALL steps of a pitch that waited for a queue try again (06 R239). -/
def retryCalls (p : Nat) (s : State) : State :=
  (s.prog.ctxs.filter fun e => e.1 / 1024 == p && e.2.running && e.2.issued && e.2.state == 3 && cCode (e.2.cmds.headD 0) == 8).foldl
    (fun u e => if (u.ctx e.1).called then u else queueCall e.1 u) s

/-- A call of a context that is still queued is removed; a running one goes on, its result discarded (06 R242). -/
def dropCalls (s : State) (c : Nat) : State :=
  (List.range 4).foldl (fun u k =>
    let n := c / 1024 * 4 + k
    let co := u.core n
    u.setCore n { co with
      calls := co.calls.filter (·.ctx ≠ c)
      current := co.current.map fun a => if a.ctx = c then { a with expired := true } else a }) s

/-- A context that is ended leaves the call queues of its cores, where waiting CALL steps may then find room (06 R239, R242). -/
def dropCall (s : State) (c : Nat) : State := retryCalls (c / 1024) ((dropCalls s c).setCtx c { (dropCalls s c).ctx c with called := true })

/-- End an accepted entry with 0xF005 (05 R182): its context is freed. -/
def endByReset (fn slot : Nat) (s : State) (i : Item) : State :=
  let e := resetEnding s i
  let s1 := match i.ctx with
    | none => s
    | some c => (dropCall (undrain (abandon s c) (2 ^ 32 + c)) c).setCtx c Ctx.reset
  decideItem s1 fn slot i.seq e

/-- The entry at the front of acceptance is durable: ACCEPT moves past it and the skips that follow (03 R102); during a queue
reset it ends at once (05 R192). -/
def entryAcceptedS (fn slot : Nat) (s : State) : State :=
  match (s.sq fn slot).items.find? fun i => !i.skip && !i.accepted with
  | none => s
  | some i =>
    if recovOn s = false ∨ fenced s ∨ gateOpen s i.mseq = false then s
    else
      let s1 := writeAccepted s fn slot i false true
      let s2 := settleAccept (updItem s1 fn slot i.seq fun i => { i with accepted := true, durable := true, mseq := none }) fn slot
      let s3 := if (s2.sq fn slot).resetting then endByReset fn slot s2 i else s2
      advanceConsumed s3 fn slot

/-- ENTRY_ACCEPTED (01 R18). -/
def execEntryAccepted (fn slot : Nat) (s : State) : Host.Outcome State Fault Refusal := done s (entryAcceptedS fn slot s)

/-- A queue reset of an SQ (05 R192). -/
def queueResetS (fn slot : Nat) (s : State) : State :=
  let q := s.sq fn slot
  if q.state = 0 ∨ q.resetting then s
  else
    let s1 := setSqState (undrain (updSq s fn slot fun q => { q with
      round := none, paused := none, rescan := false, resetting := true }) (roundKey fn slot)) fn slot 2
    let s2 := (q.items.filter fun i => !i.skip && i.accepted && !i.decided).foldl (endByReset fn slot) s1
    sqDrained s2 fn slot

/-- The function form on one SQ (05 R193): every entry counts as complete, nothing is written to the function. -/
def functionReset (fn : Nat) (s : State) (slot : Nat) : State :=
  let q := s.sq fn slot
  if q.state = 0 then s
  else
    let s1 := q.items.foldl (fun u i =>
      match i.ctx with
      | some c => if i.decided then u else (dropCall (undrain (abandon u c) (2 ^ 32 + c)) c).setCtx c Ctx.reset
      | none => u) s
    let s2 := (q.items.filter fun i => !i.skip && i.posted == false).foldl (fun u i => freeEnded u q i) s1
    let s2 := s2.withRecov { s2.recov with heldSqs := s2.recov.heldSqs.filter (· ≠ qkey fn slot) }
    let s3 := undrain (clearJournal s2 q) (roundKey fn slot)
    setSqState (updSq s3 fn slot fun q => { q with
      round := none, paused := none, rescan := false, resetting := false, items := [], indexDue := 0 }) fn slot 0

/-- The function's CQs are disabled, their held completions and reservations discarded (05 R193). -/
def functionResetCq (fn : Nat) (s : State) (slot : Nat) : State :=
  if (s.cq fn slot).state = 0 then s
  else setCqState (updCq s fn slot fun k => { k with posts := [], reservations := 0, due := false, timer := none, unsignalled := 0 }) fn slot 0

/-- PCIe reset of a function's configuration: Bus Master Enable, D-state, PME and Function Mask; its MSI-X vectors are masked
(10 R357; for a Function Level Reset PRESUMED, log entry 16). -/
def fnConfigReset (s : State) (fn : Nat) : State :=
  let f := s.fn fn
  writeFnRec (s.setFn fn { f with
    bme := false, d3 := false, pmeEn := false, pmeStatus := false, maskAll := false
    msix := (f.msix.map fun e => (e.1, e.2 ||| msixReset)).filter fun e => e.2 ≠ msixReset }) fn

/-- A Function Level Reset (05 R193, 08 R277, R287): queues, the tenant mailbox that the function receives from, and for the
management function its agent reset. -/
def flrS (fn : Nat) (s : State) : State :=
  if (s.fn fn).present = false then s
  else
    let s1 := (fnSqs s fn).foldl (functionReset fn) s
    let s2 := (fnCqs s1 fn).foldl (functionResetCq fn) s1
    let s3 := if (s2.fn fn).identValid then receiverReset s2 true (s2.fn fn).tenant.toNat else s2
    let s4 := if fn = mgmtFn s3 then agentReset s3 33 else s3
    let s5 := fnConfigReset s4 fn
    s5.setFn fn { s5.fn fn with pba := 0, owed := 0 }

/-- FUNCTION_LEVEL_RESET (05 R193). -/
def execFunctionLevelReset (fn : Nat) (s : State) : Host.Outcome State Fault Refusal := doneReg s (flrS fn s)

/-! ## Queue configuration, held while the queue's recovery runs (03 R114-R117, 05 R196) -/

/-- A write to a register of an SQ control page, at offset `o` in it (03 R113-R116). -/
def sqRegS (fn slot o : Nat) (v : W64) (s : State) : State :=
  let q := s.sq fn slot
  if o = 0x10 then sqCfgS fn slot (v.toNat % 2 ^ 32) s
  else if o = 0x24 then (if v.getLsbD 0 then queueResetS fn slot s else s)
  else if q.state ≠ 0 then s
  else if o = 0x00 then s.setSq fn slot { q with base := v &&& ~~~0xFFF#64 }
  else if o = 0x08 then s.setSq fn slot { q with index := v &&& ~~~0x3F#64 }
  else if o = 0x14 then s.setSq fn slot { q with seqBase := v.truncate 32 }
  else if o = 0x18 then s.setSq fn slot { q with start := v }
  else s

/-- A write to a register of a CQ control page (03 R109, R116, R117): CQ_MOD takes effect in any state; HEAD_ERR is cleared by
writing 1. -/
def cqRegS (fn slot o : Nat) (v : W64) (s : State) : State :=
  let k := s.cq fn slot
  if o = 0x08 then cqCfgS fn slot (v.toNat % 2 ^ 32) s
  else if o = 0x0C then s.setCq fn slot { k with mod := v.truncate 32 &&& 0x00FFFFFF#32 }
  else if o = 0x18 then (if v.getLsbD F.CQ_STATUS_HEAD_ERR.2 then s.setCq fn slot { k with headErr := false } else s)
  else if o = 0x00 ∧ k.state = 0 then s.setCq fn slot { k with base := v &&& ~~~0xFFF#64 }
  else s

/-- A write to the queue control pages of a function at an offset of its BAR0 (03 R121). -/
def queueRegS (fn off : Nat) (v : W64) (s : State) : State :=
  if off < 0x8000 then sqRegS fn ((off - 0x4000) / 64) (off % 64) v s else cqRegS fn ((off - 0x8000) / 64) (off % 64) v s

/-- The queue whose control page holds an offset is being recovered (05 R196). -/
def queueHeld (s : State) (fn off : Nat) : Bool :=
  if off < 0x8000 then sqRecovering s fn ((off - 0x4000) / 64) else cqRecovering s fn ((off - 0x8000) / 64)

/-- A write to a queue's control page takes effect, or is held until the queue's recovery ends (05 R196). -/
def queueWrite (fn off : Nat) (v : W64) (s : State) : State :=
  if queueHeld s fn off then s.withRecov { s.recov with heldWrites := s.recov.heldWrites ++ [(fn, off, v)] }
  else queueRegS fn off v s

/-- Held writes whose queue's recovery has ended take effect in arrival order (05 R196). -/
def applyHeld (s : State) : State :=
  let ready := s.recov.heldWrites.filter fun w => !queueHeld s w.1 w.2.1
  ready.foldl (fun u w => queueRegS w.1 w.2.1 w.2.2 u)
    (s.withRecov { s.recov with heldWrites := s.recov.heldWrites.filter fun w => queueHeld s w.1 w.2.1 })

/-- The write is an event of its row: the SQ's state and the ENABLE bit fit it, or it is held. -/
def sqWhen (fn slot : Nat) (p : Bool) (v : W32) (s : State) : State :=
  if sqRecovering s fn slot ∨ p then queueWrite fn (0x4010 + slot * 0x40) (v.setWidth 64) s else s

/-- SQ_ENABLE (03 R115). -/
def execSqEnable (fn slot : Nat) (v : W32) (s : State) : Host.Outcome State Fault Refusal :=
  done s (sqWhen fn slot ((s.sq fn slot).state == 0 && v.getLsbD 31) v s)

/-- SQ_DISABLE (03 R114). -/
def execSqDisable (fn slot : Nat) (v : W32) (s : State) : Host.Outcome State Fault Refusal :=
  done s (sqWhen fn slot (((s.sq fn slot).state == 1 || (s.sq fn slot).state == 3) && !v.getLsbD 31) v s)

/-- A write of CQ_CFG that is an event of its row. -/
def cqWhen (fn slot : Nat) (p : Bool) (v : W32) (s : State) : State :=
  if cqRecovering s fn slot ∨ p then queueWrite fn (0x8008 + slot * 0x40) (v.setWidth 64) s else s

/-- CQ_ENABLE (03 R117). -/
def execCqEnable (fn slot : Nat) (v : W32) (s : State) : Host.Outcome State Fault Refusal :=
  done s (cqWhen fn slot ((s.cq fn slot).state == 0 && v.getLsbD 31) v s)

/-- CQ_DISABLE (03 R117). -/
def execCqDisable (fn slot : Nat) (v : W32) (s : State) : Host.Outcome State Fault Refusal :=
  done s (cqWhen fn slot ((s.cq fn slot).state == 1 && !v.getLsbD 31) v s)

/-- QUEUE_RESET (05 R192): a write of 1 to SQ_CMD. -/
def execQueueReset (fn slot : Nat) (s : State) : Host.Outcome State Fault Refusal :=
  done s (queueWrite fn (0x4024 + slot * 0x40) 1 s)

end Sys2Proof.Machine
end

