-- ==== Sys2Proof/Machine/Steps.lean ====
section
/-! DEFINITION. The steps that wait, write records, call routines and act on devices (04 R143-R162, 06 R238-R242). -/
namespace Sys2Proof.Machine

/-! ## Where the bytes of a step lie (04 R134, R137, R139, R152, R155, R156) -/

/-- Commands of the step that carry data: a TIC inside a chain carries none. -/
def dataCmds (x : Ctx) : List (BitVec 256) := x.cmds.filter fun c => cCode c != 2

def stepTotal (x : Ctx) : Nat := ((dataCmds x).map cCount).foldl (· + ·) 0

/-- The pieces that a step reads and gives to its device or moves. -/
def sourcePieces (s : State) (x : Ctx) (p : Nat) : Option (List (Target × Nat)) :=
  let cmd := x.cmds.headD 0
  let code := cCode cmd
  if code = 0x09 then some [(progTarget p (cLo cmd), cCount cmd)]
  else if code = 0x14 then resolve s x p cmd 64
  else if [0x0B, 0x13, 0x21, 0x30].contains code ∨ (code = 0x0D ∧ movesData s cmd) then resolveChain s x p (dataCmds x)
  else some []

/-- The pieces of a READ or SENSE, command by command: none where DROP is set. -/
def readPieces (s : State) (x : Ctx) (p : Nat) : List (BitVec 256) → Option (List (Option Target × Nat))
  | [] => some []
  | c :: cs =>
    match (if cDrop c then some [(none, cCount c)] else (resolve s x p c (cCount c)).map (·.map fun e => (some e.1, e.2))), readPieces s x p cs with
    | some a, some b => some (a ++ b)
    | _, _ => none

/-- The pieces of memory that a step writes. -/
def destPieces (s : State) (x : Ctx) (p : Nat) : Option (List (Option Target × Nat)) :=
  let cmd := x.cmds.headD 0
  let code := cCode cmd
  let at_ := fun n => (resolve s x p cmd n).map (·.map fun e => (some e.1, e.2))
  if code = 0x09 ∨ code = 0x0A then at_ (cCount cmd)
  else if code = 0x05 then at_ 32
  else if code = 0x07 then at_ 16
  else if code = 0x04 ∧ cHi cmd % 16 = 2 ∧ cAddr cmd ≠ 0 then at_ 16
  else if code = 0x30 then some [(some (progTarget p (cLo cmd)), cCount cmd)]
  else if code = 0x0C ∨ code = 0x0E then readPieces s x p (dataCmds x)
  else some []

def someHost (l : List (Option Target × Nat)) : Bool := toHost (l.filterMap fun e => e.1.map fun t => (t, e.2))

/-- The step needs host memory of its function to go on. -/
def stepHost (s : State) (c : Nat) : Bool :=
  let x := s.ctx c
  someHost ((destPieces s x (c / 1024)).getD []) || toHost ((sourcePieces s x (c / 1024)).getD [])

/-! ## Fences (04 R145) -/

/-- COND that a step leaves which is neither CALL nor WAIT (04 R140). -/
def condOf (s : State) (x : Ctx) : Nat :=
  if movesData s (x.cmds.headD 0) then b2n (decide (x.moved < stepTotal x)) + 8 * b2n (x.moved == 0) else 0

/-- The acknowledgement of a peer ends a FENCE step of a PEER device. -/
def peerFence (s : State) (x : Ctx) : Bool :=
  let cmd := x.cmds.headD 0
  let e := devEntry s (cDevice cmd)
  [0x0B, 0x21].contains (cCode cmd) && devPers e == 2 && devPeer e

/-- Address in host memory that the step wrote last, if it wrote there. -/
def lastHost (l : List (Option Target × Nat)) : Option Nat :=
  ((l.filter fun e => e.2 != 0).filterMap fun e => match e.1 with | some (.host a) => some a | _ => none).getLast?

/-- The data of a step is done: it ends, or a FENCE waits for its acknowledgement. -/
def endOrFence (c time res : Nat) (s : State) : State :=
  let x := s.ctx c
  let wait := s.setCtx c { x with fenceWait := true, state := 3, time := BitVec.ofNat 64 time, residual := BitVec.ofNat 32 res }
  if cFence (x.cmds.headD 0) then
    match lastHost ((destPieces s x (c / 1024)).getD []) with
    | some a => emit wait (.hostRead x.fn a 0)
    | none => if peerFence s x then wait else stepEnd c (afterStep x) (condOf s x) time res s
  else stepEnd c (afterStep x) (condOf s x) time res s

/-- The acknowledgement of a FENCE step lands. -/
def fenceAckS (c : Nat) (r : Rsp) (s : State) : State :=
  let x := s.ctx c
  if x.running = false ∨ x.fenceWait = false ∨ x.state ≠ 3 then s
  else
    let u := s.setCtx c { x with fenceWait := false }
    if r = .ok then
      stepEnd c (afterStep x) (condOf s x) (if isDevice (cCode (x.cmds.headD 0)) then x.time.toNat else coreNs s) x.residual.toNat u
    else if (lastHost ((destPieces s x (c / 1024)).getD [])).isNone then s
    else stepFail c (if r = .timeout then 0x0401 else 0x0403) x.moved u

/-- FENCE_ACK (04 R145). -/
def execFenceAck (ctx : Nat) (r : Rsp) (s : State) : Host.Outcome State Fault Refusal := done s (fenceAckS ctx r s)

/-- Write a record of a step to its ADDRESS and end it; the bytes written count as moved, for PARTIAL (05 R180). -/
def writeStepRecord (c : Nat) (bs : List Byte) (s : State) : State :=
  let x := s.ctx c
  let (s1, k, st) := memWrite x.fn x.master (destUnits ((destPieces s x (c / 1024)).getD [])) bs 0 s
  let s2 := s1.setCtx c { s1.ctx c with moved := k }
  if st ≠ 0 then stepFail c st k s2 else endOrFence c (coreNs s) 0 s2

/-! ## POST and STAMP (04 R148, R151) -/

/-- COUNT is not the record's length, or the record does not resolve. -/
def recordCheck (n : Nat) (s : State) (x : Ctx) (cmd : BitVec 256) : Nat :=
  if cCount cmd ≠ n then 0x0104 else if (resolve s x 0 cmd n).isNone then 0x0105 else 0

def postOp (c : Nat) (s : State) : State :=
  let x := s.ctx c
  let cmd := x.cmds.headD 0
  let e : Ending := {
    status := 0, dev := cHi cmd, residual := x.lastResidual.toNat, fail := x.ordinal,
    flags := 8 + b2n x.eventTime.isSome + 2 * b2n x.recovered + 4 * b2n x.partialDone, time := 0, meter := if x.lease.isSome then x.meter else 0 }
  writeStepRecord c (leBytes 32 (complEntry x.tag.toNat x.sq.toNat x.seq.toNat 1 (coreNs s) e).toNat) s

/-- POST (04 R148). -/
def execPost (ctx : Nat) (s : State) : Host.Outcome State Fault Refusal :=
  done s (runStep ctx (· == 5) (recordCheck 32) postOp s)

/-- A record of a time in units of 2^-16 ns and a frame count (04 R151). -/
def stampBytes (time frame : Nat) : List Byte :=
  leBytes 16 (pack [(48, time / 65536 / 1000000000), (16, time), (32, time / 65536 % 1000000000), (32, frame)])

/-- The time and frame of the cycle in which the step began (04 R151). -/
def stampOp (c : Nat) (s : State) : State := writeStepRecord c (stampBytes (s.ctx c).beganTime (s.ctx c).beganFrame) s

/-- STAMP (04 R151). -/
def execStamp (ctx : Nat) (s : State) : Host.Outcome State Fault Refusal :=
  done s (runStep ctx (· == 7) (recordCheck 16) stampOp s)

/-! ## WAIT (04 R146, R147) -/

def waitKind (c : BitVec 256) : Nat := cHi c % 16

/-- Function of a field port, numbered from 128 among the ports (10 R362). -/
def fpFunction (s : State) (port : Nat) : Nat := rf s R.FP_CFG F.FP_CFG_FUNCTION (port - 128)

/-- The checks of a WAIT: KIND, and the device of an EDGE, a field port that captures edges (04 R154, 10 R365). -/
def waitCheck0 (s : State) (x : Ctx) (cmd : BitVec 256) : Nat :=
  let e := devEntry s (cDevice cmd)
  if 4 ≤ waitKind cmd then 0x0103
  else if waitKind cmd = 3 then (if (resolve s x 0 cmd 4).isNone then 0x0105 else 0)
  else if waitKind cmd ≠ 2 then 0
  else if devPers e = 0 then 0x0109
  else if e.getLsbD 5 = false ∧ bitsOf e 27 16 ≠ x.tenant.toNat then 0x0303
  else if devPers e ≠ 3 ∨ (fpFunction s (devPort e) ≠ 4 ∧ fpFunction s (devPort e) ≠ 5) then 0x0103
  else if cAddr cmd ≠ 0 ∧ (resolve s x 0 cmd 16).isNone then 0x0105
  else if portUp s (devPort e) = false then 0x0502
  else 0

/-- Core time in ns, and the frame count, at the end of the cycle before the present one. -/
def nsBefore (s : State) : Nat := (s.lant.m1 * 3000 + (2999 + s.sched.cycle) * s.lant.delta) * 65536 / 30000 / 65536
def frameBefore (s : State) : Nat := (absCycle s - 1) / 3000

/-- The event of a WAIT has arrived; lantern times are compared by subtraction modulo 2^64 (09 R305); `word` is the latest word that has landed. -/
def waitArrived (s : State) (x : Ctx) (cmd : BitVec 256) (word : Option W32) : Bool :=
  match waitKind cmd with
  | 0 => decide (cLo cmd ≤ frameBefore s)
  | 1 => decide ((nsBefore s % 2 ^ 64 + 2 ^ 64 - cLo cmd) % 2 ^ 64 < 2 ^ 63)
  | 2 => x.waitEdge.isSome
  | _ => match word with
    | some w => (w.toNat &&& cMid cmd) == cLo cmd % 2 ^ 32
    | none => false

/-- Read the word of a WAIT WORD (04 R147): host memory is asked, or the context is held until it may be; the word of DDR5 or
scratchpad is kept with the cycle of its read. A denied read ends the step. -/
def readWord (c : Nat) (s : State) : State :=
  let x := s.ctx c
  match resolve s x (c / 1024) (x.cmds.headD 0) 4 with
  | none => s
  | some ps =>
    match (flatUnits ps).find? fun u => !permitted s x.master .rd u.1 with
    | some u => stepFail c 0x0301 0 (deny s x.master .rd u.1)
    | none =>
      if toHost ps then
        if fnLive s x.fn then (match ps.head? with | some (.host a, _) => emit s (.hostRead x.fn a 4) | _ => s) else hold c s
      else
        let (s1, bs, st) := memRead x.master .ok (flatUnits ps) [] [] s
        s1.setCtx c { s1.ctx c with word := some (st, BitVec.ofNat 32 (leNat bs), absCycle s) }

/-- The WAIT ends by its event: an EDGE with its record, for which the context is held where host memory may not be accessed. -/
def waitEnd (c : Nat) (s : State) : State :=
  let x := s.ctx c
  let cmd := x.cmds.headD 0
  match x.waitEdge with
  | some (t, f, _) =>
    if waitKind cmd = 2 ∧ cAddr cmd ≠ 0 then
      if stepHost s c ∧ fnLive s x.fn = false then hold c s else writeStepRecord c (stampBytes t f) s
    else plainEnd c s
  | none => plainEnd c s

/-- The WAIT ends by timeout (04 R147). -/
def waitExpire (c : Nat) (s : State) : State :=
  if (cHi ((s.ctx c).cmds.headD 0)).testBit 15 then stepEnd c (afterStep (s.ctx c)) 2 (coreNs s) 0 s else stepFail c 0x0601 0 s

/-- One check of a WAIT in this frame (04 R147). -/
def waitCheckOp (c : Nat) (word : Option W32) (s : State) : State :=
  let x := s.ctx c
  let cmd := x.cmds.headD 0
  let s1 := s.setCtx c { x with sampleFrame := s.sched.frame }
  if waitArrived s x cmd word then waitEnd c s1
  else if x.waitFrame.toNat + cCount cmd ≤ s.sched.frame.toNat then waitExpire c s1
  else if waitKind cmd = 3 then readWord c s1
  else s1

/-- A WAIT begins: its RUNNING record, and its first check in its first cycle, which is the check point of this frame; a WORD has then
landed nothing yet. -/
def waitOp (c : Nat) (s : State) : State :=
  let x := s.ctx c
  let s1 := writeProg (s.setCtx c { x with
    state := 3, waitFrame := s.sched.frame, waitEdge := none, word := none, waitLate := false, sampleFrame := s.sched.frame }) c 1 x.ordinal 0
  if waitKind (x.cmds.headD 0) = 3 then readWord c s1 else waitCheckOp c none s1

/-- WAIT (04 R146). -/
def execWaitEvent (ctx : Nat) (s : State) : Host.Outcome State Fault Refusal :=
  done s (runStep ctx (· == 4) waitCheck0 waitOp s)

/-- The latest word that has landed by the end of the cycle before a check (04 R147), with the status of its read: host memory's answer,
which the check point carries, or what was read from DDR5 or scratchpad. -/
def wordLanded (s : State) (x : Ctx) (p : Nat) (host : Option (Rsp × W32)) : Option (Nat × W32) :=
  if toHost ((resolve s x p (x.cmds.headD 0) 4).getD []) then host.map fun r => (rspStatus r.1, r.2)
  else match x.word with
    | some (st, w, at_) => if at_ < absCycle s then some (st, w) else none
    | none => none

/-- The check point of a WAIT in a frame: one a frame; a WORD with no read landed by then is not checked, and one whose timeout passed
while it was held ends (04 R147, R164). -/
def waitCheckS (c : Nat) (host : Option (Rsp × W32)) (s : State) : State :=
  let x := s.ctx c
  let cmd := x.cmds.headD 0
  if x.running = false ∨ x.state ≠ 3 ∨ x.fenceWait ∨ cCode cmd ≠ 4 ∨ s.sched.frame = x.sampleFrame then s
  else if waitKind cmd = 3 then
    if x.waitLate then waitExpire c s
    else
      match wordLanded s x (c / 1024) host with
      | none => s.setCtx c { x with sampleFrame := s.sched.frame }
      | some (st, w) => if st ≠ 0 then stepFail c st 0 s else waitCheckOp c (some w) (undrain s (2 ^ 32 + c))
  else waitCheckOp c none s

/-- WAIT_CHECK (04 R147). -/
def execWaitCheck (ctx : Nat) (word : Option (Rsp × W32)) (s : State) : Host.Outcome State Fault Refusal :=
  done s (waitCheckS ctx word s)

/-! ## CALL (04 R149, 06 R238-R242) -/

/-- The routine is in the table, and a hosted program may call it. -/
def callCheck (p : Nat) (s : State) (x : Ctx) (cmd : BitVec 256) : Nat :=
  let r := routine s p (cMid cmd % 2 ^ 16)
  if r.testBit 63 = false ∨ (x.kind = 1 ∧ r.testBit 62 = false) then 0x0108 else 0

/-- The call block (04 R149). -/
def callBlock (x : Ctx) (c : Nat) : List Byte :=
  let cmd := x.cmds.headD 0
  leBytes 64 (pack [(64, cAddr cmd), (32, cMid cmd), (32, x.seq.toNat), (64, cLo cmd), (64, x.param.toNat), (64, x.data.toNat),
    (32, callArea c + 0x40), (16, x.sq.toNat), (16, x.tenant.toNat), (32, x.tag.toNat), (16, x.ordinal), (80, 0)])

/-- A CALL step: its call block, the copy of the parameter block, and the queue (04 R149, 06 R239). -/
def callOp (c : Nat) (s : State) : State :=
  let x := s.ctx c
  let p := c / 1024
  let s1 := spWr (spWr (s.setCtx c { x with state := 3, called := false }) p (callArea c) (callBlock x c)) p (callArea c + 0x40) (bytesAt (paramBlock x) 0 224)
  let s2 := queueCall c s1
  if (s2.ctx c).called then s2 else wf s2 R.PITCH_CALL_COUNTS F.PITCH_CALL_COUNTS_QUEUE_FULL
    (min (rf s2 R.PITCH_CALL_COUNTS F.PITCH_CALL_COUNTS_QUEUE_FULL p + 1) 0xFFFF) p

/-- CALL (04 R149). -/
def execCall (ctx : Nat) (s : State) : Host.Outcome State Fault Refusal :=
  done s (runStep ctx (· == 8) (callCheck (ctx / 1024)) callOp s)

/-- The routine of a call returns its result (04 R149, 07 R253). -/
def callResult (a : IsqCall) (result : Nat) (s : State) : State :=
  let x := s.ctx a.ctx
  let cmd := x.cmds.headD 0
  if a.expired ∨ x.running = false ∨ cCode cmd ≠ 8 then s
  else if a.uncorr then stepFail a.ctx 0x0402 0 s
  else if result % 2 ^ 16 = 0 then plainEnd a.ctx s
  else if (cHi cmd).testBit 15 then stepEnd a.ctx (afterStep x) 4 (coreNs s) 0 s
  else stepFail a.ctx 0x0510 0 (s.setCtx a.ctx { x with devStatus := BitVec.ofNat 16 result })

/-! ## The beginning of MOVE and device steps (04 R138, R152, R154-R157) -/

/-- COUNT or parameters that the operation cannot use (04 R138, R155, R156, 10 R364). -/
def countBad (s : State) (x : Ctx) (cmd : BitVec 256) : Bool :=
  let e := devEntry s (cDevice cmd)
  let code := cCode cmd
  let n := stepTotal x
  if devPers e = 1 then
    [0x0B, 0x0C, 0x11, 0x12, 0x13].contains code && (n == 0 || n % 2 ^ (bitsOf e 115 112 + 9) != 0)
  else if devPers e = 2 then
    if code = 0x0B ∨ code = 0x21 then decide (n < 14 ∨ (if devPeer e then 9576 else 9600) < n)
    else if code = 0x0D then cLo cmd % 4 == 3
    else false
  else
    if code = 0x0D then n != 16
    else if fpFunction s (devPort e) = 4 ∧ code = 0x0B then n == 0
    else if fpFunction s (devPort e) = 4 ∧ code = 0x0C then n != 1
    else false

/-- The checks of a device step before its port is requested. -/
def deviceStepCheck (p : Nat) (s : State) (x : Ctx) (cmd : BitVec 256) : Nat :=
  let k := deviceCheck s x cmd
  if k ≠ 0 then k
  else if countBad s x cmd then 0x0104
  else if (sourcePieces s x p).isNone ∨ (destPieces s x p).isNone then 0x0105
  else if portUp s (devPort (devEntry s (cDevice cmd))) = false then 0x0502
  else 0

/-- Ask host memory for the permitted part of what a step reads. -/
def askSource (c : Nat) (s : State) : State :=
  let x := s.ctx c
  let l := slicePieces (((sourcePieces s x (c / 1024)).getD []).map fun e => (some e.1, e.2)) x.moved (stepTotal x - x.moved)
  ((flatUnits (l.filterMap fun e => e.1.map fun t => (t, e.2))).takeWhile fun u => permitted s x.master .rd u.1).foldl (fun u e =>
    match e.1 with
    | .host a => emit u (.hostRead x.fn a e.2)
    | _ => u) s

/-- A device step requests its port and waits for its device; one without bytes to send asks the device at once, but for a transfer from
a drive, whose NVMe commands are recorded one by one as they complete (`nvmeDone`). -/
def deviceOp (c : Nat) (s : State) : State :=
  let x := s.ctx c
  let cmd := x.cmds.headD 0
  let e := devEntry s (cDevice cmd)
  let s1 := askSource c (wakePort (s.setCtx c { x with state := 3, begun := absCycle s }) (devPort e))
  if ((sourcePieces s x (c / 1024)).getD []).isEmpty ∧ ¬(devPers e = 1 ∧ [0x0C, 0x0E].contains (cCode cmd)) then
    let lo := if x.moved = 0 then cLo cmd else cLo cmd + x.moved / 2 ^ (bitsOf e 115 112 + 9)
    emit s1 (.device (cDevice cmd) (cCode cmd) (cHi cmd) (cMid cmd) lo (stepTotal x - x.moved) [])
  else s1

def deviceRow (code ctx : Nat) (s : State) : State := runStep ctx (· == code) (deviceStepCheck (ctx / 1024)) deviceOp s

/-- WRITE (04 R155). -/
def execDevWrite (ctx : Nat) (s : State) : Host.Outcome State Fault Refusal := done s (deviceRow 0x0B ctx s)
/-- READ (04 R155). -/
def execDevRead (ctx : Nat) (s : State) : Host.Outcome State Fault Refusal := done s (deviceRow 0x0C ctx s)
/-- CONTROL (04 R155). -/
def execDevControl (ctx : Nat) (s : State) : Host.Outcome State Fault Refusal := done s (deviceRow 0x0D ctx s)
/-- SENSE (04 R155). -/
def execDevSense (ctx : Nat) (s : State) : Host.Outcome State Fault Refusal := done s (deviceRow 0x0E ctx s)
/-- FLUSH (04 R156). -/
def execFlush (ctx : Nat) (s : State) : Host.Outcome State Fault Refusal := done s (deviceRow 0x10 ctx s)
/-- WRITE_ZEROES (04 R156). -/
def execWriteZeroes (ctx : Nat) (s : State) : Host.Outcome State Fault Refusal := done s (deviceRow 0x11 ctx s)
/-- DATASET_MANAGEMENT (04 R156). -/
def execDatasetManagement (ctx : Nat) (s : State) : Host.Outcome State Fault Refusal := done s (deviceRow 0x12 ctx s)
/-- COMPARE (04 R156). -/
def execCompare (ctx : Nat) (s : State) : Host.Outcome State Fault Refusal := done s (deviceRow 0x13 ctx s)
/-- PASS_THROUGH (04 R156). -/
def execPassThrough (ctx : Nat) (s : State) : Host.Outcome State Fault Refusal := done s (deviceRow 0x14 ctx s)
/-- DISCARD_FRAME (04 R156). -/
def execDiscardFrame (ctx : Nat) (s : State) : Host.Outcome State Fault Refusal := done s (deviceRow 0x20 ctx s)
/-- TIMED_SEND (04 R156). -/
def execTimedSend (ctx : Nat) (s : State) : Host.Outcome State Fault Refusal := done s (deviceRow 0x21 ctx s)
/-- SPI_FULL_DUPLEX (04 R156). -/
def execSpiFullDuplex (ctx : Nat) (s : State) : Host.Outcome State Fault Refusal := done s (deviceRow 0x30 ctx s)
/-- PWM (04 R156). -/
def execPwm (ctx : Nat) (s : State) : Host.Outcome State Fault Refusal := done s (deviceRow 0x31 ctx s)
/-- GENERATE_EDGE (04 R156). -/
def execGenerateEdge (ctx : Nat) (s : State) : Host.Outcome State Fault Refusal := done s (deviceRow 0x32 ctx s)

/-- The check of MOVE: its destination resolves (04 R134). -/
def moveCheck (s : State) (x : Ctx) (cmd : BitVec 256) : Nat := if (resolve s x 0 cmd (cCount cmd)).isNone then 0x0105 else 0

/-- MOVE begins: its source is read. -/
def moveOp (c : Nat) (s : State) : State := askSource c (s.setCtx c { s.ctx c with state := 3 })

/-- MOVE (04 R152). -/
def execMove (ctx : Nat) (s : State) : Host.Outcome State Fault Refusal := done s (runStep ctx (· == 9) moveCheck moveOp s)

/-! ## Data of a step (04 R138, R152, R155, R159-R161, 05 R177, 09 R334) -/

/-- `n` free bytes. -/
def freeBytes : Nat → State → List Byte × State
  | 0, s => ([], s)
  | n + 1, s =>
    let (w, s1) := takeFree s
    let (bs, s2) := freeBytes n s1
    (w.setWidth 8 :: bs, s2)

/-- Two pieces of memory overlap. -/
def piecesOverlap (a b : Target × Nat) : Bool :=
  let meet := fun (x y : Nat) => decide (x < y + b.2 ∧ y < x + a.2)
  match a.1, b.1 with
  | .host x, .host y => meet x y
  | .ddr x, .ddr y => meet x y
  | .sp _ x, .sp _ y => meet x y
  | _, _ => false

/-- Bytes of a piece list that go to memory. -/
def keptBytes (l : List (Option Target × Nat)) : Nat := ((l.filter fun e => e.1.isSome).map (·.2)).foldl (· + ·) 0

/-- Staging slot of a context in the reserved area of its pitch (01 R16; the place is a DESIGN CHOICE, log entry 88). -/
def stageArea (c : Nat) : Nat := 0x013B0000 + c % 1024 * 4096

/-- The bytes of a step pass through the context's staging slot in scratchpad, up to 4 KiB at a time: what is read back, and whether a
word of it was uncorrectable (01 R16, 07 R253). -/
def staged (c : Nat) : Nat → List Byte → State → State × List Byte × Bool
  | 0, _, s => (s, [], false)
  | fuel + 1, bs, s =>
    if bs.isEmpty then (s, [], false)
    else
      let d := bs.take 4096
      let p := c / 1024
      let s1 := spNote (spWr s p (stageArea c) (bytesAt d 0 ((d.length + 31) / 32 * 32))) p (stageArea c) d.length
      let (s2, r, bad) := staged c fuel (bs.drop 4096) s1
      (s2, spRd s1 p (stageArea c) d.length ++ r, spUncorr s1 p (stageArea c) d.length || bad)

def stage (c : Nat) (bs : List Byte) (s : State) : State × List Byte × Bool := staged c (bs.length / 4096 + 1) bs s

/-- Read `n` bytes of the source from what has moved on into staging: the state, the bytes and the status that stopped it. -/
def readPart (c n : Nat) (res : DevResult) (s : State) : State × List Byte × Nat :=
  let x := s.ctx c
  let l := slicePieces (((sourcePieces s x (c / 1024)).getD []).map fun e => (some e.1, e.2)) x.moved n
  let (s1, bs, st) := memRead x.master res.rsp ((destUnits l).filterMap fun e => e.1.map fun t => (t, e.2)) res.data [] s
  let (s2, d, bad) := stage c bs s1
  if st = 0 ∧ (res.uncorr ∨ bad) then (s2, [], 0x0402) else (s2, d, st)

/-- Write staged bytes to the destination from what has moved on; they are charged and counted as moved. -/
def writePart (c : Nat) (bs : List Byte) (s : State) : State × Nat :=
  let x := s.ctx c
  let l := slicePieces ((destPieces s x (c / 1024)).getD []) x.moved bs.length
  let (s1, k, st) := memWrite x.fn x.master (destUnits l) bs 0 s
  let n := keptBytes (slicePieces l 0 k)
  let s2 := mCount (s1.setCtx c { x with moved := x.moved + k }) (c / 1024) x.tenant fun r => { r with bytesIn := r.bytesIn + n }
  (s2, st)

/-- Bytes of a device come in: through staging to the destination (01 R16). -/
def inPart (c : Nat) (bs : List Byte) (s : State) : State × Nat :=
  let (s1, d, bad) := stage c bs s
  if bad then (s1, 0x0402) else writePart c d s1

/-- Bytes given to a device are charged and counted as moved. -/
def sentPart (c n : Nat) (s : State) : State :=
  let x := s.ctx c
  mCount (s.setCtx c { x with moved := x.moved + n }) (c / 1024) x.tenant fun r => { r with bytesOut := r.bytesOut + n }

/-- A checkpoint: the progress record with the bytes moved, its STATE unchanged (05 R177). -/
def checkpoint (c : Nat) (s : State) : State :=
  let x := s.ctx c
  writeProg s c (bitsOf (recBlock s (progBlock c)) 71 64) x.ordinal x.moved

/-- The transfer of a step is over: a length that differs from the chain's needs LENOK (04 R138). -/
def transferEnd (c time : Nat) (differs : Bool) (s : State) : State :=
  let x := s.ctx c
  let stop := (stopAt x x.moved).1
  if differs ∧ cLenok stop.1 = false then stepFail c 0x0201 x.moved s
  else endOrFence c time (cCount stop.1 - stop.2) s

/-- Bytes that this completion moves of what is left. -/
def partLen (x : Ctx) (res : DevResult) : Nat := min res.len (stepTotal x - x.moved)

/-- Some of a MOVE has moved, all of it ends it (04 R152). -/
def moveDone (c : Nat) (res : DevResult) (s : State) : State :=
  let x := s.ctx c
  let cmd := x.cmds.headD 0
  let n := partLen x res
  let dst := (resolve s x (c / 1024) cmd (cCount cmd)).getD []
  let src := (progTarget (c / 1024) (cLo cmd), cCount cmd)
  let (s1, bs, st) := readPart c n res s
  let (data, s2) := if dst.any (piecesOverlap src) then freeBytes bs.length s1 else (bs, s1)
  let (s3, st2) := writePart c data s2
  let y := s3.ctx c
  if st2 ≠ 0 then stepFail c st2 y.moved s3
  else if st ≠ 0 then
    let s4 := if st = 0x0402 then
        (match slicePieces (dst.map fun e => (some e.1, e.2)) y.moved 1 with
          | (some (.host a), _) :: _ => emit s3 (.poison x.fn a)
          | _ => s3)
      else s3
    stepFail c st y.moved s4
  else
    let s4 := if x.moved / 2 ^ 20 = y.moved / 2 ^ 20 then s3 else checkpoint c s3
    if y.moved < stepTotal x then s4 else transferEnd c (coreNs s) false s4

/-! ## NVMe (04 R155, R156, R159) -/

/-- An NVMe pass-through command with the device's own command identifier and the namespace (04 R156). -/
def passCommand (e : BitVec 128) (cid : W64) (bs : List Byte) : List Byte :=
  splice (splice bs 2 (leBytes 2 cid.toNat)) 4 (leBytes 4 (devSelect e))

/-- One NVMe command of a step has completed: `res.cqe` is its completion entry, which lands now (04 R144). A transfer is recorded command
by command, in block order (04 R155). -/
def nvmeDone (c : Nat) (res : DevResult) (s : State) : State :=
  let x := s.ctx c
  let cmd := x.cmds.headD 0
  let e := devEntry s (cDevice cmd)
  let code := cCode cmd
  let st := bitsOf res.cqe 127 113
  let t := coreNs s
  let ended := fun (u : State) => u.setCtx c { u.ctx c with nvme := res.cqe, devStatus := BitVec.ofNat 16 st }
  let next := fun (u : State) =>
    let y := u.ctx c
    if st ≠ 0 then stepFail c 0x0501 y.moved u
    else
      let split := x.moved ≠ 0 ∨ y.moved < stepTotal y
      let u1 := if split ∨ (code = 0x0C ∧ x.moved / 2 ^ 20 ≠ y.moved / 2 ^ 20) then checkpoint c u else u
      if y.moved < stepTotal y then u1 else transferEnd c t false u1
  if code = 0x0E then
    let (s1, k) := inPart c (bytesAt (leBytes 16 x.nvme.toNat) 0 (min 16 (stepTotal x))) (s.setCtx c { x with devStatus := 0 })
    if k ≠ 0 then stepFail c k (s1.ctx c).moved s1 else transferEnd c t (stepTotal x != 16) s1
  else if code = 0x0C then
    let s0 := emit s (.device (cDevice cmd) code (cHi cmd) (cMid cmd) (cLo cmd + x.moved / 2 ^ (bitsOf e 115 112 + 9)) (partLen x res) [])
    if st ≠ 0 then stepFail c 0x0501 x.moved (ended s0)
    else
      let (s1, k) := inPart c (bytesAt res.data 0 (partLen x res)) s0
      if k ≠ 0 then stepFail c k (s1.ctx c).moved s1 else next (ended s1)
  else if code = 0x0B ∨ code = 0x13 then
    let n := partLen x res
    let (s1, bs, k) := readPart c n res s
    if k ≠ 0 then stepFail c k x.moved (if k = 0x0402 then emit s1 (.spoiled (devPort e)) else s1)
    else
      let s2 := emit s1 (.device (cDevice cmd) code (cHi cmd) (cMid cmd) (cLo cmd + x.moved / 2 ^ (bitsOf e 115 112 + 9)) n bs)
      next (ended (if st ≠ 0 then s2 else sentPart c n s2))
  else if code = 0x14 then
    let (s1, bs, k) := memRead x.master res.rsp (flatUnits ((sourcePieces s x (c / 1024)).getD [])) res.data [] s
    if k ≠ 0 then stepFail c k 0 s1
    else
      let (cid, s2) := takeFree s1
      let s3 := ended (emit s2 (.device (cDevice cmd) code 0 0 0 64 (passCommand e cid bs)))
      if st ≠ 0 then stepFail c 0x0501 0 s3 else endOrFence c t 0 s3
  else if code = 0x10 then (if st ≠ 0 then stepFail c 0x0501 0 (ended s) else endOrFence c t 0 (ended s))
  else
    let s1 := ended (if st ≠ 0 then s else s.setCtx c { x with moved := x.moved + partLen x res })
    if st ≠ 0 then stepFail c 0x0501 0 s1
    else
      let s2 := if x.moved ≠ 0 ∨ (s1.ctx c).moved < stepTotal x then checkpoint c s1 else s1
      if (s1.ctx c).moved < stepTotal x then s2 else endOrFence c t 0 (s2.setCtx c { s2.ctx c with moved := 0 })

/-! ## Ethernet (04 R155, R156, R159, R456, 05 R184) -/

/-- Add to a frame counter of a MAC (04 R456). -/
def macAdd (s : State) (mac i n : Nat) : State :=
  { s with prog := { s.prog with macCounts := Tbl.upd 0 s.prog.macCounts (mac * 8 + i) (· + BitVec.ofNat 64 n) } }

def rxQ (s : State) (mac q : Nat) : RxQueue := Tbl.get RxQueue.reset s.ports.rx (mac * 256 + q)
/-- The oldest frame leaves a receive queue, with the halves of it that have left the landing buffer (02 R47). -/
def popArrival (s : State) (mac q : Nat) (f : List Byte) : State :=
  let key := mac * 256 + q
  let k := Config.rxPartition key
  let before := (framesIn s.ports.rx k (s.ports.arrivals.takeWhile (· != key)) []).flatMap frameHalves
  { s with ports := { s.ports with
      arrivals := s.ports.arrivals.erase key, crossed := Tbl.upd 0 s.ports.crossed k fun c => c - min (2 * frameSlots f) (c - before.length) } }

def setRxQ (s : State) (mac q : Nat) (r : RxQueue) : State :=
  { s with ports := { s.ports with rx := Tbl.set RxQueue.reset s.ports.rx (mac * 256 + q) r } }

/-- PEER_ID of this device, the camp's in a camp. -/
def peerId (s : State) : Nat := rg s R.PEER_ID

/-- The trailer of a frame toward a Nodom peer (05 R184). -/
def peerTrailer (s : State) (x : Ctx) (fence : Bool) : List Byte :=
  let low := (s.sq x.fn x.slot).completedSeq + 1
  leBytes 24 (pack [(32, peerId s), (16, x.sq.toNat), (16, x.generation.toNat), (32, x.seq.toNat), (16, x.ordinal),
    (16, b2n x.recovered + 2 * b2n fence), (32, low.toNat), (16, 1), (16, 24)])

/-- Traffic class of a frame that a step sends: its own, or the device's default (04 R153, R155). -/
def trafficClass (e cmd : Nat) : Nat := if cmd.testBit 3 then cmd % 8 else e / 2 ^ 16 % 8

/-- A lantern time lies more than 2 ns after another, modulo 2^64 (09 R305). -/
def lateBy2 (due time : Nat) : Bool := decide (2 < (time + 2 ^ 64 - due) % 2 ^ 64 ∧ (time + 2 ^ 64 - due) % 2 ^ 64 < 2 ^ 63)

/-- A frame has been sent, its start-of-frame delimiter leaving at `res.time`: DEVICE_STATUS bit 0 link down, bit 2 send time passed, which
shows in a departure beyond the 2 ns of the timestamp after it (04 R144, R156; DEDUCED, log entry 89). -/
def frameSent (c : Nat) (res : DevResult) (s : State) : State :=
  let x := s.ctx c
  let cmd := x.cmds.headD 0
  let e := devEntry s (cDevice cmd)
  let n := stepTotal x
  let mac := devPort e
  let (s1, bs, k) := readPart c n res s
  if k ≠ 0 then stepFail c k 0 (if k = 0x0402 then emit s1 (.badFrame mac) else s1)
  else
    let trailer := if devPeer e then peerTrailer s x (cFence cmd) else []
    let (pad, s2) := freeBytes (60 - (n + trailer.length)) s1
    let frame := bs ++ pad ++ trailer
    if res.status.getLsbD 0 then stepFail c 0x0501 0 (s2.setCtx c { x with devStatus := 1 })
    else
      let timed := cCode cmd == 0x21
      let ds : BitVec 16 := if timed && lateBy2 (cLo cmd) res.time.toNat then 4 else 0
      let s3 := macAdd (macAdd (emit s2 (.frame mac (trafficClass (devSelect e) (cHi cmd)) (if timed then some (cLo cmd) else none) frame)) mac 0 1)
        mac 1 (frame.length + 4)
      let s4 := sentPart c n s3
      endOrFence c res.time.toNat 0 (s4.setCtx c { s4.ctx c with devStatus := ds })

/-- A frame is taken from the receive queue (04 R138, R155, R159): none there, and the step waits on. -/
def frameRead (c : Nat) (res : DevResult) (s : State) : State :=
  let x := s.ctx c
  let e := devEntry s (cDevice (x.cmds.headD 0))
  let mac := devPort e
  let q := devSelect e % 256
  let r := rxQ s mac q
  match r.frames with
  | [] => s
  | f :: fs =>
    let n := min f.length (stepTotal x)
    let s1 := setRxQ (popArrival s mac q f) mac q { r with frames := fs, overflow := false }
    let (s2, k) := inPart c (f.take n) s1
    let s3 := s2.setCtx c { s2.ctx c with devStatus := BitVec.ofNat 16 (2 * b2n (decide (stepTotal x < f.length)) + 8 * b2n r.overflow) }
    if k ≠ 0 then stepFail c k (s3.ctx c).moved s3 else transferEnd c res.time.toNat (f.length != stepTotal x) s3

/-- The counters of a MAC (04 R456). -/
def macSnapshot (s : State) (mac : Nat) : List Byte :=
  (List.range 8).flatMap fun i => leBytes 8 (Tbl.get 0 s.prog.macCounts (mac * 8 + i)).toNat

def etherDone (c : Nat) (res : DevResult) (s : State) : State :=
  let x := s.ctx c
  let cmd := x.cmds.headD 0
  let e := devEntry s (cDevice cmd)
  let mac := devPort e
  let q := devSelect e % 256
  let code := cCode cmd
  if code = 0x0B ∨ code = 0x21 then frameSent c res s
  else if code = 0x0C then frameRead c res s
  else if code = 0x0D then
    let s1 := if cLo cmd % 4 = 1 then setRxQ s mac q { rxQ s mac q with paused := true }
      else if cLo cmd % 4 = 2 then setRxQ s mac q { rxQ s mac q with paused := false } else s
    endOrFence c (coreNs s) 0 (s1.setCtx c { x with devStatus := 0 })
  else if code = 0x0E then
    let (s1, k) := inPart c (bytesAt (macSnapshot s mac) 0 (min 64 (stepTotal x))) (s.setCtx c { x with devStatus := 0 })
    if k ≠ 0 then stepFail c k (s1.ctx c).moved s1 else transferEnd c (coreNs s) (stepTotal x != 64) s1
  else
    match (rxQ s mac q).frames with
    | [] => s
    | f :: fs =>
      endOrFence c (coreNs s) 0 (setRxQ ((popArrival s mac q f).setCtx c { x with devStatus := 0 }) mac q { rxQ s mac q with frames := fs })

/-! ## Field ports (04 R155, R156, R159, 10 R362-R365) -/

def State.fieldPort (s : State) (q : Nat) : Field := Tbl.get Field.reset s.ports.field q
def State.setFieldPort (s : State) (q : Nat) (f : Field) : State :=
  { s with ports := { s.ports with field := Tbl.set Field.reset s.ports.field q f } }

/-- Codes that a port function supports (04 R155, R156, 10 R362). -/
def fpSupports (fn code : Nat) : Bool :=
  if code = 0x0D ∨ code = 0x0E then decide (1 ≤ fn ∧ fn ≤ 6)
  else if code = 0x0B ∨ code = 0x0C then decide (1 ≤ fn ∧ fn ≤ 4)
  else if code = 0x0A then decide (fn = 1 ∨ fn = 2)
  else if code = 0x30 then fn == 1
  else if code = 0x31 then fn == 6
  else if code = 0x32 then fn == 5
  else false

/-- A settings record lies outside the limits of its function (10 R362, R364). -/
def settingsBad (r : BitVec 128) : Bool :=
  let mode := bitsOf r 15 8
  let div := bitsOf r 31 16
  let baud := bitsOf r 63 32
  match bitsOf r 7 0 with
  | 1 => decide (div < 2)
  | 2 => decide (div < (if mode % 2 = 1 then 8 else 100))
  | 3 => decide (baud < 300 ∨ 12500000 < baud ∨ mode % 4 = 3)
  | _ => false

/-- A field step ends with a DEVICE_STATUS (04 R159); 5 sets FP_STUCK. -/
def fieldFail (c st : Nat) (s : State) : State :=
  let x := s.ctx c
  let s1 := s.setCtx c { x with devStatus := BitVec.ofNat 16 st }
  stepFail c 0x0501 x.moved (if st = 5 then wf s1 R.PORT_FAULT F.PORT_FAULT_FP_STUCK 1 else s1)

/-- The pins of a GPIO WRITE are driven and become outputs (04 R155, 10 R364). -/
def gpioWrite (q mask v : Nat) (s : State) : State :=
  let f := s.fieldPort q
  let m := BitVec.ofNat 8 mask &&& BitVec.ofNat 8 (rf s R.FP_CFG F.FP_CFG_USED q)
  s.setFieldPort q { f with
    driven := (f.driven &&& ~~~m) ||| (BitVec.ofNat 8 v &&& m)
    settings := f.settings ||| (m.setWidth 128 <<< 96) }

/-- PWM pins of a port that are held high, or low: a period of 0 holds the pin low, a high time at or above the period high (10 R365). -/
def pwmHeld (s : State) (q : Nat) (high : Bool) : BitVec 8 :=
  if rf s R.FP_CFG F.FP_CFG_FUNCTION q = 6 then
    BitVec.ofNat 8 (rf s R.FP_CFG F.FP_CFG_USED q &&& ((List.range 8).filter fun i =>
      let x := Tbl.get (0, 0) (s.fieldPort q).pwm i
      if high then x.1 != 0 && decide (x.1 ≤ x.2) else x.1 == 0 || x.2 == 0).foldl (fun n i => n ||| 2 ^ i) 0)
  else 0

/-- Level of each pin of a field port: a pin that ranger firmware or a GPIO port drives shows the driven level, an open-drain one only
when it is driven low, a PWM pin that is held its level; any other shows what is at it (10 R363-R365, FP_PINS). -/
def fieldLevels (s : State) (q : Nat) : BitVec 8 :=
  let f := s.fieldPort q
  let re := BitVec.ofNat 8 (rf s R.FP_PINS F.FP_PINS_RANGER_OE q)
  let ro := BitVec.ofNat 8 (rf s R.FP_PINS F.FP_PINS_RANGER_OUT q)
  let gpio := rf s R.FP_CFG F.FP_CFG_FUNCTION q == 4
  let oe := if gpio then f.settings.extractLsb' 96 8 &&& BitVec.ofNat 8 (rf s R.FP_CFG F.FP_CFG_USED q) else 0
  let strong := oe &&& (~~~(f.settings.extractLsb' 8 8) ||| ~~~f.driven)
  (re &&& ro) ||| (strong &&& f.driven) ||| pwmHeld s q true ||| (~~~re &&& ~~~strong &&& ~~~pwmHeld s q false &&& f.pins)

/-- Data that a field-port transaction brought in is written, `differs` where its length was the target's. -/
def fieldIn (c : Nat) (bs : List Byte) (res : DevResult) (differs : Bool) (s : State) : State :=
  let (s1, k) := inPart c bs s
  if k ≠ 0 then stepFail c k (s1.ctx c).moved s1 else transferEnd c res.time.toNat differs s1

/-- A TIMER record gives the feature a timer unit (12 R411). -/
def hasTimer (s : State) (feature arg : Nat) : Bool := s.trust.timers.any fun t => t.2.1 == feature && t.2.2 == arg

def fieldDone (c : Nat) (res : DevResult) (s : State) : State :=
  let x := s.ctx c
  let cmd := x.cmds.headD 0
  let e := devEntry s (cDevice cmd)
  let q := devPort e - 128
  let fn := fpFunction s (devPort e)
  let code := cCode cmd
  let n := stepTotal x
  let s0 := s.setCtx c { x with devStatus := 0 }
  let out := fun (bs : List Byte) (u : State) => emit u (.device (cDevice cmd) code (cHi cmd) (cMid cmd) (cLo cmd) bs.length bs)
  if fpSupports fn code = false ∨ ((code = 0x31 ∨ code = 0x32) ∧ hasTimer s 5 (q * 8 + devSelect e % 8) = false) then fieldFail c 6 s
  else if 1 ≤ res.status.toNat ∧ res.status.toNat ≤ 6 then fieldFail c res.status.toNat s
  else if code = 0x0C then
    if fn = 4 then fieldIn c [fieldLevels s q] res false s0
    else if fn = 3 then fieldIn c (bytesAt res.data 0 (min res.len n)) res (min res.len n != n) s0
    else fieldIn c (bytesAt res.data 0 n) res false s0
  else if code = 0x0E then fieldIn c (bytesAt res.data 0 (min 16 n)) res (n != 16) s0
  else if code = 0x31 then
    endOrFence c res.time.toNat 0 (emit (s0.setFieldPort q { s.fieldPort q with
      pwm := Tbl.set (0, 0) (s.fieldPort q).pwm (devSelect e % 8) (cLo cmd % 2 ^ 32, cMid cmd) })
      (.pwm (devPort e) (devSelect e % 8) (cLo cmd % 2 ^ 32) (cMid cmd)))
  else if code = 0x32 then
    endOrFence c res.time.toNat 0 (emit (guyWord s0 37 0 .clean) (.edge (devPort e) (devSelect e % 8) (cHi cmd % 2 == 1) (BitVec.ofNat 64 (cLo cmd))))
  else
    let (s1, bs, k) := readPart c n res s0
    if k ≠ 0 then stepFail c k 0 (if k = 0x0402 then emit s1 (.spoiled (devPort e)) else s1)
    else if code = 0x0D then
      let r := BitVec.ofNat 128 (leNat bs)
      if bitsOf r 7 0 ≠ fn then fieldFail c 6 s1
      else if settingsBad r then stepFail c 0x0104 0 s1
      else
        let s2 := s1.setFieldPort q { s1.fieldPort q with settings := r }
        endOrFence c res.time.toNat 0 (sentPart c 16 s2)
    else if code = 0x30 then fieldIn c (bytesAt res.data bs.length n) res false (out bs s1)
    else
      let s2 := if fn = 4 then gpioWrite q (cLo cmd % 256) (bs.headD 0).toNat s1 else out bs s1
      endOrFence c res.time.toNat 0 (sentPart c n s2)

/-! ## STEP_COMPLETE, timeouts (04 R136, R157, R162) -/

/-- Codes of which STEP_COMPLETE reports the progress. -/
def stepWaits (code : Nat) : Bool :=
  [0x09, 0x0B, 0x0C, 0x0D, 0x0E, 0x10, 0x11, 0x12, 0x13, 0x14, 0x20, 0x21, 0x30, 0x31, 0x32].contains code

/-- The present step has issued its operation and waits for it. -/
def stepOpen (x : Ctx) : Bool := x.running && x.issued && !x.fenceWait && x.mseq.isNone && x.state == 3

def stepCompleteS (c : Nat) (res : DevResult) (s : State) : State :=
  let x := s.ctx c
  let cmd := x.cmds.headD 0
  if stepOpen x = false ∨ stepWaits (cCode cmd) = false then s
  else if stepHost s c ∧ fnLive s x.fn = false then hold c (s.setCtx c { x with heldDone := some res })
  else if cCode cmd = 0x09 then moveDone c res s
  else if portUp s (devPort (devEntry s (cDevice cmd))) = false then stepFail c 0x0502 x.moved (abandon s c)
  else if portAnswers s (devPort (devEntry s (cDevice cmd))) = false then s
  else
    match devPers (devEntry s (cDevice cmd)) with
    | 1 => nvmeDone c res s
    | 2 => etherDone c res s
    | _ => fieldDone c res s

/-- STEP_COMPLETE (04 R136). -/
def execStepComplete (ctx : Nat) (res : DevResult) (s : State) : Host.Outcome State Fault Refusal :=
  done s (stepCompleteS ctx res s)

/-- A device step has not finished within its TIMEOUT from its first request to the port (04 R157), a peer's acknowledgement included; it is
not timed while its field ports leave bivouac (13 R435). -/
def deviceTimeoutS (c : Nat) (s : State) : State :=
  let x := s.ctx c
  let cmd := x.cmds.headD 0
  if x.running ∧ x.issued ∧ x.state = 3 ∧ isDevice (cCode cmd) ∧ (x.fenceWait = false ∨ peerFence s x) ∧
      portAnswers s (devPort (devEntry s (cDevice cmd))) ∧ devTimeout (devEntry s (cDevice cmd)) ≤ s.sched.frame.toNat - x.begun / 3000 ∧
      (cCode cmd = 0x0A → x.sampleDone < x.sampleIndex) then
    stepFail c 0x0503 x.moved (abandon s c)
  else s

/-- DEVICE_TIMEOUT (04 R157). -/
def execDeviceTimeout (ctx : Nat) (s : State) : Host.Outcome State Fault Refusal := done s (deviceTimeoutS ctx s)

/-- A read of host memory by the step is outstanding, its acknowledgement apart: its source, or the word of a WAIT. -/
def readsHost (s : State) (c : Nat) : Bool :=
  let x := s.ctx c
  stepOpen x && (toHost ((sourcePieces s x (c / 1024)).getD []) ||
    (cCode (x.cmds.headD 0) == 4 && waitKind (x.cmds.headD 0) == 3 && toHost ((resolve s x (c / 1024) (x.cmds.headD 0) 4).getD [])))

/-- A host read of the step drew no completion (04 R161, R162); an access that is held is not timed. -/
def completionTimeoutS (c : Nat) (s : State) : State :=
  let x := s.ctx c
  let u := undrain s (2 ^ 32 + c)
  if x.state = 5 then s
  else if x.fetching.isSome ∧ toHost [(progTarget (c / 1024) (x.fetching.getD 0).toNat, 32)] then
    endProgram c 0x0401 (x.ordinal + x.cmds.length) 0 false u
  else if x.running ∧ x.state = 3 ∧ x.fenceWait then fenceAckS c .timeout s
  else if readsHost s c then
    stepFail c 0x0401 x.moved (abandon u c)
  else s

/-- COMPLETION_TIMEOUT (04 R162). -/
def execCompletionTimeout (ctx : Nat) (s : State) : Host.Outcome State Fault Refusal := done s (completionTimeoutS ctx s)

/-! ## The canopy's drain (07 R274) -/

/-- A step waits for the acknowledgement of host memory. -/
def fenceReads (s : State) (c : Nat) : Bool :=
  let x := s.ctx c
  x.running && x.fenceWait && x.state == 3 && (lastHost ((destPieces s x (c / 1024)).getD [])).isSome

/-- Keys of reads in flight, for the drain: fetches, reads of a context (2^32 + context), of a scan round (2^33 + queue slot) and of a
fragment table (2^34 + queue slot). -/
def readsInFlight (s : State) : List Nat :=
  ((s.sched.fetches.filter fun f => f.landed.isNone).map (·.id)) ++
  ((s.prog.ctxs.filter fun e => e.2.fetching.isSome || readsHost s e.1 || fenceReads s e.1).map (2 ^ 32 + ·.1)) ++
  ((s.sqs.filter fun e => e.2.round.isSome).map (2 ^ 33 + ·.1)) ++
  ((s.sqs.filter fun e => e.2.items.any fun i => i.fragWait.isSome).map (2 ^ 34 + ·.1))

/-- A write to CANOPY_DRAIN (07 R274). -/
def drainS (v : Nat) (s : State) : State :=
  if v % 2 = 1 then
    let s1 := wf s R.CANOPY_DRAIN F.CANOPY_DRAIN_BUSY 1
    s1.withMem { s1.mem with draining := s.mem.draining ++ (readsInFlight s).filter fun k => !s.mem.draining.contains k }
  else s

/-- DRAIN (07 R274). -/
def execDrain (v : W32) (s : State) : Host.Outcome State Fault Refusal := doneMgmt s (drainS v.toNat s)

/-- BUSY clears once every operation permitted before the write has ended (07 R274). -/
def drainCompleteS (s : State) : State :=
  if s.mem.draining.any fun k => (readsInFlight s).contains k then s
  else
    let s1 := wf s R.CANOPY_DRAIN F.CANOPY_DRAIN_BUSY 0
    s1.withMem { s1.mem with draining := [] }

/-- DRAIN_COMPLETE (07 R274). -/
def execDrainComplete (s : State) : Host.Outcome State Fault Refusal := done s (drainCompleteS s)

/-! ## The context window (04 R165) -/

/-- STATE of a context as it shows (04 R163): a step that moves data is in RUN while a stake of its own consumes what is to land, and in
WAIT beyond its stakes or after a missed one (DEDUCED, log entry 90). -/
def ctxShown (s : State) (c : Nat) (x : Ctx) : Nat :=
  let own := s.sched.fetches.filter fun f => f.step == c
  if x.state = 3 ∧ x.running ∧ x.lease.isSome ∧ x.fenceWait = false ∧ cCode (x.cmds.headD 0) ≠ 4 ∧
      own.any (fun f => f.consume.any fun e => decide (absCycle s ≤ e.1)) ∧ !own.any (·.missed) then 2
  else x.state

/-- A write to PITCH_CTX_SELECT takes the snapshot. -/
def ctxSelectS (p v : Nat) (s : State) : State :=
  let x := s.ctx (p * 1024 + v % 1024)
  let st := ctxShown s (p * 1024 + v % 1024) x + 8 * b2n (x.state != 0 && x.lease.isNone) + 16 * x.cond.toNat + 256 * x.lease.getD 0 + 65536 * x.ordinal
  let qu := x.sq.toNat + 65536 * x.program.toNat + 2 ^ 32 * x.seq.toNat
  wr (wr (wr s R.PITCH_CTX_SELECT (v % 1024) p) R.PITCH_CTX_STATE st p) R.PITCH_CTX_QUEUE qu p

/-- PITCH_CTX_SELECT (04 R165). -/
def execPitchCtxSelect (p : Nat) (v : W32) (s : State) : Host.Outcome State Fault Refusal :=
  doneMgmt s (if p < 8 then ctxSelectS p v.toNat s else s)

end Sys2Proof.Machine
end

