-- ==== Sys2Proof/Machine/Lantern.lean ====
section
/-! DEFINITION. The lantern: frame measurement, sources and disciplining, steps, and the time it serves (09 R305-R324, R349, R350), and
calibration (09 R328-R331, 12 R423, R424). Captures and phase errors are in ps. -/
namespace Sys2Proof.Machine

def State.withLant (s : State) (l : Lantern) : State := { s with lant := l }
def State.withTrust (s : State) (t : Trust) : State := { s with trust := t }

/-! ## Calibration (09 R328-R330) -/

/-- A 32-bit or 64-bit word as a signed number. -/
def signed (w v : Nat) : Int := if v % 2 ^ w < 2 ^ (w - 1) then (v % 2 ^ w : Int) else (v % 2 ^ w : Int) - (2 ^ w : Int)

/-- A signed number saturated to `w` bits, and its code. -/
def satSigned (w : Nat) (x : Int) : Int := max (-(2 ^ (w - 1) : Int)) (min (2 ^ (w - 1) - 1 : Int) x)
def unsigned (w : Nat) (x : Int) : Nat := (x % (2 ^ w : Int)).toNat

/-- Delay of a calibration item in ps (09 R329). -/
def calDelay (s : State) (i : Nat) : Int := signed 32 (rg s R.CAL_FACTORY i) + signed 32 (rg s R.CAL_USER i)

/-- Round x / 2^60 to nearest, ties away from zero (09 R329). -/
def round60 (x : Int) : Int := if 0 ≤ x then (x + 2 ^ 59) / 2 ^ 60 else -((-x + 2 ^ 59) / 2 ^ 60)

/-- A code calibrated with a gain item (09 R329). -/
def calibrate (s : State) (i : Nat) (raw : Int) : Int :=
  let f := rg s R.CAL_FACTORY i
  let u := rg s R.CAL_USER i
  satSigned 32 (round60 (raw * signed 32 (f / 2 ^ 32) * signed 32 (u / 2 ^ 32)) + signed 32 f + signed 32 u)

/-! ## The OTP change log (12 R423, R424) -/

/-- A log entry of a change that begins: PENDING. -/
def logEntry (s : State) (kind arg : Nat) : BitVec 128 :=
  BitVec.ofNat 128 (pack [(8, kind), (8, 1), (16, arg), (8, s.trust.image.svn), (8, s.trust.image.keySlot + 128 * b2n s.trust.fromB), (16, 0),
    (48, coreSec s), (8, s.lant.state + 128 * b2n (timeValid s)), (8, 0)])

def logBegin (s : State) (kind arg : Nat) : State := s.withTrust { s.trust with log := s.trust.log ++ [logEntry s kind arg] }

/-- Set STATE bits of the newest entry, whose change is running. -/
def logMark (bits : Nat) (l : List (BitVec 128)) : List (BitVec 128) :=
  l.dropLast ++ (l.getLast?.map fun e => e ||| BitVec.ofNat 128 (bits * 256)).toList

def logEnd (s : State) (bits : Nat) : State := s.withTrust { s.trust with log := logMark bits s.trust.log }

/-- Commit slots used: one for every calibration entry of the log. -/
def commitsUsed (s : State) : Nat := (s.trust.log.filter fun e => bitsOf e 7 0 == 5).length

/-- The user values of all items (09 R331). -/
def userValues (s : State) : Tbl W64 :=
  (List.range 128).filterMap fun i => if rg s R.CAL_USER i = 2 ^ 62 then none else some (i, BitVec.ofNat 64 (rg s R.CAL_USER i))

/-- The values go into the next commit slot (12 R423). -/
def commitBegin (s : State) : State :=
  let s1 := logBegin s 5 (commitsUsed s)
  s1.withLant { s1.lant with commits := s1.lant.commits ++ [userValues s], committing := true }

/-- CAL_COMMIT.COMMIT = 1 (09 R331, 12 R422): refused where no slot is left; it waits for an OTP operation. -/
def calCommitS (v : Nat) (s : State) : State :=
  if v % 2 = 0 ∨ s.lant.committing ∨ s.trust.calWaiting then s
  else if 16 ≤ commitsUsed s then wf s R.CAL_STATUS F.CAL_STATUS_RESULT 2
  else if s.trust.otpOp.isSome then s.withTrust { s.trust with calWaiting := true }
  else commitBegin s

/-- CAL_COMMIT (09 R331). -/
def execCalCommit (v : W32) (s : State) : Host.Outcome State Fault Refusal := doneMgmt s (calCommitS v.toNat s)

/-- The commit ends; one that failed stays for the next trailhead to reconcile (12 R423). -/
def calCommitCompleteS (ok : Bool) (s : State) : State :=
  if s.lant.committing then
    let s1 := s.withLant { s.lant with committing := false }
    if ok then wf (logEnd s1 2) R.CAL_STATUS F.CAL_STATUS_RESULT 1 else wf s1 R.CAL_STATUS F.CAL_STATUS_RESULT 3
  else s

/-- CAL_COMMIT_COMPLETE (09 R331). -/
def execCalCommitComplete (ok : Bool) (s : State) : Host.Outcome State Fault Refusal := doneReg s (calCommitCompleteS ok s)

/-- CAL_STATUS as it reads. -/
def calStatusRead (s : State) : Nat :=
  b2n (s.lant.committing || s.trust.calWaiting) * 2 ^ 31 + rf s R.CAL_STATUS F.CAL_STATUS_RESULT * 2 ^ 8 + commitsUsed s

/-! ## Time at the present cycle -/

/-- The rate: what lantern time advances by in a lantern cycle, in 2^-40 ns; 0.8 ns, adjusted by FREQ parts in 10^12 (09 R306, R313). -/
def lantRate (s : State) : Nat :=
  ((8 * 2 ^ 40 * (1000000000000 + signed 32 (rf s R.LANT_PHASE F.LANT_PHASE_FREQ)) + 5000000000000) / 10000000000000).toNat

/-- Lantern time at the present cycle, in 2^-40 ns: 1,250 lantern cycles pass in 3,000 cycles; and in ps. -/
def lantUnits (s : State) : Nat := s.lant.time.units + s.sched.cycle * 5 * lantRate s / 12
def lantPs (s : State) : Nat := lantUnits s * 1000 / 2 ^ 40

/-- A time or a difference in ps, in 2^-40 ns. -/
def unitsOfPs (x : Int) : Int := x * 2 ^ 40 / 1000

/-- Second in which the present frame ends; an event of a second happens in the frame in which the second begins. -/
def lantSec (s : State) : Nat := (s.lant.time.units + 1250 * lantRate s) / 2 ^ 40 / 1000000000

/-! ## States (09 R313-R316) -/

/-- A rate adjustment that the loop chooses, within 10 ppm (09 R313, R314); its gains are not stated. -/
def freeRate (s : State) : State :=
  let (w, s1) := takeFree s
  wf s1 R.LANT_PHASE F.LANT_PHASE_FREQ (unsigned 32 ((w.toNat % 20000001 : Int) - 10000000))

/-- Whether the holdover has lasted HOLD_VALID minutes (09 R315). -/
def holdExpired (s : State) : Bool :=
  let v := rf s R.LANT_CFG F.LANT_CFG_HOLD_VALID
  s.lant.state == 3 && v != 255 && decide (v * (60000000000 * 2 ^ 40) ≤ lantUnits s - s.lant.holdStart)

def setExpired (s : State) : State := s.withLant { s.lant with expired := holdExpired s }

/-- The seconds that TC_LOG2 gives (09 LANT_CFG). -/
def loopSeconds (s : State) : Nat := 2 ^ min 10 (rf s R.LANT_CFG F.LANT_CFG_TC_LOG2)

/-- The rate adjustment of a second in LOCKED is kept for a later holdover (09 R314). -/
def noteRate (s : State) : State :=
  if s.lant.state = 2 then
    s.withLant { s.lant with rates := (signed 32 (rf s R.LANT_PHASE F.LANT_PHASE_FREQ) :: s.lant.rates).take (loopSeconds s) }
  else s

/-- The rate is frozen at its mean over the last 2^TC_LOG2 s of LOCKED (09 R314), rounded down; of a lantern that has not been LOCKED the spec
states no rate, and it is free (DESIGN CHOICE, log entry 99). -/
def freezeRate (s : State) : State :=
  let l := s.lant.rates.take (loopSeconds s)
  if l.isEmpty then freeRate s else wf s R.LANT_PHASE F.LANT_PHASE_FREQ (unsigned 32 (l.foldl (· + ·) 0 / l.length))

/-- Enter HOLDOVER, the rate frozen. -/
def enterHoldover (s : State) : State :=
  if s.lant.state = 3 then s
  else setExpired (freezeRate (s.withLant { s.lant with state := 3, holdStart := lantUnits s }))

/-- A source is qualified (09 R311, 11 R401). -/
def sourceQualified (s : State) (c : Nat) : Bool :=
  if c = 1 ∨ c = 2 then (Tbl.get Pps.reset s.lant.pps (c - 1)).qualified
  else if c = 3 then
    s.camp.up && (s.camp.partnerState == 2 || (s.camp.partnerState == 3 && s.camp.partnerValid)) && s.camp.partnerSource != 3
  else false

/-- Sources of LANT_CFG in priority order. -/
def listedSources (s : State) : List Nat :=
  [F.LANT_CFG_P0, F.LANT_CFG_P1, F.LANT_CFG_P2, F.LANT_CFG_P3].map fun f =>
    if 3 < rf s R.LANT_CFG f then 0 else rf s R.LANT_CFG f

/-- Re-evaluate the selection (09 R312, R314). -/
def reselect (s : State) : State :=
  let n := ((listedSources s).find? fun c => c != 0 && sourceQualified s c).getD 0
  if n = s.lant.selected then s
  else
    let s1 := s.withLant { s.lant with selected := n, errors := [], bigErrors := 0, fresh := n != 0 }
    if n = 0 then (if s.lant.everLocked then enterHoldover s1 else if s.lant.refLost then s1 else s1.withLant { s1.lant with state := 0 })
    else if s.lant.state = 2 ∨ s.lant.refLost then s1
    else s1.withLant { s1.lant with state := 1 }

/-- The selection is made again at once where the selected source is no longer qualified (09 R312). -/
def recheck (s : State) : State := if s.lant.selected ≠ 0 ∧ sourceQualified s s.lant.selected = false then reselect s else s

/-- Lantern time jumps by `x` units of 2^-40 ns; the frame lock is lost (09 R306, R313, R316, R347). A jump is no time spent in a holdover (R315). -/
def lantStep (s : State) (x : Int) : State :=
  let l := s.lant
  let s1 := s.withLant { l with
    time := LTime.of ((l.time.units : Int) + x).toNat, holdStart := ((l.holdStart : Int) + x).toNat, stepCur := true, coreLocked := false, goodFrames := 0, lockNext := false }
  raise (wf s1 R.LANT_FAULT F.LANT_FAULT_STEPPED 1) 520

/-- A phase error of `e` ps of the selected source (09 R313, R314). An excess over 1,000 ns that begins in LOCKED is followed
through the updates after it. In HOLDOVER the rate stays frozen. -/
def phaseError (e : Int) (partner : Bool) (s : State) : State :=
  let l := s.lant
  let mag := e.natAbs
  let errs := (mag :: l.errors).take 8
  let big := if 1000000 < mag ∧ (0 < l.bigErrors ∨ l.state = 2) then l.bigErrors + 1 else 0
  let step := (l.fresh && l.state != 2 && decide (1000000 < mag)) || decide (4 ≤ big)
  let st := if l.refLost then 3
    else if l.state = 2 then (if 50000 < mag then 1 else 2)
    else if errs.length = 8 ∧ errs.all (· ≤ 50000) then 2 else 1
  let s1 := wf s R.LANT_PHASE F.LANT_PHASE_PHASE (unsigned 32 (satSigned 32 e))
  let s2 := s1.withLant { l with
    errors := errs, bigErrors := if step then 0 else big, fresh := false, state := st, everLocked := l.everLocked || st == 2,
    pendingStep := if step then some (e, partner) else l.pendingStep }
  if step ∨ st = 3 then s2 else freeRate s2

/-! ## PPS inputs (09 R311) -/

/-- An edge of PPS_IN[i], captured at `cap` ps of lantern time. -/
def ppsEdgeS (i cap : Nat) (s : State) : State :=
  if 2 ≤ i then s
  else
    let t := ((cap : Int) - calDelay s i).toNat
    let p := Tbl.get Pps.reset s.lant.pps i
    let d := (t : Int) - p.last - 1000000000000
    let good := p.last ≠ 0 ∧ -10000000 ≤ d ∧ d ≤ 10000000
    let n := if good then min 4 (p.good + 1) else 0
    let s1 := raise (wr s R.LANT_PPS_CAP (t / 1000) i) (514 + i)
    let q : Pps := { good := n, last := t, missed := 0, qualified := if good then p.qualified || n == 4 else false }
    let s2 := s1.withLant { s1.lant with pps := Tbl.set Pps.reset s1.lant.pps i q }
    if s2.lant.selected ≠ i + 1 then s2
    else if q.qualified = false then reselect s2
    else
      match s2.lant.pendingSet with
      | some (1, sec, _) =>
        let pps := Tbl.set Pps.reset s2.lant.pps i { q with last := sec * 1000000000000 }
        let s3 := lantStep (s2.withLant { s2.lant with pendingSet := none, pps := pps })
          (unitsOfPs ((sec * 1000000000000 : Int) - t))
        wf s3 R.LANT_SET_CTRL F.LANT_SET_CTRL_MODE 0
      | _ =>
        let r := (t % 1000000000000 : Int)
        phaseError (if r < 500000000000 then r else r - 1000000000000) false s2

/-- PPS_IN_EDGE (09 R311). -/
def execPpsInEdge (i : Nat) (cap : Nat) (s : State) : Host.Outcome State Fault Refusal := doneLant s (ppsEdgeS i cap s)

/-- A second passes on PPS_IN[i]: an edge that is overdue is missed (09 R311). -/
def ppsSecond (s : State) (i : Nat) : State :=
  let p := Tbl.get Pps.reset s.lant.pps i
  if p.last + 1000010000000 < lantPs s then
    let q := { p with missed := min 2 (p.missed + 1), good := 0, qualified := p.qualified && p.missed == 0 }
    s.withLant { s.lant with pps := Tbl.set Pps.reset s.lant.pps i q }
  else s

/-! ## Seconds (09 R312, R313, 11 R400) -/

/-- The step that waited for the second: a PPS step changes the nanosecond field alone. -/
def secondStep (s : State) : State :=
  match s.lant.pendingStep with
  | none => s
  | some (e, partner) =>
    lantStep (s.withLant { s.lant with pendingStep := none })
      (if partner then unitsOfPs (-e) else (-((e + 500) / 1000)) % 1000000000 * 2 ^ 40)

/-- The TIME message of the second (11 R400). -/
def sendTime (s : State) : State :=
  let dep := BitVec.ofInt 64 ((lantPs s : Int) + calDelay s 57)
  let now : W64 := BitVec.ofNat 64 (dep.toNat / 1000)
  let body := leBytes 32 (pack [(64, s.camp.txTime.toNat), (64, s.camp.rxTime.toNat), (48, lantSec s), (8, s.lant.selected), (8, 0),
    (8, s.lant.state), (8, 128 * b2n (timeValid s)), (48, 0)])
  if s.camp.up then
    let s1 := campSend s 3 0 body
    s1.withCamp { s1.camp with txTime := now, txPrev := s1.camp.txTime }
  else s

/-- A lantern second begins. -/
def lanternSecondS (s : State) : State :=
  sendTime (raise (reselect (ppsSecond (ppsSecond (secondStep (noteRate s)) 0) 1)) 516)

/-- LANTERN_SECOND (09 R312). -/
def execLanternSecond (s : State) : Host.Outcome State Fault Refusal := doneLant s (lanternSecondS s)

/-! ## The reference, the holdover and the frame lock (09 R310, R315, R316) -/

/-- No edge on REF10M_IN for 1 us. -/
def refLostS (s : State) : State :=
  let s1 := enterHoldover s
  s1.withLant { s1.lant with refLost := true, coreLocked := false, lockNext := false }

/-- REF_LOST (09 R310). -/
def execRefLost (s : State) : Host.Outcome State Fault Refusal := doneLant s (refLostS s)

/-- One second after edges return, REF_LOST clears and the state follows R314. -/
def refReturnS (s : State) : State :=
  if s.lant.refLost then
    let l := s.lant
    s.withLant { l with
      refLost := false, errors := [], bigErrors := 0, fresh := l.selected != 0
      state := if l.selected ≠ 0 then 1 else if l.everLocked then 3 else 0 }
  else s

/-- REF_RETURN (09 R310). -/
def execRefReturn (s : State) : Host.Outcome State Fault Refusal := doneLant s (refReturnS s)

/-- HOLDOVER_EXPIRY (09 R315): the comparison is made anew. -/
def execHoldoverExpiry (s : State) : Host.Outcome State Fault Refusal := doneLant s (setExpired s)

/-- 1,000 frames in a row were aligned: CORE_LOCKED sets with the next frame (09 R316). -/
def coreLockS (s : State) : State :=
  if 1000 ≤ s.lant.goodFrames ∧ s.lant.coreLocked = false then s.withLant { s.lant with lockNext := true } else s

/-- CORE_LOCK (09 R316). -/
def execCoreLock (s : State) : Host.Outcome State Fault Refusal := doneLant s (coreLockS s)

/-- What lantern time advances by in `span` thousandths of a lantern cycle, in 2^-40 ns (09 R306). -/
def lantSpan (span : Nat) (s : State) : Nat := span * lantRate s / 1000

/-- CLK10M_OUT is driven (09 R318). -/
def clkRuns (s : State) : Bool :=
  rb s R.LANT_CLK_CFG F.LANT_CLK_CFG_ENABLE && (!rb s R.LANT_CLK_CFG F.LANT_CLK_CFG_GATE || timeValid s)

/-- The level of CLK10M_OUT at the ball: high for the first half of each 100 ns of lantern time, low while it is not driven. -/
def clkLevel (s : State) : Bool := clkRuns s && decide (lantPs s % 100000 < 50000)

/-- Rising edges of CLK10M_OUT in a time that ends now: one on every 100 ns boundary, driven earlier by the calibrated delay of item 4. -/
def clkEdges (span : Nat) (s : State) : State :=
  let t := s.lant.time.units * 1000 / 2 ^ 40
  let u := (s.lant.time.units + lantSpan span s) * 1000 / 2 ^ 40
  let first : Nat := (t + 99999) / 100000
  let n : Nat := (u + 99999) / 100000 - first
  if clkRuns s ∧ 0 < n then emit s (.clk10m ((first * 100000 : Int) - calDelay s 4) n) else s

/-- What the measured times of two frames differ by, in 0.1 ns, where the frame between them took `span` and no step fell in it
(09 R308, R338). -/
def lantTenths (span : Nat) (s : State) : Nat :=
  { s.lant with time := LTime.of (s.lant.time.units + lantSpan span s) }.now - s.lant.now

/-- Time passes in the lantern alone, while the ridgepole and central domain is lost (09 R307). -/
def lantAlone (span : Nat) (s0 : State) : State :=
  let s := clkEdges span s0
  setExpired (s.withLant { s.lant with time := LTime.of (s.lant.time.units + lantSpan span s) })

/-- The lantern measures cycle 0 of a new frame, `span` thousandths of a lantern cycle after the last (09 R308, R316). -/
def lantFrame (span : Nat) (s0 : State) : State :=
  let s := clkEdges span s0
  let l := { s.lant with time := LTime.of (s.lant.time.units + lantSpan span s) }
  let m := l.now
  let r := m % 10000
  let e := min r (10000 - r)
  setExpired (s.withLant { l with
    mNow := m, m1 := l.mNow,
    delta := if l.stepPrev ∨ s.sched.frame = 0 then l.delta else l.mNow - l.m1
    stepPrev := l.stepCur, stepCur := false,
    goodFrames := if e ≤ 10 then l.goodFrames + 1 else 0
    coreLocked := (l.coreLocked || l.lockNext) && decide (e ≤ 40), frameLocked := (l.coreLocked || l.lockNext) && decide (e ≤ 40)
    lockNext := false })

/-! ## Setting the time (09 R349, R350) -/

/-- LANT_SNAP (09 R349). -/
def lantSnapS (v : Nat) (s : State) : State :=
  if v % 2 = 1 then
    let s1 := wr s R.LANT_SNAP_SEC (coreSec s)
    let s2 := wr s1 R.LANT_SNAP_NS (coreSubNs s * 2 ^ 32 + coreTime s % 65536 * 2 ^ 16 + s.sched.cycle % 4096)
    wr s2 R.LANT_SNAP_FRAME s.sched.frame.toNat
  else s

/-- LANT_SNAP (09 R349). -/
def execLantSnap (v : W32) (s : State) : Host.Outcome State Fault Refusal := doneMgmt s (lantSnapS v.toNat s)

/-- MODE and NS of a set that is not pending. -/
def setIdle (s : State) (ns : Nat) : State := wr s R.LANT_SET_CTRL (ns % 2 ^ 32)

/-- Mode 0 cancels (09 R350). -/
def setCancelS (v : Nat) (s : State) : State := setIdle (s.withLant { s.lant with pendingSet := none }) v

/-- Mode 1 waits for the edge it names (09 R350). -/
def setEdgeS (v : Nat) (s : State) : State :=
  let s1 := wr s R.LANT_SET_CTRL (2 ^ 62 + v % 2 ^ 32)
  s1.withLant { s1.lant with pendingSet := some (1, rf s R.LANT_SET_SEC F.LANT_SET_SEC_SECONDS, BitVec.ofNat 32 v) }

/-- Mode 2 sets the time at once; with NS out of range the write is discarded (09 R350). -/
def setOnceS (v : Nat) (s : State) : State :=
  if 999999999 < v % 2 ^ 32 then s
  else
    let t : Int := (rf s R.LANT_SET_SEC F.LANT_SET_SEC_SECONDS * 1000000000 + v % 2 ^ 32) * 2 ^ 40
    lantStep (setIdle (s.withLant { s.lant with pendingSet := none }) v) (t - lantUnits s)

/-- Mode 3 adds NS at once (09 R350). -/
def addNsS (v : Nat) (s : State) : State :=
  lantStep (setIdle (s.withLant { s.lant with pendingSet := none }) v) (signed 32 v * 2 ^ 40)

/-- A write of LANT_SET_CTRL (09 R350). -/
def lantSetCtrl (v : Nat) (s : State) : State :=
  match v / 2 ^ 62 % 4 with
  | 0 => setCancelS v s
  | 1 => setEdgeS v s
  | 2 => setOnceS v s
  | _ => addNsS v s

/-- A row of LANT_SET_CTRL acts on a write of its own MODE. -/
def setMode (m : Nat) (v : W64) (f : Nat → State → State) (s : State) : State := if v.toNat / 2 ^ 62 = m then f v.toNat s else s

/-- SET_AT_PPS_EDGE (09 R350). -/
def execSetAtPpsEdge (v : W64) (s : State) : Host.Outcome State Fault Refusal := doneMgmt s (setMode 1 v setEdgeS s)
/-- SET_AT_ONCE (09 R350). -/
def execSetAtOnce (v : W64) (s : State) : Host.Outcome State Fault Refusal := doneMgmt s (setMode 2 v setOnceS s)
/-- ADD_NS (09 R350). -/
def execAddNs (v : W64) (s : State) : Host.Outcome State Fault Refusal := doneMgmt s (setMode 3 v addNsS s)
/-- SET_CANCEL (09 R350). -/
def execSetCancel (v : W64) (s : State) : Host.Outcome State Fault Refusal := doneMgmt s (setMode 0 v setCancelS s)

/-- LANT_SET_CTRL as it reads: BUSY follows the pending set. -/
def lantSetRead (s : State) : Nat := rg s R.LANT_SET_CTRL ||| (b2n s.lant.pendingSet.isSome * 2 ^ 61)

/-- LANT_STATUS as it reads. -/
def lantStatusRead (s : State) : Nat :=
  s.lant.state * 2 ^ 30 + b2n (timeValid s) * 2 ^ 29 + b2n s.lant.coreLocked * 2 ^ 28 + b2n s.lant.refLost * 2 ^ 27 +
    s.lant.selected * 2 ^ 20 + (b2n (sourceQualified s 1) * 2 + b2n (sourceQualified s 2) * 4 + b2n (sourceQualified s 3) * 8) * 2 ^ 16 +
    holdMin s

/-- A write of LANT_CFG: HOLD_VALID applies to the holdover in progress (09 R315). -/
def lantCfgWrite (v : Nat) (s : State) : State := setExpired (swRw s R.LANT_CFG v)

/-! ## Serving time (09 R317-R322) -/

/-- PPS_OUT[i] sends pulses (09 R317). -/
def ppsRuns (s : State) (i : Nat) : Bool :=
  rb s R.LANT_PPS_OUT F.LANT_PPS_OUT_ENABLE i && (!rb s R.LANT_PPS_OUT F.LANT_PPS_OUT_GATE i || timeValid s)

/-- OFFSET of PPS_OUT[i] in ps, and the width of its pulse in ms. -/
def ppsOffset (s : State) (i : Nat) : Int := signed 32 (rf s R.LANT_PPS_OUT F.LANT_PPS_OUT_OFFSET i) * 1000
def ppsWidth (s : State) (i : Nat) : Nat := max 1 (rf s R.LANT_PPS_OUT F.LANT_PPS_OUT_WIDTH i)

/-- PPS_OUT[i] drives the pulse of the present second: the calibrated delay of the output early, for WIDTH ms, of its polarity (09 R317). -/
def ppsOutS (i : Nat) (s : State) : State :=
  if i < 2 ∧ ppsRuns s i then
    emit s (.ppsPulse i ((lantSec s * 1000000000000 : Int) + ppsOffset s i - calDelay s (2 + i)) (ppsWidth s i)
      (rb s R.LANT_PPS_OUT F.LANT_PPS_OUT_POLARITY i))
  else s

/-- The level of PPS_OUT[i] at the ball: active for WIDTH ms from each second plus OFFSET, else inactive (09 R317). -/
def ppsLevel (s : State) (i : Nat) : Bool :=
  (ppsRuns s i && decide (((lantPs s : Int) - ppsOffset s i) % 1000000000000 < ppsWidth s i * 1000000000)) !=
    rb s R.LANT_PPS_OUT F.LANT_PPS_OUT_POLARITY i

/-- PPS_OUT_PULSE (09 R317). -/
def execPpsOutPulse (i : Nat) (s : State) : Host.Outcome State Fault Refusal := doneLant s (ppsOutS i s)

/-- One bit of CRC-8 with polynomial 0x07, and the CRC of a message (09 R319). -/
def crcBit (c : BitVec 8) : BitVec 8 := if c.msb then (c <<< 1) ^^^ 7 else c <<< 1
def crc8 (l : List Byte) : Byte := l.foldl (fun c b => (List.range 8).foldl (fun c _ => crcBit c) (c ^^^ b)) 0

/-- The time-of-day message of the present second (09 R319). -/
def todBytes (s : State) : List Byte :=
  let u := rg s R.LANT_UTC
  let leap := fget u F.LANT_UTC_LEAP
  let m := leBytes 15 (pack [(16, 0x5AA5), (8, 1), (8, s.lant.state + 128 * b2n (timeValid s)), (48, lantSec s), (16, u),
    (8, if leap = 3 then 0 else leap), (8, s.lant.selected), (8, s.lant.todCount.toNat)])
  m ++ [crc8 m]

/-- The message is sent; the counter moves on. -/
def todS (s : State) : State :=
  if rb s R.LANT_TOD_CFG F.LANT_TOD_CFG_ENABLE then
    emit (s.withLant { s.lant with todCount := s.lant.todCount + 1 }) (.tod (todBytes s))
  else s

/-- TOD_MESSAGE (09 R319). -/
def execTodMessage (s : State) : Host.Outcome State Fault Refusal := doneLant s (todS s)

/-- clockClass and clockAccuracy of the Announce messages (09 R321); the firmware of the ranger core makes the messages (R320). -/
def announceClock (s : State) : Nat × Nat :=
  if s.lant.state = 2 then (6, 0x21)
  else if s.lant.state = 3 then (if timeValid s then (7, 0x21) else (52, 0xFE))
  else (248, 0xFE)

/-- MACs of an Ethernet quad (10 R353). -/
def ethMacs (mode : Nat) : Nat := if mode = 0 then 4 else if mode = 1 then 2 else 1

/-- The lead quad of an Ethernet MAC (10 R353). -/
def macQuad (s : State) (mac : Nat) : Option Nat :=
  (List.range 24).find? fun q =>
    let p := rf s R.QUAD_CFG F.QUAD_CFG_PORT q
    rf s R.QUAD_CFG F.QUAD_CFG_PERSONALITY q == 3 && decide (p ≤ mac ∧ mac < p + ethMacs (rf s R.QUAD_CFG F.QUAD_CFG_ETH_MODE q))

/-- A timestamp at the balls of an internal capture in ps: receive minus, transmit plus the quad's delay (09 R328). -/
def macStamp (s : State) (mac : Nat) (tx : Bool) (stamp : Nat) : Nat :=
  match macQuad s mac with
  | none => stamp
  | some q => if tx then ((stamp : Int) + calDelay s (32 + q)).toNat else ((stamp : Int) - calDelay s (8 + q)).toNat

/-- A PTP event message is timestamped (09 R320). -/
def ptpEventS (mac : Nat) (tx : Bool) (stamp : Nat) (s : State) : State :=
  if s.ports.ptp.contains mac then
    let t := macStamp s mac tx stamp
    emit s (.ptpStamp mac (t / 1000000000000) (t % 1000000000000 / 1000) (t % 1000 * 65536 / 1000))
  else s

/-- PTP_EVENT_MESSAGE (09 R320). -/
def execPtpEventMessage (mac : Nat) (tx : Bool) (stamp : Nat) (s : State) : Host.Outcome State Fault Refusal :=
  done s (ptpEventS mac tx stamp s)

/-- A PTM Request on an endpoint port is answered with L at the port's timestamp point, `stamp` in ps (09 R322). -/
def ptmS (port stamp : Nat) (s : State) : State :=
  if port < 24 ∧ 0 < Tbl.get 0 s.trust.endpoints port ∧ 0 < (s.port port).link then
    emit s (.ptm port ((((stamp : Int) + calDelay s (32 + port)).toNat / 1000) % 2 ^ 64))
  else s

/-- PTM_REQUEST (09 R322). -/
def execPtmRequest (port : Nat) (stamp : Nat) (s : State) : Host.Outcome State Fault Refusal := done s (ptmS port stamp s)

end Sys2Proof.Machine
end

