-- ==== Sys2Proof/Machine/Meter.lean ====
section
/-! DEFINITION. Metering: capture, energy attribution, the closing of minutes, the signed chain and its delivery (09 R332-R346,
R351). -/
namespace Sys2Proof.Machine

/-! ## The tenant record and the head entry (09 R333, R340) -/

def sat (w v : Nat) : Nat := min v (2 ^ w - 1)

/-- A counter of the record is saturated. -/
def TRec.saturated (r : TRec) : Bool :=
  [r.bytesIn, r.bytesOut, r.stake, r.free, r.commands].any (fun v => decide (2 ^ 64 ≤ v + 1)) ||
    [r.misses, r.entries, r.energy / 1000000].any (fun v => decide (2 ^ 32 ≤ v + 1))

/-- The 64-byte record of tenant `t`. -/
def TRec.bytes (t : Nat) (r : TRec) : List Byte :=
  leBytes 64 (pack [(64, sat 64 r.bytesIn), (64, sat 64 r.bytesOut), (64, sat 64 r.stake), (64, sat 64 r.free), (64, sat 64 r.commands),
    (32, sat 32 r.misses), (32, sat 32 (r.energy / 1000000)), (32, sat 32 r.entries), (16, t),
    (16, b2n r.saturated + 2 * b2n r.bound), (32, r.energy % 1000000), (32, 0)])

/-- The 4,096 records of a minute. -/
def recList (recs : Tbl TRec) : List (List Byte) := (List.range 4096).map fun t => (Tbl.get TRec.reset recs t).bytes t

/-- One level, and the root, of a Merkle tree (09 R339). -/
def pairUp : List (List Byte) → List (List Byte)
  | a :: b :: r => shake256 (1#8 :: (a ++ b)) :: pairUp r
  | l => l
def merkle : Nat → List (List Byte) → List Byte
  | 0, l => l.headD []
  | n + 1, l => merkle n (pairUp l)

/-- The block digest of a minute. -/
def blockDigest (recs : Tbl TRec) : List Byte := merkle 12 ((recList recs).map fun r => shake256 (0#8 :: r))

/-- Bytes +0x000 to +0x07F of the head entry of the open minute (09 R340); CUT 2 and INCOMPLETE 4 are `flags`. -/
def headBytes (s : State) (m : Minute) (flags : Nat) : List Byte :=
  let fl := b2n (s.meter.chainSeq == 0) + flags + 8 * b2n (0 < m.gap) + 32 * b2n (m.locked < m.frames) + 64 * b2n (0 < m.freeOnly) +
    128 * b2n m.feedStale
  let id := match activeBank s with
    | some b => (bankOf s b).id
    | none => 0
  leBytes 128 (pack [(16, 1), (16, fl), (8, m.part), (8, s.lant.state + 128 * b2n (timeValid s)), (16, rg s R.LANT_UTC), (64, m.minute),
    (64, s.meter.chainSeq.toNat), (64, m.firstFrame.toNat), (32, m.frames), (32, m.locked), (64, id), (32, m.freeOnly), (16, m.swaps),
    (16, sat 16 m.gap), (64, sat 64 m.devCycles), (32, sat 32 (m.baseNj / 1000000)), (32, sat 32 (m.devNj / 1000000)), (32, m.lost)])

/-- The 4 KiB head entry of a block, DROPPED where its records are gone (09 R340, R344). -/
def Block.entry (b : Block) : List Byte :=
  let h := b.header
  let h1 := if b.recs.isNone then splice h 2 [(h.getD 2 0) ||| 0x10] else h
  let sig := (b.signature.getD []).take 1536
  h1 ++ b.digest ++ b.prevHead ++ b.head ++ leBytes 2 sig.length ++ leBytes 2 (b2n b.signFailed) ++ List.replicate 188 0 ++ sig ++
    List.replicate (1536 - sig.length + 2048) 0

/-! ## Minutes and frames (09 R332, R336) -/

/-- Minute of the present frame: that of its core time at cycle 1,500. -/
def frameMinute (s : State) : Nat := (s.lant.m1 * 3000 + 4500 * s.lant.delta) / 30000 / 1000000000 / 60

/-- Tags that a lease class or a function carries now (09 R333 BOUND). -/
def boundTags (s : State) : List Nat :=
  (((List.range 256).filter fun n => n != 0 && leaseOn s n).map fun n => (leaseTenant s n).toNat) ++
    ((s.fns.filter fun e => e.2.identValid).map fun e => e.2.tenant.toNat)

def markBound (s : State) : State :=
  let m := s.meter
  s.withMeter { m with cur := { m.cur with
    recs := (boundTags s).foldl (fun t k => Tbl.upd TRec.reset t k fun r => { r with bound := true }) m.cur.recs } }

/-- The counters of a unit are captured (09 R334, 02 R54); those of a pitch that is not ON as zero (13 R435). -/
def sampleUnit (u : Nat) (s : State) : State :=
  let m := s.meter
  let on := decide (8 ≤ u) || domOn s u
  let mine := if on then m.frame.filter fun e => e.1 / 4096 == u else []
  let add := fun (a : TRec) (b : TRec) => { a with
    bytesIn := a.bytesIn + b.bytesIn, bytesOut := a.bytesOut + b.bytesOut, stake := a.stake + b.stake, free := a.free + b.free,
    commands := a.commands + b.commands, misses := a.misses + b.misses, entries := a.entries + b.entries }
  let dev := if on then Tbl.get 0 m.frameDev u else 0
  s.withMeter { m with
    frame := m.frame.filter fun e => e.1 / 4096 != u
    frameDev := Tbl.set 0 m.frameDev u 0
    useT := mine.foldl (fun t e => Tbl.upd 0 t (e.1 % 4096) (· + e.2.stake + e.2.free)) m.useT
    useDev := m.useDev + dev
    cur := { m.cur with
      recs := mine.foldl (fun t e => Tbl.upd TRec.reset t (e.1 % 4096) (add · e.2)) m.cur.recs
      devCycles := m.cur.devCycles + dev } }

/-- METER_SAMPLE (02 R54): at cycle 2,999. -/
def execMeterSample (unit : Nat) (s : State) : Host.Outcome State Fault Refusal :=
  done s (if s.sched.cycle = 2999 then sampleUnit unit s else s)

/-- A feed in use counts as 0 W for want of a sample (09 R337). -/
def someStale (s : State) : Bool :=
  (List.range 8).any fun f => rb s R.METER_FEED F.METER_FEED_ENABLE f && rb s R.METER_FEED F.METER_FEED_STALE f

/-- The frame that ends, `span` long in 0.1 ns, is counted in the open minute (09 R332, R338, R340). -/
def meterFrame (span : Nat) (s : State) : State :=
  let m := s.meter
  if m.started then
    markBound (s.withMeter { m with
      intNs := m.intNs + (if s.lant.frameLocked then 10000 else span)
      intFrames := m.intFrames + 1
      feedAge := (List.range 8).map fun f => (f, Tbl.get 0 m.feedAge f + 1)
      cur := { m.cur with
        frames := m.cur.frames + 1, feedStale := m.cur.feedStale || someStale s
        locked := m.cur.locked + b2n s.lant.frameLocked
        freeOnly := m.cur.freeOnly + b2n (freeOnly s) } })
  else s

/-! ## Energy (09 R337, R338) -/

/-- Power in force, in mW: the internal feed if used, and the feeds that are enabled and not stale. -/
def powerNow (s : State) : Nat :=
  (if rb s R.METER_ATTR_CFG F.METER_ATTR_CFG_INTERNAL then Tbl.get 0 s.meter.power 8 else 0) +
    ((List.range 8).map fun f =>
      if rb s R.METER_FEED F.METER_FEED_ENABLE f ∧ rb s R.METER_FEED F.METER_FEED_STALE f = false then Tbl.get 0 s.meter.power f else 0).foldl (· + ·) 0

/-- The running interval ends: its energy is divided (09 R338). Lengths are in 0.1 ns. -/
def shareEnergy (s : State) : State :=
  let m := s.meter
  if m.intFrames = 0 then s
  else
    let pd := powerNow s * m.intNs + m.remainder
    let e := pd / 10000
    let base := min e (rf s R.METER_ATTR_CFG F.METER_ATTR_CFG_BASE_MW * m.intNs / 10000)
    let dyn := e - base
    let a := m.useDev + (m.useT.map (·.2)).foldl (· + ·) 0
    let shares := m.useT.map fun x => (x.1, dyn * x.2 / a)
    let given := (shares.map (·.2)).foldl (· + ·) 0
    s.withMeter { m with
      useT := [], useDev := 0, intNs := 0, intFrames := 0, remainder := pd % 10000
      cur := { m.cur with
        recs := shares.foldl (fun t x => Tbl.upd TRec.reset t x.1 fun r => { r with energy := r.energy + x.2 }) m.cur.recs
        baseNj := m.cur.baseNj + base
        devNj := m.cur.devNj + (dyn - given) } }

/-- A sample of the internal feed: calibrated with item 58, a negative value counts as 0 (09 R337). -/
def internalSample (raw : Nat) (s : State) : State :=
  s.withMeter { s.meter with power := Tbl.set 0 s.meter.power 8 (calibrate s 58 raw).toNat }

/-- The end of an interval of ATTR_FRAMES frames. -/
def intervalS (internal : Nat) (s : State) : State :=
  let s1 := internalSample internal s
  if s.meter.intLen ≤ s.meter.intFrames then shareEnergy s1 else s1

/-- ATTRIBUTION_INTERVAL (09 R338). -/
def execAttributionInterval (internal : Nat) (s : State) : Host.Outcome State Fault Refusal := done s (intervalS internal s)

/-- A feed without a sample for STALE_FRAMES counts as 0 W (09 R337, R347). -/
def feedStaleS (f : Nat) (s : State) : State :=
  let lim := rf s R.METER_FEED F.METER_FEED_STALE_FRAMES f
  if f < 8 ∧ rb s R.METER_FEED F.METER_FEED_ENABLE f ∧ rb s R.METER_FEED F.METER_FEED_STALE f = false ∧ lim ≠ 0 ∧
      lim ≤ Tbl.get 0 s.meter.feedAge f then
    let s1 := wf s R.METER_FEED F.METER_FEED_STALE 1 f
    raise (s1.withMeter { s1.meter with cur := { s1.meter.cur with feedStale := true } }) 532
  else s

/-- FEED_STALE (09 R337). -/
def execFeedStale (feed : Nat) (s : State) : Host.Outcome State Fault Refusal := done s (feedStaleS feed s)

/-! ## Closing (09 R336, R339-R346) -/

def ringSize (s : State) : Nat := 2 ^ min 10 (max 1 (rf s R.METER_RING_CFG F.METER_RING_CFG_SIZE_LOG2))
def ringFull (s : State) : Bool :=
  decide (ringSize s ≤ (rg s R.METER_PRODUCER + 2 ^ 32 - rg s R.METER_CONSUMER) % 2 ^ 32)

/-- Length of an interval as METER_ATTR_CFG gives it. -/
def attrFrames (s : State) : Nat := max 1 (rf s R.METER_ATTR_CFG F.METER_ATTR_CFG_ATTR_FRAMES)

/-- A minute opens at the present frame, with the carries of the one before, which are kept for a fault reset (09 R338, R342, R345). -/
def openMinute (s : State) (minute part gap : Nat) : State :=
  let m := s.meter
  let carry := (m.cur.recs.filter fun e => e.2.energy % 1000000 != 0).map fun e =>
    (e.1, { TRec.reset with energy := e.2.energy % 1000000 })
  let c := { Minute.reset with
    minute := minute, part := part, firstFrame := s.sched.frame, gap := gap, recs := carry,
    baseNj := m.cur.baseNj % 1000000, devNj := m.cur.devNj % 1000000 }
  markBound (s.withMeter { m with intLen := attrFrames s, cur := c, checkpoint := some c })

/-- The 65th block of the backlog drops the records of the oldest (09 R344). -/
def trimBacklog (s : State) : State :=
  let m := s.meter
  if 64 < (m.blocks.filter fun b => b.recs.isSome).length then
    let bs := m.blocks
    let old := bs.takeWhile fun b => b.recs.isNone
    let new := bs.dropWhile fun b => b.recs.isNone
    wf (s.withMeter { m with blocks := old ++ (match new with | b :: r => { b with recs := none } :: r | [] => []) })
      R.METER_FAULT F.METER_FAULT_DROPPED 1
  else s

/-- Close a minute's counts as the next block of the chain (09 R339-R341, R344); a report signature that runs is abandoned (12 R428). -/
def addBlock (s : State) (c : Minute) (flags : Nat) : State :=
  let s1 := if s.meter.blocks.isEmpty = false then wf s R.METER_FAULT F.METER_FAULT_LATE 1 else s
  let m := s1.meter
  let header := headBytes s1 c flags
  let digest := blockDigest c.recs
  let head := shake256 (m.prevHead ++ header ++ digest)
  let waits := !m.blocks.isEmpty || ringFull s1 || !rb s1 R.METER_RING_CFG F.METER_RING_CFG_ENABLE
  let b : Block := {
    seq := m.chainSeq, minute := c.minute, header := header, digest := digest, prevHead := m.prevHead, head := head,
    recs := some c.recs, signature := none, signFailed := false, waits := waits }
  let s2 := s1.withMeter { m with
    blocks := m.blocks ++ [b], chainSeq := m.chainSeq + 1, prevHead := head }
  let s3 := (raise (wr s2 R.METER_CHAIN_SEQ m.chainSeq.toNat) 528).withTrust { s2.trust with signing := false }
  trimBacklog (if waits then raise s3 530 else s3)

/-- Close the open minute; counting goes on in `part` of `minute`. -/
def closeMinute (s : State) (flags minute part gap : Nat) : State :=
  let s1 := shareEnergy s
  openMinute (addBlock s1 s1.meter.cur flags) minute part gap

/-- The first frame of a later minute closes the open one (09 R336, R345), while fewer than 1,024 heads wait (R344). -/
def minuteCloseS (s : State) : State :=
  let n := frameMinute s
  let c := s.meter.cur
  if s.meter.started ∧ c.minute < n ∧ s.meter.blocks.length < 1024 then closeMinute s 0 n 0 (n - c.minute - 1) else s

/-- MINUTE_CLOSE (09 R336). -/
def execMinuteClose (s : State) : Host.Outcome State Fault Refusal := done s (minuteCloseS s)

/-- A checkpoint of the open bank, every 1,000,000 frames (09 R346). -/
def checkpointS (s : State) : State :=
  if s.meter.started ∧ s.meter.cpFrame.toNat + 1000000 ≤ s.sched.frame.toNat then
    s.withMeter { s.meter with checkpoint := some s.meter.cur, cpFrame := s.sched.frame }
  else s

/-- METER_CHECKPOINT (09 R346). -/
def execMeterCheckpoint (s : State) : Host.Outcome State Fault Refusal := done s (checkpointS s)

/-! ## Signing and delivery (09 R341-R344) -/

/-- Some head still waits for its signature. -/
def Block.unsigned (b : Block) : Bool := b.signature.isNone && !b.signFailed

/-- The oldest unsigned head is signed, or its signing fails (09 R341). -/
def headSignedS (ok : Bool) (s : State) : State :=
  let m := s.meter
  let done_ := m.blocks.takeWhile fun b => !b.unsigned
  match m.blocks.dropWhile fun b => !b.unsigned with
  | [] => s
  | b :: r =>
    if s.trust.signing then s
    else
      let b1 := if ok then { b with signature := some (Config.falconSign s.free b.head) } else { b with signFailed := true }
      { s.withMeter { m with blocks := done_ ++ b1 :: r } with free := s.free + 1 }

/-- HEAD_SIGNED (09 R341). -/
def execHeadSigned (ok : Bool) (s : State) : Host.Outcome State Fault Refusal := done s (headSignedS ok s)

def rangerMaster (s : State) : BitVec 14 := BitVec.ofNat 14 (rf s R.CANOPY_CTRL F.CANOPY_CTRL_RANGER_MASTER)

/-- The writes that deliver a block at ring slot `i` (09 R343). -/
def deliveryWrites (s : State) (b : Block) (i : Nat) : List (Nat × List Byte) :=
  (match b.recs with
    | some r => [(rg s R.METER_RING_BASE + i * 2 ^ 18, (recList r).flatten)]
    | none => []) ++
  [(rg s R.METER_HEAD_BASE + i * 4096, b.entry),
   (rg s R.METER_INDEX_ADDR, leBytes 64 (pack [(32, rg s R.METER_PRODUCER + 1), (32, 0), (64, b.seq.toNat), (64, b.minute)]))]

/-- The oldest block is delivered, once it is signed and the ring has room (09 R343, R344). The writes go out in order; one that the canopy
denies ends the delivery, which starts again with the next. -/
def deliverS (s : State) : State :=
  match s.meter.blocks with
  | [] => s
  | b :: r =>
    if b.unsigned ∨ ringFull s ∨ rb s R.METER_RING_CFG F.METER_RING_CFG_ENABLE = false ∨ fnLive s (mgmtFn s) = false then s
    else
      let ws := deliveryWrites s b (rg s R.METER_PRODUCER % ringSize s)
      let denied := fun (w : Nat × List Byte) => firstDenied s (rangerMaster s) .wr (.host w.1) w.2.length
      match ws.findSome? denied with
      | some t =>
        let s0 := (ws.takeWhile fun w => (denied w).isNone).foldl (fun u w => emit u (.hostWrite (mgmtFn s) w.1 w.2)) s
        let s1 := wf (deny s0 (rangerMaster s) .wr t) R.METER_FAULT F.METER_FAULT_DENIED 1
        if b.waits then s1 else raise (s1.withMeter { s1.meter with blocks := { b with waits := true } :: r }) 530
      | none =>
        let s1 := ws.foldl (fun u w => emit u (.hostWrite (mgmtFn s) w.1 w.2)) s
        let s2 := wr (s1.withMeter { s1.meter with blocks := r }) R.METER_PRODUCER (rg s R.METER_PRODUCER + 1)
        raise (if b.signFailed then wf s2 R.METER_FAULT F.METER_FAULT_SIGN_FAIL 1 else s2) 529

/-- BLOCK_DELIVERY (09 R343). -/
def execBlockDelivery (s : State) : Host.Outcome State Fault Refusal := done s (deliverS s)

/-- A write to METER_CONSUMER, ignored where it lies too far behind PRODUCER or ahead of it (09 R343). -/
def consumerS (v : Nat) (s : State) : State :=
  if ringSize s < (rg s R.METER_PRODUCER + 2 ^ 32 - v % 2 ^ 32) % 2 ^ 32 then s else wr s R.METER_CONSUMER v

/-- METER_CONSUMER (09 R343). -/
def execMeterConsumer (v : W32) (s : State) : Host.Outcome State Fault Refusal := doneMgmt s (consumerS v.toNat s)

/-- METER_STATUS as it reads. -/
def meterStatusRead (s : State) : Nat :=
  b2n (s.trust.signing || s.meter.blocks.any (·.unsigned)) * 2 ^ 31 + s.meter.blocks.length * 2 ^ 16 +
    (s.meter.blocks.filter fun b => b.recs.isSome).length

/-- A write to METER_RING_CFG: SIZE_LOG2 only while ENABLE = 0 (09). -/
def ringCfgWrite (v : Nat) (s : State) : State :=
  if rb s R.METER_RING_CFG F.METER_RING_CFG_ENABLE then wf s R.METER_RING_CFG F.METER_RING_CFG_ENABLE (v / 2 ^ 31) else swRw s R.METER_RING_CFG v

/-- A write to METER_LIVE_SELECT copies the tenant's record (09 R351). -/
def liveSelectS (v : Nat) (s : State) : State :=
  let t := v % 4096
  let bs := (Tbl.get TRec.reset s.meter.cur.recs t).bytes t
  (List.range 8).foldl (fun u i => wr u R.METER_LIVE (leAt bs (8 * i) 8) i) (wr s R.METER_LIVE_SELECT t)

/-- METER_LIVE_SELECT (09 R351). -/
def execMeterLiveSelect (v : W32) (s : State) : Host.Outcome State Fault Refusal := doneMgmt s (liveSelectS v.toNat s)

end Sys2Proof.Machine
end

