-- ==== Sys2Proof/Machine/Measure.lean ====
section
/-! DEFINITION. MEASURE and its samples (04 R150, 09 R325-R327, R337, 10 R366), and the operations of steps that waited for the
camp (11 R387). -/
namespace Sys2Proof.Machine

/-- FP_MEAS places the result outside the reply (10 R366). -/
def measBad (s : State) (q : Nat) : Bool :=
  let bits := 8 * (rf s R.FP_MEAS F.FP_MEAS_RX_LEN q + 1)
  let msb := rf s R.FP_MEAS F.FP_MEAS_RES_MSB q
  let w := min 24 (rf s R.FP_MEAS F.FP_MEAS_RES_WIDTH q + 1)
  decide (bits ≤ msb ∨ msb + 1 < w)

/-- The checks of MEASURE (04 R150, R154, 10 R366). -/
def measureCheck (p : Nat) (s : State) (x : Ctx) (cmd : BitVec 256) : Nat :=
  let k := deviceCheck s x cmd
  let port := devPort (devEntry s (cDevice cmd))
  if k ≠ 0 then k
  else if cCount cmd % 16 ≠ 0 ∨ cMid cmd = 0 ∨ fpSupports (fpFunction s port) 0x0A = false ∨ measBad s (port - 128) then 0x0104
  else if (destPieces s x p).isNone then 0x0105
  else if portUp s port = false then 0x0502
  else 0

/-- First sample frame: PARAM_LO if it has not begun, otherwise the first later frame congruent to it (04 R150). -/
def firstSample (frame lo mid : Nat) : Nat :=
  if frame < lo then lo else frame + 1 + (lo % mid + mid - (frame + 1) % mid) % mid

/-- MEASURE ends normally: samples that were skipped stay in RESIDUAL. -/
def measureEnd (c : Nat) (time : Nat) (s : State) : State :=
  let x := s.ctx c
  endOrFence c time (cCount (x.cmds.headD 0) - x.moved) s

/-- MEASURE begins: its samples are numbered, the first frame found. A repeated one goes on after the samples written; those
whose frame has begun are not taken (05 R181; its first sample frame is taken to be PARAM_LO, log entry 17). -/
def measureOp (c : Nat) (s : State) : State :=
  let x := s.ctx c
  let cmd := x.cmds.headD 0
  let total := cCount cmd / 16
  let f := s.sched.frame.toNat
  let n := x.moved / 16
  let first := if x.repeats then cLo cmd else firstSample f (cLo cmd) (cMid cmd)
  let j := if x.repeats = false ∨ f < cLo cmd then n else min total (max n ((f - cLo cmd) / cMid cmd + 1))
  let s1 := (wakePort s (devPort (devEntry s (cDevice cmd)))).setCtx c { x with
    state := 3, begun := absCycle s, sampleIndex := j, sampleDone := j, sampleFrame := BitVec.ofNat 64 first, partialDone := x.partialDone || decide (n < j) }
  if total ≤ j then measureEnd c (coreNs s) s1 else s1

/-- MEASURE (04 R150). -/
def execMeasure (ctx : Nat) (s : State) : Host.Outcome State Fault Refusal :=
  done s (runStep ctx (· == 0x0A) (measureCheck (ctx / 1024)) measureOp s)

/-- Frame of sample `j` (04 R150). -/
def sampleAt (x : Ctx) (j : Nat) : Nat := x.sampleFrame.toNat + j * cMid (x.cmds.headD 0)

/-- At cycle 0 of a sample frame the transaction goes to the field port (04 R150, 10 R366). -/
def measureSampleS (c : Nat) (s : State) : State :=
  let x := s.ctx c
  let cmd := x.cmds.headD 0
  if stepOpen x = false ∨ cCode cmd ≠ 0x0A then s
  else if s.sched.frame.toNat = sampleAt x x.sampleIndex ∧ s.sched.cycle = 0 ∧ x.sampleIndex < cCount cmd / 16 then
    let port := devPort (devEntry s (cDevice cmd))
    let q := port - 128
    let cl := rf s R.FP_MEAS F.FP_MEAS_CMD_LEN q + 1
    let word := (rf s R.FP_MEAS F.FP_MEAS_CMD q ||| (cHi cmd % 256 * 2 ^ rf s R.FP_MEAS F.FP_MEAS_CH_SHIFT q)) % 2 ^ (8 * cl)
    emit ((wakePort s port).setCtx c { x with sampleIndex := x.sampleIndex + 1, begun := absCycle s })
      (.sample port word cl (rf s R.FP_MEAS F.FP_MEAS_RX_LEN q + 1))
  else s

/-- MEASURE_SAMPLE (04 R150). -/
def execMeasureSample (ctx : Nat) (s : State) : Host.Outcome State Fault Refusal := done s (measureSampleS ctx s)

/-- RAW of a reply, with its sign (10 R366, 09 R325). -/
def rawOf (s : State) (q : Nat) (code : Nat) : Int :=
  let w := min 24 (rf s R.FP_MEAS F.FP_MEAS_RES_WIDTH q + 1)
  let msb := rf s R.FP_MEAS F.FP_MEAS_RES_MSB q
  let v := code / 2 ^ (msb + 1 - w) % 2 ^ w
  if rb s R.FP_MEAS F.FP_MEAS_SIGNED q then signed w v else v

/-- The measurement slot of a device and channel (09 R327). -/
def slotOf (s : State) (dev chan : Nat) : Option Nat :=
  (List.range 64).find? fun j =>
    rb s R.CAL_SLOT F.CAL_SLOT_VALID j && rf s R.CAL_SLOT F.CAL_SLOT_DEVICE j == dev && rf s R.CAL_SLOT F.CAL_SLOT_CHANNEL j == chan

/-- Feeds that a sample of slot `j` from a queue of tenant `t` supplies (09 R337). -/
def feedsOf (s : State) (j : Nat) (t : BitVec 12) : List Nat :=
  (List.range 8).filter fun f =>
    rb s R.METER_FEED F.METER_FEED_ENABLE f && rf s R.METER_FEED F.METER_FEED_SLOT f == j && rf s R.METER_FEED F.METER_FEED_OWNER f == t.toNat

/-- Supply a feed with a power in mW; a negative value counts as 0. -/
def feed (v : Int) (s : State) (f : Nat) : State :=
  let m := s.meter
  wf (s.withMeter { m with power := Tbl.set 0 m.power f v.toNat, feedAge := Tbl.set 0 m.feedAge f 0 }) R.METER_FEED F.METER_FEED_STALE 0 f

/-- A reply is calibrated and its record written (09 R325-R327, R337). The first pin edge of the last transaction is the event time of the
step (04 R144; which transaction: DEDUCED, log entry 91). -/
def sampleRecordS (c code status : Nat) (edge : W64) (s : State) : State :=
  let x := s.ctx c
  let cmd := x.cmds.headD 0
  let port := devPort (devEntry s (cDevice cmd))
  if stepOpen x = false ∨ cCode cmd ≠ 0x0A ∨ x.sampleIndex ≤ x.sampleDone then s
  else if stepHost s c ∧ fnLive s x.fn = false then hold c (s.setCtx c { x with heldSample := some (code, status, edge) })
  else
    let raw := rawOf s (port - 128) code
    let slot := slotOf s (cDevice cmd) (cHi cmd % 256)
    let st := min status 6
    let value : Int := if st ≠ 0 then 0 else match slot with
      | some j => calibrate s (64 + j) raw
      | none => raw
    let feeds := if st ≠ 0 then [] else match slot with
      | some j => feedsOf s j x.tenant
      | none => []
    let rec_ := leBytes 16 (pack [(32, unsigned 32 raw), (32, unsigned 32 value), (32, sampleAt x x.sampleDone), (8, cHi cmd), (8, slot.getD 0xFF),
      (8, st), (8, b2n slot.isNone + 2 * b2n (!feeds.isEmpty))])
    let l := slicePieces ((destPieces s x (c / 1024)).getD []) (16 * x.sampleDone) 16
    let (s1, _, k) := memWrite x.fn x.master (destUnits l) rec_ 0 s
    let s2 := s1.setCtx c { s1.ctx c with
      sampleDone := x.sampleDone + 1, moved := if k = 0 then x.moved + 16 else x.moved, devStatus := BitVec.ofNat 16 st }
    if k ≠ 0 then stepFail c k x.moved s2
    else if st ≠ 0 then fieldFail c st s2
    else
      let s3 := checkpoint c (feeds.foldl (feed value) s2)
      if x.sampleDone + 1 < cCount cmd / 16 then s3 else measureEnd c edge.toNat s3

/-- SAMPLE_RECORD_WRITTEN (09 R325). -/
def execSampleRecordWritten (ctx : Nat) (code : BitVec 32) (status : SampleEnd) (s : State) : Host.Outcome State Fault Refusal :=
  done s (sampleRecordS ctx code.toNat status.status status.edge s)

/-! ## Steps whose record has become camp-durable (11 R387) -/

/-- The first operation of the step that a context has begun. -/
def issueStep (c : Nat) (s : State) : State :=
  match cCode ((s.ctx c).cmds.headD 0) with
  | 0x02 => ticOp c s
  | 0x03 => ticCondOp c s
  | 0x04 => waitOp c s
  | 0x05 => postOp c s
  | 0x06 => noteOp c s
  | 0x07 => stampOp c s
  | 0x08 => callOp c s
  | 0x09 => moveOp c s
  | 0x0A => measureOp c s
  | 0x01 => plainEnd c s
  | _ => deviceOp c s

/-- A context whose record has become durable goes on: its operation issues, or its ended step is over. -/
def releaseRecord (s : State) (c : Nat) : State :=
  let x := s.ctx c
  if x.mseq.isNone ∨ gateOpen s x.mseq = false then s
  else
    let u := s.setCtx c { x with mseq := none }
    if x.running = false then u
    else if x.issued then stepContinue c u
    else startOp c (issueStep c) u

/-- Everything that waited for the partner's DURABLE and need not wait any longer. -/
def releaseGates (s : State) : State :=
  let s1 := showStates s
  (s1.prog.ctxs.filter fun e => e.2.mseq.isSome).foldl (fun u e => releaseRecord u e.1) s1

/-! ## Power state and Bus Master Enable of a function (03 R111, R112, 04 R164) -/

/-- A context returns to the state that it left and issues the held access (04 R164): the step's first operation, what it had received,
the word or the record of a WAIT, or the fetch of a hosted command. -/
def releaseOne (c : Nat) (s : State) : State :=
  let x := s.ctx c
  let cmd := x.cmds.headD 0
  let late := x.running && cCode cmd == 4 && x.issued && decide (x.waitFrame.toNat + cCount cmd < s.sched.frame.toNat)
  let u := s.setCtx c { x with state := x.held, held := 0, heldDone := none, heldSample := none, waitLate := late }
  match x.heldDone, x.heldSample with
  | some r, _ => stepCompleteS c r u
  | none, some (code, st, edge) => sampleRecordS c code st edge u
  | none, none =>
    if x.running = false then fetchMore c u
    else if x.issued = false then (if x.mseq.isNone then startOp c (issueStep c) u else u)
    else if cCode cmd = 4 then (if waitKind cmd = 3 then readWord c u else waitEnd c u)
    else u

/-- HELD contexts of a function go on (04 R164). -/
def releaseCtxs (s : State) (fn : Nat) : State :=
  if fnLive s fn then (s.prog.ctxs.filter fun e => e.2.fn == fn && e.2.state == 5).foldl (fun u e => releaseOne e.1 u) s else s

/-- A function may access its memory again. -/
def releaseFn (s : State) (fn : Nat) : State := releaseCtxs (releaseQueues s fn) fn

/-- A function enters D3hot (03 R111); its PMCSR write also sets PME_En. -/
def d3EntryS (fn : Nat) (pmeEn : Bool) (s : State) : State :=
  let f := s.fn fn
  if f.present = false then s
  else
    let s1 := s.setFn fn { f with d3 := true, pmeEn := pmeEn }
    if fnHolds s1 fn then sendPme s1 fn else s1

/-- FUNCTION_D3HOT_ENTRY (03 R111). -/
def execFunctionD3hotEntry (fn : Nat) (pmeEn : Bool) (s : State) : Host.Outcome State Fault Refusal := doneReg s (d3EntryS fn pmeEn s)

/-- A function returns to D0 (03 R111). -/
def d0ReturnS (fn : Nat) (s : State) : State :=
  let f := s.fn fn
  if f.d3 then releaseFn (s.setFn fn { f with d3 := false, pmeStatus := false }) fn else s

/-- FUNCTION_D0_RETURN (03 R111). -/
def execFunctionD0Return (fn : Nat) (s : State) : Host.Outcome State Fault Refusal := doneReg s (d0ReturnS fn s)

/-- Bus Master Enable is cleared (03 R112). -/
def bmeClearS (fn : Nat) (s : State) : State := s.setFn fn { s.fn fn with bme := false }

/-- BUS_MASTER_ENABLE_CLEAR (03 R112). -/
def execBusMasterEnableClear (fn : Nat) (s : State) : Host.Outcome State Fault Refusal := doneReg s (bmeClearS fn s)

/-- Bus Master Enable is set (03 R112, 04 R164): a virtual function exists again with it (10 R357). -/
def bmeSetS (fn : Nat) (s : State) : State :=
  let f := s.fn fn
  if fnExists s fn = false ∨ f.bme ∨ (s.port (fnPort fn)).link = 0 then s
  else releaseFn (s.setFn fn { f with present := true, bme := true }) fn

/-- BUS_MASTER_ENABLE_SET (04 R164). -/
def execBusMasterEnableSet (fn : Nat) (s : State) : Host.Outcome State Fault Refusal := doneReg s (bmeSetS fn s)

end Sys2Proof.Machine
end

