-- ==== Sys2Proof/Machine/Recovery.lean ====
section
/-! DEFINITION. Recovery: reading records, recover_device, recover_entry, the reset of a pitch, the rebuild of a copy and the read
window (05 R168-R170, R188-R191, R196, R200). Host memory as recovery reads it is an operand: a list of address and byte cells;
a byte that is not listed could not be read. -/
namespace Sys2Proof.Machine

/-! ## Reading records (05 R168) -/

/-- Block `k` of copy A (false) or B (true) is readable. -/
def copyOk (r : Recov) (b : Bool) (k : Nat) : Bool := if b then !r.lostB && !r.badB.contains k else !r.lostA && !r.badA.contains k
def copyAt (r : Recov) (b : Bool) (k : Nat) : BitVec 512 := Tbl.get 0 (if b then r.copyB else r.copyA) k

/-- The copy that a record of `n` blocks from block `k` is read from; UPDATE stands at bit `lo` of the first block. -/
def pickCopy (r : Recov) (k n lo : Nat) : Option Bool :=
  let ok := fun b => (List.range n).all fun i => copyOk r b (k + i)
  if ok false ∧ ok true then some (decide (bitsOf (copyAt r true k) (lo + 31) lo < bitsOf (copyAt r false k) (lo + 31) lo))
  else if ok false then some false
  else if ok true then some true
  else none

/-- A progress, SQ state or CQ state record as a number; none if it is lost. -/
def readRec (r : Recov) (k n lo : Nat) : Option Nat :=
  (pickCopy r k n lo).map fun b => (List.range n).foldl (fun v i => v + (copyAt r b (k + i)).toNat * 2 ^ (512 * i)) 0

/-- A block of a record that has no UPDATE; none if both copies are unreadable. -/
def readBlock (r : Recov) (k : Nat) : Option (BitVec 512) :=
  if copyOk r false k then some (copyAt r false k) else if copyOk r true k then some (copyAt r true k) else none

def journalState (b : BitVec 512) : Nat := bitsOf b 135 128
def journalHere (b : BitVec 512) : Bool := journalState b == 1 || journalState b == 2

/-- A durable journal record: in both copies, with the lower STATE, or in the only readable one. -/
def readJournal (r : Recov) (k : Nat) : Option (BitVec 512) :=
  let a := copyAt r false k
  let b := copyAt r true k
  if copyOk r false k ∧ copyOk r true k then
    if journalHere a ∧ journalHere b ∧ bitsOf a 63 0 = bitsOf b 63 0 then some (if journalState b < journalState a then b else a) else none
  else if copyOk r false k then (if journalHere a then some a else none)
  else if copyOk r true k then (if journalHere b then some b else none)
  else none

/-- Blocks from `lo` to `hi` - 1 that some copy holds something of, in ascending order. -/
def recBlocks (r : Recov) (lo hi : Nat) : List Nat :=
  let ks := (r.copyA.map (·.1) ++ r.copyB.map (·.1) ++ r.badA ++ r.badB).filter fun k => decide (lo ≤ k ∧ k < hi)
  (ks.foldl (fun (t : Tbl Nat) k => Tbl.ins t k k) []).map (·.1)

/-- The progress record of an entry, and the context that holds it (05 R188). -/
def progFor (r : Recov) (num : Nat) (gen : BitVec 16) (seq : W32) : Option (Nat × BitVec 512 × Bool × Nat) :=
  (recBlocks r 0x400 0x2400).findSome? fun k =>
    match readRec r k 1 448 with
    | some v =>
      if fget v (13, 0) = num ∧ fget v (31, 16) = gen.toNat ∧ fget v (63, 32) = seq.toNat ∧ fget v (71, 64) ≠ 0 then
        some (k - 0x400, BitVec.ofNat 512 v, false, 0)
      else none
    | none => none

/-! ## Restoring functions and queues (05 R189 steps 1 and 2) -/

/-- The function record of `fn`: identity and MSI-X table. What a lost block held stays as the reset left it (log entry 93). -/
def restoreFn (r : Recov) (s : State) (fn : Nat) : State :=
  let b := fnBlock fn
  let msix := (List.range 256).foldl (fun t v =>
    match readBlock r (b + 64 + v / 4) with
    | some w => Tbl.set msixReset t v (BitVec.ofNat 128 (bitsOf w (128 * (v % 4) + 127) (128 * (v % 4))))
    | none => t) []
  s.setFn fn { s.fn fn with ident := ((readBlock r b).map (·.truncate 32)).getD (s.fn fn).ident, msix := msix }

/-- A queue's state record was lost (05 R189, RECOV_LOST_INFO). -/
def queueLost (s : State) (cq : Bool) (n : Nat) : State :=
  let s1 := if rb s R.RECOV_STATUS F.RECOV_STATUS_LOST then s
    else wr s R.RECOV_LOST_INFO (2 ^ 31 + b2n cq * 2 ^ 14 + n)
  wf s1 R.RECOV_STATUS F.RECOV_STATUS_LOST 1

/-- GENERATION in the SQ state record of SQ `n`, if it is readable. -/
def sqGeneration (r : Recov) (n : Nat) : Option Nat := (readRec r (sqBlock n) 2 128).map fun v => fget v (111, 96)

/-- CQ indexes that durable COMPLETING records of the present GENERATION of their SQ name in CQ `n` (05 R189 step 1). -/
def completingAt (r : Recov) (n : Nat) : List W32 :=
  (recBlocks r 0x100000 0x1100000).filterMap fun k =>
    match readJournal r k with
    | some b => if journalState b = 2 ∧ bitsOf b 157 144 = n ∧ sqGeneration r (bitsOf b 13 0) = some (bitsOf b 31 16) then some (b.extractLsb' 192 32)
      else none
    | none => none

/-- The later of a TAIL and the index after `i` (05 R189 step 1), on free-running 32-bit counts. -/
def tailPast (t i : W32) : W32 := if 0 < (i + 1 - t).toInt then i + 1 else t

/-- Restore a CQ into a slot from its record, with TAIL past every durable COMPLETING record that names it; its message of step 6 is due. -/
def restoreCq (r : Recov) (s : State) (fn slot v : Nat) : State :=
  let tail := (completingAt r (fget v (333, 320))).foldl tailPast (BitVec.ofNat 32 (fget v (31, 0)))
  let s1 := s.setCq fn slot { CQ.reset with
    tail := tail, decided := tail, head := BitVec.ofNat 32 (fget v (63, 32)), state := fget v (71, 64), shown := fget v (71, 64)
    base := BitVec.ofNat 64 (fget v (255, 192)), cfg := BitVec.ofNat 32 (fget v (287, 256) &&& cqCfgMask)
    mod := BitVec.ofNat 32 (fget v (319, 288)), assign := BitVec.ofNat 32 (fget v (351, 320)) }
  s1.withRecov { s1.recov with heldCqs := s1.recov.heldCqs ++ [qkey fn slot] }

/-- A skip of `n` units at `u` that the scan had passed. -/
def skipItem (u : W64) (n : Nat) : Item :=
  { unit := u, len := n, skip := true, units := [], seq := 0, cq := 0, f001 := false, durable := true, accepted := true,
    dispatched := false, decided := false, posted := false, recovered := false, frags := none, fragWait := none, mseq := none,
    ctx := none, again := none, resume := none, stale := none }

/-- Slot of the CQ of function `fn` with a device-wide number. -/
def cqNumbered (s : State) (fn n : Nat) : Option Nat :=
  ((s.cqs.find? fun e => e.1 / 256 == fn && e.2.valid && e.2.num == n).map (·.1 % 256))

/-- The entry of a journal record; its units are read again later. -/
def journalItem (s : State) (fn : Nat) (num : Nat) (gen : BitVec 16) (r : Recov) (changed lost : Bool) (b : BitVec 512) : Item :=
  let seq : W32 := b.extractLsb' 32 32
  let done := journalState b == 2
  { skipItem (b.extractLsb' 64 64) (bitsOf b 139 137 + 1) with
    skip := false, units := [BitVec.ofNat 256 (bitsOf b 143 136 + bitsOf b 191 160 * 2 ^ 32)], seq := seq
    cq := (cqNumbered s fn (bitsOf b 157 144)).getD 0, f001 := b.getLsbD 159, decided := done
    again := if done then none else some (changed, lost), resume := if done then none else progFor r num gen seq }

/-- Entries from SEQ `n` and unit `u` on, as the journal gives them, with the skips between them. -/
def restoreItems (r : Recov) (mk : BitVec 512 → Item) (num : Nat) (gen : BitVec 16) : Nat → W32 → W64 → List (Item × BitVec 512)
  | 0, _, _ => []
  | fuel + 1, n, u =>
    match readJournal r (journalBlock num n.toNat) with
    | none => []
    | some b =>
      if bitsOf b 31 16 = gen.toNat ∧ bitsOf b 63 32 = n.toNat then
        let i := mk b
        (if i.unit = u then [] else [(skipItem u (i.unit - u).toNat, 0)]) ++ (i, b) :: restoreItems r mk num gen fuel (n + 1) i.next
      else []

/-- Put a rewrite among the posts of a CQ, by ascending index. -/
def insertPost (head : W32) (p : Compl) : List Compl → List Compl
  | [] => [p]
  | x :: xs => if (p.index - head).toNat < (x.index - head).toNat then p :: x :: xs else x :: insertPost head p xs

/-- What one recovered journal record owes its CQ: a rewrite (05 R189 step 3), with TAIL past its index, or a reservation. -/
def restoreDebt (fn slot : Nat) (s : State) (e : Item × BitVec 512) : State :=
  let (i, b) := e
  if i.skip then s
  else if i.decided then
    let idx : W32 := b.extractLsb' 192 32
    let p : Compl := { sqFn := fn, sqSlot := slot, seq := i.seq, index := idx, entry := b.extractLsb' 256 256, immediate := false,
                       gate := none, rewrite := true, nth := 0 }
    satAdd (updCq s fn i.cq fun k =>
      let t := tailPast k.tail idx
      { k with tail := t, decided := t, posts := insertPost k.head p k.posts }) R.RECOV_COUNTS F.RECOV_COUNTS_REWRITTEN 1
  else updCq s fn i.cq fun k => { k with reservations := k.reservations + 1 }

/-- Restore an SQ into a slot from its record and the journal; ACCEPT and NEXT stand after its last entry, and the rest waits for
host memory. -/
def restoreSq (r : Recov) (changed lost : Bool) (s : State) (fn slot v assign : Nat) : State :=
  let gen := BitVec.ofNat 16 (fget v (111, 96))
  let num := assign % 2 ^ 14
  let done := BitVec.ofNat 32 (fget v (95, 64))
  let u := BitVec.ofNat 64 (fget v (63, 0))
  let l := restoreItems r (journalItem s fn num gen r changed lost) num gen 1024 (done + 1) u
  let last := (l.map (·.1)).getLast?
  let x := (last.map Item.next).getD u
  let f := s.fn fn
  let s1 := s.setSq fn slot { SQ.reset with
    consumed := u, completedSeq := done, generation := gen, state := fget v (115, 112), shown := fget v (115, 112)
    errorCause := fget v (119, 116), base := BitVec.ofNat 64 (fget v (319, 256)), index := BitVec.ofNat 64 (fget v (383, 320))
    cfg := BitVec.ofNat 32 (fget v (415, 384) &&& sqCfgMask), seqBase := BitVec.ofNat 32 (fget v (447, 416))
    start := BitVec.ofNat 64 (fget v (511, 448)), assign := BitVec.ofNat 32 assign, leases := BitVec.ofNat 64 (fget v (639, 576))
    items := l.map (·.1), accept := x, nextUnit := x, expected := (last.map fun i => i.seq + 1).getD (done + 1)
    tenant := f.tenant, master := f.master }
  let s2 := l.foldl (restoreDebt fn slot) s1
  s2.withRecov { s2.recov with heldSqs := s2.recov.heldSqs ++ [qkey fn slot] }

/-! ## Host memory (05 R188, R189) -/

/-- Bytes of host memory among the cells. -/
def cellBytes (host : List Host.Cell) (a : Nat) : Nat → Option (List Byte)
  | 0 => some []
  | n + 1 =>
    match host.find? (·.1 == a), cellBytes host (a + 1) n with
    | some e, some bs => some (e.2 :: bs)
    | _, _ => none

/-- Read host memory for a master: what is not permitted is denied; nothing where it cannot be read. -/
def hostRead (host : List Host.Cell) (m : BitVec 14) (k : AccKind) (a n : Nat) (s : State) : State × Option (List Byte) :=
  match hostDenied s m k a n with
  | some d => (d, none)
  | none => (s, cellBytes host a n)

/-- Ring units of an SQ from unit `u` on, as many as `n` (05 R188 re-reads under 03 R88). -/
def ringUnits (host : List Host.Cell) (fn slot : Nat) : Nat → Nat → State → State × Option (List (BitVec 256))
  | 0, _, s => (s, some [])
  | n + 1, u, s =>
    let q := s.sq fn slot
    match hostRead host q.master .rd (q.base.toNat + u % q.size * 32) 32 s with
    | (s1, none) => (s1, none)
    | (s1, some bs) =>
      match ringUnits host fn slot n (u + 1) s1 with
      | (s2, some us) => (s2, some (BitVec.ofNat 256 (leNat bs) :: us))
      | (s2, none) => (s2, none)

/-- Pass again the skip entries that follow the last entry (05 R189 step 2). -/
def passSkips (host : List Host.Cell) (fn slot : Nat) : Nat → State → State
  | 0, s => s
  | fuel + 1, s =>
    let q := s.sq fn slot
    let u := q.nextUnit.toNat
    match cellBytes host (q.base.toNat + u % q.size * 32) 32 with
    | none => s
    | some bs =>
      let h := BitVec.ofNat 256 (leNat bs)
      if (hostDenied s q.master .rd (q.base.toNat + u % q.size * 32) 32).isSome ∨ bitsOf h 0 0 ≠ (u / q.size + 1) % 2 ∨
          bitsOf h 7 4 ≠ 15 ∨ q.consumed.toNat + q.size ≤ u then s
      else
        let n := bitsOf h 3 1 + 1
        let x := q.nextUnit + BitVec.ofNat 64 n
        passSkips host fn slot fuel (s.setSq fn slot { q with items := q.items ++ [skipItem q.nextUnit n], nextUnit := x, accept := x })

/-- The 128-bit descriptors of a fragment table. -/
def descsOf : Nat → List Byte → List (BitVec 128)
  | 0, _ => []
  | n + 1, bs => BitVec.ofNat 128 (leAt bs 0 16) :: descsOf n (bs.drop 16)

/-- Descriptors of a table up to and with its last, one at a time. -/
def tableDescs (host : List Host.Cell) (m : BitVec 14) (a : Nat) : Nat → State → State × Option (List (BitVec 128))
  | 0, s => (s, some [])
  | n + 1, s =>
    match hostRead host m .rd a 16 s with
    | (s1, none) => (s1, none)
    | (s1, some bs) =>
      let d := BitVec.ofNat 128 (leNat bs)
      if d.getLsbD 96 ∨ d.getLsbD 97 then (s1, some [d])
      else
        match tableDescs host m (a + 16) n s1 with
        | (s2, some ds) => (s2, some (d :: ds))
        | (s2, none) => (s2, none)

/-- The fragments of a kind 3 entry, table by table. -/
def readFrags (host : List Host.Cell) (m : BitVec 14) : Nat → W64 → List (W64 × Nat) → State → State × Option (List (W64 × Nat))
  | 0, _, _, s => (s, none)
  | fuel + 1, a, acc, s =>
    match tableDescs host m a.toNat 256 s with
    | (s1, none) => (s1, none)
    | (s1, some ds) =>
      match walkTable ds acc with
      | none => (s1, none)
      | some (acc1, none) => (s1, some acc1)
      | some (acc1, some b) => readFrags host m fuel b acc1 s1

/-! ## recover_entry (05 R188) -/

/-- The units of an entry, and its fragments for kind 3, read again. -/
def rereadEntry (host : List Host.Cell) (fn slot : Nat) (i : Item) (s : State) :
    State × Option (List (BitVec 256) × Option (List (W64 × Nat))) :=
  match ringUnits host fn slot i.len i.unit.toNat s with
  | (s1, none) => (s1, none)
  | (s1, some us) =>
    let h := us.headD 0
    if eKind h = 3 ∧ kindBad h i.len = false then
      match readFrags host (s1.sq fn slot).master 16 (eData h) [] s1 with
      | (s2, some fs) => (s2, some (us, some fs))
      | (s2, none) => (s2, none)
    else (s1, some (us, none))

/-- The command of a recovered program at a position: a hosted one is read afresh (04 R133). -/
def commandAgain (host : List Host.Cell) (x : Ctx) (p pos : Nat) (s : State) : State × Option (BitVec 256) :=
  if x.kind ≠ 1 then (s, cmdAt s x pos)
  else
    let t := progTarget p pos
    if permitted s x.master .fetch t = false then (deny s x.master .fetch t, none)
    else
      match t with
      | .host a => (s, (cellBytes host a 32).map fun bs => BitVec.ofNat 256 (leNat bs))
      | .ddr a => if ddrGone s a ∨ ddrUncorr s a 32 then (s, none) else (s, some (BitVec.ofNat 256 (leNat (ddrRead s a 32))))
      | .sp _ _ => (s, none)

/-- The commands of the recovered step: one, or a chain. -/
def chainAgain (host : List Host.Cell) (x : Ctx) (p : Nat) : Nat → List (W64 × BitVec 256) → State → State × List (W64 × BitVec 256)
  | 0, l, s => (s, l)
  | fuel + 1, l, s =>
    match chainNext s x l with
    | .go pos =>
      match commandAgain host x p pos s with
      | (s1, some c) => chainAgain host x p fuel (l ++ [(BitVec.ofNat 64 pos, c)]) s1
      | (s1, none) => (s1, l)
    | _ => (s, l)

/-- Complete an entry at recovery. -/
def recoverEnd (fn slot : Nat) (i : Item) (e : Ending) (s : State) : State :=
  decideItem (updItem s fn slot i.seq fun i => { i with recovered := true, again := none }) fn slot i.seq e

/-- An entry with a progress record: complete it, or leave it to be placed. -/
def recoverFrom (host : List Host.Cell) (fn slot : Nat) (i : Item) (changed lost : Bool) (c0 : Nat) (r : BitVec 512) (s : State) : State :=
  let st := bitsOf r 71 64
  let ord := bitsOf r 95 80
  let finish := fun (status res : Nat) (u : State) => recoverEnd fn slot i (recordEnding r status ord res (!recordFresh r || status == 0x0701)) u
  if st = 4 then
    recoverEnd fn slot i { recordEnding r (bitsOf r 207 192) ord (bitsOf r 255 224) (r.getLsbD 79) with dev := bitsOf r 223 208 } s
  else if changed then finish 0x0702 0 s
  else
    let home := (s.sq fn slot).home
    let x := resumeCtx s fn slot i home r
    let (s1, l) := chainAgain host x home (max 1 x.budget) [] s
    let c := (l.headD (0, 0)).2
    let total := ((l.filter fun e => cCode e.2 != 2).map fun e => cCount e.2).foldl (· + ·) 0
    let res := total - bitsOf r 255 192
    if l.isEmpty then finish 0x0702 0 s1
    else if st = 2 then finish (if cFence c then 0x0701 else 0x0702) res s1
    else if r.getLsbD 76 ∧ (home ≠ bitsOf r 122 120 ∨ lost) then finish 0x0702 res s1
    else updItem s1 fn slot i.seq fun i => { i with again := none, recovered := true, resume := some (c0, r, cNotify c, total) }

/-- recover_entry of one entry. -/
def recoverEntry (host : List Host.Cell) (fn slot : Nat) (s : State) (i : Item) : State :=
  match i.again with
  | none => s
  | some (changed, lost) =>
    match rereadEntry host fn slot i s with
    | (s1, none) =>
      let e := match i.resume with
        | some (_, r, _) => recordEnding r 0x0702 (bitsOf r 95 80) 0 (!recordFresh r)
        | none => { Ending.queue 0x0702 true with flags := 2 }
      recoverEnd fn slot i e s1
    | (s1, some (us, fs)) =>
      let j := { i with units := us, frags := fs }
      let s2 := updItem s1 fn slot i.seq fun i => { i with units := us, frags := fs }
      match i.resume with
      | none => updItem s2 fn slot i.seq fun i => { i with again := none }
      | some (c0, r, _) =>
        if bitsOf r 71 64 = 1 ∧ recordFresh r then
          updItem s2 fn slot i.seq fun i => { i with again := none, resume := none, stale := if c0 < 8192 then some c0 else none }
        else recoverFrom host fn slot j changed lost c0 r s2

/-- Run recover_entry for every entry of an SQ that waits for it, in SEQ order. -/
def recoverEntries (host : List Host.Cell) (s : State) (k : Nat) : State :=
  let fn := k / 256
  let slot := k % 256
  if fnLive s fn then (s.sq fn slot).items.foldl (recoverEntry host fn slot) s else s

/-! ## recover_device (05 R189) -/

/-- Write the rewrites that a CQ holds (step 3). -/
def postRewrites (fn slot : Nat) : Nat → State → State
  | 0, s => s
  | fuel + 1, s =>
    match postReady s fn slot with
    | some p => if p.rewrite then postRewrites fn slot fuel (postOne s fn slot p) else s
    | none => s

/-- The rest of step 2 and step 4 of an SQ whose function may access its memory: skips, and the index record. -/
def recoverIndex (host : List Host.Cell) (s : State) (k : Nat) : State :=
  let fn := k / 256
  let slot := k % 256
  if fnLive s fn then
    let s1 := passSkips host fn slot (s.sq fn slot).size s
    advanceConsumed (oweIndex s1 fn slot 3) fn slot
  else s

/-- The message of a recovered CQ that is ACTIVE with IEN, once its function may access memory (step 6). -/
def recoverInterrupt (s : State) (k : Nat) : State :=
  if fnLive s (k / 256) then
    let s1 := s.withRecov { s.recov with heldCqs := s.recov.heldCqs.filter (· ≠ k) }
    if (s1.cq (k / 256) (k % 256)).state = 1 ∧ (s1.cq (k / 256) (k % 256)).ien then cqInterrupt s1 (k / 256) (k % 256) else s1
  else s

/-- Scan rounds of recovered SQs start. -/
def recoverScan (s : State) (k : Nat) : State :=
  if fnLive s (k / 256) then
    startRound (s.withRecov { s.recov with heldSqs := s.recov.heldSqs.filter (· ≠ k) }) (k / 256) (k % 256)
  else s

/-- Functions of a list of queue keys, each once. -/
def keyFns (ks : List Nat) : List Nat := (ks.map (· / 256)).eraseDups

/-- Digests of the image in force: program library, device table. -/
def libDigest (s : State) : BitVec 512 := BitVec.ofNat 512 (leNat s.trust.image.libraryDigest)
def devDigest (s : State) : BitVec 512 := BitVec.ofNat 512 (leNat s.trust.image.deviceDigest)

/-- The area header takes the digests of the image in force (05 R167). -/
def writeHeader (s : State) : State := putChanged s [(0, Config.areaBlock 5 0), (1, libDigest s), (2, devDigest s)]

/-- Once no SQ is held, the header takes the digests in force: a reset before finds the image changed again (05 R196). -/
def settleHeader (s : State) : State :=
  if s.recov.headerDue ∧ s.recov.heldSqs.isEmpty ∧ (s.sqs.all fun e => e.2.items.all fun i => i.again.isNone) then
    writeHeader (s.withRecov { s.recov with headerDue := false })
  else s

/-- Recovery goes on with host memory: for every held SQ whose function may access it, steps 2 to 6; then for entries that a pitch
reset or a lost channel left (R190, R191). -/
def recoverSteps (host : List Host.Cell) (s : State) : State :=
  let held := s.recov.heldSqs
  let live := held.filter fun k => fnLive s (k / 256)
  let fns := keyFns (live ++ s.recov.heldCqs.filter fun k => fnLive s (k / 256))
  let s1 := fns.foldl (fun u fn => (fnCqs u fn).foldl (fun w c => postRewrites fn c (w.cq fn c).posts.length w) u) s
  let s2 := live.foldl (recoverIndex host) s1
  let s3 := (s2.sqs.map (·.1)).foldl (recoverEntries host) s2
  let s4 := s3.recov.heldCqs.foldl recoverInterrupt s3
  settleHeader (live.foldl recoverScan s4)

/-- A recovery ends (05 RECOV_STATUS, RECOV_LAST_FRAME). -/
def recoveryEnded (s : State) (kind : Nat) : State :=
  let s1 := wf (wf s R.RECOV_STATUS F.RECOV_STATUS_RUNNING 0) R.RECOV_STATUS F.RECOV_STATUS_LAST_KIND kind
  wr s1 R.RECOV_LAST_FRAME s.sched.frame.toNat

/-- The steps of a recovery, its end where one of kind `kind` ends here, and the writes that waited for it (05 R189, R196). -/
def recoverOn (host : List Host.Cell) (kind : Option Nat) (s : State) : State :=
  let s1 := recoverSteps host s
  applyHeld (match kind with | some k => recoveryEnded s1 k | none => s1)

/-- The area header holds other digests than the image in force. Block 1 of the header holds the library's, block 2 the device
table's; the format in block 0 is free (DESIGN CHOICE, log entry 18). A lost digest counts as different (log entry 93). -/
def imageChanged (r : Recov) (s : State) : Bool := readBlock r 1 != some (libDigest s) || readBlock r 2 != some (devDigest s)

/-- Restore every queue that is not DISABLED, CQs first, from the records of the area (steps 1 and 2). -/
def restoreQueues (r : Recov) (changed : Bool) (s : State) : State :=
  let s1 := (recBlocks r 0x4000 0x8000).foldl (fun u k =>
    match readRec r k 1 128 with
    | none => queueLost u true (k - 0x4000)
    | some v => if fget v (71, 64) = 0 then u else restoreCq r u (fget v (172, 160)) (fget v (183, 176)) v) s
  ((recBlocks r 0x8000 0x10000).filter fun k => k % 2 == 0).foldl (fun u k =>
    match readRec r k 2 128 with
    | none => queueLost u false ((k - 0x8000) / 2)
    | some v => if fget v (115, 112) = 0 then u
      else restoreSq r changed true u (fget v (172, 160)) (fget v (183, 176)) v (fget v (543, 512))) s1

/-- A reset of the device has kept the recovery area, and recovery runs; once it has, it goes on for queues whose function could
not access host memory. Bit `TYPE` of the reset decides LAST_KIND. -/
def recoverDeviceS (host : List Host.Cell) (s : State) : State :=
  if recovering s then
    let r := s.recov
    let changed := imageChanged r s
    let s0 := wf s R.RECOV_STATUS F.RECOV_STATUS_IMAGE_CHANGED (b2n changed)
    let s1 := s0.withRecov { s0.recov with headerDue := true }
    let s2 := ((recBlocks r 0x40000 0x100000).map (fun k => (k - 0x40000) / 128)).eraseDups.foldl (restoreFn r) s1
    let s3 := restoreQueues r changed s2
    recoverOn host (some (if s.trust.resetKind = 4 then 2 else 1)) s3
  else recoverOn host none s

/-- RECOVER_DEVICE (05 R189). -/
def execRecoverDevice (host : List Host.Cell) (s : State) : Host.Outcome State Fault Refusal := done s (recoverDeviceS host s)

/-! ## Stopping contexts for recovery (05 R190, R191) -/

/-- Stop the entry of a context: its device step is abandoned, its call dropped, the context freed, and recover_entry is to run on
its record. -/
def stopCtx (lost : Bool) (s : State) (c : Nat) : State :=
  let x := s.ctx c
  if x.state = 0 then s
  else
    let s1 := (dropCall (undrain (abandon s c) (2 ^ 32 + c)) c).setCtx c Ctx.reset
    updItem s1 x.fn x.slot x.seq fun i =>
      if i.decided then i
      else { i with dispatched := false, ctx := none, again := some (false, lost)
                    resume := progFor s.recov (s.sq x.fn x.slot).num (s.sq x.fn x.slot).generation i.seq }

def State.withProg (s : State) (p : Prog) : State := { s with prog := p }

/-- Contexts of a pitch that are not FREE. -/
def pitchCtxs (s : State) (p : Nat) : List Nat := (s.prog.ctxs.filter fun e => e.1 / 1024 == p).map (·.1)

/-! ## The reset of a pitch (05 R190, 06 R243, 13 R440) -/

/-- The bytes of core `k` in the firmware store: its instruction, X and Y memories (06 R243). -/
def storeBytes (c : Core) (k : Nat) : List Byte :=
  tread 0 c.storeI 0 (coreMemSize k 0) ++ tread 0 c.storeX 0 (coreMemSize k 1) ++ tread 0 c.storeY 0 (coreMemSize k 2)

/-- The firmware store of a core has the digest that was kept with it (06 R243). -/
def storeOk (c : Core) (k : Nat) : Bool :=
  c.storeGood && (match c.storeDigest with
    | some d => shake256 (storeBytes c k) == d
    | none => true)

/-- Restore a core's memories from its firmware store; a digest that does not match halts it with cause 4 (06 R243). -/
def loadCore (s : State) (k : Nat) : State :=
  let c := s.core k
  s.setCore k { Core.reset with
    x := c.storeX, y := c.storeY, imem := c.storeI, storeX := c.storeX, storeY := c.storeY, storeI := c.storeI
    storeGood := storeOk c k, storeDigest := c.storeDigest, halt := if storeOk c k then 0 else 4, cc := c.cc }

/-- A core is reset: its agent, its interrupt state, its registers and its memories (06 R243, 08 R289, R301). -/
def resetCore (s : State) (k : Nat) : State := loadCore (agentReset s k) k

/-- The next powered pitch after `p`; `p` itself if there is none (05 R190). -/
def nextPitch (s : State) (p : Nat) : Nat := ((List.range 7).map fun i => (p + 1 + i) % 8).find? (domOn s) |>.getD p

/-- An SQ homed on a pitch that is off moves to the next powered one. -/
def rehome (p : Nat) (s : State) (k : Nat) : State :=
  let q := s.sq (k / 256) (k % 256)
  if q.valid ∧ q.state ≠ 0 ∧ q.home = p then
    let h := nextPitch s p
    writeSqRec (updSq s (k / 256) (k % 256) fun q => q.rehomeTo h) (k / 256) (k % 256)
  else s

/-- Entries that wait for a context and whose progress record was last written on the pitch are run through recover_entry again (05 R190). -/
def againWaiting (p : Nat) (lost : Bool) (s : State) : State :=
  { s with sqs := s.sqs.map fun e => (e.1, { e.2 with items := e.2.items.map fun i =>
      match i.resume with
      | some (_, r, _, _) => if i.decided = false ∧ bitsOf r 122 120 = p then { i with again := some (false, lost) } else i
      | none => i }) }

/-- Registers of a pitch that a pitch reset returns to their reset values; its fault register, its soft repairs and what the image
loaded stay (13 R438). -/
def pitchRegs (s : State) (p : Nat) : State :=
  let s1 := [R.PITCH_TENANT_BUDGET, R.PITCH_PROG_COUNTS, R.PITCH_CTX_SELECT, R.PITCH_CALL_COUNTS, R.BGT_CTRL, R.BGT_STATUS,
    R.SP_FAULT].foldl (fun u d => wr u d d.reset p) s
  (List.range 32).foldl (fun u b => wr u R.SP_BANK_ERR 0 p b) s1

/-- Scratchpad of a pitch: cleared where its domain was lost, the reserved part in any case (07 R247). -/
def clearScratch (s : State) (p from_ : Nat) : State :=
  s.withMem { s.mem with
    sp := Tbl.keep (fun k => k / 2 ^ 25 != p || decide (k % 2 ^ 25 < from_)) s.mem.sp
    spCheck := Tbl.keep (fun k => k / 2 ^ 20 != p || decide (k % 2 ^ 20 * 32 < from_)) s.mem.spCheck
    spBad := s.mem.spBad.filter fun k => k / 2 ^ 20 != p || decide (k % 2 ^ 20 * 32 < from_) }

/-- The test step, the shadow buffer and the holding buffer of a pitch are empty after its reset. -/
def pitchMem (s : State) (p : Nat) : State :=
  let s1 := s.withMem { s.mem with
    tests := Tbl.del s.mem.tests p, shadow := Tbl.keep (fun k => k / 64 != p) s.mem.shadow }
  s1.withSched { s1.sched with held := s1.sched.held.filter fun x => x.place != p }

/-- A pitch reset (05 R190). -/
def pitchResetS (p : Nat) (host : List Host.Cell) (s : State) : State :=
  if s.power.pitchPending.contains p = false ∨ recovering s then s
  else
    let lost := decide (4 ≤ domState s p) || s.power.pitchLost.contains p
    let s1 := { s with power := { s.power with
      pitchPending := s.power.pitchPending.filter (· ≠ p), pitchLost := s.power.pitchLost.filter (· ≠ p) } }
    let s2 := if lost then (s1.sqs.map (·.1)).foldl (rehome p) s1 else s1
    let s3 := againWaiting p lost ((pitchCtxs s2 p).foldl (stopCtx lost) s2)
    let s4 := pitchMem (clearScratch (pitchRegs s3 p) p (if lost then 0 else spReserved s p)) p
    let s5 := (List.range 4).foldl (fun u k => loadCore u (4 * p + k)) (agentsReset s4 [34 + p, 4 * p, 4 * p + 1, 4 * p + 2, 4 * p + 3])
    let s6 := routineCopy p (libCopy p (s5.withProg { s5.prog with libraryBad := s5.prog.libraryBad.filter (· ≠ p) }))
    let s7 := if lost then wf s6 R.PITCH_FAULT F.PITCH_FAULT_DOMAIN_LOST 1 p else s6
    let s8 := if s.power.pitchAsked.contains p then
        { wf s7 R.PITCH_FAULT F.PITCH_FAULT_REQUESTED 1 p with
          power := { s7.power with pitchAsked := s7.power.pitchAsked.filter (· ≠ p) } }
      else s7
    recoverOn host (some 3) s8

/-- PITCH_RESET (05 R190). -/
def execPitchReset (p : Nat) (host : List Host.Cell) (s : State) : Host.Outcome State Fault Refusal := done s (pitchResetS p host s)

/-- PITCH_FAULT (04 R166). -/
def execPitchFault (p : Nat) (s : State) : Host.Outcome State Fault Refusal := done s (pitchFaultS p s)

/-! ## Loss and rebuild of a copy (05 R170, R191) -/

/-- A DDR5 channel that holds a copy is lost: the survivor goes on alone, and SPARE is rebuilt if it is powered and neither copy. -/
def copyLost (s : State) (ch : Nat) : State :=
  if recovOn s = false then s
  else
    let a := ch == rf s R.RECOV_CFG F.RECOV_CFG_COPY_A
    let b := ch == rf s R.RECOV_CFG F.RECOV_CFG_COPY_B
    let sp := rf s R.RECOV_CFG F.RECOV_CFG_SPARE
    let r := s.recov
    if a ∨ b then
      let s1 := s.withRecov { r with lostA := r.lostA || a, lostB := r.lostB || b }
      let s2 := wf (s1.withCamp { s1.camp with lostA := s1.camp.lostA || a, lostB := s1.camp.lostB || b })
        R.RECOV_STATUS F.RECOV_STATUS_SINGLE_COPY 1
      let other := if a then rf s R.RECOV_CFG F.RECOV_CFG_COPY_B else rf s R.RECOV_CFG F.RECOV_CFG_COPY_A
      if sp < 12 ∧ domOn s (32 + sp) ∧ sp ≠ ch ∧ sp ≠ other ∧ (s2.recov.lostA && s2.recov.lostB) = false then
        wf (s2.withRecov { s2.recov with rebuild := some sp }) R.RECOV_STATUS F.RECOV_STATUS_REBUILD_BUSY 1
      else s2
    else if r.rebuild = some ch then wf (s.withRecov { r with rebuild := none }) R.RECOV_STATUS F.RECOV_STATUS_REBUILD_BUSY 0
    else s

/-- The copy into SPARE ends: SPARE takes the lost channel's role (05 R170). -/
def rebuildCompleteS (s : State) : State :=
  let r := s.recov
  match r.rebuild with
  | none => s
  | some ch =>
    let s1 := if r.lostA then
        wf (s.withRecov { r with copyA := r.copyB, badA := r.badB, lostA := false, rebuild := none }) R.RECOV_CFG F.RECOV_CFG_COPY_A ch
      else wf (s.withRecov { r with copyB := r.copyA, badB := r.badA, lostB := false, rebuild := none }) R.RECOV_CFG F.RECOV_CFG_COPY_B ch
    wf (wf s1 R.RECOV_STATUS F.RECOV_STATUS_SINGLE_COPY 0) R.RECOV_STATUS F.RECOV_STATUS_REBUILD_BUSY 0

/-- REBUILD_COMPLETE (05 R170). -/
def execRebuildComplete (s : State) : Host.Outcome State Fault Refusal := done s (rebuildCompleteS s)

/-! ## The read window (05 R200) -/

/-- A write to RECOV_READ_SELECT starts a fetch. -/
def readSelectS (v : Nat) (s : State) : State :=
  let s1 := wf (swRw s R.RECOV_READ_SELECT v) R.RECOV_STATUS F.RECOV_STATUS_READ_BUSY 1
  s1.withRecov { s1.recov with readPending := true }

/-- RECOV_READ_SELECT (05 R200). -/
def execRecovReadSelect (v : W32) (s : State) : Host.Outcome State Fault Refusal := doneMgmt s (readSelectS v.toNat s)

/-- First block and number of blocks of each area of the read window. -/
def areaBlocks : List (Nat × Nat) :=
  [(0x100000, 0x1000000), (0x8000, 0x8000), (0x4000, 0x4000), (0x400, 0x2000), (0x10000, 0x20000), (0, 0x400)]

/-- RECOV_READ_DATA takes a block. -/
def readDataPut (s : State) (b : BitVec 512) : State :=
  (List.range 8).foldl (fun u i => wr u R.RECOV_READ_DATA (bitsOf b (64 * i + 63) (64 * i)) i) s

/-- The fetch of the read window ends. A block outside its area and the data of an unreadable copy are free values (log entry 18). -/
def readCompleteS (s : State) : State :=
  if s.recov.readPending = false then s
  else
    let s1 := wf (s.withRecov { s.recov with readPending := false }) R.RECOV_STATUS F.RECOV_STATUS_READ_BUSY 0
    let area := rf s R.RECOV_READ_SELECT F.RECOV_READ_SELECT_AREA
    let b := rb s R.RECOV_READ_SELECT F.RECOV_READ_SELECT_COPY
    let i := rf s R.RECOV_READ_SELECT F.RECOV_READ_SELECT_INDEX
    match areaBlocks[area]? with
    | none => wf (readDataPut s1 0) R.RECOV_STATUS F.RECOV_STATUS_READ_ERR 0
    | some (base, n) =>
      let ok := copyOk s.recov b (base + i)
      let v := if n ≤ i ∨ ok = false then Config.areaBlock area i else copyAt s.recov b (base + i)
      wf (readDataPut s1 v) R.RECOV_STATUS F.RECOV_STATUS_READ_ERR (b2n (!ok))

/-- RECOV_READ_COMPLETE (05 R200). -/
def execRecovReadComplete (s : State) : Host.Outcome State Fault Refusal := done s (readCompleteS s)

end Sys2Proof.Machine
end

