-- ==== Sys2Proof/Machine/Cores.lean ====
section
/-! DEFINITION. Control of the Isquin cores from outside them: HALT, RESUME, CORE_RESET, the registers that show a core, and the
limit of a call (06 R229, R242-R244). -/
namespace Sys2Proof.Machine

/-- Core `k` exists and its domain has power, retention included (13 R434). -/
def corePowered (s : State) (k : Nat) : Bool := decide (k < 33) && domPowered s (coreDomain k)

/-- Setting HALT (06 ISQ_CTRL): a core that runs halts with cause 1. Every command stands between two boundaries of the core, so
the next boundary is now. -/
def haltS (k : Nat) (s : State) : State :=
  if corePowered s k ∧ (s.core k).halt = 0 then s.setCore k { s.core k with halt := 1 } else s

/-- HALT (06 R229). -/
def execHalt (core : Nat) (s : State) : Host.Outcome State Fault Refusal := doneMgmt s (haltS core s)

/-- Setting RESUME (06 ISQ_CTRL): a halt of cause 1 ends at the halted PC; a CALL that waited for a core may be queued (R239). -/
def resumeS (k : Nat) (s : State) : State :=
  if corePowered s k ∧ (s.core k).halt = 1 then retryCalls (k / 4) (s.setCore k { s.core k with halt := 0 }) else s

/-- RESUME (06 R229). -/
def execResume (core : Nat) (s : State) : Host.Outcome State Fault Refusal := doneMgmt s (resumeS core s)

/-- Setting CORE_RESET (06 R243): the core is reloaded and restarted and keeps its call queue. A call it was running goes on to its
limit. -/
def coreResetS (k : Nat) (s : State) : State :=
  if corePowered s k then
    let s1 := resetCore s k
    retryCalls (k / 4) (s1.setCore k { s1.core k with calls := (s.core k).calls })
  else s

/-- CORE_RESET (06 R243). -/
def execCoreReset (core : Nat) (s : State) : Host.Outcome State Fault Refusal := doneMgmt s (coreResetS core s)

/-- A write of ISQ_CTRL of core `k`. -/
def isqCtrlS (k v : Nat) (s : State) : State :=
  if v.testBit 2 then coreResetS k s
  else
    let s1 := if v.testBit 1 then resumeS k s else s
    if v.testBit 0 then haltS k s1 else s1

/-- ISQ_CTRL, ISQ_STATUS and ISQ_PC of core `k` as they read. -/
def isqCtrlRead (s : State) (k : Nat) : Nat := b2n ((s.core k).halt == 1)

def isqStatusRead (s : State) (k : Nat) : Nat :=
  let c := s.core k
  c.halt * 2 ^ 12 + b2n (coreHalted s k) * 2 ^ 11 + b2n (coreAsleep c) * 2 ^ 10 + b2n (c.csr.getLsbD 14) * 2 ^ 9 +
    b2n (c.csr.getLsbD 13) * 2 ^ 8 + c.calls.length

def isqPcRead (s : State) (k : Nat) : Nat := (s.core k).pc.toNat

/-! ## The limit of a call (06 R242) -/

/-- The routine of a context's CALL reads uncorrectable data (07 R253). -/
def callUncorr (s : State) (c : Nat) : Bool :=
  (List.range 4).any fun k => match (s.core (c / 1024 * 4 + k)).current with
    | some a => a.ctx == c && !a.expired && a.uncorr
    | none => false

/-- LIMIT cycles of the routine have passed since the CALL step of context `c` began. -/
def limitPassed (s : State) (c : Nat) : Bool :=
  let x := s.ctx c
  decide (x.begun + routine s (c / 1024) (cMid (x.cmds.headD 0) % 2 ^ 16) / 2 ^ 28 % 2 ^ 24 ≤ absCycle s)

/-- The CALL step ends with 0x0603, or with 0x0402 where its routine read uncorrectable data; a queued call is removed, a running
one goes on without its caller (06 R242, 07 R253). -/
def callLimitS (c : Nat) (s : State) : State :=
  let x := s.ctx c
  if x.running = false ∨ cCode (x.cmds.headD 0) ≠ 8 ∨ limitPassed s c = false then s
  else
    let s1 := dropCall s c
    if callUncorr s c then stepFail c 0x0402 0 s1
    else stepFail c 0x0603 0 (satAdd s1 R.PITCH_CALL_COUNTS F.PITCH_CALL_COUNTS_LIMITS 1 (c / 1024))

/-- CALL_LIMIT (06 R242). -/
def execCallLimit (ctx : Nat) (s : State) : Host.Outcome State Fault Refusal := done s (callLimitS ctx s)

end Sys2Proof.Machine
end

