-- ==== Sys2Proof/Machine/Ports.lean ====
section
/-! DEFINITION. Ports, MACs, the management Ethernet port, field pins and the link test (10; 04 R157, 05 R184-R187). -/
namespace Sys2Proof.Machine

/-! ## Quads and their ports (10 R352, R353) -/

def quadPers (s : State) (q : Nat) : Nat := rf s R.QUAD_CFG F.QUAD_CFG_PERSONALITY q

/-- Ports of a quad, in order. -/
def quadPorts (s : State) (q : Nat) : List Nat :=
  let p := rf s R.QUAD_CFG F.QUAD_CFG_PORT q
  let n := rf s R.QUAD_CFG F.QUAD_CFG_ETH_MODE q
  if quadPers s q = 1 ∨ quadPers s q = 2 then [p]
  else if quadPers s q = 3 then (if n = 0 then [p, p + 1, p + 2, p + 3] else if n = 1 then [p, p + 1] else [p])
  else []

/-- Quads that carry a port. -/
def portQuads (s : State) (port : Nat) : List Nat := (List.range 24).filter fun q => (quadPorts s q).contains port

/-- Lanes of a quad that its port number `i` uses at a PCIe width code. -/
def portLanes (s : State) (q i width : Nat) : Nat :=
  if quadPers s q = 3 then
    (let n := rf s R.QUAD_CFG F.QUAD_CFG_ETH_MODE q
     if n = 0 then 2 ^ i else if n = 1 then 3 * 4 ^ i else 15)
  else if width = 0 then 1 else if width = 1 then 3 else 15

def inTest (s : State) (q : Nat) : Bool := rb s R.QUAD_TEST F.QUAD_TEST_TEST q

/-- QUAD_STATUS of one quad of a port that is up at a rate and width, or down; what CDR_LOCK then shows is free. -/
def quadShow (up : Bool) (port rate width : Nat) (s : State) (q : Nat) : State :=
  let i := (quadPorts s q).idxOf port
  let links := rf s R.QUAD_STATUS F.QUAD_STATUS_LINK_UP q
  let bit := 2 ^ i
  let s1 := wf s R.QUAD_STATUS F.QUAD_STATUS_LINK_UP (if up then links ||| bit else links - (links &&& bit)) q
  if up then
    let cdr := rf s1 R.QUAD_STATUS F.QUAD_STATUS_CDR_LOCK q ||| portLanes s q i width
    wf (wf (wf s1 R.QUAD_STATUS F.QUAD_STATUS_CDR_LOCK cdr q) R.QUAD_STATUS F.QUAD_STATUS_RATE rate q)
      R.QUAD_STATUS F.QUAD_STATUS_NEG_WIDTH (if quadPers s q = 3 then 0 else width) q
  else
    let (f, s2) := takeFree s1
    let mine := if quadPers s q = 3 then portLanes s q i 0 else 15
    let cdr := rf s2 R.QUAD_STATUS F.QUAD_STATUS_CDR_LOCK q
    let s3 := wf s2 R.QUAD_STATUS F.QUAD_STATUS_CDR_LOCK ((cdr - (cdr &&& mine)) ||| (f.toNat % 16 &&& mine)) q
    if links - (links &&& bit) = 0 then wf (wf s3 R.QUAD_STATUS F.QUAD_STATUS_RATE 0 q) R.QUAD_STATUS F.QUAD_STATUS_NEG_WIDTH 0 q else s3

def showPort (s : State) (up : Bool) (port rate width : Nat) : State := (portQuads s port).foldl (quadShow up port rate width) s

/-- A port's link comes up (10 R353-R355); the physical function of an endpoint port then exists. Number 256 is the management
Ethernet port. -/
def linkUpS (port rate width : Nat) (s : State) : State :=
  if port = 256 then wf s R.MGMT_ETH_CTRL F.MGMT_ETH_CTRL_LINK 1
  else
    let qs := portQuads s port
    if qs.isEmpty ∨ qs.any (inTest s) ∨ (s.port port).link ≠ 0 ∨ fenced s then s
    else
      let s1 := showPort (s.setPort port { s.port port with link := 1, width := width }) true port rate width
      let s2 := if port < 48 ∧ width < rf s R.QUAD_CFG F.QUAD_CFG_WIDTH (qs.headD 0) then wf s1 R.PORT_FAULT F.PORT_FAULT_WIDTH_DEGRADED 1
        else s1
      if port < 24 ∧ fnExists s2 (port * 256) then s2.setFn (port * 256) { s2.fn (port * 256) with present := true } else s2

/-- LINK_UP (10 R355). -/
def execLinkUp (port rate width : Nat) (s : State) : Host.Outcome State Fault Refusal := doneUp s (linkUpS port rate width s)

/-- Steps outstanding through a port end with 0x0502 (04 R157). -/
def endPortSteps (s : State) (port : Nat) : State :=
  (s.prog.ctxs.filter fun e =>
    let c := e.2.cmds.headD 0
    e.2.running && e.2.issued && (!e.2.fenceWait || peerFence s e.2) && isDevice (cCode c) && devPort (devEntry s (cDevice c)) == port).foldl
      (fun u e => stepFail e.1 0x0502 (u.ctx e.1).moved u) s

/-- A port that was up goes down; `fault`: other than into test (PORT_FAULT.LINK_DOWN). -/
def portDown (s : State) (port : Nat) (fault : Bool) : State :=
  let p := s.port port
  if p.link = 0 then s
  else
    let s1 := showPort (s.setPort port { p with link := 0, width := 0, due := [] }) false port 0 0
    if fault then wf s1 R.PORT_FAULT F.PORT_FAULT_LINK_DOWN 1 else s1

/-- The functions of an endpoint port lose their configuration: masks set, their virtual functions gone; messages that were due
set their pending bits (10 R357). -/
def fnLinkReset (s : State) (fn : Nat) : State :=
  let s1 := fnConfigReset s fn
  if fn % 256 = 0 then s1 else s1.setFn fn { s1.fn fn with present := false }

/-- Link down, Hot Reset or conventional reset of an endpoint port (10 R357, 08 R277). -/
def endpointDown (s : State) (port : Nat) (fault : Bool) : State :=
  let due := (s.port port).due
  let s1 := portDown s port fault
  let s2 := due.foldl (fun u e => setPba u e.1 e.2) s1
  let s3 := ((s2.fns.filter fun e => e.1 / 256 == port).map (·.1)).foldl fnLinkReset s2
  if mgmtFn s3 / 256 = port then agentReset s3 33 else s3

/-- LINK_DOWN (10 R357). -/
def execLinkDown (port : Nat) (s : State) : Host.Outcome State Fault Refusal :=
  doneUp s (if port < 24 ∧ (portQuads s port).isEmpty = false then endpointDown s port true else s)

/-- A root port goes down (10 R358). -/
def rootDown (s : State) (port : Nat) (fault : Bool) : State := endPortSteps (portDown s port fault) port

/-- ROOT_PORT_LINK_DOWN (10 R358). -/
def execRootPortLinkDown (port : Nat) (s : State) : Host.Outcome State Fault Refusal :=
  done s (if 32 ≤ port ∧ port < 48 then rootDown s port true else s)

/-- ETHERNET_LINK_DOWN (04 R157): a MAC, or the management Ethernet port. -/
def execEthernetLinkDown (mac : Nat) (s : State) : Host.Outcome State Fault Refusal :=
  done s (if mac = 256 then wf s R.MGMT_ETH_CTRL F.MGMT_ETH_CTRL_LINK 0 else if 64 ≤ mac ∧ mac < 96 then rootDown s mac true else s)

/-- A link enters L1 (03 R110). -/
def l1EntryS (port : Nat) (s : State) : State :=
  let p := s.port port
  if port < 24 ∧ p.link = 1 then s.setPort port { p with link := 2 } else s

/-- L1_ENTRY (03 R110). -/
def execL1Entry (port : Nat) (s : State) : Host.Outcome State Fault Refusal := doneUp s (l1EntryS port s)

/-- A Configuration Request while trailhead runs is answered with Retry Status (12 R416). -/
def configRequestS (fn : Nat) (s : State) : State :=
  if s.trust.phase = 4 ∧ fnExists s fn ∧ (s.port (fnPort fn)).link ≠ 0 then emit s (.crs fn) else s

/-- CONFIGURATION_REQUEST (12 R416). -/
def execConfigurationRequest (fn : Nat) (s : State) : Host.Outcome State Fault Refusal := doneUp s (configRequestS fn s)

/-! ## Peer streams (05 R185, R187) -/

def byteField (l : List Byte) (o n : Nat) : Nat := leAt l o n

/-- Block `k` of peer stream record `n`. -/
def peerRec (s : State) (n k : Nat) : BitVec 512 := recBlock s (peerBlock n + k)

/-- Record that holds the stream (SENDER, SQ, GENERATION). -/
def findStream (s : State) (sender sq gen : Nat) : Option Nat :=
  (List.range 1024).find? fun n =>
    let h := peerRec s n 0
    h.getLsbD 0 && bitsOf h 29 16 == sq && bitsOf h 63 32 == sender && bitsOf h 79 64 == gen

/-- Record for a new stream: the lowest free one, or the stream idle longest, if for at least 60,000,000 frames. -/
def newStream (s : State) : Option Nat :=
  match (List.range 1024).find? fun n => !(peerRec s n 0).getLsbD 0 with
  | some n => some n
  | none =>
    match leastBy (fun n => bitsOf (peerRec s n 0) 191 128) (List.range 1024) with
    | some n => if bitsOf (peerRec s n 0) 191 128 + 60000000 ≤ s.sched.frame.toNat then some n else none
    | none => none

/-- Two blocks of a record as one number: the first that holds slot `j`, and the next. -/
def slotBlock (j : Nat) : Nat := (0x40 + 6 * j) / 64
def slotBit (j : Nat) : Nat := (0x40 + 6 * j) % 64 * 8
def slotPair (s : State) (n j : Nat) : Nat :=
  (peerRec s n (slotBlock j)).toNat + (peerRec s n (slotBlock j + 1)).toNat * 2 ^ 512

/-- Header of a stream record. -/
def streamHead (sender sq gen base frame update : Nat) : BitVec 512 :=
  BitVec.ofNat 512 (pack [(8, 1), (8, 0), (16, sq), (32, sender), (16, gen), (16, 0), (32, base), (64, frame), (32, update)])

/-- A frame with a peer trailer arrives (R185): whether it is delivered, and whether it is answered; the stream record is written
first. BASE and SEQ compare modulo 2^32 (DEDUCED, log entry 20). -/
def peerArrive (s : State) (t : List Byte) : State × Bool × Bool :=
  let sender := byteField t 0 4
  let sq := byteField t 4 2 % 2 ^ 14
  let gen := byteField t 6 2
  let seq := byteField t 8 4
  let ord := byteField t 12 2
  let low := byteField t 16 4
  let later := fun (a b : Nat) => decide (0 < (a + 2 ^ 32 - b) % 2 ^ 32 ∧ (a + 2 ^ 32 - b) % 2 ^ 32 < 2 ^ 31)
  let found := findStream s sender sq gen
  match found.or (newStream s) with
  | none => (satAdd s R.PEER_COUNTS F.PEER_COUNTS_TABLE_FULL 1, false, false)
  | some n =>
    let s1 := if found.isSome then s else putChanged s ((List.range 97).map fun k => (peerBlock n + 1 + k, 0))
    let old := if found.isSome then bitsOf (peerRec s n 0) 127 96 else low
    let base := if later low old then low else old
    let j := seq % 1024
    let v := slotPair s1 n j
    let b := slotBit j
    let holds := fget v (b + 31, b) == seq && decide (ord < fget v (b + 47, b + 32))
    let dup := later base seq || holds
    let v1 := if dup then v else fset (fset v (b + 31, b) seq) (b + 47, b + 32) (ord + 1)
    let s2 := putChanged s1
      [(peerBlock n, streamHead sender sq gen base s.sched.frame.toNat (bitsOf (peerRec s n 0) 223 192 + 1)),
       (peerBlock n + slotBlock j, BitVec.ofNat 512 v1), (peerBlock n + slotBlock j + 1, BitVec.ofNat 512 (v1 / 2 ^ 512))]
    (if dup then satAdd s2 R.PEER_COUNTS F.PEER_COUNTS_DUPLICATES 1 else s2, !dup, true)

/-- The acknowledgement of a frame: its trailer with ACK set, to the frame's source; the sender's address is free (R185). -/
def peerAck (mac : Nat) (frame t : List Byte) (s : State) : State :=
  let (src, s1) := freeBytes 6 s
  let (pad, s2) := freeBytes 22 s1
  let flags := byteField t 14 2
  let ack := t.take 14 ++ leBytes 2 (flags ||| 4) ++ t.drop 16
  let ty := s.trust.peerType.toNat
  let f := (frame.drop 6).take 6 ++ src ++ [BitVec.ofNat 8 (ty / 256), BitVec.ofNat 8 ty] ++ pad ++ ack
  macAdd (macAdd (emit s2 (.frame mac 0 none f)) mac 0 1) mac 1 (f.length + 4)

/-! ## Received frames (10 R359, R360, 04 R456) -/

/-- A steering record matches a frame: its destination address, and its VLAN ID or any. -/
def steerMatch (r : BitVec 128) (frame : List Byte) : Bool :=
  let dst := leNat ((frame.take 6).reverse)
  let tagged := frame.getD 12 0 == 0x81 && frame.getD 13 0 == 0x00
  let vid := (frame.getD 14 0).toNat % 16 * 256 + (frame.getD 15 0).toNat
  bitsOf r 7 0 == 5 && bitsOf r 111 64 == dst && (r.getLsbD 40 || (tagged && bitsOf r 59 48 == vid))

/-- Receive queue of a frame (10 R360). -/
def steerQueue (s : State) (mac : Nat) (frame : List Byte) : Nat :=
  match (List.range 256).find? fun e => steerMatch (Tbl.get 0 s.ports.steer (mac * 256 + e)) frame with
  | some e => bitsOf (Tbl.get 0 s.ports.steer (mac * 256 + e)) 39 32
  | none => 0

/-- Some device table entry that names the queue has PEER set (05 R185). -/
def peerQueue (s : State) (mac q : Nat) : Bool :=
  s.prog.devices.any fun e => devPers e.2 == 2 && devPeer e.2 && devPort e.2 == mac && devSelect e.2 % 256 == q

/-- The partition of a receive queue has room for a frame. -/
def rxRoom (s : State) (mac q : Nat) (frame : List Byte) : Bool :=
  let k := Config.rxPartition (mac * 256 + q)
  decide (usedSlots s 12 k + frameSlots frame ≤ partSlots s 12 k)

/-- A frame lands in a receive queue. -/
def deliverFrame (s : State) (mac q : Nat) (frame : List Byte) (octets : Nat) : State :=
  let r := rxQ s mac q
  let s1 := setRxQ s mac q { r with frames := r.frames ++ [frame] }
  let s2 := (List.range ((octets + 63) / 64)).foldl (fun u _ => guyPort u mac 1) s1
  macAdd (macAdd { s2 with ports := { s2.ports with arrivals := s2.ports.arrivals ++ [mac * 256 + q] } } mac 2 1) mac 3 octets

/-- An Ethernet frame arrives, without its FCS; `bad`: its FCS was wrong (10 R359, R360, 05 R185). -/
def frameReceivedS (mac : Nat) (frame : List Byte) (bad : Bool) (s : State) : State :=
  let n := frame.length + 4
  if (s.port mac).link = 0 ∨ mac < 64 ∨ 96 ≤ mac then s
  else if 9604 < n then macAdd s mac 5 1
  else if bad ∨ n < 64 then macAdd s mac 4 1
  else
    let q := steerQueue s mac frame
    if (rxQ s mac q).paused then macAdd s mac 7 1
    else if rxRoom s mac q frame = false then macAdd (setRxQ s mac q { rxQ s mac q with overflow := true }) mac 6 1
    else if peerQueue s mac q = false then deliverFrame s mac q frame n
    else
      let t := frame.drop (frame.length - 24)
      if (byteField t 14 2).testBit 2 then s
      else
        match peerArrive s t with
        | (s1, take, answer) =>
          let s2 := if take then deliverFrame s1 mac q (frame.take (frame.length - 24)) n else s1
          if answer ∧ (byteField t 14 2).testBit 1 then peerAck mac frame t s2 else s2

/-- FRAME_RECEIVED (10 R360). -/
def execFrameReceived (mac : Nat) (frame : List (BitVec 8)) (bad : Bool) (s : State) : Host.Outcome State Fault Refusal :=
  done s (frameReceivedS mac frame bad s)

/-! ## The management Ethernet port (10 R361) -/

/-- Size of a ring, and the address of a descriptor. -/
def mgmtSize (s : State) (k : Nat) : Nat :=
  let n := rf s R.MGMT_ETH_RING F.MGMT_ETH_RING_SIZE_LOG2 k
  2 ^ (if 4 ≤ n ∧ n ≤ 10 then n else 4)
def mgmtDesc (s : State) (k i : Nat) : Nat := rf s R.MGMT_ETH_RING F.MGMT_ETH_RING_BASE k * 16 + i % mgmtSize s k * 16

def mgmtOwn (s : State) (k i : Nat) : Bool := (leNat (ddrRead s (mgmtDesc s k i + 10) 2)).testBit 0

def mgmtOn (s : State) : Bool := rb s R.MGMT_ETH_CTRL F.MGMT_ETH_CTRL_ENABLE && running s

/-- The transmit ring is examined: a frame whose descriptor the port owns begins. -/
def mgmtExamine (s : State) : State :=
  { s with ports := { s.ports with mgmtBusy := mgmtOn s && mgmtOwn s 0 s.ports.mgmtTx } }

/-- KICK (10 R361). -/
def execKick (s : State) : Host.Outcome State Fault Refusal := doneMgmt s (if s.ports.mgmtBusy then s else mgmtExamine s)

/-- The frame of the next descriptor has been sent; the ring is examined again. Frame and descriptor cross the always-on guyline, 32 bytes to a
word. -/
def mgmtSentS (s : State) : State :=
  if s.ports.mgmtBusy = false then s
  else
    let a := mgmtDesc s 0 s.ports.mgmtTx
    let n := leNat (ddrRead s (a + 8) 2)
    let buf := leNat (ddrRead s a 8) % 2 ^ 42
    let s1 := emit (guyWords s 39 0 (1 + (n + 31) / 32)) (if ddrUncorr s buf n then .badFrame 128 else .frame 128 0 none (ddrRead s buf n))
    let flags := leNat (ddrRead s (a + 10) 2)
    let s2 := wf (ddrWr (ddrNote s1 buf n) (a + 10) (leBytes 2 (flags / 2 * 2))) R.PORT_FAULT F.PORT_FAULT_MGMT_TX 1
    mgmtExamine { s2 with ports := { s2.ports with mgmtTx := (s.ports.mgmtTx + 1) % mgmtSize s 0 } }

/-- MGMT_FRAME_SENT (10 R361). -/
def execMgmtFrameSent (s : State) : Host.Outcome State Fault Refusal := done s (mgmtSentS s)

/-- A frame arrives at the management port: without a descriptor that the port owns it is dropped; ERROR for a bad FCS, or a length
outside 64 to 1,518 bytes or above the buffer's. -/
def mgmtReceivedS (frame : List Byte) (bad : Bool) (s : State) : State :=
  if mgmtOn s = false ∨ mgmtOwn s 1 s.ports.mgmtRx = false then s
  else
    let a := mgmtDesc s 1 s.ports.mgmtRx
    let size := leNat (ddrRead s (a + 8) 2)
    let buf := leNat (ddrRead s a 8) % 2 ^ 42
    let n := frame.length
    let err := bad || decide (n + 4 < 64 ∨ 1518 < n + 4 ∨ size < n)
    let s1 := ddrWr (guyWords s 39 1 (1 + (n + 31) / 32)) buf (frame.take size)
    let s2 := ddrWr s1 (a + 8) (leBytes 4 (n % 2 ^ 16 + b2n err * 2 ^ 17))
    let s3 := wf s2 R.PORT_FAULT F.PORT_FAULT_MGMT_RX 1
    { s3 with ports := { s3.ports with mgmtRx := (s.ports.mgmtRx + 1) % mgmtSize s 1 } }

/-- MGMT_FRAME_RECEIVED (10 R361). -/
def execMgmtFrameReceived (frame : List (BitVec 8)) (bad : Bool) (s : State) : Host.Outcome State Fault Refusal :=
  done s (mgmtReceivedS frame bad s)

/-! ## Field pins (10 R362-R365) -/

/-- A pin of a field port is an input of its function. -/
def pinInput (s : State) (q i : Nat) : Bool :=
  let f := rf s R.FP_CFG F.FP_CFG_FUNCTION q
  (f == 4 || f == 5) && (rf s R.FP_CFG F.FP_CFG_USED q).testBit i && !(s.fieldPort q).settings.getLsbD (96 + i)

/-- Level of pin `i` of field port `q` changes at lantern time `stamp` (2^-16 ns): the level is sampled, a selected edge of an
input raises its source and satisfies the WAIT EDGE steps on the pin (10 R365). The edge unit lies in the lantern domain: its capture crosses
the lantern guyline, and it works while the field ports are in bivouac (01 R24). -/
def pinEdgeS (q i : Nat) (level : Bool) (stamp : Nat) (s : State) : State :=
  if 16 ≤ q ∨ 8 ≤ i ∨ domPowered s 46 = false then s
  else
    let f := s.fieldPort q
    let bit : BitVec 8 := 1#8 <<< i
    let s1 := s.setFieldPort q { f with pins := if level then f.pins ||| bit else f.pins &&& ~~~bit }
    if pinInput s q i ∧ f.pins.getLsbD i ≠ level ∧ f.settings.getLsbD ((if level then 104 else 112) + i) then
      (s1.prog.ctxs.filter fun e =>
        let c := e.2.cmds.headD 0
        let d := devEntry s (cDevice c)
        e.2.running && e.2.state == 3 && cCode c == 4 && waitKind c == 2 && devPort d == 128 + q && devSelect d % 8 == i &&
          e.2.waitEdge.isNone).foldl
        (fun u e => u.setCtx e.1 { u.ctx e.1 with waitEdge := some (stamp, s.sched.frame.toNat, i) }) (raise (guyWord s1 37 1 .clean) (384 + 8 * q + i))
    else s1

/-- PIN_EDGE (10 R365). -/
def execPinEdge (port pin : Nat) (level : Bool) (stamp : Nat) (s : State) : Host.Outcome State Fault Refusal :=
  done s (pinEdgeS port pin level stamp s)

/-! ## PRBS (10 R372-R375) -/

def State.lane (s : State) (l : Nat) : Lane := Tbl.get Lane.reset s.ports.lanes l
def State.setLane (s : State) (l : Nat) (x : Lane) : State :=
  { s with ports := { s.ports with lanes := Tbl.set Lane.reset s.ports.lanes l x } }

/-- The checker of a lane counts. -/
def laneLocked (s : State) (l : Nat) : Bool := rb s R.LANE_PRBS_STATUS F.LANE_PRBS_STATUS_LOCKED l

/-- The generators and checkers of a quad run: it is in test, and not in far-end loopback, where they are idle (R373, R376). -/
def quadRuns (s : State) (q : Nat) : Bool := inTest s q && rf s R.QUAD_TEST F.QUAD_TEST_LOOPBACK q != 3

/-- A pseudo-random sequence of `n` bits after a register `r` of the bits before them, the latest in bit 0: each bit is the sum of those `a` and
`b` before it (10 R372). -/
def prbsBits (a b : Nat) : Nat → Nat → List Bool
  | 0, _ => []
  | n + 1, r =>
    let x := r.testBit (a - 1) != r.testBit (b - 1)
    x :: prbsBits a b n ((2 * r + b2n x) % 2 ^ a)

/-- Powers of the polynomial of a pattern; codes 6 and 7 act as 4 (10 R372, LANE_PRBS_CTRL). -/
def prbsPowers (pattern : Nat) : Nat × Nat :=
  match pattern with
  | 0 => (7, 6)
  | 1 => (9, 5)
  | 2 => (15, 14)
  | 3 => (23, 18)
  | _ => (31, 28)

/-- A Gray-mapped symbol of each pair of bits, the first bit the more significant (10 R372). -/
def grayPairs : List Bool → List Nat
  | a :: b :: l => (2 * b2n a + b2n (a != b)) :: grayPairs l
  | _ => []

/-- 80 bits of a lane's pattern: the user pattern from bit 0 on, or a sequence from a register that is not all 0. -/
def laneBits (s : State) (l seed : Nat) : List Bool :=
  let p := rf s R.LANE_PRBS_CTRL F.LANE_PRBS_CTRL_PATTERN l
  let user := rg s R.LANE_USER l + rf s R.LANE_USER_HI F.LANE_USER_HI_PATTERN l * 2 ^ 64
  let (a, b) := prbsPowers p
  let bits := if p = 5 then (List.range 80).map fun i => user.testBit i else prbsBits a b 80 (seed % (2 ^ a - 1) + 1)
  bits.map fun x => x != rb s R.LANE_PRBS_CTRL F.LANE_PRBS_CTRL_INVERT l

/-- What a lane's generator sends when it starts; the spec does not give the state that a sequence starts from (DESIGN CHOICE, log entry 101). -/
def genStart (s : State) (l : Nat) : State :=
  if quadRuns s (l / 4) ∧ rb s R.LANE_PRBS_CTRL F.LANE_PRBS_CTRL_GEN_EN l then
    let (w, s1) := takeFree s
    let bits := laneBits s1 l w.toNat
    let pam4 := decide (6 ≤ rf s R.QUAD_STATUS F.QUAD_STATUS_RATE (l / 4))
    emit s1 (.pattern l pam4 (if pam4 then grayPairs bits else bits.map b2n))
  else s

/-- A write that changed GEN_EN, INVERT or PATTERN starts the generator. -/
def genWrite (old l : Nat) (s : State) : State :=
  if [F.LANE_PRBS_CTRL_GEN_EN, F.LANE_PRBS_CTRL_INVERT, F.LANE_PRBS_CTRL_PATTERN].all (fun f => fget old f == rf s R.LANE_PRBS_CTRL f l) then s
  else genStart s l

/-- A write to LANE_PRBS_CTRL, with the bits and errors compared since the running counters were last brought up to date: the
enables first, then SNAP, then CLEAR, then INJECT (R375). -/
def prbsWrite (l v bits errs : Nat) (s : State) : State :=
  let x := s.lane l
  let n : Lane := if laneLocked s l ∧ quadRuns s (l / 4) then { bits := min (x.bits + bits) (2 ^ 64 - 1), errs := min (x.errs + errs) (2 ^ 48 - 1) } else x
  let chk := rb s R.LANE_PRBS_CTRL F.LANE_PRBS_CTRL_CHK_EN l
  let s1 := swRw s R.LANE_PRBS_CTRL v l
  let on := rb s1 R.LANE_PRBS_CTRL F.LANE_PRBS_CTRL_CHK_EN l
  let s2 := if on ∧ chk = false then wf s1 R.LANE_PRBS_STATUS F.LANE_PRBS_STATUS_LOCKS 0 l
    else if on then s1 else wf s1 R.LANE_PRBS_STATUS F.LANE_PRBS_STATUS_LOCKED 0 l
  let s3 := if v.testBit 1 then wr (wr s2 R.LANE_BITS n.bits l) R.LANE_ERRS n.errs l else s2
  let s4 := genWrite (rg s R.LANE_PRBS_CTRL l) l (s3.setLane l (if v.testBit 0 then Lane.reset else n))
  if v.testBit 2 ∧ rb s4 R.LANE_PRBS_CTRL F.LANE_PRBS_CTRL_GEN_EN l ∧ quadRuns s (l / 4) then emit s4 (.inject l) else s4

/-- SNAP (10 R375). -/
def execPrbsSnap (lane : Nat) (v : W32) (bits errs : Nat) (s : State) : Host.Outcome State Fault Refusal :=
  doneMgmt s (if lane < 104 then prbsWrite lane v.toNat bits errs s else s)

/-- CLEAR (10 R375). -/
def execPrbsClear (lane : Nat) (v : W32) (s : State) : Host.Outcome State Fault Refusal :=
  doneMgmt s (if lane < 104 then prbsWrite lane v.toNat 0 0 s else s)

/-- INJECT (10 R375). -/
def execPrbsInject (lane : Nat) (v : W32) (s : State) : Host.Outcome State Fault Refusal :=
  doneMgmt s (if lane < 104 then prbsWrite lane v.toNat 0 0 s else s)

/-- A checker locks (10 R374). -/
def checkerLockS (l : Nat) (s : State) : State :=
  if quadRuns s (l / 4) ∧ rb s R.LANE_PRBS_CTRL F.LANE_PRBS_CTRL_CHK_EN l ∧ laneLocked s l = false then
    satAdd (wf s R.LANE_PRBS_STATUS F.LANE_PRBS_STATUS_LOCKED 1 l) R.LANE_PRBS_STATUS F.LANE_PRBS_STATUS_LOCKS 1 l
  else s

/-- CHECKER_LOCK (10 R374). -/
def execCheckerLock (lane : Nat) (s : State) : Host.Outcome State Fault Refusal := done s (checkerLockS lane s)

/-- A checker loses lock (10 R374). -/
def checkerLossS (l : Nat) (s : State) : State :=
  if laneLocked s l then
    wf (wf s R.LANE_PRBS_STATUS F.LANE_PRBS_STATUS_LOCKED 0 l) R.LANE_PRBS_STATUS F.LANE_PRBS_STATUS_LOCK_LOST 1 l
  else s

/-- CHECKER_LOCK_LOSS (10 R374). -/
def execCheckerLockLoss (lane : Nat) (s : State) : Host.Outcome State Fault Refusal := done s (checkerLossS lane s)

/-! ## DDR5 pattern engines (10 R377, R378) -/

/-- The active bank holds a stake on a DDR5 channel; `refresh`: refresh stakes count too. -/
def channelStaked (s : State) (ch : Nat) (refresh : Bool) : Bool :=
  match activeBank s with
  | none => false
  | some b =>
    let bank := bankOf s b
    bank.lists.any fun (f, u) => (bank.entries f u).any fun e => (stakeChannels e.2).contains ch && (refresh || e.2.kind != 4)

/-- The channel is COPY_A, COPY_B or SPARE. -/
def recovChannel (s : State) (ch : Nat) : Bool :=
  ch == rf s R.RECOV_CFG F.RECOV_CFG_COPY_A || ch == rf s R.RECOV_CFG F.RECOV_CFG_COPY_B || ch == rf s R.RECOV_CFG F.RECOV_CFG_SPARE

def patFirst (s : State) (ch : Nat) : Nat := rf s R.DDR5_PAT_RANGE F.DDR5_PAT_RANGE_FIRST ch
def patLast (s : State) (ch : Nat) : Nat := rf s R.DDR5_PAT_RANGE F.DDR5_PAT_RANGE_LAST ch

/-- The conditions of a start (10 R378). -/
def patAllowed (s : State) (ch : Nat) : Bool :=
  if rb s R.DDR5_PAT_CTRL F.DDR5_PAT_CTRL_EXCLUSIVE ch then
    (s.sqs.all fun e => e.2.state == 0) && !recovChannel s ch && !channelStaked s ch true
  else
    decide (rf s R.DDR5_PAT_REGION F.DDR5_PAT_REGION_BASE ch ≤ patFirst s ch ∧ patLast s ch ≤ rf s R.DDR5_PAT_REGION F.DDR5_PAT_REGION_LIMIT ch)

def patRunning (s : State) (ch : Nat) : Bool := rb s R.DDR5_PAT_CTRL F.DDR5_PAT_CTRL_START ch

/-- A write to DDR5_PAT_CTRL with START. -/
def patStartS (ch v : Nat) (s : State) : State :=
  let s1 := swRw s R.DDR5_PAT_CTRL v ch
  if patRunning s ch ∨ v.testBit 31 = false then s1
  else if patAllowed s1 ch = false then wf s1 R.DDR5_PAT_STATUS F.DDR5_PAT_STATUS_RESULT 2 ch
  else
    let s2 := (List.range 20).foldl (fun u d => wr u R.DDR5_PAT_DEV 0 ch d) (wf s1 R.DDR5_PAT_CTRL F.DDR5_PAT_CTRL_START 1 ch)
    wf (wf s2 R.DDR5_PAT_STATUS F.DDR5_PAT_STATUS_PASS 0 ch) R.DDR5_PAT_STATUS F.DDR5_PAT_STATUS_UNCORR 0 ch

/-- DDR5_PAT_START (10 R378). -/
def execDdr5PatStart (ch : Nat) (v : W32) (s : State) : Host.Outcome State Fault Refusal :=
  doneMgmt s (if ch < 12 then patStartS ch v.toNat s else s)

/-- Bytes of line `l` of a channel under its pattern; `none` where the pattern or its raw write does not fix them. -/
def patBytes (s : State) (ch l : Nat) : Option (List Byte) :=
  let p := rf s R.DDR5_PAT_CTRL F.DDR5_PAT_CTRL_PATTERN ch
  if rb s R.DDR5_PAT_CTRL F.DDR5_PAT_CTRL_RAW ch then none
  else if p = 0 then some ((List.range 16).flatMap fun w => leBytes 8 (l * 128 + w * 8))
  else if p = 3 then some ((List.range 16).flatMap fun _ => leBytes 8 (rg s R.DDR5_PAT_USER ch))
  else none

/-- A pattern run has written its lines; those that the pattern does not fix, and all of a stopped run, are free. -/
def patWrite (whole : Bool) (ch : Nat) (s : State) : State :=
  let first := patFirst s ch
  let p := rf s R.DDR5_PAT_CTRL F.DDR5_PAT_CTRL_PATTERN ch
  let t := (List.range (patLast s ch + 1 - first)).foldl (fun u i =>
    let l := first + i
    let bs := (if whole then patBytes s ch l else none).getD (leBytes 128 (Config.patternLine p l s.free).toNat)
    ddrWr u (ch * 2 ^ 38 + l * 128) bs) s
  { t with free := s.free + 1 }

/-- A write to DDR5_PAT_CTRL with STOP: the counts of the run so far are free. -/
def patStopS (ch v : Nat) (s : State) : State :=
  let s1 := swRw s R.DDR5_PAT_CTRL v ch
  if patRunning s ch = false ∨ v.testBit 30 = false then s1
  else
    let s2 := patWrite false ch (wf s R.DDR5_PAT_CTRL F.DDR5_PAT_CTRL_START 0 ch)
    let (a, s3) := takeFree s2
    let s4 := wf (wf s3 R.DDR5_PAT_STATUS F.DDR5_PAT_STATUS_PASS a.toNat ch) R.DDR5_PAT_STATUS F.DDR5_PAT_STATUS_UNCORR (a.toNat / 2 ^ 16) ch
    let s5 := (List.range 20).foldl (fun u d => let (w, u1) := takeFree u; wr u1 R.DDR5_PAT_DEV w.toNat ch d) s4
    swRw (wf s5 R.DDR5_PAT_STATUS F.DDR5_PAT_STATUS_RESULT 3 ch) R.DDR5_PAT_CTRL v ch

/-- DDR5_PAT_STOP (10 R378). -/
def execDdr5PatStop (ch : Nat) (v : W32) (s : State) : Host.Outcome State Fault Refusal :=
  doneMgmt s (if ch < 12 then patStopS ch v.toNat s else s)

/-- A pattern run ends after its passes: `uncorr` uncorrectable lines, and the counts of each device (10 R377). -/
def patDoneS (ch uncorr : Nat) (devs : List Nat) (s : State) : State :=
  if patRunning s ch = false then s
  else
    let s1 := patWrite true ch (wf s R.DDR5_PAT_CTRL F.DDR5_PAT_CTRL_START 0 ch)
    let loops := max 1 (rf s R.DDR5_PAT_CTRL F.DDR5_PAT_CTRL_LOOPS ch)
    let s2 := wf (wf s1 R.DDR5_PAT_STATUS F.DDR5_PAT_STATUS_RESULT 1 ch) R.DDR5_PAT_STATUS F.DDR5_PAT_STATUS_PASS loops ch
    let s3 := if rb s R.DDR5_PAT_CTRL F.DDR5_PAT_CTRL_RAW ch then s2
      else wf s2 R.DDR5_PAT_STATUS F.DDR5_PAT_STATUS_UNCORR (min uncorr 0xFFFF) ch
    (List.range 20).foldl (fun u d => wr u R.DDR5_PAT_DEV (min (devs.getD d 0) 0xFFFFFFFF) ch d) s3

/-- PATTERN_RUN_COMPLETE (10 R377). -/
def execPatternRunComplete (ch : Nat) (uncorr : Nat) (devs : List Nat) (s : State) : Host.Outcome State Fault Refusal :=
  done s (patDoneS ch uncorr devs s)

end Sys2Proof.Machine
end

