-- ==== Sys2Proof/Machine/Camp.lean ====
section
/-! DEFINITION. The camp: the Ploet link, resync and mirroring, arbitration and takeover, time and twin mailboxes (11); and
QUAD_TEST, which can end the Ploet link (10 R373, R376). -/
namespace Sys2Proof.Machine

/-! ## States (11 R389-R394) -/

def campFault (s : State) (f : Nat × Nat) : State := wf s R.CAMP_FAULT f 1

/-- Enter FENCED: the general quads go idle, CAMP_ARB_OUT is held low (R392, R394). -/
def enterFenced (s : State) : State :=
  if s.camp.state = 6 then s
  else
    let s1 := ((List.range 24).filter fun p => (s.port p).link != 0).foldl (fun u p => endpointDown u p true) s
    let s2 := ((List.range 64).map (32 + ·)).foldl (fun u p => portDown u p true) s1
    s2.withCamp { s2.camp with state := 6, arbOut := 0 }

/-- The conditions on ARB_IN as it stands, which hold in every frame; `hb`: HB flits are accepted (R393). -/
def arbCheck (hb : Bool) (s : State) : State :=
  let c := s.camp
  if campOn s = false ∨ c.state = 0 then s
  else if c.arbIn = 2 then
    if c.state = 5 then (if campRole s = 0 then s else enterFenced s)
    else enterFenced (if hb then campFault s F.CAMP_FAULT_ARB_FAULT else s)
  else if c.arbIn = 0 ∧ hb then campFault s F.CAMP_FAULT_ARB_FAULT
  else s

/-- CAMP_ARB_IN changes (R393). HB flits are accepted while no frame has been silent since the last one. -/
def arbInS (level : Nat) (s : State) : State :=
  arbCheck (s.camp.silent == 0 && (s.camp.heartbeat || s.camp.state == 3)) (s.withCamp { s.camp with arbIn := level })

/-- ARB_IN_CHANGE (11 R393): 0 LOW, 1 TOGGLING, 2 HIGH. -/
def execArbInChange (level : Nat) (s : State) : Host.Outcome State Fault Refusal :=
  doneUp s (if level < 3 then arbInS level s else s)

/-- The decision at 16 silent frames (R393). -/
def silentDecisionS (s : State) : State :=
  let c := s.camp
  if c.state ≠ 4 ∨ c.silent < 16 then s
  else if c.arbIn = 0 then
    let s1 := campFault (s.withCamp { c with state := 5, arbOut := 2, claimFrame := s.sched.frame }) F.CAMP_FAULT_PARTNER_LOST
    raise (wr s1 R.CAMP_TAKEOVER (s.sched.frame.toNat % 2 ^ 32 * 2 ^ 32)) 581
  else if c.arbIn = 1 then s.withCamp { c with state := 1 }
  else s

/-- SILENT_DECISION (11 R393). -/
def execSilentDecision (s : State) : Host.Outcome State Fault Refusal := done s (releaseGates (silentDecisionS s))

/-- What the camp does at cycle 0 of a frame (R385, R389, R393): the count of silent frames, SILENT state, the conditions on ARB_IN, and the
heartbeat in an idle flit. -/
def campFrame (s : State) : State :=
  if campOn s = false then s
  else
    let c := s.camp
    let n := if c.heartbeat then c.silent else min 31 (c.silent + 1)
    let st := if c.state = 3 ∧ c.heartbeat = false then 4 else c.state
    let s2 := arbCheck c.heartbeat (s.withCamp { c with silent := n, state := st, heartbeat := false })
    if c.up then emit (emit (guyFlit s2 0) (.ploetContent (flitContent s2 0 true []))) (.ploetHeartbeat s.sched.frame) else s2

/-! ## Resync (11 R390) -/

/-- Send a block, or the two blocks of an SQ state record, as one RECORD message. -/
def sendRecord (n : Nat) (s : State) (k : Nat) : State :=
  campSend s 1 (BitVec.ofNat 64 (k * 64)) ((List.range n).flatMap fun i => leBytes 64 (recBlock s (k + i)).toNat)

/-- Blocks of the live records: the area header, function records, peer stream records; then SQ state records; then CQ state,
progress and journal records. -/
def liveBlocks (s : State) : List Nat × List Nat × List Nat :=
  let r := s.recov
  let sqs := s.sqs.filter fun e => e.2.state != 0
  let cqs := s.cqs.filter fun e => e.2.state != 0
  let fns := keyFns (sqs.map (·.1) ++ cqs.map (·.1))
  let peers := (List.range 1024).filter fun n => (peerRec s n 0).getLsbD 0
  let wide := fun (b : Nat) => (List.range 128).map (b + ·)
  let journal := sqs.flatMap fun e =>
    (recBlocks r (journalBlock e.2.num 0) (journalBlock e.2.num 0 + 1024)).filter fun k => journalHere (recBlock s k)
  let prog := (recBlocks r 0x400 0x2400).filter fun k => bitsOf (recBlock s k) 71 64 != 0
  ([0, 1, 2] ++ fns.flatMap (fun f => wide (fnBlock f)) ++ peers.flatMap (fun n => wide (peerBlock n)),
   sqs.map (fun e => sqBlock e.2.num), cqs.map (fun e => cqBlock e.2.num) ++ prog ++ journal)

/-- Send RESYNC_START, every live record and RESYNC_END; the state is SYNCING. -/
def startResync (s : State) : State :=
  let s1 := campSend (s.withCamp { s.camp with state := 2, ownEnd := none, partnerEnd := false }) 6 0 []
  let (a, b, c) := liveBlocks s
  let s2 := c.foldl (sendRecord 1) (b.foldl (sendRecord 2) (a.foldl (sendRecord 1) s1))
  let s3 := campSend s2 7 0 []
  s3.withCamp { s3.camp with ownEnd := some s3.camp.mseq }

/-- The mirror area as a set of records. -/
def mirrorRecov (s : State) : Recov :=
  { Recov.reset with
    copyA := s.camp.mirrorA, copyB := s.camp.mirrorB, lostA := s.camp.lostA, lostB := s.camp.lostB, badA := s.camp.badA, badB := s.camp.badB }

/-- A QNUM is assigned on both devices, or the headers' digests differ (R390). -/
def pairMismatch (s : State) : Bool :=
  let m := mirrorRecov s
  imageChanged m s ||
    (s.sqs.any fun e => e.2.valid && (readBlock m (sqBlock e.2.num + 1)).any (·.getLsbD 31)) ||
    (s.cqs.any fun e => e.2.valid && (readBlock m (cqBlock e.2.num)).any (·.getLsbD (0x28 * 8 + 31)))

/-- The partner holds durably what END is sent after (R390). -/
def ownEndCovered (s : State) : Bool :=
  match s.camp.ownEnd with
  | some m => msgDurable s m
  | none => false

/-- Both resyncs have ended: PAIRED, or ALONE with MISMATCH. -/
def tryPair (s : State) : State :=
  let c := s.camp
  if c.state = 2 ∧ c.partnerEnd ∧ ownEndCovered s then
    if pairMismatch s then campFault (s.withCamp { c with state := 1 }) F.CAMP_FAULT_MISMATCH
    else s.withCamp { c with state := 3 }
  else s

/-! ## The link (11 R381-R385) -/

/-- QUAD_STATUS of the Ploet quads as the link comes up or goes down: with lanes of one quad only the spec does not say of which, and what CDR_LOCK
then shows is free (10 QUAD_STATUS, 11 R381; log entry 102). -/
def ploetShow (up x4 : Bool) (s : State) : State :=
  let (f, s1) := takeFree s
  let n := f.toNat
  [24, 25].foldl (fun u q =>
    let mine := up && (!x4 || n % 2 == q % 2)
    let u1 := wf (wf u R.QUAD_STATUS F.QUAD_STATUS_LINK_UP (b2n up) q) R.QUAD_STATUS F.QUAD_STATUS_RATE (if mine then 9 else 0) q
    wf u1 R.QUAD_STATUS F.QUAD_STATUS_CDR_LOCK (if mine then 15 else n / 2 ^ (4 * q - 92) % 16) q) s1

/-- Quads 24 and 25 carry the Ploet link and are powered (11 R380, 13 R433). -/
def ploetReady (s : State) : Bool := quadPers s 24 == 4 && quadPers s 25 == 4 && domOn s 44

/-- The link comes up; `matched`: the partner's CAMP_ID, ROLE and PEER_ID fit (R380). Flit numbers start again (log entry 7). -/
def ploetUpS (x4 matched : Bool) (s : State) : State :=
  let c := s.camp
  if campOn s = false ∨ c.up ∨ inTest s 24 ∨ inTest s 25 ∨ ploetReady s = false then s
  else
    let s1 := ploetShow true x4 (if c.everUp then satAdd s R.CAMP_LINK_COUNTS F.CAMP_LINK_COUNTS_RETRAINS 1 else s)
    let s2 := s1.withCamp { c with
      up := true, x4 := x4, everUp := true, matched := matched, txSeq := 1, rxSeq := 0, unacked := [], built := [], txQueue := [], replays := 0
      txTime := 0, txPrev := 0, rxTime := 0 }
    if matched = false then campFault s2 F.CAMP_FAULT_MISMATCH
    else if 1 ≤ c.state ∧ c.state ≤ 4 then startResync s2
    else s2

/-- PLOET_LINK_UP (11 R390). -/
def execPloetLinkUp (x4 : Bool) (matched : Bool) (s : State) : Host.Outcome State Fault Refusal :=
  done s (releaseGates (ploetUpS x4 matched s))

/-- The link goes down: twin notices are returned or become stale, a resync has failed, and the partner no longer gives the time (R381,
R389, R402, 09 R311). -/
def ploetDown (s : State) : State :=
  if s.camp.up = false then s
  else
    let c := s.camp
    let s1 := (ploetShow false false s).withCamp { c with
      up := false, unacked := [], built := [], txQueue := [], ownEnd := none, partnerEnd := false, state := if c.state = 2 then 1 else c.state }
    let s2 := if (s1.mbox false (twinTx s1)).full ∧ campOn s1 then returnNotice s1 false (twinTx s1) true else s1
    let b := s2.mbox false (twinRx s2)
    recheck (if b.full ∧ campOn s2 then s2.setMbox false (twinRx s2) { b with notice := noticeSet b.notice 30 } else s2)

/-- PLOET_LINK_DOWN (11 R381). -/
def execPloetLinkDown (s : State) : Host.Outcome State Fault Refusal := done s (ploetDown s)

/-- Flits through sequence number `a` are acknowledged. -/
def ackThrough (s : State) (a : Nat) : State :=
  let u := s.camp.unacked
  match u.findIdx? fun e => e.1 == a with
  | some i => drainTx (s.withCamp { s.camp with unacked := u.drop (i + 1) })
  | none => s

/-- A flit arrives (R382, R384, R385). What it asks for with NAK is done by NAK_REPLAY. An accepted one crosses the Ploet guyline. -/
def flitReceivedS (f : Flit) (s : State) : State :=
  let c := s.camp
  if c.up = false then s
  else if f.rejected then emit (satAdd s R.CAMP_LINK_COUNTS F.CAMP_LINK_COUNTS_REJECTED 1) (.ploetNak c.rxSeq)
  else if f.kind = 1 ∧ f.seq % 4096 ≠ (c.rxSeq + 1) % 4096 then emit s (.ploetNak c.rxSeq)
  else
    let s1 := s.withCamp { c with
      heartbeat := c.heartbeat || f.hb, silent := if f.hb then 0 else c.silent
      state := if f.hb ∧ c.state = 4 then 3 else c.state }
    let s2 := ackThrough (guyFlit s1 1) (f.ack % 4096)
    if f.kind = 1 then
      let ms := f.msgs.map fun m => ({ type := m.1, mseq := m.2.1, arg := m.2.2.1, body := m.2.2.2 } : Msg)
      emit (s2.withCamp { s2.camp with rxSeq := f.seq % 4096, inbox := s2.camp.inbox ++ ms }) (.ploetAck (f.seq % 4096))
    else s2

/-- FLIT_RECEIVED (11 R384). -/
def execFlitReceived (f : Flit) (s : State) : Host.Outcome State Fault Refusal := done s (flitReceivedS f s)

/-- Send a flit again. -/
def resend (s : State) (e : Nat × List Msg) : State :=
  emit (emit (e.2.foldl (fun t m => emit t (.ploetMsg m.type m.mseq m.arg m.body)) s) (.ploetContent (Tbl.get [] s.camp.built e.1))) (.ploetFlit e.1)

/-- A NAK arrives with the last in-order sequence number: every later flit is replayed; the eighth replay in a row from one flit is
retry exhaustion (R384). -/
def nakReplayS (seq : Nat) (s : State) : State :=
  if s.camp.up = false then s
  else
    let s1 := ackThrough s (seq % 4096)
    match s1.camp.unacked with
    | [] => s1
    | e :: _ =>
      let c := s1.camp
      let n := if c.replays ≠ 0 ∧ c.replayFrom = e.1 then c.replays + 1 else 1
      let s2 := satAdd (s1.withCamp { c with replayFrom := e.1, replays := n }) R.CAMP_LINK_COUNTS F.CAMP_LINK_COUNTS_REPLAYS 1
      if 8 ≤ n then ploetDown (raise (campFault s2 F.CAMP_FAULT_RETRY_EXHAUST) 579)
      else c.unacked.foldl resend s2

/-- NAK_REPLAY (11 R384). -/
def execNakReplay (seq : Nat) (s : State) : Host.Outcome State Fault Refusal := done s (nakReplayS seq s)

/-! ## Messages (11 R383, R386, R387, R390, R400, R402) -/

/-- Take the message at the front of the inbox, if it is of a type. -/
def withMsg (type : Nat) (s : State) (f : Msg → State → State) : State :=
  match s.camp.inbox with
  | [] => s
  | m :: ms => if m.type = type then f m (s.withCamp { s.camp with inbox := ms }) else s

/-- Acknowledge everything through a message. -/
def sendDurable (m : Msg) (s : State) : State :=
  campSend s 2 (BitVec.ofNat 64 m.mseq) []

/-- Where UPDATE stands in the record that begins at a block; none for records without the test of R390. -/
def updateBit (k : Nat) : Option Nat :=
  if 0x400 ≤ k ∧ k < 0x2400 then some 448 else if 0x4000 ≤ k ∧ k < 0x10000 then some 128 else none

/-- The blocks of a message body. -/
def bodyBlocks : Nat → List Byte → List (BitVec 512)
  | 0, _ => []
  | n + 1, bs => BitVec.ofNat 512 (leNat (bs.take 64)) :: bodyBlocks n (bs.drop 64)

/-- The record is later than the one held, modulo 2^32; or none is held. -/
def recordLater (s : State) (k : Nat) (b : BitVec 512) : Bool :=
  match updateBit k, readBlock (mirrorRecov s) k with
  | some lo, some old =>
    let d := (bitsOf b (lo + 31) lo + 2 ^ 32 - bitsOf old (lo + 31) lo) % 2 ^ 32
    old == 0 || decide (0 < d ∧ d < 2 ^ 31)
  | _, _ => true

/-- A RECORD message is written into both mirror copies. -/
def recordMsg (m : Msg) (s : State) : State :=
  let k := m.arg.toNat / 64
  let bs := bodyBlocks (m.body.length / 64) m.body
  let put := fun (t : Tbl (BitVec 512)) => ((List.range bs.length).zip bs).foldl (fun t e => Tbl.set 0 t (k + e.1) e.2) t
  let other := fun (x : Nat) => decide (x < k ∨ k + bs.length ≤ x)
  let s1 := if recordLater s k (bs.headD 0) then
      s.withCamp { s.camp with
        mirrorA := put s.camp.mirrorA, mirrorB := put s.camp.mirrorB, badA := s.camp.badA.filter other, badB := s.camp.badB.filter other }
    else s
  sendDurable m s1

/-- RECORD (11 R386). -/
def execCampRecord (s : State) : Host.Outcome State Fault Refusal := done s (withMsg 1 s recordMsg)

/-- A DURABLE message. -/
def durableMsg (m : Msg) (s : State) : State :=
  releaseGates (tryPair (s.withCamp { s.camp with durable := m.arg.toNat % 2 ^ 32 }))

/-- DURABLE (11 R387). -/
def execCampDurable (s : State) : Host.Outcome State Fault Refusal := done s (withMsg 2 s durableMsg)

/-- RESYNC_START: the mirror area is cleared, and is whole again. -/
def resyncStartMsg (m : Msg) (s : State) : State :=
  sendDurable m (s.withCamp { s.camp with mirrorA := [], mirrorB := [], lostA := false, lostB := false, badA := [], badB := [], partnerEnd := false })

/-- RESYNC_START (11 R390). -/
def execResyncStart (s : State) : Host.Outcome State Fault Refusal := done s (withMsg 6 s resyncStartMsg)

/-- RESYNC_END. -/
def resyncEndMsg (m : Msg) (s : State) : State :=
  let s1 := sendDurable m s
  tryPair (s1.withCamp { s1.camp with partnerEnd := true })

/-- RESYNC_END (11 R390). -/
def execResyncEnd (s : State) : Host.Outcome State Fault Refusal := done s (releaseGates (withMsg 7 s resyncEndMsg))

/-- A signed difference of two lantern times in ns. -/
def lDiff (a b : W64) : Int := (a - b).toInt

/-- A TIME message that arrived at `arrival` (ns at the receive balls before calibration, item 56): phase error of source 3 from the
last full exchange (R400). The flit that the partner had seen last is this device's last, or the one before. -/
def timeMsg (arrival : W64) (m : Msg) (s : State) : State :=
  let c := s.camp
  let t3 : W64 := BitVec.ofNat 64 (leAt m.body 0 8)
  let t2 : W64 := BitVec.ofNat 64 (leAt m.body 8 8)
  let t4 := c.rxTime
  let t1 := if lDiff t2 c.txTime < -500000000 then c.txPrev else c.txTime
  let e := (lDiff t4 t3 - lDiff t2 t1) / 2
  let here : W64 := BitVec.ofInt 64 (((arrival.toNat : Int) * 1000 - calDelay s 56) / 1000)
  let s1 := recheck (s.withCamp { c with
    rxTime := here, partnerSource := leAt m.body 0x16 1, partnerState := leAt m.body 0x18 1
    partnerValid := (m.body.getD 0x19 0).getLsbD 7 })
  if t1 = 0 ∨ t2 = 0 ∨ t3 = 0 ∨ t4 = 0 ∨ s1.lant.selected ≠ 3 then s1 else phaseError (e * 1000) true s1

/-- TIME (11 R400). -/
def execCampTime (arrival : W64) (s : State) : Host.Outcome State Fault Refusal := done s (withMsg 3 s (timeMsg arrival))

/-- A NOTICE from the partner takes the local twin mailbox (R402). -/
def noticeMsg (m : Msg) (s : State) : State :=
  let n := twinRx s
  let b := s.mbox false n
  if campOn s = false ∨ m.arg.toNat % 2 ^ 32 ≠ n then s
  else
    let s1 := s.setMbox false n
      { full := true, serial := b.serial + 1, agent := 0x3F, notice := BitVec.ofNat 128 (leNat (m.body.take 16)) }
    arrive s1 false n

/-- NOTICE (11 R402). -/
def execCampNotice (s : State) : Host.Outcome State Fault Refusal := done s (withMsg 4 s noticeMsg)

/-- EMPTIED from the partner clears the local twin mailbox, with its return entry (R402). -/
def emptiedMsg (m : Msg) (s : State) : State :=
  let n := twinTx s
  if campOn s ∧ m.arg.toNat % 2 ^ 32 = n ∧ (s.mbox false n).full then returnNotice s false n (m.arg.getLsbD 63) else s

/-- EMPTIED (11 R402). -/
def execCampEmptied (s : State) : Host.Outcome State Fault Refusal := done s (withMsg 5 s emptiedMsg)

/-- A write to CAMP_CMD (R390, R394). -/
def campCmdS (v : Nat) (s : State) : State :=
  if campOn s = false then s
  else if v.testBit 0 then enterFenced s
  else if v.testBit 1 ∧ s.camp.state = 1 ∧ s.camp.up ∧ s.camp.matched then startResync s
  else s

/-- RESYNC (11 R390). -/
def execCampResync (v : W32) (s : State) : Host.Outcome State Fault Refusal := doneMgmt s (campCmdS v.toNat s)

/-- FENCE (11 R394). -/
def execCampFence (v : W32) (s : State) : Host.Outcome State Fault Refusal := doneMgmt s (campCmdS v.toNat s)

/-! ## Takeover (11 R396-R398) -/

/-- The twin function of the partner's function, if it exists (R397). -/
def twinFunction (s : State) (f : Nat) : Option Nat :=
  let p := f / 256
  let g := rf s R.CAMP_TWIN_PORT F.CAMP_TWIN_PORT_PORT p * 256 + f % 256
  if p < 24 ∧ rb s R.CAMP_TWIN_PORT F.CAMP_TWIN_PORT_VALID p ∧ fnExists s g then some g else none

/-- Where a mirrored queue goes: its twin function and a slot; none if it cannot be migrated. -/
def migrateTo (s : State) (m : Recov) (cq : Bool) (f slot : Nat) : Option (Nat × Nat) :=
  match twinFunction s f with
  | none => none
  | some g =>
    if (readBlock m (fnBlock f)).map (fun b => bitsOf b 31 0) ≠ some (s.fn g).ident.toNat then none
    else
      let free := fun (k : Nat) => if cq then !(s.cq g k).valid else !(s.sq g k).valid
      (slot :: List.range 256).find? free |>.map fun k => (g, k)

/-- A queue cannot be migrated (R396). -/
def migrateFailed (s : State) (n : Nat) : State :=
  let k := rf s R.CAMP_TAKEOVER F.CAMP_TAKEOVER_FAILED
  let s1 := if k = 0 then wf s R.CAMP_TAKEOVER F.CAMP_TAKEOVER_FIRST_FAIL n else s
  raise (campFault (wf s1 R.CAMP_TAKEOVER F.CAMP_TAKEOVER_FAILED (min 255 (k + 1))) F.CAMP_FAULT_MIGRATE_FAIL) 583

/-- A mirrored CQ becomes a CQ of this device. -/
def migrateCq (m : Recov) (s : State) (k : Nat) : State :=
  match readRec m k 1 128 with
  | none => queueLost s true (k - 0x4000)
  | some v =>
    if fget v (71, 64) = 0 then s
    else
      match migrateTo s m true (fget v (172, 160)) (fget v (183, 176)) with
      | none => migrateFailed s (k - 0x4000)
      | some (g, slot) => let s1 := restoreCq m s g slot v; writeCqRec s1 g slot (s1.cq g slot).tail.toNat

/-- A FREE context of a pitch whose record can hold that of a migrated entry. -/
def freeCtx (s : State) (fn slot : Nat) (seq : W32) : Option Nat :=
  ((List.range 1024).map ((s.sq fn slot).home * 1024 + ·)).find? fun c =>
    ctxFits s fn slot c seq && bitsOf (recBlock s (progBlock c)) 71 64 == 0

/-- Copy the progress record of a migrated entry into this device's recovery area. -/
def migrateProg (fn slot : Nat) (s : State) (i : Item) : State :=
  match i.resume with
  | none => s
  | some (_, r, note, total) =>
    let c := (freeCtx s fn slot i.seq).getD 8192
    let s1 := updItem s fn slot i.seq fun i => { i with resume := some (c, r, note, total) }
    if c < 8192 then putRecord s1 true true (progBlock c) [r] else s1

/-- The queue-migrated completion of an SQ (R398). -/
def postMigrated (fn slot : Nat) (s : State) : State :=
  let q := s.sq fn slot
  match cqNumbered s fn q.defaultCq with
  | none => s
  | some c =>
    let k := s.cq fn c
    let entry := complEntry 0xFFFFFFFF q.num q.expected.toNat (cqPhase k k.decided) (coreNs s) (Ending.queue 0xF006 true)
    let s1 := updCq s fn c fun k => { k with decided := k.decided + 1, reservations := k.reservations + 1 }
    queuePost (writeCqRec s1 fn c (k.decided + 1).toNat) fn c
      { sqFn := fn, sqSlot := slot, seq := q.expected, index := k.decided, entry := entry, immediate := false, gate := none, rewrite := false,
        nth := 0 }

/-- A mirrored SQ becomes an SQ of this device, re-homed where its pitch is off; its records are copied. -/
def migrateSq (m : Recov) (changed : Bool) (s : State) (k : Nat) : State :=
  let n := (k - 0x8000) / 2
  match readRec m k 2 128 with
  | none => queueLost s false n
  | some v =>
    if fget v (115, 112) = 0 then s
    else
      match migrateTo s m false (fget v (172, 160)) (fget v (183, 176)) with
      | none => migrateFailed s n
      | some (g, slot) =>
        let a := fget v (543, 512)
        let home := fget a (18, 16)
        let s0 := updSq (restoreSq m changed true s g slot v a) g slot fun q => { q with migrated := true }
        let s1 := if domOn s home then s0 else updSq s0 g slot fun q => q.rehomeTo (nextPitch s home)
        let s2 := (recBlocks m (journalBlock n 0) (journalBlock n 0 + 1024)).foldl (fun u b =>
          match readJournal m b with
          | some x => putRecord u true true b [x]
          | none => u) (writeSqRec s1 g slot)
        (s2.sq g slot).items.foldl (migrateProg g slot) s2

/-- The takeover, once CLAIM has been held for 8 frames (R396). -/
def takeOverS (host : List Host.Cell) (s : State) : State :=
  if s.camp.state ≠ 5 ∨ s.sched.frame.toNat < s.camp.claimFrame.toNat + 8 ∨ recovering s then s
  else
    let m := mirrorRecov s
    let changed := imageChanged m s
    let s1 := wf s R.RECOV_STATUS F.RECOV_STATUS_IMAGE_CHANGED (b2n changed)
    let s2 := (recBlocks m 0x4000 0x8000).foldl (migrateCq m) s1
    let s3 := ((recBlocks m 0x8000 0x10000).filter fun k => k % 2 == 0).foldl (migrateSq m changed) s2
    let s4 := recoverOn host (some 5) ((s3.recov.heldSqs.filter fun k => !s.recov.heldSqs.contains k).foldl (fun u k => postMigrated (k / 256) (k % 256) u) s3)
    raise (campFault (s4.withCamp { s4.camp with state := 1, arbOut := 1 }) F.CAMP_FAULT_TAKEOVER) 582

/-- TAKE_OVER (11 R396). -/
def execTakeOver (host : List Host.Cell) (s : State) : Host.Outcome State Fault Refusal := done s (releaseGates (takeOverS host s))

/-- CAMP_STATUS as it reads. -/
def campStatusRead (s : State) : Nat :=
  let c := s.camp
  c.silent * 2 ^ 24 + c.arbIn * 2 ^ 22 + c.arbOut * 2 ^ 20 + b2n c.up * 2 ^ 19 + b2n (c.up && c.x4) * 2 ^ 18 + c.state

/-! ## QUAD_TEST (10 R373, R376) -/

/-- The rate of a quad's personality at its top. -/
def topRate (s : State) (q : Nat) : Nat :=
  if 24 ≤ q then 9 else if quadPers s q = 1 ∨ quadPers s q = 2 then 6 else if quadPers s q = 3 then 8 else 0

/-- A port with a lane in a quad goes down into test. -/
def testDown (s : State) (port : Nat) : State := if port < 24 then endpointDown s port false else rootDown s port false

/-- A write to QUAD_TEST: setting TEST takes the quad's ports down, and its generators start; clearing it returns the quad to its
personality. -/
def quadTestS (q v : Nat) (s : State) : State :=
  let was := inTest s q
  let s1 := swRw s R.QUAD_TEST v q
  let rate := rf s1 R.QUAD_TEST F.QUAD_TEST_RATE q
  if inTest s1 q then
    let s2 := if was then s1 else if 24 ≤ q then ploetDown s1 else (quadPorts s1 q).foldl testDown s1
    let s3 := wf s2 R.QUAD_STATUS F.QUAD_STATUS_RATE (if rate = 0 then topRate s q else rate) q
    if was && rg s R.QUAD_TEST q == rg s1 R.QUAD_TEST q then s3 else (List.range 4).foldl (fun u i => genStart u (4 * q + i)) s3
  else if was then
    (List.range 4).foldl (fun u i => wf u R.LANE_PRBS_STATUS F.LANE_PRBS_STATUS_LOCKED 0 (4 * q + i))
      (wf s1 R.QUAD_STATUS F.QUAD_STATUS_RATE 0 q)
  else s1

/-- QUAD_TEST (10 R373). -/
def execQuadTest (q : Nat) (v : W32) (s : State) : Host.Outcome State Fault Refusal :=
  doneMgmt s (if q < 26 then quadTestS q v.toNat s else s)

end Sys2Proof.Machine
end

