-- ==== Sys2Proof/Machine/Image.lean ====
section
/-! DEFINITION. Configuration images: their layout, the settings records, and the checks that admit an image (12 R407-R414, R420). -/
namespace Sys2Proof.Machine

/-! ## Layout (12 R407-R409) -/

def imgSize (fl : Tbl Byte) : Nat := flNat fl 8 4
def imgSvn (fl : Tbl Byte) : Nat := flNat fl 0xE 1
def imgSlot (fl : Tbl Byte) : Nat := flNat fl 0xF 1 % 8
def imgSigLen (fl : Tbl Byte) : Nat := flNat fl 0x780 2
def imgKey (fl : Tbl Byte) : List Byte := flBytes fl 0x40 1793

/-- The image digest D (12 R408). -/
def imgDigest (fl : Tbl Byte) : List Byte :=
  shake256 (flBytes fl 0 0x780 ++ List.replicate 0x610 0 ++ flBytes fl 0xD90 (0x2000 - 0xD90))

/-- Digest of a section's bytes. -/
def sectDigest (fl : Tbl Byte) (e : Sect) : List Byte := shake256 (flBytes fl e.off e.len)

/-- A rejection: code, section type (0: header or directory), and the record or entry at which it was found (12 R420). -/
structure Reject where
  code : Nat
  sect : Nat
  entry : Option Nat
  deriving DecidableEq, Repr

/-! ## Header, key, directory (12 R407, R409, R410, R414 steps 1-6) -/

/-- Header fields other than SVN, which code 4 covers (DEDUCED, log entry 21). -/
def headerBad (s : State) (fl : Tbl Byte) : Bool :=
  flNat fl 0 4 != 0x4D49514E || flNat fl 4 2 != 1 || imgSections fl == 0 || decide (32 < imgSections fl) ||
    decide (imgSize fl < 8192 ∨ 33554432 < imgSize fl) || decide (rg s R.GLOBAL_STEPPING % 2 ^ 16 < flNat fl 0xC 2) ||
    decide (8 ≤ flNat fl 0xF 1) || decide (2 ≤ flNat fl 0x18 2) || flNat fl 0x1A 2 != 1793 || !flZero 0x24 fl 0x1C ||
    !flZero (0x740 - 1793) fl (0x40 + 1793) || decide (1536 < imgSigLen fl) || !flZero 14 fl 0x782 ||
    !flZero (1536 - imgSigLen fl) fl (0x790 + imgSigLen fl) || !flZero 48 fl 0xD90 || !flZero 0x840 fl 0x17C0

def State.keySlot (s : State) (k : Nat) : KeySlot := Tbl.get KeySlot.empty s.trust.slots k

def overlaps (a b : Sect) : Bool := decide (a.off < b.off + b.len ∧ b.off < a.off + a.len)

/-- Directory entry `i` breaks R409 or R410. -/
def dirBad (fl : Tbl Byte) (i : Nat) : Bool :=
  if imgSections fl ≤ i then !flZero 80 fl (dirAt i)
  else
    let e := sectAt fl i
    e.type == 0 || decide (6 < e.type) || flNat fl (dirAt i + 2) 2 != 0 || flNat fl (dirAt i + 0xC) 4 != 0 ||
      e.off % 4096 != 0 || decide (e.off < 0x2000) || e.len == 0 || decide (imgSize fl < e.off + e.len) ||
      (List.range i).any fun j => let d := sectAt fl j; d.type == e.type || overlaps d e

/-- Steps 1 to 6 of R414. -/
def admitFrame (s : State) (fl : Tbl Byte) : Option Reject :=
  if headerBad s fl then some ⟨1, 0, none⟩
  else if (s.keySlot (imgSlot fl)).state ≠ 1 ∨ shake256 (imgKey fl) ≠ (s.keySlot (imgSlot fl)).hash then some ⟨2, 0, none⟩
  else if Config.falconVerify (imgKey fl) (imgDigest fl) (flBytes fl 0x790 (imgSigLen fl)) = false then some ⟨3, 0, none⟩
  else if 128 < imgSvn fl ∨ imgSvn fl < s.trust.rollback then some ⟨4, 0, none⟩
  else
    match (List.range 32).find? (dirBad fl) with
    | some i => some ⟨5, 0, some i⟩
    | none =>
      if [1, 2, 3, 4].any (fun t => (sectOf fl t).len == 0) then some ⟨5, 0, none⟩
      else
        match (List.range (imgSections fl)).find? fun i => sectDigest fl (sectAt fl i) != flBytes fl (dirAt i + 0x10) 64 with
        | some i => some ⟨5, (sectAt fl i).type, none⟩
        | none => none

/-! ## Settings records (12 R411, R412) -/

/-- The records of a SETTINGS section, 16 bytes each. -/
def recsOf (fl : Tbl Byte) : List (List Byte) :=
  let e := sectOf fl 1
  (List.range (e.len / 16)).map fun i => flBytes fl (e.off + 16 * i) 16

def rKind (r : List Byte) : Nat := leAt r 0 1
def rB (r : List Byte) (o : Nat) : Nat := leAt r o 1
def rH (r : List Byte) (o : Nat) : Nat := leAt r o 2
/-- Bytes `o` to `p - 1` are zero. -/
def rZ (r : List Byte) (o p : Nat) : Bool := leAt r o (p - o) == 0

/-- Registers that a REG record may write (12 R412). -/
def regAllowed : List RegD :=
  [R.QUAD_CFG, R.FP_CFG, R.FP_MEAS, R.SP_RESERVED, R.DDR5_LIMIT, R.DDR5_PAT_REGION, R.DDR5_SCRUB_CFG, R.RECOV_CFG, R.PEER_ID,
    R.BGT_CTRL, R.CANOPY_CTRL, R.CANOPY_REGION, R.CANOPY_WINDOW_LO, R.CANOPY_WINDOW_HI] ++
  [R.IC_SRC_CFG, R.IC_GROUP, R.CMB_BIND, R.CMB_LOCK, R.LEASE_CFG, R.ISQ_FW_IDENT, R.PITCH_TENANT_BUDGET, R.CAMP_CFG,
    R.CAMP_TWIN_PORT, R.LANT_CFG, R.LANT_UTC, R.LANT_PPS_OUT, R.LANT_TOD_CFG, R.LANT_CLK_CFG] ++
  [R.CAL_USER, R.CAL_SLOT, R.METER_ATTR_CFG, R.METER_FEED, R.GLOBAL_FAULT_ENABLE]

/-- Indices of the register of a table row that stands at an offset. -/
def locateReg (d : RegD) (off : Nat) : Option (Nat × Nat) :=
  if off < d.off then none
  else
    let r := off - d.off
    let i := if d.s1 = 0 then 0 else r / d.s1
    let j := if d.s2 = 0 then 0 else (r - i * d.s1) / d.s2
    if i < d.n1 ∧ j < d.n2 ∧ i * d.s1 + j * d.s2 = r then some (i, j) else none

/-- The register at an offset among table rows. -/
def findReg (off : Nat) : List RegD → Option (RegD × Nat × Nat)
  | [] => none
  | d :: ds =>
    match locateReg d off with
    | some (i, j) => some (d, i, j)
    | none => findReg off ds

/-- Bits that a REG record writes: those that software can write, and the fields of PEER_ID and ISQ_FW_IDENT. -/
def imgMask (d : RegD) : Nat :=
  if d.off = R.PEER_ID.off then 0xFFFFFFFF else if d.off = R.ISQ_FW_IDENT.off then 0x0FFF3FFF else accMask d .rw + accMask d .lk

def recOff (r : List Byte) : Nat := leAt r 4 4
def recVal (r : List Byte) : Nat := leAt r 8 8

/-- A REG record breaks R412: register or width; FP_CFG.FUNCTION has codes 0 to 6 (10 R362). -/
def regBad (r : List Byte) : Bool :=
  match findReg (recOff r) regAllowed with
  | none => true
  | some (d, _, _) => rB r 1 * 8 != d.width || !rZ r 2 4 || (d.off == R.FP_CFG.off && decide (6 < fget (recVal r) F.FP_CFG_FUNCTION))

def isMac (n : Nat) : Bool := decide (64 ≤ n ∧ n < 96)

/-- A record has an unknown KIND or a field out of range (12 R411). Rows of a scratchpad bank are 0 to 1,535 (07 R254). -/
def recBad (r : List Byte) : Bool :=
  match rKind r with
  | 1 => regBad r
  | 2 => decide (8 ≤ rB r 1 ∨ 32 ≤ rB r 2 ∨ 1536 ≤ rH r 4) || !rZ r 3 4 || !rZ r 6 16
  | 3 => decide (12 < rB r 1 ∨ 32 ≤ rB r 2 ∨ rB r 3 = 0 ∨ 3 < rB r 3 ∨ 256 ≤ rH r 4) || !rZ r 6 8 || !rZ r 12 16
  | 4 => decide (32 ≤ rB r 1 ∨ rB r 2 = 0 ∨ 6 < rB r 2) || (rB r 2 == 5 && decide (128 ≤ rH r 4)) ||
      (rB r 2 == 6 && !isMac (rH r 4)) || !rZ r 3 4 || !rZ r 6 16
  | 5 => !isMac (rB r 2) || !rZ r 1 2 || decide (2 ≤ rB r 5 ∨ 4096 ≤ rH r 6) || !rZ r 14 16
  | 6 => decide (24 ≤ rB r 1 ∨ 2 ≤ rB r 3) || !rZ r 8 16
  | 7 => !isMac (rB r 2) || !rZ r 1 2 || decide (12 ≤ rB r 3) || !rZ r 7 16
  | 8 => decide (16 ≤ rB r 1) || !rZ r 4 16
  | 9 => !rZ r 1 2 || !rZ r 4 16
  | _ => true

/-- Records of a kind, with their indices. -/
def recsK (rs : List (List Byte)) (k : Nat) : List (Nat × List Byte) := ((List.range rs.length).zip rs).filter fun e => rKind e.2 == k

/-- Timers of the TIMER records: unit, feature and, for features 5 and 6, argument. -/
def timersOf (rs : List (List Byte)) : List (Nat × Nat × Nat) :=
  (recsK rs 4).map fun e => (rB e.2 1, rB e.2 2, if 5 ≤ rB e.2 2 then rH e.2 4 else 0)

/-- LANT_PPS_OUT, LANT_CLK_CFG and LANT_TOD_CFG: the timer feature of the output (12 R411). -/
def outputFeature (d : RegD) (i : Nat) : Option Nat :=
  if d.off = R.LANT_PPS_OUT.off then some (1 + i) else if d.off = R.LANT_CLK_CFG.off then some 3
  else if d.off = R.LANT_TOD_CFG.off then some 4 else none

/-- A write that enables an output without a timer is discarded (12 R411). -/
def outputDenied (s : State) (d : RegD) (i v : Nat) : Bool :=
  match outputFeature d i with
  | some f => v.testBit (d.width - 1) && !hasTimer s f 0
  | none => false

/-- A REG record takes effect at once (12 R415). -/
def applyReg (s : State) (r : List Byte) : State :=
  match findReg (recOff r) regAllowed with
  | none => s
  | some (d, i, j) =>
    let v := recVal r
    if d.off = R.IC_SRC_CFG.off then icSrcCfgWrite i v s
    else if d.off = R.LEASE_CFG.off ∧ i = 0 then s
    else if d.off = R.CANOPY_WINDOW_HI.off then windowHiS i j v s
    else if outputDenied s d i v then s
    else wr s d (v &&& imgMask d) i j

/-- Each endpoint port has its physical function (10 R356), one without an ENDPOINT record no virtual ones (DEDUCED, log entry 103). -/
def physFns (s : State) : State :=
  s.withTrust { s.trust with endpoints := (List.range 24).foldl (fun t q =>
    if quadPers s q = 1 ∧ quadPorts s q = [q] ∧ Tbl.get 0 t q = 0 then Tbl.set 0 t q 1 else t) s.trust.endpoints }

/-- The SETTINGS records applied: REG records, timers, endpoints, the management function, PTP, steering, partitions, the EtherType
of acknowledgements and soft repairs (12 R411). -/
def applySettings (rs : List (List Byte)) (s : State) : State :=
  let ends : Tbl Nat := (recsK rs 6).foldl (fun t e => Tbl.set 0 t (rB e.2 1) (rB e.2 2 + 1)) []
  let mgmt := ((recsK rs 6).find? fun e => rB e.2 3 == 1).map fun e => rB e.2 1 * 256
  let peer := ((recsK rs 9).getLast?).map fun e => rH e.2 2
  let ptpMacs := (recsK rs 7).map fun e => rB e.2 2
  let steers : Tbl (BitVec 128) :=
    (recsK rs 5).foldl (fun t e => Tbl.set 0 t (rB e.2 2 * 256 + rB e.2 3) (BitVec.ofNat 128 (leNat e.2))) []
  let s1 := { s with trust := { s.trust with
    timers := timersOf rs, endpoints := ends, mgmtFn := mgmt.getD 0, peerType := BitVec.ofNat 16 (peer.getD 0) } }
  let s2 := { s1 with ports := { s1.ports with
    ptp := ptpMacs, steer := steers } }
  let owner := fun (r : List Byte) => if rB r 3 = 1 then rH r 4 else if rB r 3 = 2 then 256 else 257
  let s3 := s2.withSched { s2.sched with
    partition := (recsK rs 3).foldl (fun (t : Tbl Nat) (e : Nat × List Byte) => Tbl.upd 0 t (rB e.2 1 * 512 + owner e.2) (· + rH e.2 10)) [] }
  let s4 := physFns ((recsK rs 1).foldl (fun u e => applyReg u e.2) s3)
  (recsK rs 2).foldl (fun u e => mapRow u (rB e.2 1) (rB e.2 2) (rH e.2 4)) s4

/-- Index of the last REG record of a register; none if the image has none. -/
def lastReg (rs : List (List Byte)) (d : RegD) (i : Nat) : Option Nat :=
  (((recsK rs 1).filter fun e => recOff e.2 == d.off + i * d.s1).getLast?).map (·.1)

/-- The first record of a list that clashes with one before it. -/
def firstClash {α : Type} (p : α → α → Bool) : List (Nat × α) → List (Nat × α) → Option Nat
  | _, [] => none
  | seen, e :: es => if seen.any (fun d => p d.2 e.2) then some e.1 else firstClash p (seen ++ [e]) es

/-! ## The ports of an image (10 R353) -/

/-- Quads of the group of a PCIe port by width code, of an Ethernet port by mode. -/
def groupSize (pers width mode : Nat) : Nat :=
  if pers = 3 then (if mode = 3 then 2 else 1) else if width = 3 then 2 else if width = 4 then 4 else 1

/-- Quad `q` of candidate settings breaks R353. -/
def quadBad (s : State) (q : Nat) : Bool :=
  let f := fun (x : Nat × Nat) (k : Nat) => rf s R.QUAD_CFG x k
  let p := f F.QUAD_CFG_PERSONALITY q
  if 24 ≤ q then p != 0 && p != 4
  else if p = 0 then false
  else if 3 < p then true
  else
    let w := f F.QUAD_CFG_WIDTH q
    let m := f F.QUAD_CFG_ETH_MODE q
    let n := f F.QUAD_CFG_PORT q
    let g := groupSize p w m
    let lead := q / g * g
    let same := (List.range g).all fun i =>
      f F.QUAD_CFG_PERSONALITY (lead + i) == p && f F.QUAD_CFG_PORT (lead + i) == n &&
        (if p = 3 then f F.QUAD_CFG_ETH_MODE (lead + i) == m else f F.QUAD_CFG_WIDTH (lead + i) == w)
    let last := n + (if p = 3 then (if m = 0 then 3 else if m = 1 then 1 else 0) else 0)
    let range := if p = 1 then n == lead else if p = 2 then decide (32 ≤ n ∧ n < 48) else isMac n && isMac last && decide (m ≤ 3)
    let clash := (List.range lead).any fun r => (quadPorts s r).any fun k => decide (n ≤ k ∧ k ≤ last)
    !same || !range || (p != 3 && decide (4 < w)) || clash

/-! ## Content checks of R420 -/

/-- Code 10 for a landing buffer: fewer slots in the common pool than R40 requires. -/
def poolSmall (rs : List (List Byte)) (b : Nat) : Bool :=
  let used := ((recsK rs 3).filter fun e => rB e.2 1 == b).foldl (fun n e => n + rH e.2 10) 0
  decide (bufSlots b < used + (if b < 12 then 1 else 32))

/-- Codes 7 to 11: the SETTINGS section alone; `t` is the state that its records give. -/
def checkSettings (rs : List (List Byte)) (len : Nat) (t : State) : Option Reject :=
  let no := fun (c : Nat) (i : Option Nat) => some (Reject.mk c 1 i)
  match (List.range rs.length).find? fun i => recBad (rs.getD i []) with
  | some i => no 7 (some i)
  | none =>
    if len % 16 ≠ 0 then no 7 (some (len / 16))
    else
      match (List.range 16).find? fun q => rf t R.FP_CFG F.FP_CFG_USED q &&& rf t R.FP_CFG F.FP_CFG_RANGER q != 0 with
      | some q => no 8 (lastReg rs R.FP_CFG q)
      | none =>
        let tm := (recsK rs 4).zip (timersOf rs)
        let ti := tm.map fun e => (e.1.1, e.2)
        match firstClash (fun a b => a.1 == b.1 || a.2 == b.2) [] ti with
        | some i => no 9 (some i)
        | none =>
          match (recsK rs 7).find? fun e => !hasTimer t 6 (rB e.2 2) with
          | some e => no 9 (some e.1)
          | none =>
            let clash := fun (a b : List Byte) => rB a 1 == rB b 1 &&
              (rB a 2 == rB b 2 || decide (rH a 8 < rH b 8 + rH b 10 ∧ rH b 8 < rH a 8 + rH a 10))
            match firstClash clash [] (recsK rs 3) with
            | some i => no 10 (some i)
            | none =>
              match (recsK rs 3).find? fun e => decide (bufSlots (rB e.2 1) < rH e.2 8 + rH e.2 10) with
              | some e => no 10 (some e.1)
              | none =>
                if (List.range 13).any (poolSmall rs) then no 10 none
                else
                  match (List.range 26).find? (quadBad t) with
                  | some q => no 11 (lastReg rs R.QUAD_CFG q)
                  | none =>
                    match firstClash (fun a b => rB a 3 == 1 && rB b 3 == 1 && rB a 1 != rB b 1) [] (recsK rs 6) with
                    | some i => no 11 (some i)
                    | none =>
                      match (recsK rs 6).find? fun e => !(quadPers t (rB e.2 1) == 1 && quadPorts t (rB e.2 1) == [rB e.2 1]) with
                      | some e => no 11 (some e.1)
                      | none => none

/-- Device number and entry of record `i` of the device table. -/
def devRec (fl : Tbl Byte) (i : Nat) : Nat × BitVec 128 :=
  let a := (sectOf fl 2).off + 32 * i
  (flNat fl a 2, BitVec.ofNat 128 (flNat fl (a + 16) 16))

/-- A field-port entry names a chip select or pin that the port's function does not provide or FP_CFG.USED does not hold (10 R362). -/
def fieldEntryBad (t : State) (e : BitVec 128) : Bool :=
  let q := devPort e - 128
  let used := rf t R.FP_CFG F.FP_CFG_USED q
  let sel := devSelect e
  match rf t R.FP_CFG F.FP_CFG_FUNCTION q with
  | 0 => true
  | 1 => decide (4 < sel % 8) || !used.testBit (3 + sel % 8) || decide (8 ≤ sel)
  | 2 => decide (sel % 8 ≠ 0) || !used.testBit 0 || !used.testBit 1
  | 5 => !used.testBit (sel % 8) || decide (8 ≤ sel)
  | 6 => !used.testBit (sel % 8) || decide (8 ≤ sel)
  | _ => sel != 0

/-- Fields of an entry that R153 does not allow; R360, R362. -/
def devBad (t : State) (e : BitVec 128) : Bool :=
  let sel := devSelect e
  if bitsOf e 7 6 ≠ 0 ∨ bitsOf e 31 28 ≠ 0 then true
  else
    match devPers e with
    | 0 => false
    | 1 => devPeer e || decide (devPort e < 32 ∨ 48 ≤ devPort e ∨ 2 ^ 52 ≤ sel)
    | 2 => !isMac (devPort e) || decide (2 ^ 19 ≤ sel) || decide (255 < sel % 2 ^ 16)
    | 3 => devPeer e || decide (devPort e < 128 ∨ 144 ≤ devPort e ∨ 1024 ≤ sel) || fieldEntryBad t e
    | _ => true

/-- Code 12 (12 R410): numbers ascend, each listed once. -/
def checkDevices (fl : Tbl Byte) (t : State) : Option Reject :=
  let e := sectOf fl 2
  let n := e.len / 32
  match (List.range n).find? fun i =>
      !flZero 14 fl (e.off + 32 * i + 2) || (0 < i && decide ((devRec fl i).1 ≤ (devRec fl (i - 1)).1)) || devBad t (devRec fl i).2 with
  | some i => some ⟨12, 2, some i⟩
  | none => if e.len % 32 = 0 then none else some ⟨12, 2, some n⟩

/-- The record of a program breaks R129 or R131. -/
def libBad (fl : Tbl Byte) (p : Nat) : Bool :=
  match libOff fl p with
  | none => false
  | some o =>
    let e := sectOf fl 3
    let a := e.off + o
    let cmds := flNat fl (a + 2) 2
    let budget := flNat fl (a + 4) 2
    let subs := flNat fl (a + 6) 1
    o % 32 != 0 || decide (o < 16384 ∨ e.len < o + 16) || flNat fl a 2 != p || cmds == 0 || decide (4096 < cmds) || budget == 0 ||
      decide (65534 < budget ∨ 64 < subs) || !flZero 9 fl (a + 7) || decide (e.len < o + cmdsOff subs + 32 * cmds) ||
      (List.range subs).any fun i =>
        let b := a + 0x10 + 8 * i
        decide (5 < flNat fl (b + 2) 1 % 16 ∨ 2 < flNat fl (b + 2) 1 / 16 ∨ 1 < flNat fl (b + 3) 1)

/-- Code 13. -/
def checkLibrary (fl : Tbl Byte) : Option Reject :=
  let e := sectOf fl 3
  if 2 ^ 21 < e.len ∨ e.len < 16384 then some ⟨13, 3, none⟩
  else ((List.range 4096).find? (libBad fl)).map fun p => ⟨13, 3, some p⟩

/-- A valid routine entry breaks R238 (06 R238). -/
def routineBad (v : Nat) : Bool :=
  v.testBit 63 && (fget v (55, 52) == 0 || fget v (51, 28) == 0 || v % 2 == 1 || fget v (60, 56) != 0 || fget v (27, 17) != 0)

/-- Code 14. -/
def checkIsquin (fl : Tbl Byte) : Option Reject :=
  let e := sectOf fl 4
  if e.len < 8192 + 33 * 32 then some ⟨14, 4, none⟩
  else
    match (List.range 1024).find? fun n => routineBad (routineAt fl n) with
    | some n => some ⟨14, 4, some n⟩
    | none =>
      ((List.range 33).find? fun k => (List.range 3).any fun m =>
        let (o, n) := coreImage fl k m
        decide (coreMemSize k m < n ∨ (n ≠ 0 ∧ e.len < o + n))).map fun k => ⟨14, 4, some k⟩

/-- MiB that the areas of R413 take on channel `c`. -/
def areaMiB (t : State) (c : Nat) : Nat :=
  let copy := c == rf t R.RECOV_CFG F.RECOV_CFG_COPY_A || c == rf t R.RECOV_CFG F.RECOV_CFG_COPY_B
  let spare := c == rf t R.RECOV_CFG F.RECOV_CFG_SPARE
  if copy then 1088 + (if rb t R.CAMP_CFG F.CAMP_CFG_ENABLE then 1088 else 0) + 64 + 64 else if spare then 1088 else 0

/-- Channel `c` reserves less than its areas take; a channel out of service takes part only where an area is placed on it. -/
def spanSmall (t : State) (c : Nat) : Bool :=
  let cap := if ddrPresent t c then rf t R.DDR5_INFO F.DDR5_INFO_CAPACITY c * 2 ^ 30 else 0
  decide (areaMiB t c ≠ 0 ∧ cap < ddrLimit t c + areaMiB t c * 2 ^ 20)

/-- Code 15; `lib` is the length of LIBRARY. -/
def checkLayout (lib : Nat) (t : State) : Option Reject :=
  let a := rf t R.RECOV_CFG F.RECOV_CFG_COPY_A
  let b := rf t R.RECOV_CFG F.RECOV_CFG_COPY_B
  let sp := rf t R.RECOV_CFG F.RECOV_CFG_SPARE
  if (List.range 16).any (spanSmall t) ∨ a = b ∨ sp = a ∨ sp = b ∨
      (List.range 8).any (fun p => decide (0x1800000 < spReserved t p + lib + 2 ^ 22)) then some ⟨15, 1, none⟩
  else none

/-- The first rejection of a list of checks. -/
def firstOf : List (Option Reject) → Option Reject
  | [] => none
  | some r :: _ => some r
  | none :: l => firstOf l

/-- Every check of R414 and R420 but code 16 on the image of a flash device, in the order of the codes (DEDUCED, log entry 21). `s0` is the
state that settings are applied to. -/
def admitImage (s s0 : State) (fl : Tbl Byte) : Option Reject :=
  match admitFrame s fl with
  | some r => some r
  | none =>
    let rs := recsOf fl
    let t := applySettings rs s0
    match checkSettings rs (sectOf fl 1).len t with
    | some r => some r
    | none => firstOf [checkDevices fl t, checkLibrary fl, checkIsquin fl, checkLayout (sectOf fl 3).len t]

/-- Code 16: a reloaded section conflicts with the settings in force (12 R418). -/
def checkInForce (s : State) (fl : Tbl Byte) : Option Reject :=
  match checkDevices fl s with
  | some r => some ⟨16, 2, r.entry⟩
  | none => (checkLayout (sectOf fl 3).len s).map fun _ => ⟨16, 3, none⟩

end Sys2Proof.Machine
end

