-- ==== Sys2Proof/Machine/Trail.lean ====
section
/-! DEFINITION. Trailhead: loading an image, the OTP settings, flash and attestation (12). -/
namespace Sys2Proof.Machine

/-! ## Reading flash and recording rejections (12 R420, R429) -/

def flash (s : State) (b : Bool) : Tbl Byte := if b then s.trust.flash1 else s.trust.flash0
def setFlash (s : State) (b : Bool) (fl : Tbl Byte) : State :=
  s.withTrust (if b then { s.trust with flash1 := fl } else { s.trust with flash0 := fl })

def goodField (b : Bool) : Nat × Nat := if b then F.TH_FLASH_STATUS_GOOD_B else F.TH_FLASH_STATUS_GOOD_A
def flashGood (s : State) (b : Bool) : Bool := rb s R.TH_FLASH_STATUS (goodField b)
def setGood (s : State) (b v : Bool) : State := wf s R.TH_FLASH_STATUS (goodField b) (b2n v)

/-- TH_REJECT of an image takes the result of a check; a rejection sets TH_FAULT.REJECTED. An ENTRY that the failure does not have is
free (log entry 21). -/
def recordReject (s : State) (b : Bool) : Option Reject → State
  | none => wr s R.TH_REJECT 0 (b2n b)
  | some r =>
    let e := r.entry.getD (Config.rejectEntry r.code r.sect)
    let v := fset (fset (fset (fset 0 F.TH_REJECT_VALID 1) F.TH_REJECT_CODE r.code) F.TH_REJECT_SECTION r.sect) F.TH_REJECT_ENTRY e
    wf (wr s R.TH_REJECT v (b2n b)) R.TH_FAULT F.TH_FAULT_REJECTED 1

/-- The state that an image's settings are applied to when it is checked: registers at reset, with the DIMMs and fuses of the part. -/
def checkBase (s : State) : State :=
  { State.reset with
    regs := Tbl.keep (fun k => (locateReg R.DDR5_INFO k).isSome) s.regs
    trust := s.trust }

/-- Every check but code 16 on the image of a device. -/
def verify (s : State) (b : Bool) : Option Reject := admitImage s (checkBase s) (flash s b)

/-! ## The change log (12 R423) -/

/-- Entry `e` is PENDING and neither DONE nor FAILED. -/
def logOpen (e : BitVec 128) : Bool := bitsOf e 15 8 == 1

def setKeySlot (s : State) (k : Nat) (x : KeySlot) : State :=
  s.withTrust { s.trust with slots := Tbl.set KeySlot.empty s.trust.slots k x }

/-- What an interrupted change came to, which the spec leaves open: whether its bits were wholly written, whether any was, and a number. -/
def interrupted (s : State) : Bool × Bool × Nat × State :=
  let (w, s1) := takeFree s
  (w.getLsbD 0, w.getLsbD 1, w.toNat / 4, s1)

/-- Reconcile log entry `i` (12 R423). -/
def reconcileEntry (s : State) (i : Nat) : State :=
  let e := s.trust.log.getD i 0
  if logOpen e = false then s
  else
    let kind := bitsOf e 7 0
    let arg := bitsOf e 31 16
    let (whole, any, n, s1) := interrupted s
    let x := s1.keySlot arg
    let (done, s2) :=
      if kind = 2 then
        (if x.state = 1 ∨ whole then (true, if x.state = 0 then setKeySlot s1 arg { x with state := 1 } else s1)
         else if any ∧ x.state = 0 then
          let (bs, s3) := freeBytes 64 s1
          (false, setKeySlot s3 arg { state := 3, hash := List.zipWith (· &&& ·) x.hash bs })
         else (false, if x.state = 0 then setKeySlot s1 arg KeySlot.empty else s1))
      else if kind = 3 then
        (if x.state = 2 ∨ whole then (true, setKeySlot s1 arg { x with state := 2 }) else (false, s1))
      else if kind = 4 then
        let v := s1.trust.rollback + n % (arg + 1 - s1.trust.rollback)
        (decide (arg ≤ v), s1.withTrust { s1.trust with rollback := v })
      else (whole, s1)
    s2.withTrust { s2.trust with log := s2.trust.log.set i (e ||| BitVec.ofNat 128 ((if done then 2 else 4) * 256)) }

/-- Trailhead reads OTP: operations that a reset interrupted are reconciled. -/
def reconcile (s : State) : State :=
  let s1 := (s.withTrust { s.trust with otpOp := none, calWaiting := false, armed := none }).withLant { s.lant with committing := false }
  (List.range s1.trust.log.length).foldl reconcileEntry s1

/-- The values of the latest commit slot whose log entry is DONE (09 R330). -/
def lastCommit (s : State) : Option (Tbl W64) :=
  let es := s.trust.log.filter fun e => bitsOf e 7 0 == 5
  let ok := (List.range es.length).filter fun i => (es.getD i 0).getLsbD 9
  ok.getLast?.map fun i => s.lant.commits.getD i []

/-! ## Loading an image (12 R410-R415, R418) -/

/-- Set the LOCK bits of the registers that R412 names, and CMB_LOCK. -/
def setLocks (s : State) : State :=
  let all := fun (u : State) (d : RegD) (f : Nat × Nat) => (List.range d.n1).foldl (fun w i => wf w d f 1 i) u
  let s1 := all (all (all s R.QUAD_CFG F.QUAD_CFG_LOCK) R.FP_CFG F.FP_CFG_LOCK) R.SP_RESERVED F.SP_RESERVED_LOCK
  let s2 := all (all (all s1 R.DDR5_LIMIT F.DDR5_LIMIT_LOCK) R.DDR5_PAT_REGION F.DDR5_PAT_REGION_LOCK) R.RECOV_CFG F.RECOV_CFG_LOCK
  all (all (all s2 R.CANOPY_CTRL F.CANOPY_CTRL_LOCK) R.CAMP_CFG F.CAMP_CFG_LOCK) R.CMB_LOCK F.CMB_LOCK_LOCK

/-- The record of program `p` (04 R129, R130). -/
def libRecOf (fl : Tbl Byte) (p o : Nat) : LibRec :=
  let a := (sectOf fl 3).off + o
  let subs := flNat fl (a + 6) 1
  { program := BitVec.ofNat 16 p, budget := BitVec.ofNat 16 (flNat fl (a + 4) 2)
    subs := (List.range subs).map fun i =>
      let b := a + 0x10 + 8 * i
      (flNat fl b 2, flNat fl (b + 2) 1 % 16, flNat fl (b + 2) 1 / 16, flNat fl (b + 3) 1, flNat fl (b + 4) 2)
    cmds := (List.range (flNat fl (a + 2) 2)).map fun i => BitVec.ofNat 256 (flNat fl (a + cmdsOff subs + 32 * i) 32) }

/-- The library: programs by number; each pitch holds a copy of the section in its reserved area (04 R128, 07 R454). -/
def loadLibrary (fl : Tbl Byte) (s : State) : State :=
  let lib := (List.range 4096).filterMap fun p => (libOff fl p).map fun o => (p, libRecOf fl p o)
  (List.range 8).foldl (fun u p => libCopy p (wr u R.PITCH_LIB_INFO lib.length p))
    { s with prog := { s.prog with library := lib, libraryBad := [] }, trust := { s.trust with store := fl } }

def loadDevices (fl : Tbl Byte) (s : State) : State :=
  let recs := (List.range ((sectOf fl 2).len / 32)).map (devRec fl)
  { s with prog := { s.prog with devices := recs.foldl (fun t e => Tbl.set 0 t e.1 e.2) [] } }

/-- A byte image as a memory from address 0. -/
def imageMem (fl : Tbl Byte) (o : Nat × Nat) : Tbl Byte := twrite 0 [] 0 (flBytes fl ((sectOf fl 4).off + o.1) o.2)

/-- Routine tables, firmware stores, and cores at their reset vectors (06 R238, R243). -/
def loadIsquin (fl : Tbl Byte) (s : State) : State :=
  let s1 := (List.range 8).foldl (fun u p => (List.range 1024).foldl (fun w n => wr w R.ROUTINE (routineAt fl n) p n) u) s
  (List.range 33).foldl (fun u k =>
    let m := fun (i : Nat) => imageMem fl (coreImage fl k i)
    let c := { Core.reset with storeI := m 0, storeX := m 1, storeY := m 2, storeGood := true }
    loadCore (u.setCore k { c with storeDigest := some (shake256 (storeBytes c k)) }) k) s1

/-- A timetable section as a frame bank: 64 KiB of header and directory, then ENTRY_COUNT stake entries (12 R410). -/
def bankOfSect (fl : Tbl Byte) (e : Sect) : Bank :=
  let rd := fun (o : Nat) (n : Nat) => flNat fl (e.off + o) n
  let hdr := [(0, 2), (2, 1), (4, 4), (8, 8), (0x10, 2)] ++ (List.range 8).map fun i => (0x40 + 8 * i, 8)
  let b := hdr.foldl (fun u f => u.write f.1 f.2 (rd f.1 f.2)) Bank.empty
  let n := min b.count ((e.len - 0x10000) / 8)
  { b with
    dir := (List.range (64 * 24)).foldl (fun t i => Tbl.set 0 t i (BitVec.ofNat 64 (rd (0x1000 + 8 * i) 8))) []
    stakes := (List.range n).foldl (fun t i => Tbl.set 0 t i (BitVec.ofNat 64 (rd (0x10000 + 8 * i) 8))) [] }

/-- The timetables: bank A is checked and made active, or the device starts free-lane-only with cause 5 (02, after R70). -/
def loadBanks (fl : Tbl Byte) (s : State) : State :=
  let put := fun (u : State) (b : Bool) (ty : Nat) => if (sectOf fl ty).len = 0 then u else setBank u b (bankOfSect fl (sectOf fl ty))
  let s1 := put (put s false 5) true 6
  let s2 := if (sectOf fl 5).len = 0 then s1 else endCheck s1 false false (checkBank s1 s1.sched.bankA)
  if rb s2 R.SCHED_STATUS F.SCHED_STATUS_CHECKED_A then
    stf (stf s2 F.SCHED_STATUS_ACTIVE 0) F.SCHED_STATUS_ACTIVE_PERIOD s2.sched.bankA.period
  else contractFault s2 5 0 0 0 0

/-- The device table's bytes as its digest takes them; with a camp, every PORT byte reads as zero (11 R390). -/
def deviceBytes (s : State) (fl : Tbl Byte) : List Byte :=
  let bs := flBytes fl (sectOf fl 2).off (sectOf fl 2).len
  if rb s R.CAMP_CFG F.CAMP_CFG_ENABLE then ((List.range bs.length).zip bs).map fun e => if e.1 % 32 = 17 then 0 else e.2 else bs

/-- What trailhead keeps of an image whose reloaded sections are in force. -/
def imageOf (s : State) (fl : Tbl Byte) (settings : List Byte) : Image :=
  { imageId := BitVec.ofNat 64 (flNat fl 0x10 8), svn := imgSvn fl, keySlot := imgSlot fl, otpLock := flNat fl 0x18 1 % 2 == 1
    digest := imgDigest fl, settingsDigest := settings, libraryDigest := sectDigest fl (sectOf fl 3)
    deviceDigest := shake256 (deviceBytes s fl) }

/-- The reloaded sections of an image (12 R410). -/
def reloadSections (fl : Tbl Byte) (s : State) : State := loadBanks fl (loadIsquin fl (loadLibrary fl (loadDevices fl s)))

/-- A domain that the device uses is ON, the others OFF (13 R433). -/
def domainUsed (s : State) (d : Nat) : Bool :=
  if 8 ≤ d ∧ d < 32 then quadPers s (d - 8) != 0
  else if 32 ≤ d ∧ d < 44 then ddrPresent s (d - 32)
  else if d = 44 then campOn s || inTest s 24 || inTest s 25
  else true
def setDomains (s : State) (used : Nat → Bool) : State :=
  { s with power := { s.power with queued := [], dom := (List.range 49).filterMap fun d => if used d then none else some (d, 4#32) } }

/-- I3C targets get their dynamic addresses (10 R363). -/
def sendSetdasa (rs : List (List Byte)) (s : State) : State :=
  (recsK rs 8).foldl (fun u e => emit u (.setdasa (128 + rB e.2 1) (rB e.2 2) (rB e.2 3))) s

/-- Kinds of reset (12 TH_BOOT_INFO): warm and fault keep the settings in force. -/
def keepsSettings (kind : Nat) : Bool := kind == 3 || kind == 4

/-- Boot information of an accepted image. -/
def bootInfo (kind ms : Nat) (b deferred : Bool) (s : State) : State :=
  let v := fset (fset (fset 0 F.TH_BOOT_INFO_SOURCE (b2n b)) F.TH_BOOT_INFO_RESET_KIND kind) F.TH_BOOT_INFO_DEFERRED (b2n deferred)
  let w := fset (fset (fset v F.TH_BOOT_INFO_SVN s.trust.image.svn) F.TH_BOOT_INFO_KEY_SLOT s.trust.image.keySlot)
    F.TH_BOOT_INFO_DURATION (min ms 8191)
  wr s R.TH_BOOT_INFO w

/-- An image of device `b` is accepted after power-on or cold reset: all of it is placed, its settings applied, locks set. -/
def loadFresh (kind ms : Nat) (b : Bool) (s : State) : State :=
  let fl := flash s b
  let rs := recsOf fl
  let s1 := ((lastCommit s).getD []).foldl (fun u e => wr u R.CAL_USER e.2.toNat e.1) s
  let s2 := reloadSections fl (setLocks (applySettings rs s1))
  let s3 := s2.withTrust { s2.trust with image := imageOf s2 fl (sectDigest fl (sectOf fl 1)), fromB := b, store := fl }
  let s4 := sendSetdasa rs (setDomains s3 (domainUsed s3))
  let s5 := if recovOn s4 then writeHeader (s4.withRecov Recov.reset) else s4
  setGood (wf (bootInfo kind ms b false s5) R.TH_FAULT F.TH_FAULT_FALLBACK (b2n b)) b true

/-- An image of device `b` is accepted after a warm or fault reset: its reloaded sections are placed; SETTINGS that differ are deferred
(12 R418). -/
def loadAgain (kind ms : Nat) (b : Bool) (s : State) : State :=
  let fl := flash s b
  let deferred := sectDigest fl (sectOf fl 1) != s.trust.image.settingsDigest
  let s1 := reloadSections fl s
  let s2 := s1.withTrust { s1.trust with image := imageOf s1 fl s.trust.image.settingsDigest, fromB := b, store := fl }
  let s3 := setDomains s2 (domainUsed s2)
  let s4 := if deferred then wf s3 R.TH_FAULT F.TH_FAULT_DEFERRED 1 else s3
  setGood (wf (bootInfo kind ms b deferred s4) R.TH_FAULT F.TH_FAULT_FALLBACK (b2n b)) b true

/-- Both images are rejected at a warm or fault reset: the reloaded sections come from the image store. -/
def loadStore (kind ms : Nat) (s : State) : State :=
  let s1 := reloadSections s.trust.store s
  bootInfo kind ms s1.trust.fromB false (setDomains s1 (domainUsed s1))

/-- The no-image state (12 R419): one x16 endpoint port with its physical function, everything else off, the ranger core halted. -/
def noImage (kind : Nat) (ms : Nat) (s : State) : State :=
  let s1 := (List.range 4).foldl (fun u q => wf (wf u R.QUAD_CFG F.QUAD_CFG_PERSONALITY 1 q) R.QUAD_CFG F.QUAD_CFG_WIDTH 4 q) s
  let s2 := s1.withTrust { s1.trust with endpoints := [(0, 1)], mgmtFn := 0, image := Image.none }
  let s3 := setDomains s2 fun d => (8 ≤ d && d < 12) || d == 45 || d == 47 || d == 48
  let s4 := (List.range 33).foldl (fun u k => u.setCore k { u.core k with halt := 1 }) s3
  let v := fset (fset (fset 0 F.TH_BOOT_INFO_SOURCE 2) F.TH_BOOT_INFO_RESET_KIND kind) F.TH_BOOT_INFO_DURATION (min ms 8191)
  wf (wr s4 R.TH_BOOT_INFO v) R.TH_FAULT F.TH_FAULT_NO_IMAGE 1

/-- The check of the image of device `b` at a reset of a kind (12 R414, R418). -/
def admitAt (kind : Nat) (s : State) (b : Bool) : Option Reject :=
  match verify s b with
  | some r => some r
  | none => if keepsSettings kind then checkInForce s (flash s b) else none

/-- Lantern time goes on for the milliseconds that trailhead takes (09 R307); the last two measures move on with it, as no frame is measured
in between. -/
def lantMs (ms : Nat) (s : State) : State :=
  let l := s.lant
  let t := LTime.of (l.time.units + ms * 1000 * lantSpan 1250000 s)
  let x := { l with time := t }.now - l.now
  s.withLant { l with time := t, mNow := l.mNow + x, m1 := l.m1 + x }

/-- Trailhead (12 R415), up to its end at the next frame start: read OTP, try image A, then image B. -/
def trailhead (kind ms : Nat) (s0 : State) : State :=
  let s := lantMs ms s0
  let s1 := reconcile (s.withTrust { s.trust with phase := 4, resetKind := kind, report := none, signing := false })
  let ld := if keepsSettings kind then loadAgain kind ms else loadFresh kind ms
  let a := admitAt kind s1 false
  let s2 := recordReject s1 false a
  if a.isNone then ld false s2
  else
    let b := admitAt kind s2 true
    let s3 := recordReject s2 true b
    if b.isNone then ld true s3 else if keepsSettings kind then loadStore kind ms s3 else noImage kind ms s3

/-! ## Attestation (12 R426-R428) -/

/-- The eight slot hashes, 64 bytes each, and the digest over OTP (12 R427). -/
def slotHashes (s : State) : List Byte := (List.range 8).flatMap fun k => bytesAt (s.keySlot k).hash 0 64
def logBytes (s : State) : List Byte := s.trust.log.flatMap fun e => leBytes 16 e.toNat

/-- KEY_STATES of a report. -/
def keyStates (s : State) : Nat := ((List.range 8).map fun k => (s.keySlot k).state * 4 ^ k).foldl (· + ·) 0

/-- An attestation report begun now, 1 KiB before its signature (12 R427). With no meter block closed, METER_HEAD and
METER_SEQ are free (log entry 2). -/
def makeReport (kind : Nat) (s : State) : List Byte × State :=
  let t := s.trust
  let info := rg s R.TH_BOOT_INFO
  let (fh, s1) := if kind = 1 ∧ s.meter.chainSeq = 0 then freeBytes 72 s else (s.meter.prevHead ++ leBytes 8 (s.meter.chainSeq.toNat - 1), s)
  let sid := match activeBank s with
    | some b => (bankOf s b).id
    | none => 0
  let fields : List (Nat × List Byte) :=
    [(0, leBytes 2 1), (2, leBytes 1 kind), (3, leBytes 1 t.resetKind), (4, leBytes 2 (rg s R.GLOBAL_STEPPING)),
     (6, leBytes 1 (s.lant.state + 128 * b2n (timeValid s))), (8, bytesAt Config.serial 0 8), (0x10, leBytes 8 (coreSec s % 2 ^ 48)),
     (0x18, leBytes 4 (coreSubNs s)), (0x20, leBytes 8 s.sched.frame.toNat), (0x28, leBytes 8 sid),
     (0x30, leBytes 8 t.image.imageId.toNat)] ++
    [(0x38, leBytes 1 t.image.svn), (0x39, leBytes 1 (t.image.keySlot + 128 * b2n t.fromB)), (0x3A, leBytes 1 t.rollback),
     (0x3B, leBytes 1 (commitsUsed s)), (0x3C, leBytes 2 (keyStates s)), (0x3E, leBytes 2 t.log.length),
     (0x40, bytesAt t.image.digest 0 64), (0x80, shake256 (slotHashes s ++ logBytes s))] ++
    (if kind = 0 then [] else
      [(0xC0, (List.range 8).flatMap fun i => leBytes 8 (rg s R.TH_NONCE i)), (0x100, bytesAt fh 0 72)]) ++
    [(0x148, leBytes 2 (b2n t.fromB + 2 * fget info F.TH_BOOT_INFO_DEFERRED + 4 * b2n (freeOnly s)))]
  (fields.foldl (fun l f => splice l f.1 f.2) (List.replicate 0x400 0#8), s1)

/-- REQUEST (12 R427): a report begins with the present TH_NONCE; one that runs is not disturbed. -/
def attestS (v : Nat) (s : State) : State :=
  if v.testBit 31 = false ∨ s.trust.report.isSome then s
  else
    let (r, s1) := makeReport 1 s
    wf (s1.withTrust { s1.trust with report := some r, signing := false }) R.TH_ATTEST_CTRL F.TH_ATTEST_CTRL_READY 0

/-- REQUEST (12 R427). -/
def execAttestRequest (v : W32) (s : State) : Host.Outcome State Fault Refusal := doneReg s (mgmtOnly s (attestS v.toNat s))

/-- A report's signature begins between seconds 1 and 58 of a minute, while no meter head waits (12 R428). -/
def signStartS (s : State) : State :=
  if s.trust.report.isSome ∧ s.trust.signing = false ∧ 1 ≤ lantSec s % 60 ∧ lantSec s % 60 ≤ 58 ∧
      (s.meter.blocks.any (·.unsigned)) = false then
    s.withTrust { s.trust with signing := true }
  else s

/-- REPORT_SIGN_START (12 R428). -/
def execReportSignStart (s : State) : Host.Outcome State Fault Refusal := doneReg s (signStartS s)

/-- A report with its signature, 4 KiB (12 R427). -/
def signReport (r sig : List Byte) : List Byte :=
  splice (splice (r ++ List.replicate 0xC00 0#8) 0x400 (leBytes 2 sig.length)) 0x410 sig

/-- The signature ends; READY. -/
def signedS (s : State) : State :=
  match s.trust.report with
  | some r =>
    if s.trust.signing then
      let sig := (Config.falconSign s.free (shake256 r)).take 1536
      let s1 := { s with free := s.free + 1, trust := { s.trust with lastReport := signReport r sig, report := none, signing := false } }
      wf s1 R.TH_ATTEST_CTRL F.TH_ATTEST_CTRL_READY 1
    else s
  | none => s

/-- REPORT_SIGNED (12 R428). -/
def execReportSigned (s : State) : Host.Outcome State Fault Refusal := doneReg s (signedS s)

/-- The identity certificate, 4 KiB (12 R426). -/
def certificate : List Byte :=
  let sig := Config.certSignature.take 1536
  let fields : List (Nat × List Byte) :=
    [(0, leBytes 2 1), (2, leBytes 2 1793), (8, bytesAt Config.serial 0 8), (0x10, bytesAt Config.issuer 0 8), (0x18, leBytes 4 0x96404E00),
     (0x40, bytesAt Config.identityKey 0 1793), (0x780, leBytes 2 sig.length), (0x790, sig)]
  fields.foldl (fun l f => splice l f.1 f.2) (List.replicate 4096 0#8)

/-- Byte `o` on of the object that TH_WINDOW shows (12 TH_WINDOW_SELECT). -/
def windowObject (s : State) : List Byte :=
  match rf s R.TH_WINDOW_SELECT F.TH_WINDOW_SELECT_OBJECT with
  | 0 => s.trust.lastReport
  | 1 => s.trust.bootReport
  | 2 => certificate
  | 3 => logBytes s
  | 4 => slotHashes s
  | _ => []

/-! ## The end of trailhead (12 R415, R427, R430) -/

/-- Trailhead ends: an image runs, or the device is in the no-image state. The meter chain of a power-on or cold reset begins with the boot report
(09 R342); after a warm or fault reset the minute goes on (09 R346). -/
def endTrailhead (s : State) : State :=
  if s.trust.phase ≠ 4 then s
  else if rb s R.TH_FAULT F.TH_FAULT_NO_IMAGE then
    let s1 := s.withTrust { s.trust with phase := 2 }
    (s1.withLant { s1.lant with inReset := false }).withTrust { s1.trust with bootReport := signReport (makeReport 0 s1).1 [] }
  else
    let s0 := s.withTrust { s.trust with phase := 1 }
    let s1 := if (activeBank s0).isSome then wr s0 R.SCHED_LAST_SWAP s0.sched.frame.toNat else s0
    let fen := s1.camp.state == 6
    let s2 := s1.withCamp { s1.camp with state := if fen then 6 else b2n (campOn s1), arbOut := if fen then 0 else 1 }
    let s3 := s2.withLant { s2.lant with inReset := false }
    let (r, s4) := makeReport 0 s3
    let s5 := wf (s4.withTrust { s4.trust with bootReport := signReport r [] }) R.TH_FLASH_STATUS F.TH_FLASH_STATUS_CHECKING 1
    if keepsSettings s.trust.resetKind then s5.withMeter { s5.meter with cur := { s5.meter.cur with firstFrame := s5.sched.frame } }
    else
      openMinute (s5.withMeter { Meter.reset with started := true, prevHead := shake256 r, cpFrame := s5.sched.frame }) (frameMinute s5) 0 0

/-- The other device's image is verified after trailhead (12 R430). -/
def backgroundS (s : State) : State :=
  if rb s R.TH_FLASH_STATUS F.TH_FLASH_STATUS_CHECKING then
    let b := !s.trust.fromB
    let r := verify s b
    wf (setGood (recordReject s b r) b r.isNone) R.TH_FLASH_STATUS F.TH_FLASH_STATUS_CHECKING 0
  else s

/-- BACKGROUND_VERIFY (12 R430). -/
def execBackgroundVerify (s : State) : Host.Outcome State Fault Refusal := done s (backgroundS s)

/-! ## OTP operations (12 R421-R424) -/

/-- TH_OTP_ARM (12 R422). -/
def otpArmS (v : Nat) (s : State) : State :=
  s.withTrust { s.trust with armed := if v % 2 ^ 16 = 0x5A5A then some s.sched.frame else none }

/-- TH_OTP_ARM (12 R422). -/
def execThOtpArm (v : W32) (s : State) : Host.Outcome State Fault Refusal := doneReg s (mgmtOnly s (otpArmS v.toNat s))

/-- The arm was made within the preceding 1,000 frames. -/
def otpArmed (s : State) : Bool :=
  match s.trust.armed with
  | some f => decide (s.sched.frame.toNat ≤ f.toNat + 1000)
  | none => false

/-- ARM_EXPIRY (12 R422). -/
def armExpiryS (s : State) : State := if otpArmed s then s else s.withTrust { s.trust with armed := none }
def execArmExpiry (s : State) : Host.Outcome State Fault Refusal := doneReg s (armExpiryS s)

def otpBusy (s : State) : Bool := s.trust.otpOp.isSome || s.lant.committing
def otpResult (s : State) (r : Nat) : State := wf s R.TH_OTP_STATUS F.TH_OTP_STATUS_RESULT r

/-- The result with which operation `op` on `arg` is refused on its own conditions; 0: it runs (12 R422). -/
def otpRefusal (s : State) (op arg : Nat) : Nat :=
  let others := (List.range 8).any fun k => k != arg && (s.keySlot k).state == 1
  if op = 1 then (if arg < 8 ∧ (s.keySlot arg).state = 0 then 0 else 5)
  else if op = 2 then
    (if 8 ≤ arg ∨ (s.keySlot arg).state ≠ 1 then 5
    else if (running s = true ∧ arg = s.trust.image.keySlot) ∨ others = false then 6 else 0)
  else if arg ≤ s.trust.rollback ∨ s.trust.image.svn < arg then 7
  else if flashGood s (!s.trust.fromB) = false ∨ imgSvn (flash s (!s.trust.fromB)) < arg then 8
  else 0

/-- A write of TH_OTP_CMD with operation `op` (12 R422). A write while BUSY is discarded; a command that is judged uses up the arm
(DEDUCED, log entry 22). -/
def otpCmdS (op v : Nat) (s : State) : State :=
  if v % 16 ≠ op ∨ otpBusy s then s
  else
    let arg := v / 256 % 256
    let s1 := s.withTrust { s.trust with armed := none }
    if otpArmed s = false then otpResult s1 2
    else if s.trust.image.otpLock then otpResult s1 4
    else
      let r := otpRefusal s op arg
      if r ≠ 0 then otpResult s1 r
      else
        let s2 := logBegin (s1.withTrust { s1.trust with otpOp := some (op, arg) }) (op + 1) arg
        if op = 1 then
          setKeySlot s2 arg { state := 0, hash := (List.range 8).flatMap fun i => leBytes 8 (rg s R.TH_OTP_DATA i) }
        else s2

/-- PROGRAM_SLOT (12 R422). -/
def execProgramSlot (v : W32) (s : State) : Host.Outcome State Fault Refusal := doneReg s (mgmtOnly s (otpCmdS 1 v.toNat s))
/-- REVOKE_SLOT (12 R422). -/
def execRevokeSlot (v : W32) (s : State) : Host.Outcome State Fault Refusal := doneReg s (mgmtOnly s (otpCmdS 2 v.toNat s))
/-- ADVANCE_ANTI_ROLLBACK (12 R422). -/
def execAdvanceAntiRollback (v : W32) (s : State) : Host.Outcome State Fault Refusal := doneReg s (mgmtOnly s (otpCmdS 3 v.toNat s))

/-- The setting of an operation is wholly written. -/
def otpWritten (s : State) (op arg : Nat) : State :=
  if op = 1 then setKeySlot s arg { s.keySlot arg with state := 1 }
  else if op = 2 then setKeySlot s arg { s.keySlot arg with state := 2 }
  else s.withTrust { s.trust with rollback := arg }

/-- An OTP change ends (12 R423); one that failed verification stays for the next trailhead. A waiting calibration commit begins. -/
def otpDoneS (ok : Bool) (s : State) : State :=
  match s.trust.otpOp with
  | none => s
  | some (op, arg) =>
    let s1 := s.withTrust { s.trust with otpOp := none }
    let s2 := if ok then otpResult (logEnd (otpWritten s1 op arg) 2) 1 else otpResult s1 9
    if s2.trust.calWaiting then commitBegin (s2.withTrust { s2.trust with calWaiting := false }) else s2

/-- OTP_WRITE_COMPLETE (12 R423). -/
def execOtpWriteComplete (ok : Bool) (s : State) : Host.Outcome State Fault Refusal := doneReg s (otpDoneS ok s)

/-! ## Flash operations (12 R429) -/

def flashResult (s : State) (r : Nat) : State := wf s R.TH_FLASH_STATUS F.TH_FLASH_STATUS_RESULT r

/-- A write of TH_FLASH_CTRL with START and operation `op` (12 R429). -/
def flashStartS (op v : Nat) (s : State) : State :=
  if v.testBit 31 = false ∨ fget v F.TH_FLASH_CTRL_OP ≠ op then s
  else
    let s1 := swRw s R.TH_FLASH_CTRL v
    if s.trust.flashOp.isSome then s1
    else
      let b := fget v F.TH_FLASH_CTRL_DEVICE == 1
      let n := fget v F.TH_FLASH_CTRL_LENGTH + 1
      let a := rg s R.TH_FLASH_ADDR
      if (op = 2 ∨ op = 3) ∧ s.trust.phase ≠ 2 ∧ flashGood s (!b) = false then flashResult s1 2
      else if (op ≤ 2 ∧ 4096 < a % 4096 + n) ∨ (op = 3 ∧ a % 65536 ≠ 0) then flashResult s1 3
      else
        let buf := if op = 2 then ((List.range 512).flatMap fun i => leBytes 8 (rg s R.TH_FLASH_BUF i)).take n else []
        let s2 := s1.withTrust { s1.trust with flashOp := some (BitVec.ofNat 32 v, BitVec.ofNat 32 a, buf) }
        if op = 2 ∨ op = 3 then setGood s2 b false else s2

/-- FLASH_READ (12 R429). -/
def execFlashRead (v : W32) (s : State) : Host.Outcome State Fault Refusal := doneReg s (mgmtOnly s (flashStartS 1 v.toNat s))
/-- FLASH_PROGRAM (12 R429). -/
def execFlashProgram (v : W32) (s : State) : Host.Outcome State Fault Refusal := doneReg s (mgmtOnly s (flashStartS 2 v.toNat s))
/-- FLASH_ERASE (12 R429). -/
def execFlashErase (v : W32) (s : State) : Host.Outcome State Fault Refusal := doneReg s (mgmtOnly s (flashStartS 3 v.toNat s))
/-- VERIFY (12 R429). -/
def execFlashVerify (v : W32) (s : State) : Host.Outcome State Fault Refusal := doneReg s (mgmtOnly s (flashStartS 4 v.toNat s))

/-- Bytes of TH_FLASH_BUF from its start. -/
def setFlashBuf (s : State) (bs : List Byte) : State :=
  let old := (List.range 512).flatMap fun i => leBytes 8 (rg s R.TH_FLASH_BUF i)
  let new := splice old 0 bs
  (List.range 512).foldl (fun u i => wr u R.TH_FLASH_BUF (leAt new (8 * i) 8) i) s

/-- Free bytes of a failed flash operation (12 R429). -/
def flashFree (s : State) (a n : Nat) : List Byte := (List.range n).map fun i => Config.flashByte s.free (a + i)

/-- Programming NOR flash clears bits (PRESUMED, log entry 23). -/
def flashAnd (fl : Tbl Byte) (a : Nat) (bs : List Byte) : Tbl Byte :=
  twrite 0xFF fl a (List.zipWith (· &&& ·) (flBytes fl a bs.length) bs)

/-- A flash operation ends (12 R429). What a failed one leaves in the bytes it was to change is free. -/
def flashDoneS (ok : Bool) (s : State) : State :=
  match s.trust.flashOp with
  | none => s
  | some (v, a, buf) =>
    let op := fget v.toNat F.TH_FLASH_CTRL_OP
    let b := fget v.toNat F.TH_FLASH_CTRL_DEVICE == 1
    let n := fget v.toNat F.TH_FLASH_CTRL_LENGTH + 1
    let fl := flash s b
    let s1 := { s with free := s.free + 1, trust := { s.trust with flashOp := none } }
    if op = 4 then
      let r := if ok then verify s b else some ⟨6, 0, none⟩
      let s2 := flashResult (recordReject s1 b r) (if r.isNone then 1 else 5)
      if r.isNone then setGood s2 b true else s2
    else
      let s2 := flashResult s1 (if ok then 1 else 4)
      if op = 1 then setFlashBuf s2 (if ok then flBytes fl a.toNat n else flashFree s a.toNat n)
      else if op = 2 then setFlash s2 b (flashAnd fl a.toNat (if ok then buf else flashFree s a.toNat n))
      else setFlash s2 b (twrite 0xFF fl a.toNat (if ok then List.replicate 65536 0xFF else flashFree s a.toNat 65536))

/-- FLASH_OP_COMPLETE (12 R429). -/
def execFlashOpComplete (ok : Bool) (s : State) : Host.Outcome State Fault Refusal := doneReg s (flashDoneS ok s)

/-! ## Reads of computed registers (12) -/

def thKeySlotRead (s : State) (k : Nat) : Nat :=
  (s.keySlot k).state * 2 ^ 30 + b2n (s.trust.phase == 1 && s.trust.image.keySlot == k)
def thOtpStatusRead (s : State) : Nat :=
  b2n (otpBusy s) * 2 ^ 31 + rf s R.TH_OTP_STATUS F.TH_OTP_STATUS_RESULT * 2 ^ 24 + s.trust.log.length
def thFlashCtrlRead (s : State) : Nat := rg s R.TH_FLASH_CTRL ||| (b2n s.trust.flashOp.isSome * 2 ^ 31)
def thFlashStatusRead (s : State) : Nat := rg s R.TH_FLASH_STATUS ||| (b2n s.trust.flashOp.isSome * 2 ^ 31)
def thAttestRead (s : State) : Nat := rg s R.TH_ATTEST_CTRL ||| (b2n s.trust.report.isSome * 2 ^ 31)

end Sys2Proof.Machine
end

