-- ==== Sys2Proof/Machine/Power.lean ====
section
/-! DEFINITION. Power domains, bivouac, temperature, and the resets of the device (13; 01 R22). -/
namespace Sys2Proof.Machine

def State.withPower (s : State) (p : Power) : State := { s with power := p }

/-! ## Bivouac (13 R434-R437) -/

/-- Device steps of the field ports that run. -/
def fieldSteps (s : State) : List Nat :=
  (s.prog.ctxs.filter fun e =>
    let c := e.2.cmds.headD 0
    e.2.running && e.2.issued && isDevice (cCode c) && decide (128 ≤ devPort (devEntry s (cDevice c)))).map (·.1)

/-- Entry is permitted (13 R434). -/
def entryAllowed (s : State) (d : Nat) : Bool :=
  if d < 8 then
    (pitchCtxs s d).isEmpty && !(s.sqs.any fun e => e.2.state != 0 && e.2.home == d) &&
      (List.range 4).all fun k => (s.core (4 * d + k)).sleeping && (s.core (4 * d + k)).calls.isEmpty
  else if d < 32 then (quadPorts s (d - 8)).all (fun p => (s.port p).link == 0) && !inTest s (d - 8)
  else if d < 44 then !recovChannel s (d - 32) && !channelStaked s (d - 32) false && !patRunning s (d - 32)
  else if d = 44 then !campOn s
  else if d = 46 then (fieldSteps s).isEmpty
  else if d = 48 then (s.core 32).sleeping
  else false

def setResult (s : State) (d r : Nat) : State := setDom s F.PWR_DOMAIN_RESULT r d

/-- A domain begins to enter bivouac, or the request is refused. -/
def tryEnter (s : State) (d : Nat) : State :=
  if domState s d = 0 ∧ entryAllowed s d then
    let s1 := setDom s F.PWR_DOMAIN_STATE 1 d
    if d < 8 then abortTest s1 d else s1
  else setResult s d 2

def setQueued (s : State) (d x : Nat) : State := s.withPower { s.power with queued := Tbl.set 0 s.power.queued d x }

/-- REQ = 1 (13 R434, R436): a request during exit takes effect when exit ends; one in the cycle of the event that started the exit is
refused. -/
def bivouacS (d v : Nat) (s : State) : State :=
  if 49 ≤ d ∨ v.testBit 31 = false then s
  else
    let s1 := setDom s F.PWR_DOMAIN_REQ 1 d
    if d = 45 ∨ d = 47 then setResult s1 d 3
    else if Tbl.get 0 s.power.wokenAt d = absCycle s + 1 then setResult s d 2
    else if domState s d = 1 then setQueued s1 d 0
    else if domState s d = 2 then s1
    else if domState s d = 3 then setQueued s1 d 2
    else tryEnter s1 d

/-- BIVOUAC_REQUEST (13 R434). -/
def execBivouacRequest (d : Nat) (v : W32) (s : State) : Host.Outcome State Fault Refusal := doneReg s (mgmtOnly s (bivouacS d v.toNat s))

/-- ON_REQUEST (13 R434): REQ = 0. -/
def onRequestS (d v : Nat) (s : State) : State :=
  if 49 ≤ d ∨ v.testBit 31 then s else if d = 45 ∨ d = 47 then setResult (setDom s F.PWR_DOMAIN_REQ 0 d) d 3 else startExit s d
def execOnRequest (d : Nat) (v : W32) (s : State) : Host.Outcome State Fault Refusal := doneReg s (mgmtOnly s (onRequestS d v.toNat s))

/-- BIVOUAC_ENTRY_COMPLETE (13 R434, R436): a request of return made during entry takes effect now. -/
def entryDoneS (d : Nat) (s : State) : State :=
  if domState s d ≠ 1 then s
  else
    let s1 := setResult (setDom s F.PWR_DOMAIN_STATE 2 d) d 1
    if Tbl.get 0 s.power.queued d = 1 then startExit (setQueued s1 d 0) d else s1
def execBivouacEntryComplete (d : Nat) (s : State) : Host.Outcome State Fault Refusal := doneReg s (entryDoneS d s)

/-- The timeout of a device step counts from its first request to its port (04 R157). -/
def restartTimer (s : State) (c : Nat) : State := s.setCtx c { s.ctx c with begun := absCycle s }

/-- BIVOUAC_EXIT_COMPLETE (13 R434, R436): a request of bivouac made during exit is judged now. Steps that waited for the field ports now
request them (04 R157, 13 R435). -/
def exitDoneS (d : Nat) (s : State) : State :=
  if domState s d ≠ 3 then s
  else
    let s0 := setResult (setDom s F.PWR_DOMAIN_STATE 0 d) d 1
    let s1 := if d = 46 then (fieldSteps s0).foldl restartTimer s0 else s0
    if Tbl.get 0 s.power.queued d = 2 then tryEnter (setQueued s1 d 0) d else s1
def execBivouacExitComplete (d : Nat) (s : State) : Host.Outcome State Fault Refusal := doneReg s (exitDoneS d s)

/-! ## What a warm or fault reset keeps (13 R438) -/

/-- Registers that a warm reset keeps: those of R412, the trailhead and lantern blocks, the power registers, the management Ethernet
and the generations (13 R438; the power registers DEDUCED, log entry 24; LEASE_MISS is cleared, DEDUCED, log entry 107). -/
def warmKeeps (k : Nat) : Bool :=
  (findReg k regAllowed).isSome || decide (0x80000 ≤ k ∧ k < 0x81000) || decide (0x100000 ≤ k ∧ k < 0x400000) ||
    decide (0x4F00100 ≤ k ∧ k < 0x4F00120) || (locateReg R.DDR5_INFO k).isSome || (locateReg R.SP_BANK_REPAIR k).isSome ||
    (locateReg R.IC_AGENT_GEN k).isSome || k == R.METER_CHAIN_SEQ.off

/-- LEASE_CFG writes that wait are in force. -/
def applyLeases (s : State) : State :=
  (s.sched.leasePending.foldl (fun u e => wr u R.LEASE_CFG e.2.toNat e.1) s).withSched { s.sched with leasePending := [] }

/-- The device as a warm or fault reset leaves it before trailhead: links down, everything but what R438 keeps at its reset value. With the Ploet
link down the partner is no source any more (09 R312). -/
def warmBase (s : State) : State :=
  let s0 := if (s.port (mgmtFn s / 256)).link = 0 then s else genStep s 33
  let s1 := applyLeases s0
  let m := s1.meter
  let c := s1.camp
  let fen := c.state == 6
  let s2 : State := { State.reset with
    regs := Tbl.keep warmKeeps s1.regs
    sched := { Sched.reset with frame := s1.sched.frame, cycle := s1.sched.cycle, partition := s1.sched.partition }
    prog := { Prog.reset with macCounts := s1.prog.macCounts }
    recov := { s1.recov with heldWrites := [], heldSqs := [], heldCqs := [], headerDue := false, readPending := false }
    mem := { Mem.reset with
      repairs := s1.mem.repairs, ddr := s1.mem.ddr, ddrBad := s1.mem.ddrBad, loInForce := s1.mem.loInForce, canopyBad := s1.mem.canopyBad }
    mail := (mailClear s1).mail
    lant := { s1.lant with inReset := true }
    meter := { Meter.reset with
      started := m.started, cur := m.cur, remainder := m.remainder, intLen := m.intLen, blocks := m.blocks, chainSeq := m.chainSeq
      prevHead := m.prevHead, checkpoint := m.checkpoint, cpFrame := m.cpFrame }
    ports := { Ports.reset with
      steer := s1.ports.steer, ptp := s1.ports.ptp, mgmtTx := s1.ports.mgmtTx, mgmtRx := s1.ports.mgmtRx }
    camp := { Camp.reset with
      state := if fen then 6 else 0, arbIn := c.arbIn, arbOut := if fen then 0 else 1, mirrorA := c.mirrorA, mirrorB := c.mirrorB
      lostA := c.lostA, lostB := c.lostB, badA := c.badA, badB := c.badB }
    trust := { s1.trust with phase := 0 }
    power := { s1.power with warmPending := none, pitchPending := [], pitchAsked := [], pitchLost := [], heartbeat := false }
    cores := (s1.cores.map fun e => (e.1, { Core.reset with
      storeX := e.2.storeX, storeY := e.2.storeY, storeI := e.2.storeI, storeGood := e.2.storeGood
      storeDigest := e.2.storeDigest })).filter fun e => e.2 ≠ Core.reset
    out := s1.out, busData := s1.busData, free := s1.free, pending := s1.pending }
  let s3 := wf (wf s2 R.RECOV_STATUS F.RECOV_STATUS_RUNNING (b2n (recovOn s2))) R.RECOV_STATUS F.RECOV_STATUS_SINGLE_COPY
    (b2n (s2.recov.lostA || s2.recov.lostB))
  recheck (wf s3 R.RECOV_STATUS F.RECOV_STATUS_REBUILD_BUSY (b2n s2.recov.rebuild.isSome))

/-- A flash operation that a reset interrupts ends as a failed one (DESIGN CHOICE, log entry 24). -/
def endFlash (s : State) : State := flashDoneS false s

/-! ## Warm and fault resets (13 R439, 09 R346) -/

/-- A warm reset is asked for; one that is already pending absorbs it (13 R440). -/
def askWarm (s : State) : State :=
  if s.power.warmPending.isSome then s else s.withPower { s.power with warmPending := some s.sched.frame }

/-- WARM (13 R439): PWR_RESET with bit 31. -/
def execWarmRequest (v : W32) (s : State) : Host.Outcome State Fault Refusal := doneMgmt s (if v.getLsbD 31 then askWarm s else s)

/-- WRST_N (13 R438). -/
def execWrstN (s : State) : Host.Outcome State Fault Refusal := done s (askWarm s)

/-- PITCH (13 R438): each set bit of PWR_RESET 7:0 asks for a pitch reset. -/
def pitchAskS (v : Nat) (s : State) : State :=
  let ps := (List.range 8).filter fun p => v.testBit p
  let new := fun (l : List Nat) => l ++ ps.filter fun p => !l.contains p
  s.withPower { s.power with pitchPending := new s.power.pitchPending, pitchAsked := new s.power.pitchAsked }
def execPitchRequest (v : W32) (s : State) : Host.Outcome State Fault Refusal := doneMgmt s (pitchAskS v.toNat s)

/-- The open minute closes with CUT; the same minute goes on as the next part (09 R346), while fewer than 1,024 heads wait (R344). -/
def cutMinute (s : State) : State :=
  if s.meter.started ∧ s.meter.blocks.length < 1024 then closeMinute s 2 s.meter.cur.minute (s.meter.cur.part + 1) 0 else s

/-- A warm reset begins at cycle 0 of a frame after its request (13 R439). -/
def warmDue (s : State) : Bool :=
  match s.power.warmPending with
  | some f => running s && decide (f < s.sched.frame) && s.sched.cycle == 0
  | none => false

/-- The device in a warm reset, before trailhead. -/
def warmBegin (s : State) : State := warmBase (endFlash (cutMinute s))

/-- WARM_RESET (13 R439): trailhead took `ms` milliseconds. -/
def execWarmReset (ms : Nat) (s : State) : Host.Outcome State Fault Refusal :=
  .next (if warmDue s then commit (warmBegin s) (trailhead 3 ms (warmBegin s)) else s)

/-- The open minute is closed from its checkpoint with INCOMPLETE, and counting goes on from the checkpoint's carries (09 R342, R346). A
minute without a checkpoint of its own is closed as it was opened. -/
def lostMinute (s : State) : State :=
  let m := s.meter
  if m.started then
    let c := m.checkpoint.getD Minute.reset
    let from_ := if c.frames = 0 then c.firstFrame else m.cpFrame
    let s1 := addBlock s { c with lost := s.sched.frame.toNat - from_.toNat } 4
    openMinute (wf (s1.withMeter { s1.meter with cur := c }) R.METER_FAULT F.METER_FAULT_INCOMPLETE 1) c.minute (c.part + 1) 0
  else s

/-- A fault reset begins: the device is held in reset until trailhead runs (13 R438, R439). The open minute is closed as the reset
finds it, and METER_FAULT and the sources 528 and 530 show that block after it (09 R346, R347; DEDUCED, log entry 60). -/
def faultBegin (s : State) : State :=
  let s1 := lostMinute (wr (wr s R.METER_FAULT 0) R.METER_RING_CFG 0)
  let s2 := warmBase (endFlash s1)
  if s.meter.started then raise (raise (wf s2 R.METER_FAULT (4, 0) (rg s1 R.METER_FAULT % 32)) 528) 530 else s2

/-- An error in the control state starts a fault reset; it takes over the trailhead of a warm reset, and is absorbed in that of a
power-on, cold or fault reset (13 R440). -/
def faultDue (s : State) : Bool := running s || (s.trust.phase == 4 && s.trust.resetKind == 3)

/-- CONTROL_STATE_ERROR (13 R438, 01 R22). -/
def execControlStateError (ms : Nat) (s : State) : Host.Outcome State Fault Refusal :=
  .next (if faultDue s then commit (wr (faultBegin s) R.METER_FAULT 0) (trailhead 4 ms (faultBegin s)) else s)

/-! ## Power-on and cold reset (13 R438, R444) -/

/-- What power-on and cold reset keep: OTP and flash. The model's own records stay. -/
def coldBase (s : State) : State :=
  let s1 := endFlash s
  { State.reset with
    trust := { Trust.reset with
      flash0 := s1.trust.flash0, flash1 := s1.trust.flash1, rollback := s1.trust.rollback, slots := s1.trust.slots, log := s1.trust.log }
    lant := { Lantern.reset with commits := s1.lant.commits }
    out := s1.out, busData := s1.busData, free := s1.free, pending := s1.pending }

/-- Capacity of a DIMM in GiB: 16 data devices to a rank, of each die of the stack (07 R259, R263). -/
def dimmGib (d : Dimm) : Nat := 2 * d.density * d.ranks * d.height

/-- The channel supports the DIMM (07 R259). -/
def dimmSupported (d : Dimm) : Bool :=
  d.x4 && d.ecc && [16, 24, 32].contains d.density && [1, 2].contains d.ranks && [1, 2, 4].contains d.height && decide (dimmGib d ≤ 256)

/-- Refresh window of a DIMM: tRFCsb rounded up to whole cycles, and 8 (02 R50). -/
def dimmWindow (d : Dimm) : Nat := (d.tRfcSb * 3 + 999) / 1000 + 8

/-- DDR5_INFO of a channel as training leaves it: out of service where the DIMM is absent, unsupported or fails training (07 R259). -/
def dimmInfo (o : Option Dimm) : Nat :=
  match o with
  | some d =>
    if dimmSupported d && d.trained then
      let h := if d.height = 4 then 2 else d.height - 1
      fset (fset (fset (fset (fset (fset 0 F.DDR5_INFO_REFW (dimmWindow d)) F.DDR5_INFO_DENSITY d.density) F.DDR5_INFO_HEIGHT h)
        F.DDR5_INFO_RANKS (d.ranks - 1)) F.DDR5_INFO_CAPACITY (dimmGib d)) F.DDR5_INFO_PRESENT 1
    else 0
  | none => 0

/-- Trailhead reads the SPD of each channel's DIMM and trains the channel (07 R259). -/
def trainDdr (dimms : List (Option Dimm)) (s : State) : State :=
  (List.range 12).foldl (fun u c => wr u R.DDR5_INFO (dimmInfo (dimms.getD c none)) c) s

/-- POWER_ON_RESET (13 R438, R446): PWRGOOD rises. A thermal trip before it is reported. -/
def powerOnS (ms : Nat) (dimms : List (Option Dimm)) (s : State) : State :=
  let s1 := coldBase s
  let s2 := if s.power.tripped then wf s1 R.PWR_FAULT F.PWR_FAULT_TRIPPED 1 else s1
  trailhead 1 ms (trainDdr dimms s2)
def execPowerOnReset (ms : Nat) (dimms : List (Option Dimm)) (s : State) : Host.Outcome State Fault Refusal :=
  .next (commit (coldBase s) (powerOnS ms dimms s))

/-- PWRGOOD_FALL (13 R444): the whole device is reset and stays so until PWRGOOD rises. -/
def pwrgoodFallS (s : State) : State :=
  let s1 := coldBase s
  s1.withPower { s1.power with pwrgood := false, tripped := s.power.tripped }
def execPwrgoodFall (s : State) : Host.Outcome State Fault Refusal := .next (pwrgoodFallS s)

/-- COLD_RESET (13 R438): RST_N low; without power or after a thermal trip the device stays in reset. The serial numbers of
mailboxes stay (08 R289). -/
def coldResetS (ms : Nat) (dimms : List (Option Dimm)) (s : State) : State :=
  if s.power.pwrgood = false ∨ s.power.tripped then s
  else trailhead 2 ms (trainDdr dimms { coldBase s with mail := (mailClear s).mail })
def execColdReset (ms : Nat) (dimms : List (Option Dimm)) (s : State) : Host.Outcome State Fault Refusal :=
  .next (if s.power.pwrgood = false ∨ s.power.tripped then s else commit (coldBase s) (coldResetS ms dimms s))

/-! ## Temperature (13 R446, R448) -/

/-- Seconds since power-on, and those above 110 °C: a second is 100,000 samples (13 PWR_MISSION). -/
def missionTick (hot : Bool) (s : State) : State :=
  let p := s.power
  let n := p.samples + 1
  let h := p.hotSamples + b2n hot
  let s1 := if n = 100000 then satAdd s R.PWR_MISSION F.PWR_MISSION_SECONDS 1 else s
  let s2 := if h = 100000 then satAdd s1 R.PWR_MISSION F.PWR_MISSION_HOT_SECONDS 1 else s1
  s2.withPower { p with samples := n % 100000, hotSamples := h % 100000 }

/-- The alarm threshold in force; values above 125 act as 125. -/
def alarmAt (s : State) : Nat := min 125 (rf s R.PWR_TEMP F.PWR_TEMP_ALARM)

/-- A sample of the hottest sensor: PWR_TEMP, TEMP_ALARM; at 132 °C the device trips and holds itself in cold reset (13 R446). MAX of a
temperature that its 8 bits do not hold is free (log entry 24). -/
def temperatureS (temp : Int) (sensor : Nat) (s : State) : State :=
  let s1 := missionTick (decide (110 < temp)) s
  let (f, s2) := takeFree s1
  let fits := decide (-128 ≤ temp ∧ temp ≤ 127)
  let s3 := if fits then wf s1 R.PWR_TEMP F.PWR_TEMP_MAX (temp % 256).toNat else wf s2 R.PWR_TEMP F.PWR_TEMP_MAX f.toNat
  let s4 := wf s3 R.PWR_TEMP F.PWR_TEMP_SENSOR sensor
  let s5 := wf s4 R.PWR_FAULT F.PWR_FAULT_TEMP_ALARM (b2n (decide ((alarmAt s : Int) ≤ temp)))
  if 132 ≤ temp then
    let s6 := coldBase s5
    s6.withPower { s6.power with tripped := true }
  else s5
/-- TEMPERATURE_SAMPLE (13 R446). -/
def execTemperatureSample (temp : Int) (sensor : Nat) (s : State) : Host.Outcome State Fault Refusal :=
  doneUp s (temperatureS temp sensor s)

/-! ## Loss and return of a domain (01 R22, 13 R437) -/

/-- A port's link is lost with its quad. -/
def lostPort (s : State) (p : Nat) : State :=
  if (s.port p).link = 0 then s else if p < 24 then endpointDown s p true else rootDown s p true

/-- Contexts with data in flight in the landing buffer of a DDR5 channel, or with data of their step staged in it, are stopped for re-execution
(01 R22, 05 R191). The spec does not say which kind of resource SCHED_FAULT_INFO shows for a lost channel: KIND is a free value
(log entry 2). -/
def lostChannel (s : State) (ch : Nat) : State :=
  let cs := (((s.sched.fetches.filter fun f => f.buf == ch && decide (f.step < 8192)).map (·.step)) ++
    (s.prog.ctxs.filter fun e => e.2.stagedIn.contains ch).map (·.1)).eraseDups
  let s1 := cs.foldl (stopCtx false) (copyLost s ch)
  let s2 := s1.withSched { s1.sched with fetches := s1.sched.fetches.filter fun f => f.buf != ch }
  let s3 := if cs.isEmpty then s2 else recoveryEnded s2 4
  match activeBank s3 with
  | some b => if (bankOf s3 b).mask.testBit ch then
      (let (w, s4) := takeFree s3
       contractFault s4 3 (w.toNat % 16) ch 0 0)
    else s3
  | none => s3

/-- The effects of R22. -/
def lostEffects (s : State) (d : Nat) : State :=
  if d < 8 then
    let s1 := (pitchCtxs s d).foldl (stopCtx true) s
    let add := fun (l : List Nat) => l.filter (· ≠ d) ++ [d]
    s1.withPower { s1.power with pitchPending := add s1.power.pitchPending, pitchLost := add s1.power.pitchLost }
  else if d < 32 then (quadPorts s (d - 8)).foldl lostPort s
  else if d < 44 then lostChannel s (d - 32)
  else if d = 44 then ploetDown s
  else if d = 45 then faultBegin s
  else if d = 46 then
    let s1 := (fieldSteps s).foldl (fun u c => stepFail c 0x0502 (u.ctx c).moved u) s
    { s1 with ports := { s1.ports with field := [] } }
  else if d = 47 then s.withTrust { s.trust with phase := 3 }
  else s

/-- A domain is LOST: the state of PWR_DOMAIN, PWR_FAULT.DOMAIN_LOST, and the effects. -/
def loseDomain (s : State) (d : Nat) : State :=
  let s1 := wf (setDom s F.PWR_DOMAIN_STATE 5 d) R.PWR_FAULT F.PWR_FAULT_DOMAIN_LOST 1
  lostEffects s1 d

/-- DOMAIN_LOST (01 R22): a domain that has power loses it. -/
def domainLostS (d : Nat) (s : State) : State := if 49 ≤ d ∨ 4 ≤ domState s d then s else loseDomain s d
def execDomainLost (d : Nat) (s : State) : Host.Outcome State Fault Refusal := doneReg s (domainLostS d s)

/-- EXIT_TIMEOUT (13 R437). -/
def exitTimeoutS (d : Nat) (s : State) : State :=
  if domState s d = 3 then
    loseDomain (wf (setResult s d 4) R.PWR_FAULT F.PWR_FAULT_EXIT_FAIL 1) d
  else s
def execExitTimeout (d : Nat) (s : State) : Host.Outcome State Fault Refusal := doneReg s (exitTimeoutS d s)

/-- DOMAIN_RETURN (06 R244, 01 R22): the block restarts. The ridgepole and central domain comes back through the trailhead of a fault
reset, which takes `ms`; the ranger core restarts at its reset vector. -/
def domainReturnS (d ms : Nat) (s : State) : State :=
  if domState s d ≠ 5 then s
  else if d = 45 then (if s.trust.phase = 0 then trailhead 4 ms s else s)
  else if d = 47 then s
  else
    let s1 := setDom s F.PWR_DOMAIN_STATE 0 d
    if d = 48 then resetCore s1 32 else s1
def execDomainReturn (d ms : Nat) (s : State) : Host.Outcome State Fault Refusal :=
  .next (if s.trust.phase = 3 then s else commit s (domainReturnS d ms s))

end Sys2Proof.Machine
end

