-- ==== Sys2Proof/Machine/Access.lean ====
section
/-! DEFINITION. Register accesses: what lies at an offset of a BAR0, what a write does, what a read returns, and the accesses that are
not supported or not mapped (00 R10-R13, 01 R26, R27). -/
namespace Sys2Proof.Machine

/-! ## Registers that share the fields of another table -/

/-- IC_FCLAIM, IC_FCOMPLETE and IC_RAISE (08, The core page). -/
def R.IC_FCLAIM : RegD := ⟨.agent, 0x8, 0, 1, 0, 1, 32, 0, [⟨31, 0, .ro⟩]⟩
def R.IC_FCOMPLETE : RegD := ⟨.agent, 0xC, 0, 1, 0, 1, 32, 0, [⟨31, 0, .wo⟩]⟩
def R.IC_RAISE : RegD := ⟨.agent, 0x14, 0, 1, 0, 1, 32, 0, [⟨31, 0, .wo⟩]⟩
/-- A 32-bit part of an MSI-X table entry, and 64 bits of the Pending Bit Array (03 R121). -/
def R.MSIX : RegD := ⟨.fn, 0xC000, 4, 1024, 0, 1, 32, 0, [⟨31, 0, .rw⟩]⟩
def R.MSIX_PBA : RegD := ⟨.fn, 0xD000, 8, 4, 0, 1, 64, 0, [⟨63, 0, .ro⟩]⟩

/-- Tables of the address spaces: management BAR0, the core page with the registers of the interrupt controller and the mailboxes, the
management mailbox page, a function's BAR0, and the management function's block, which adds the assignment window (01 R26, 03 R121,
08 R303). -/
def allMgmt : List RegD := regTable_mgmt ++ [R.RANGER_CTRL, R.RANGER_STATUS, R.RANGER_PC, R.RANGER_ECC]
def allAgent : List RegD := regTable_agent ++ [R.IC_FCLAIM, R.IC_FCOMPLETE, R.IC_RAISE]
def mgmtAgent : List RegD := R.IC_RAISE :: (regTable_agent.filter fun d => decide (0x40 ≤ d.off))
def mgmtFnPage : List RegD := regTable_fn ++ [R.MSIX, R.MSIX_PBA]
def fnPage : List RegD := mgmtFnPage.filter fun d => !(decide (0x800 ≤ d.off ∧ d.off < 0x828))

/-- `d` is the register table `x`. -/
def isReg (d x : RegD) : Bool := d.page == x.page && d.off == x.off

/-! ## Finding a register -/

/-- What an offset of a BAR0 names: a table, the page number and the offset in it; or a frame bank (true: bank B) and the offset in
it. -/
inductive Place where
  | regs (table : List RegD) (page off : Nat)
  | bank (b : Bool) (off : Nat)
  deriving DecidableEq, Repr

/-- In the no-image state only the global and the trailhead block are decoded (12 R419). -/
def placeOf (s : State) (bar : Bar) (off : Nat) : Place :=
  match bar with
  | .fn n => .regs fnPage n off
  | .mgmt =>
    if s.trust.phase = 2 ∧ 0x200000 ≤ off then .regs [] 0 off
    else if 0x7000000 ≤ off ∧ off < 0x7010000 then .regs mgmtFnPage (mgmtFn s) (off - 0x7000000)
    else if 0x440000 ≤ off ∧ off < 0x440100 then .regs mgmtAgent 33 (off - 0x440000)
    else if 0x1100000 ≤ off ∧ off < 0x1400000 then .bank false (off - 0x1100000)
    else if 0x1500000 ≤ off ∧ off < 0x1800000 then .bank true (off - 0x1500000)
    else .regs allMgmt 0 off

/-- Byte `off` lies in an element of register table `d`. -/
def holdsByte (d : RegD) (off : Nat) : Bool :=
  if off < d.off then false
  else
    let r := off - d.off
    let i := if d.s1 = 0 then 0 else r / d.s1
    let j := if d.s2 = 0 then 0 else (r - i * d.s1) / d.s2
    decide (i < d.n1 ∧ j < d.n2 ∧ r - (i * d.s1 + j * d.s2) < d.width / 8)

/-- A register of a frame bank holds byte `o` of the bank. -/
def bankHolds (o : Nat) : Bool :=
  (List.range 8).any fun b => decide (b ≤ o) && (match bankReg (o - b) with | some w => decide (b < w) | none => false)

/-- Some register holds the byte at an offset. -/
def holdsReg (s : State) (bar : Bar) (off : Nat) : Bool :=
  match placeOf s bar off with
  | .regs t _ o => t.any fun d => holdsByte d o
  | .bank _ o => bankHolds o

/-- The register that starts at an offset and has a width of `size` bytes. An aligned access of 8 bytes to the MSI-X table is one to
two of its parts, and the Pending Bit Array may be read in halves (PRESUMED, PCIe; log entry 26). -/
def regAt (s : State) (bar : Bar) (off size : Nat) : Option (RegD × Nat × Nat × Nat) :=
  match placeOf s bar off with
  | .bank _ _ => none
  | .regs t p o =>
    match findReg o t with
    | some (d, i, j) =>
      if d.width = 8 * size ∨ (isReg d R.MSIX ∧ size = 8 ∧ i % 2 = 0) ∨ (isReg d R.MSIX_PBA ∧ size = 4) then some (d, i, j, p) else none
    | none => if 0xD000 ≤ o ∧ o < 0xD020 ∧ o % 8 = 4 ∧ size = 4 then some (R.MSIX_PBA, (o - 0xD000) / 8, 1, p) else none

/-- The cell of a frame bank that starts at an offset and has a width of `size` bytes. -/
def bankAt (s : State) (bar : Bar) (off size : Nat) : Option (Bool × Nat) :=
  match placeOf s bar off with
  | .bank b o => if bankReg o = some size then some (b, o) else none
  | .regs _ _ _ => none

/-- How an access is treated (00 R12, 01 R27). -/
inductive AccessKind where
  | supported | bad | unmapped
  deriving DecidableEq, Repr

def accessKind (s : State) (bar : Bar) (off size : Nat) : AccessKind :=
  if (regAt s bar off size).isSome ∨ (bankAt s bar off size).isSome then .supported
  else if (List.range size).any fun i => holdsReg s bar (off + i) then .bad
  else if (size = 4 ∨ size = 8) ∧ off % size = 0 then .unmapped
  else .bad

/-- The access reaches a BAR0 of the device. While the ranger core is lost, the management function's registers do not answer (01 R22,
log entry 78). -/
def reachesBar (s : State) (bar : Bar) (off size : Nat) : Bool :=
  match bar with
  | .mgmt => mgmtAnswers s && decide (off + size ≤ 0x10000000)
  | .fn n => s.trust.phase == 1 && fnExists s n && n != mgmtFn s && decide (off + size ≤ 0x10000)

/-! ## Reads -/

/-- Number of contexts of a pitch whose state, as it is shown, passes a test (04 R163). -/
def ctxCount (s : State) (p : Nat) (f : Nat → Bool) : Nat := (s.prog.ctxs.filter fun e => e.1 / 1024 == p && f (ctxShown s e.1 e.2)).length

/-- PITCH_CTX_COUNTS (04). -/
def ctxCountsRead (s : State) (p : Nat) : Nat :=
  let held := ctxCount s p (· == 5)
  let susp := ctxCount s p (· == 4)
  let wait := ctxCount s p (· == 3)
  let act := ctxCount s p fun t => t == 1 || t == 2 || t == 6
  held * 2 ^ 44 + susp * 2 ^ 33 + wait * 2 ^ 22 + act * 2 ^ 11 + (1024 - held - susp - wait - act)

/-- A register of an SQ control page as it reads; a slot without a queue reads zero (03 R79, R114, R116). -/
def sqRead (s : State) (fn slot o : Nat) : Nat :=
  let q := s.sq fn slot
  let f := s.fn fn
  if q.valid = false then 0
  else if o = 0x00 then q.base.toNat
  else if o = 0x08 then q.index.toNat
  else if o = 0x10 then q.cfg.toNat % 2 ^ 31 + b2n (q.state == 1 || q.state == 3) * 2 ^ 31
  else if o = 0x14 then q.seqBase.toNat
  else if o = 0x18 then q.start.toNat
  else if o = 0x20 then q.generation.toNat * 2 ^ 16 + q.enableErr * 2 ^ 12 + q.errorCause * 2 ^ 8 +
    b2n (q.state != 0 && (f.d3 || !f.bme)) * 2 ^ 4 + b2n (q.shown == 0) * 2 ^ 3 + q.shown
  else if o = 0x28 then q.accept.toNat
  else if o = 0x30 then q.consumed.toNat
  else if o = 0x38 then q.assign.toNat &&& 0x80073FFF
  else 0

/-- A register of a CQ control page as it reads (03 R79, R117). -/
def cqRead (s : State) (fn slot o : Nat) : Nat :=
  let k := s.cq fn slot
  let f := s.fn fn
  if k.valid = false then 0
  else if o = 0x00 then k.base.toNat
  else if o = 0x08 then k.cfg.toNat % 2 ^ 31 + b2n (k.state == 1) * 2 ^ 31
  else if o = 0x0C then k.mod.toNat
  else if o = 0x10 then k.head.toNat
  else if o = 0x14 then k.tail.toNat
  else if o = 0x18 then min k.unsignalled 255 * 2 ^ 24 + k.reservations * 2 ^ 7 + b2n k.headErr * 2 ^ 6 +
    b2n (!k.posts.isEmpty && (f.d3 || !f.bme)) * 2 ^ 5 + k.enableErr * 2 ^ 3 + k.shown
  else if o = 0x1C then k.assign.toNat &&& 0x80003FFF
  else 0

/-- What the assignment window shows of the function and slot selected (03 R122). -/
def assignRead (s : State) (o : Nat) : Nat :=
  let fn := assignFn s
  let slot := assignSlot s
  if o = 0x808 then (s.fn fn).ident.toNat
  else if o = 0x810 then (if assignCq s then (s.cq fn slot).assign.toNat else (s.sq fn slot).assign.toNat)
  else if assignCq s then 0 else (s.sq fn slot).leases.toNat

/-- A register of a function's BAR0 as it reads; FN_IDENT reads 0 while the identity is not VALID (DEDUCED, log entry 109). -/
def fnRead (s : State) (d : RegD) (i j fn : Nat) : Nat :=
  let f := s.fn fn
  if isReg d R.FN_INFO then b2n f.identValid * 2 ^ 31 + fn
  else if isReg d R.FN_IDENT then (if f.identValid then f.tenant.toNat * 2 ^ 16 + f.master.toNat else 0)
  else if isReg d R.ASSIGN_IDENT ∨ isReg d R.ASSIGN_QUEUE ∨ isReg d R.ASSIGN_LEASE then assignRead s d.off
  else if 0x4000 ≤ d.off ∧ d.off < 0x8000 then sqRead s fn i (d.off - 0x4000)
  else if 0x8000 ≤ d.off ∧ d.off < 0xC000 then cqRead s fn i (d.off - 0x8000)
  else if isReg d R.MSIX then ((f.entry (i / 4)).toNat / 2 ^ (32 * (i % 4)))
  else if isReg d R.MSIX_PBA then f.pba.toNat / 2 ^ (64 * i + 32 * j)
  else if 0x100 ≤ d.off ∧ d.off < 0x11C ∧ f.identValid = false then 0
  else if accMask d .wo ≠ 0 then 0
  else rg s d i j fn

/-- A register of the page of an agent as it reads, without what the read does. -/
def agentRead (s : State) (d : RegD) (i a : Nat) : Nat :=
  if isReg d R.IC_STATUS then icStatusRead s a
  else if isReg d R.MB_RET_INFO then mbRetInfoRead s a
  else if isReg d R.MB_RET_NOTICE then
    match retQueue s a with
    | e :: _ => bitsOf e.notice (32 * i + 31) (32 * i)
    | [] => 0
  else if accMask d .wo ≠ 0 then 0
  else rg s d i 0 a

/-- A register of the management BAR0 as it reads, without what the read does. -/
def mgmtRead (s : State) (d : RegD) (i j : Nat) : Nat :=
  if isReg d R.GLOBAL_FRAME_COUNT then s.sched.frame.toNat
  else if isReg d R.GLOBAL_FAULT_SUMMARY then faultSummary s
  else if isReg d R.LEASE_CFG then leaseCfgRead s i
  else if isReg d R.SCHED_CTRL then schedCtrlRead s
  else if isReg d R.PITCH_CTX_COUNTS then ctxCountsRead s i
  else if isReg d R.ISQ_CTRL then isqCtrlRead s (4 * i + j)
  else if isReg d R.ISQ_STATUS then isqStatusRead s (4 * i + j)
  else if isReg d R.ISQ_PC then isqPcRead s (4 * i + j)
  else if isReg d R.RANGER_CTRL then isqCtrlRead s 32
  else if isReg d R.RANGER_STATUS then isqStatusRead s 32
  else if isReg d R.RANGER_PC then isqPcRead s 32
  else if isReg d R.IC_SRC_STATE then icSrcStateRead s i
  else if isReg d R.IC_CORE_STATE then icCoreStateRead s i
  else if isReg d R.CMB_STATE then mbStateRead s false i
  else if isReg d R.TNM_STATE then mbStateRead s true i
  else if isReg d R.LANT_STATUS then lantStatusRead s
  else if isReg d R.LANT_FAULT then lantFault s
  else if isReg d R.LANT_SET_CTRL then lantSetRead s
  else if isReg d R.CAL_STATUS then calStatusRead s
  else if isReg d R.METER_STATUS then meterStatusRead s
  else if isReg d R.FP_SET then bitsOf (s.fieldPort i).settings (64 * j + 63) (64 * j)
  else if isReg d R.FP_PINS then rg s R.FP_PINS i / 256 * 256 + (fieldLevels s i).toNat
  else if isReg d R.CAMP_STATUS then campStatusRead s
  else if isReg d R.TH_ROLLBACK then s.trust.rollback
  else if isReg d R.TH_KEY_SLOT then thKeySlotRead s i
  else if isReg d R.TH_OTP_STATUS then thOtpStatusRead s
  else if isReg d R.TH_FLASH_CTRL then thFlashCtrlRead s
  else if isReg d R.TH_FLASH_STATUS then thFlashStatusRead s
  else if isReg d R.TH_ATTEST_CTRL then thAttestRead s
  else if isReg d R.TH_WINDOW then leAt (windowObject s) (8 * i) 8
  else if isReg d R.PWR_DOMAIN then (Tbl.get 0 s.power.dom i).toNat
  else if isReg d R.DDR5_FAULT then fset (rg s d i) F.DDR5_FAULT_LOST (b2n (domState s (32 + i) == 5))
  else if accMask d .wo ≠ 0 then 0
  else rg s d i j

/-- A read of a register: the value, and what the read does: claims, snapshots, and the clearing of RC fields (00 R13, 03 R122,
07 R275, 08 R296, R299, R304). -/
def regReadS (d : RegD) (i j p : Nat) (s : State) : Nat × State :=
  let ofBus := fun (t : State) => (t.busData.toNat, t)
  match d.page with
  | .mgmt =>
    if isReg d R.CANOPY_DENY_COUNT then ofBus (denyCountS s)
    else
      let rc := accMask d .rc
      (mgmtRead s d i j, if rc = 0 then s else wr s d (rg s d i j &&& (2 ^ 64 - 1 - rc)) i j)
  | .agent =>
    if isReg d R.IC_CLAIM then ofBus (icClaimS p s)
    else if isReg d R.IC_FCLAIM then ofBus (icFclaimS p s)
    else (agentRead s d i p, s)
  | .fn => if isReg d R.FN_NOTICE_STATUS then ofBus (fnNoticeStatusS p s) else (fnRead s d i j p, s)
  | .core => (0, s)

/-! ## Writes -/

/-- A LK register is locked: by its own top bit, CMB_BIND by CMB_LOCK, CAMP_TWIN_PORT by CAMP_CFG (08 R280, 11 CAMP_CFG). -/
def locked (s : State) (d : RegD) (i j : Nat) : Bool :=
  if isReg d R.CMB_BIND ∨ isReg d R.CMB_LOCK then rb s R.CMB_LOCK F.CMB_LOCK_LOCK
  else if isReg d R.CAMP_TWIN_PORT then rb s R.CAMP_CFG F.CAMP_CFG_LOCK
  else (rg s d i j).testBit (d.width - 1)

/-- A write by the access codes of a register's fields (00 R13). -/
def plainWrite (d : RegD) (i j p v : Nat) (s : State) : State :=
  let old := rg s d i j p
  let rw := accMask d .rw ||| (if locked s d i j then 0 else accMask d .lk)
  let ones := 2 ^ 64 - 1
  wr s d ((((old &&& (ones - rw)) ||| (v &&& rw)) &&& (ones - (v &&& accMask d .w1c))) ||| (v &&& accMask d .w1s)) i j p

/-- A write of `n` bytes to the MSI-X table from 32-bit part `i` on; clearing a vector's mask sends its pending message (03 R109). -/
def msixWrite (fn i n v : Nat) (s : State) : State :=
  let f := s.fn fn
  let e := f.entry (i / 4)
  let new := BitVec.ofNat 128 (fset e.toNat (32 * (i % 4) + 8 * n - 1, 32 * (i % 4)) v)
  let put := fun (x : BitVec 128) => writeFnRec (s.setFn fn { f with msix := Tbl.set msixReset f.msix (i / 4) x }) fn
  if e.getLsbD 96 ∧ new.getLsbD 96 = false then unmaskS fn (some (BitVec.ofNat 8 (i / 4))) (put (new ||| (1#128 <<< 96))) else put new

/-- A write to a register of a function's BAR0. -/
def fnWrite (d : RegD) (i fn size v : Nat) (s : State) : State :=
  if 0x4000 ≤ d.off ∧ d.off < 0xC000 then queueWrite fn (d.off + i * d.s1) (BitVec.ofNat 64 v) s
  else if isReg d R.SQ_DOORBELL then sqDoorbellS fn i s
  else if isReg d R.SQ_RESUME then sqResumeS fn i s
  else if isReg d R.CQ_DOORBELL then cqDoorbellS fn i (BitVec.ofNat 64 v) s
  else if isReg d R.FN_NOTICE_EMPTY then fnNoticeEmptyS fn v s
  else if isReg d R.FN_NOTICE_CFG then (if (s.fn fn).identValid then plainWrite d 0 0 fn v s else s)
  else if isReg d R.ASSIGN_IDENT then assignIdentS v s
  else if isReg d R.ASSIGN_QUEUE then assignQueueS v s
  else if isReg d R.ASSIGN_LEASE then assignLeaseS (BitVec.ofNat 64 v) s
  else if isReg d R.MSIX then msixWrite fn i size v s
  else if isReg d R.MSIX_PBA then s
  else plainWrite d i 0 fn v s

/-- A write to a register of the page of an agent (08, The core page). -/
def agentWrite (d : RegD) (i a v : Nat) (s : State) : State :=
  if isReg d R.IC_COMPLETE then icCompleteS a v false s
  else if isReg d R.IC_FCOMPLETE then icCompleteS a v true s
  else if isReg d R.IC_RAISE then icRaiseS v s
  else if isReg d R.MB_POST then mbPostS a v s
  else if isReg d R.MB_RX_SELECT then mbRxSelectS a v s
  else if isReg d R.MB_RX_EMPTY then mbRxEmptyS a v s
  else if isReg d R.MB_RET_POP then (if v % 2 = 1 then mbRetPopS a s else s)
  else plainWrite d i 0 a v s

/-- A write of DDR5_PAT_CTRL: STOP ends a run, START begins one (10 R376). -/
def patCtrlS (ch v : Nat) (s : State) : State := if patRunning s ch then patStopS ch v s else patStartS ch v s

/-- A write of TH_FLASH_CTRL: START with an operation code runs it (12 R429). -/
def flashCtrlS (v : Nat) (s : State) : State :=
  let op := fget v F.TH_FLASH_CTRL_OP
  if v.testBit 31 ∧ 1 ≤ op ∧ op ≤ 4 then flashStartS op v s else swRw s R.TH_FLASH_CTRL v

/-- A write to a register of the management BAR0. -/
def mgmtWrite (d : RegD) (i j v : Nat) (s : State) : State :=
  if isReg d R.SCHED_CTRL then schedCtrlS v s
  else if isReg d R.LEASE_CFG then leaseCfgS i v s
  else if isReg d R.PITCH_CTX_SELECT then ctxSelectS i v s
  else if isReg d R.RECOV_READ_SELECT then readSelectS v s
  else if isReg d R.ISQ_CTRL then isqCtrlS (4 * i + j) v s
  else if isReg d R.RANGER_CTRL then isqCtrlS 32 v s
  else if isReg d R.BGT_CTRL then bgtWrite i v s
  else if isReg d R.CANOPY_WINDOW_LO then windowLoS i j v s
  else if isReg d R.CANOPY_WINDOW_HI then windowHiS i j v s
  else if isReg d R.CANOPY_DRAIN then drainS v s
  else if isReg d R.IC_SRC_CFG then icSrcCfgWrite i v s
  else if isReg d R.IC_SRC_STATE then icSrcStateWrite i v s
  else if isReg d R.TNM_CLEAR then tnmClearS v s
  else if isReg d R.LANT_CFG then lantCfgWrite v s
  else if isReg d R.LANT_SNAP then lantSnapS v s
  else if isReg d R.LANT_SET_CTRL then lantSetCtrl v s
  else if outputDenied s d i v then s
  else if isReg d R.CAL_COMMIT then calCommitS v s
  else if isReg d R.METER_RING_CFG then ringCfgWrite v s
  else if isReg d R.METER_CONSUMER then consumerS v s
  else if isReg d R.METER_LIVE_SELECT then liveSelectS v s
  else if isReg d R.QUAD_TEST then quadTestS i v s
  else if isReg d R.LANE_PRBS_CTRL then prbsWrite i v 0 0 s
  else if isReg d R.FP_PINS then
    wf (wf s d F.FP_PINS_RANGER_OUT (fget v F.FP_PINS_RANGER_OUT) i) d F.FP_PINS_RANGER_OE
      (fget v F.FP_PINS_RANGER_OE &&& rf s R.FP_CFG F.FP_CFG_RANGER i) i
  else if isReg d R.MGMT_ETH_CTRL then
    let s1 := swRw s d v
    if fget v F.MGMT_ETH_CTRL_KICK = 1 then mgmtExamine s1 else s1
  else if isReg d R.DDR5_PAT_CTRL then patCtrlS i v s
  else if isReg d R.CAMP_CMD then campCmdS v s
  else if isReg d R.TH_OTP_ARM then otpArmS v s
  else if isReg d R.TH_OTP_CMD then otpCmdS (fget v F.TH_OTP_CMD_OP) v s
  else if isReg d R.TH_FLASH_CTRL then flashCtrlS v s
  else if isReg d R.TH_ATTEST_CTRL then attestS v s
  else if isReg d R.PWR_DOMAIN then (if v.testBit 31 then bivouacS i v s else onRequestS i v s)
  else if isReg d R.PWR_RESET then pitchAskS v (if v.testBit 31 then askWarm s else s)
  else plainWrite d i j 0 v s

/-- A write of `size` bytes to a register. -/
def regWriteS (d : RegD) (i j p size v : Nat) (s : State) : State :=
  match d.page with
  | .mgmt => mgmtWrite d i j (v % 2 ^ d.width) s
  | .agent => agentWrite d i p (v % 2 ^ d.width) s
  | .fn => fnWrite d i p size (v % 2 ^ (8 * size)) s
  | .core => s

/-! ## Accesses (00 R12, 01 R27) -/

/-- An access that is not supported sets BAD_ACCESS, one that is not mapped sets UNMAPPED. -/
def flagAccess (k : AccessKind) (s : State) : State :=
  match k with
  | .supported => s
  | .bad => wf s R.GLOBAL_FAULT_SUMMARY F.GLOBAL_FAULT_SUMMARY_BAD_ACCESS 1
  | .unmapped => wf s R.GLOBAL_FAULT_SUMMARY F.GLOBAL_FAULT_SUMMARY_UNMAPPED 1

/-- A write to an offset of a BAR0. -/
def accessWrite (bar : Bar) (off size v : Nat) (s : State) : State :=
  match bankAt s bar off size with
  | some (b, o) => bankWriteS b o size (v % 2 ^ (8 * size)) s
  | none =>
    match regAt s bar off size with
    | some (d, i, j, p) => regWriteS d i j p size v s
    | none => flagAccess (accessKind s bar off size) s

/-- A read of an offset of a BAR0. -/
def accessRead (bar : Bar) (off size : Nat) (s : State) : Nat × State :=
  match bankAt s bar off size with
  | some (b, o) => ((bankOf s b).read o size, s)
  | none =>
    match regAt s bar off size with
    | some (d, i, j, p) =>
      let (v, t) := regReadS d i j p s
      (v % 2 ^ (8 * size), t)
    | none => (0, flagAccess (accessKind s bar off size) s)

/-- Guyline of a block outside the core domain that an offset of the management function's BAR0 lies in (01 R15, R23, R24, R26): trailhead and OTP,
lantern, quads, lanes, field ports, management Ethernet, DDR5 channels. -/
def guyOfReg (off : Nat) : Option Nat :=
  let quad := fun (q : Nat) => if q < 24 then some q else if q < 26 then some 24 else none
  if 0x100000 ≤ off ∧ off < 0x200000 then some 39
  else if 0x200000 ≤ off ∧ off < 0x400000 then some 37
  else if 0x4000000 ≤ off ∧ off < 0x4100000 then quad ((off - 0x4000000) / 0x1000)
  else if 0x4100000 ≤ off ∧ off < 0x4200000 then quad ((off - 0x4100000) / 0x100)
  else if 0x4800000 ≤ off ∧ off < 0x4900000 then some 38
  else if 0x4F00100 ≤ off ∧ off < 0x4F00120 then some 39
  else if 0x5000000 ≤ off ∧ off < 0x5C00000 then some (25 + (off - 0x5000000) / 0x100000)
  else none

/-- A register access crosses the guyline of its block, if there is one; an uncorrectable word spoils it (10 R371). -/
def regCross (s : State) (bar : Bar) (off d : Nat) (gl : EccResult) : State × Bool :=
  match (match bar with | .mgmt => guyOfReg off | .fn _ => none) with
  | some g => (guyWord s g d gl, judged dieCap gl == .uncorrectable)
  | none => (s, false)

/-- A register access comes in through the port of its function (01 R24). -/
def portOfBar (s : State) (bar : Bar) : Nat := match bar with | .mgmt => mgmtFn s / 256 | .fn n => n / 256

/-- REGISTER_WRITE (00 R13). -/
def execRegisterWrite (bar : Bar) (off size : Nat) (v : Written) (s : State) : Host.Outcome State Fault Refusal :=
  doneReg s (if reachesBar s bar off size = false then s
    else match regCross (guyPort s (portOfBar s bar) 1) bar off 0 v.gl with
      | (s1, true) => s1
      | (s1, false) => accessWrite bar off size v.data.toNat s1)

/-- An access of the given kind: it completes normally, a read returns zero, a write is discarded (00 R12, 01 R27). -/
def strayAccess (k : AccessKind) (bar : Bar) (off size : Nat) (dir : Dir) (s : State) : State :=
  if reachesBar s bar off size ∧ accessKind s bar off size = k then
    let s1 := flagAccess k s
    if dir = .read then { s1 with busData := 0 } else s1
  else s

/-- BAD_ACCESS (00 R12). -/
def execBadAccess (bar : Bar) (off size : Nat) (dir : Dir) (_v : W64) (s : State) : Host.Outcome State Fault Refusal :=
  doneReg s (strayAccess .bad bar off size dir s)

/-- UNMAPPED_ACCESS (01 R27). -/
def execUnmappedAccess (bar : Bar) (off size : Nat) (dir : Dir) (_v : W64) (s : State) : Host.Outcome State Fault Refusal :=
  doneReg s (strayAccess .unmapped bar off size dir s)

end Sys2Proof.Machine
end

