-- ==== Sys2Proof/WellFormed.lean ====
section
/-! DEFINITION. Well-formed commands: every number that names a part of the device names one the device has. -/
namespace Sys2Proof

/-- A mailbox agent with a page: a core or the management function (08 R277). -/
def inAgent (n : Nat) : Bool := decide (n < 34)
/-- A DDR5 channel. -/
def inChan (n : Nat) : Bool := decide (n < 12)
/-- A Isquin core, 32 the ranger core (08 R291). -/
def inCore (n : Nat) : Bool := decide (n < 33)
/-- A channel context (pitch x 16 + engine) x 64 + context (04 R163). -/
def inCtx (n : Nat) : Bool := decide (n < 8192)
/-- A core cycle of a frame (02 R29). -/
def inCycle (n : Nat) : Bool := decide (n < 3000)
/-- A power domain (13 R432). -/
def inDom (n : Nat) : Bool := decide (n < 49)
/-- A power feed. -/
def inFeed (n : Nat) : Bool := decide (n < 8)
/-- A function number (03 R79). -/
def inFn (n : Nat) : Bool := decide (n < 8192)
/-- A lane. -/
def inLane (n : Nat) : Bool := decide (n < 104)
/-- A lease class. -/
def inLease (n : Nat) : Bool := decide (n < 256)
/-- A level of CAMP_ARB_IN: low, toggling, high. -/
def inLevel (n : Nat) : Bool := decide (n < 3)
/-- A master identity. -/
def inMaster (n : Nat) : Bool := decide (n < 16384)
/-- A pin of a field port. -/
def inPin (n : Nat) : Bool := decide (n < 8)
/-- A pitch. -/
def inPitch (n : Nat) : Bool := decide (n < 8)
/-- A port: general (below 96), field (128 to 143), management Ethernet (256). -/
def inPort (n : Nat) : Bool := decide (n < 257)
/-- A PPS pin. -/
def inPps (n : Nat) : Bool := decide (n < 2)
/-- A quad. -/
def inQuad (n : Nat) : Bool := decide (n < 26)
/-- A temperature sensor (13 PWR_TEMP). -/
def inSensor (n : Nat) : Bool := decide (n < 64)
/-- A queue slot of a function (03 R79). -/
def inSlot (n : Nat) : Bool := decide (n < 256)
/-- A counting unit, 8 the central block (09 R333). -/
def inUnit (n : Nat) : Bool := decide (n < 9)
/-- A canopy window of a master. -/
def inWindow (n : Nat) : Bool := decide (n < 16)
/-- A kind of stake (02 R60). -/
def inKind (n : Nat) : Bool := decide (n < 16)
/-- A BAR0 of a function (00 R10). -/
def barOk : Bar → Bool
  | .mgmt => true
  | .fn n => inFn n
/-- One DIMM for each DDR5 channel at most (07 R259). -/
def dimmsOk (l : List (Option Dimm)) : Bool := decide (l.length ≤ 12)
/-- What lands fills whole landing slots (02 R40). -/
def lineOk (l : List (BitVec 8)) : Bool := decide (l.length % 128 = 0)
/-- Corrected symbols are among the 36 of an on-die word, or the 20 devices of a channel (07 R251, R263). -/
def eccOk : EccResult → Bool
  | .corrected l => l.all fun d => decide (d < 36)
  | .clean | .uncorrectable | .undetected _ => true

/-- Bytes of a core's X, Y and instruction memory (06 R200). -/
def upsetSize (k m : Nat) : Nat := if m ≠ 2 then 0x8000 else if k = 32 then 0x80000 else 0x20000

/-- The struck word is one of its memory. -/
def upsetOk : Upset → Bool
  | .stake _ w res => decide (w < 4 ∨ 0x80 ≤ w ∧ w < 0x200 ∨ 0x8000 ≤ w ∧ w < 0x18000) && eccOk res
  | .canopy w res => decide (w < 163840) && eccOk res
  | .isquin k m w res => inCore k && decide (m < 3 ∧ w * 32 < upsetSize k m) && eccOk res
  | .store k m a _ => inCore k && decide (m < 3 ∧ a < upsetSize k m)

/-- Each word crossed one of the 65 guylines (10 R370). -/
def wordsOk (l : List (Nat × EccResult)) : Bool := l.all fun e => decide (e.1 < 65)

/-- A command is well-formed. -/
def wellFormed (i : Instr) : Bool :=
  match i with
  | .registerWrite bar _ _ v => barOk bar && eccOk v.gl
  | .badAccess bar _ _ _ _ => barOk bar
  | .unmappedAccess bar _ _ _ _ => barOk bar
  | .frameStart f => decide (1249912 ≤ f.span ∧ f.span ≤ 1250088) && f.upsets.all upsetOk
  | .stakeIssue cycle kind _ _ => inCycle cycle && inKind kind
  | .freeLaneGrant cycle kind _ _ => inCycle cycle && inKind kind
  | .responseLanded _ cycle data _ words => inCycle cycle && lineOk data && wordsOk words
  | .refreshDebtTick ch => inChan ch
  | .refreshStake ch cycle => inChan ch && inCycle cycle
  | .backgroundTestAccess p _ _ => inPitch p.unit && inCycle p.cycle
  | .testStepRestore p => inPitch p.unit && inCycle p.cycle
  | .meterSample unit => inUnit unit
  | .bankWrite _ _ _ _ => true
  | .bankCheck _ => true
  | .checkComplete => true
  | .swapArm _ => true
  | .bankSwap => true
  | .leaseCfgWrite n _ => inLease n
  | .sqDoorbell fn slot => inFn fn && inSlot slot
  | .indexRecordLanded fn slot _ _ => inFn fn && inSlot slot
  | .ringUnitsLanded fn slot _ _ => inFn fn && inSlot slot
  | .roundPauseRelease fn slot => inFn fn && inSlot slot
  | .entryAccepted fn slot => inFn fn && inSlot slot
  | .dispatch fn slot ctx => inFn fn && inSlot slot && inCtx ctx
  | .fragmentTableLanded fn slot _ _ => inFn fn && inSlot slot
  | .completionPosted fn slot => inFn fn && inSlot slot
  | .moderationTimer fn slot => inFn fn && inSlot slot
  | .vectorUnmask fn _ => inFn fn
  | .linkReachesL0 port => inPort port
  | .cqDoorbell fn slot _ => inFn fn && inSlot slot
  | .sqResume fn slot => inFn fn && inSlot slot
  | .sqEnable fn slot _ => inFn fn && inSlot slot
  | .sqDisable fn slot _ => inFn fn && inSlot slot
  | .cqEnable fn slot _ => inFn fn && inSlot slot
  | .cqDisable fn slot _ => inFn fn && inSlot slot
  | .queueReset fn slot => inFn fn && inSlot slot
  | .functionLevelReset fn => inFn fn
  | .functionD3hotEntry fn _ => inFn fn
  | .functionD0Return fn => inFn fn
  | .busMasterEnableClear fn => inFn fn
  | .busMasterEnableSet fn => inFn fn
  | .assignIdent _ => true
  | .assignQueue _ => true
  | .assignLease _ => true
  | .invalidCode ctx => inCtx ctx
  | .reservedCode ctx => inCtx ctx
  | .nop ctx => inCtx ctx
  | .tic ctx => inCtx ctx
  | .ticCond ctx => inCtx ctx
  | .waitEvent ctx => inCtx ctx
  | .waitCheck ctx _ => inCtx ctx
  | .post ctx => inCtx ctx
  | .note ctx => inCtx ctx
  | .stamp ctx => inCtx ctx
  | .call ctx => inCtx ctx
  | .move ctx => inCtx ctx
  | .measure ctx => inCtx ctx
  | .measureSample ctx => inCtx ctx
  | .sampleRecordWritten ctx _ _ => inCtx ctx
  | .devWrite ctx => inCtx ctx
  | .devRead ctx => inCtx ctx
  | .devControl ctx => inCtx ctx
  | .devSense ctx => inCtx ctx
  | .flush ctx => inCtx ctx
  | .writeZeroes ctx => inCtx ctx
  | .datasetManagement ctx => inCtx ctx
  | .compare ctx => inCtx ctx
  | .passThrough ctx => inCtx ctx
  | .discardFrame ctx => inCtx ctx
  | .timedSend ctx => inCtx ctx
  | .spiFullDuplex ctx => inCtx ctx
  | .pwm ctx => inCtx ctx
  | .generateEdge ctx => inCtx ctx
  | .hostedCommandLanded ctx _ _ => inCtx ctx
  | .stepComplete ctx _ => inCtx ctx
  | .fenceAck ctx _ => inCtx ctx
  | .deviceTimeout ctx => inCtx ctx
  | .completionTimeout ctx => inCtx ctx
  | .pitchCtxSelect p _ => inPitch p
  | .pitchFault p => inPitch p
  | .pitchReset p _ => inPitch p
  | .recoverDevice _ => true
  | .rebuildComplete => true
  | .recovReadSelect _ => true
  | .recovReadComplete => true
  | .mov core => inCore core
  | .movsx core => inCore core
  | .movzx core => inCore core
  | .lea core => inCore core
  | .add core => inCore core
  | .sub core => inCore core
  | .neg core => inCore core
  | .abs core => inCore core
  | .mul core => inCore core
  | .mulhs core => inCore core
  | .mulhu core => inCore core
  | .divs core => inCore core
  | .divu core => inCore core
  | .rems core => inCore core
  | .remu core => inCore core
  | .and core => inCore core
  | .or core => inCore core
  | .xor core => inCore core
  | .not core => inCore core
  | .shl core => inCore core
  | .shr core => inCore core
  | .sar core => inCore core
  | .rol core => inCore core
  | .ror core => inCore core
  | .mac core => inCore core
  | .msu core => inCore core
  | .macu core => inCore core
  | .acx core => inCore core
  | .pand core => inCore core
  | .por core => inCore core
  | .pxor core => inCore core
  | .pandn core => inCore core
  | .cmpeq core => inCore core
  | .cmpne core => inCore core
  | .cmplt core => inCore core
  | .cmple core => inCore core
  | .cmplo core => inCore core
  | .cmpls core => inCore core
  | .tst core => inCore core
  | .bra core => inCore core
  | .jmp core => inCore core
  | .brl core => inCore core
  | .ret core => inCore core
  | .dbnz core => inCore core
  | .cbeq core => inCore core
  | .cbne core => inCore core
  | .cblt core => inCore core
  | .cble core => inCore core
  | .cbgt core => inCore core
  | .cbge core => inCore core
  | .cblo core => inCore core
  | .cbls core => inCore core
  | .cbhi core => inCore core
  | .cbhs core => inCore core
  | .repC core => inCore core
  | .repN core => inCore core
  | .repeatIteration core => inCore core
  | .trap core => inCore core
  | .reservedOpcode core => inCore core
  | .reti core => inCore core
  | .ei core => inCore core
  | .di core => inCore core
  | .sleep core => inCore core
  | .cwait core => inCore core
  | .callDispatch core => inCore core
  | .cret core => inCore core
  | .isqNop core => inCore core
  | .normalEntry core => inCore core
  | .fastEntry core => inCore core
  | .coreWake core => inCore core
  | .callLimit ctx => inCtx ctx
  | .callLimitTrap core => inCore core
  | .coreReset core => inCore core
  | .halt core => inCore core
  | .resume core => inCore core
  | .bgtEnableWrite p _ => inPitch p
  | .scrubRead ch res => inChan ch.unit && inCycle ch.cycle && eccOk res
  | .scrubWriteBack ch => inChan ch.unit && inCycle ch.cycle
  | .scrubPeriodExpiry ch => inChan ch
  | .dimmThermalRead ch _ => inChan ch
  | .rcdParityError ch => inChan ch
  | .canopyWindowLo m w _ => inMaster m && inWindow w
  | .canopyWindowHi m w _ => inMaster m && inWindow w
  | .drain _ => true
  | .drainComplete => true
  | .canopyDenyCount => true
  | .mbPost agent _ => inAgent agent
  | .mbRxSelect agent _ => inAgent agent
  | .fnNoticeStatus fn => inFn fn
  | .mbRxEmpty agent _ => inAgent agent
  | .fnNoticeEmpty fn _ => inFn fn
  | .mbRetPop agent => inAgent agent
  | .tnmClear _ => true
  | .icRaise _ => true
  | .icClaim core => inCore core
  | .icFclaim core => inCore core
  | .icComplete core _ => inCore core
  | .icFcomplete core _ => inCore core
  | .lanternSecond => true
  | .ppsInEdge input _ => inPps input
  | .refLost => true
  | .refReturn => true
  | .holdoverExpiry => true
  | .coreLock => true
  | .ppsOutPulse pulse => inPps pulse
  | .todMessage => true
  | .ptpEventMessage mac _ _ => inPort mac
  | .ptmRequest port _ => inPort port
  | .lantSnap _ => true
  | .setAtPpsEdge _ => true
  | .setAtOnce _ => true
  | .addNs _ => true
  | .setCancel _ => true
  | .calCommit _ => true
  | .calCommitComplete _ => true
  | .attributionInterval _ => true
  | .feedStale feed => inFeed feed
  | .minuteClose => true
  | .headSigned _ => true
  | .blockDelivery => true
  | .meterConsumer _ => true
  | .meterCheckpoint => true
  | .meterLiveSelect _ => true
  | .linkUp port _ _ => inPort port
  | .linkDown port => inPort port
  | .rootPortLinkDown port => inPort port
  | .frameReceived mac _ _ => inPort mac
  | .kick => true
  | .mgmtFrameSent => true
  | .mgmtFrameReceived _ _ => true
  | .pinEdge port pin _ _ => inPort port && inPin pin
  | .quadTest q _ => inQuad q
  | .prbsSnap lane _ _ _ => inLane lane
  | .prbsClear lane _ => inLane lane
  | .prbsInject lane _ => inLane lane
  | .checkerLock lane => inLane lane
  | .checkerLockLoss lane => inLane lane
  | .ddr5PatStart ch _ => inChan ch
  | .ddr5PatStop ch _ => inChan ch
  | .patternRunComplete ch _ _ => inChan ch
  | .ploetLinkUp _ _ => true
  | .ploetLinkDown => true
  | .flitReceived _ => true
  | .nakReplay _ => true
  | .campRecord => true
  | .campDurable => true
  | .campTime _ => true
  | .campNotice => true
  | .campEmptied => true
  | .resyncStart => true
  | .resyncEnd => true
  | .silentDecision => true
  | .arbInChange level => inLevel level
  | .takeOver _ => true
  | .campResync _ => true
  | .campFence _ => true
  | .backgroundVerify => true
  | .thOtpArm _ => true
  | .armExpiry => true
  | .programSlot _ => true
  | .revokeSlot _ => true
  | .advanceAntiRollback _ => true
  | .otpWriteComplete _ => true
  | .flashRead _ => true
  | .flashProgram _ => true
  | .flashErase _ => true
  | .flashVerify _ => true
  | .flashOpComplete _ => true
  | .attestRequest _ => true
  | .reportSignStart => true
  | .reportSigned => true
  | .bivouacRequest d _ => inDom d
  | .onRequest d _ => inDom d
  | .bivouacEntryComplete d => inDom d
  | .bivouacExitComplete d => inDom d
  | .exitTimeout d => inDom d
  | .domainLost d => inDom d
  | .domainReturn d _ => inDom d
  | .warmRequest _ => true
  | .pitchRequest _ => true
  | .wrstN => true
  | .warmReset _ => true
  | .powerOnReset _ dimms => dimmsOk dimms
  | .pwrgoodFall => true
  | .coldReset _ dimms => dimmsOk dimms
  | .temperatureSample _ sensor => inSensor sensor
  | .configurationRequest fn => inFn fn
  | .l1Entry port => inPort port
  | .ethernetLinkDown mac => inPort mac
  | .controlStateError _ => true

end Sys2Proof
end

