-- ==== Sys2Proof/Machine/Maint.lean ====
section
/-! DEFINITION. Maintenance of the memories on the request slots and bank ports that it takes: the background test, the restore of an aborted
step, patrol scrub (02 R52, R53, R55; 07 R254-R258, R266); and errors that strike words of the coded memories (07 R251). -/
namespace Sys2Proof.Machine

/-- Port B of the bank under test in pitch `p`. -/
def testPort (s : State) (p : Nat) : Nat := p * 64 + 2 * rf s R.BGT_STATUS F.BGT_STATUS_BANK p + 1

/-- The background test stake of a pitch at the present cycle: the next access of its step takes port B of the bank under test; the other banks'
port B stays with the free lane (02 R33, R52). -/
def testStakeS (p : Nat) (fails : Bool) (ecc : EccResult) (s : State) : State :=
  match activeBank s with
  | none => s
  | some b =>
    let c := absCycle s
    let f := timetableFrame s (bankOf s b)
    match (bankOf s b).claimants f 8 p s.sched.cycle with
    | [e] =>
      if testRuns s p = false ∨ (bankOf s b).collides f e s.sched.cycle = true ∨ claimed s c 8 p = true ∨ claimed s c 0 (testPort s p) = true then s
      else testAccess p fails ecc (mDevice (claim (claim s c 8 p) c 0 (testPort s p)) p)
    | _ => s

/-- BACKGROUND_TEST_ACCESS (07 R255). -/
def execBackgroundTestAccess (p : Timed) (fails : Bool) (ecc : EccResult) (s : State) : Host.Outcome State Fault Refusal :=
  done s (atCycle p.cycle s (testStakeS p.unit fails ecc))

/-- One write of the restore of an aborted step is granted at rank 1 on a free port of its bank, port A first (02 R55, 07 R250, R258). -/
def testRestoreS (p : Nat) (s : State) : State :=
  if (testOf s p).aborted = false ∨ domOn s p = false then s
  else
    match [testPort s p - 1, testPort s p].find? fun i => instFree s 0 i (absCycle s) with
    | some i => restoreOne p (mFree (claim s (absCycle s) 0 i) p 1 0 false)
    | none => s

/-- TEST_STEP_RESTORE (07 R258). -/
def execTestStepRestore (p : Timed) (s : State) : Host.Outcome State Fault Refusal := done s (atCycle p.cycle s (testRestoreS p.unit))

/-- The present cycle is a request slot of the channel that no stake issued on and no free-lane request waits for (07 R266); a pattern engine
that runs takes it first (10 R378). -/
def scrubSlot (s : State) (ch : Nat) : Bool :=
  instFree s 3 ch (absCycle s) && domOn s (32 + ch) && !rb s R.DDR5_PAT_CTRL F.DDR5_PAT_CTRL_START ch && !s.sched.waiting.any fun r => (r.kind == 3 || r.kind == 4) && r.inst == ch

/-- A line that the scrub asks the DRAM for takes its slot. -/
def scrubAsk (s : State) (ch line : Nat) (write : Bool) : State :=
  guyWords (ddrAsk (claim s (absCycle s) 3 ch) (ch * 2 ^ 31 + line) write) (25 + ch) 0 (if write then 4 else 1)

/-- SCRUB_READ (07 R266). -/
def execScrubRead (ch : Timed) (res : EccResult) (s : State) : Host.Outcome State Fault Refusal :=
  done s (atCycle ch.cycle s fun u =>
    let ch := ch.unit
    if scrubSlot u ch = false ∨ rb u R.DDR5_SCRUB_CFG F.DDR5_SCRUB_CFG_ENABLE ch = false ∨ Tbl.get 0 u.mem.scrubPending ch ≠ 0 then u
    else scrubReadS ch res (scrubAsk u ch (rf u R.DDR5_SCRUB_STATUS F.DDR5_SCRUB_STATUS_LINE ch) false))

/-- SCRUB_WRITE_BACK (07 R266). -/
def execScrubWriteBack (ch : Timed) (s : State) : Host.Outcome State Fault Refusal :=
  done s (atCycle ch.cycle s fun u =>
    let ch := ch.unit
    if scrubSlot u ch = false ∨ Tbl.get 0 u.mem.scrubPending ch = 0 then u
    else scrubWriteBackS ch (scrubAsk u ch (Tbl.get 0 u.mem.scrubPending ch - 1) true))

/-! ## Errors of stored words (07 R251) -/

/-- Put a bad word into a list of bad words. -/
def addBad (l : List Nat) (w : Nat) : List Nat := l.filter (· ≠ w) ++ [w]

/-- Invert bits of a byte table: `n` bytes from key `a`, by the bits of `f`. -/
def flipBytes (t : Tbl Byte) (a n f : Nat) : Tbl Byte := twrite 0 t a (leBytes n (Nat.xor (leNat (tread 0 t a n)) f))

/-- Invert bits of a 256-bit word of a frame bank, as `Bank.unc` numbers them. -/
def Bank.flip (b : Bank) (w f : Nat) : Bank :=
  (List.range 4).foldl (fun u i =>
    let part := f / 2 ^ (64 * i) % 2 ^ 64
    let o := w * 32 + 8 * i
    if part = 0 then u
    else if w < 0x80 then { u with hdr := flipBytes u.hdr o 8 part }
    else if w < 0x8000 then { u with dir := Tbl.upd 0 u.dir ((o - 0x1000) / 8) (· ^^^ BitVec.ofNat 64 part) }
    else { u with stakes := Tbl.upd 0 u.stakes ((o - 0x100000) / 8) (· ^^^ BitVec.ofNat 64 part) }) b

/-- An error in a word of a frame bank: corrected it is counted in SCHED_FAULT (02 SCHED_FAULT.ECC_CORR). -/
def stakeUpset (b : Bool) (w : Nat) (res : EccResult) (s : State) : State :=
  let x := bankOf s b
  match judged dieCap res with
  | .clean => s
  | .corrected _ => if w < 0x8000 then s else satAdd s R.SCHED_FAULT F.SCHED_FAULT_ECC_CORR 1
  | .uncorrectable => setBank s b { x with unc := addBad x.unc w }
  | .undetected f => setBank s b (x.flip w (f.toNat % 2 ^ 256))

/-- Invert bits of a word of the canopy tables: four regions, or two windows, of a master (07 R270, R271). -/
def canopyFlip (s : State) (w f : Nat) : State :=
  let m := w / 10
  let part := fun i => f / 2 ^ (64 * i) % 2 ^ 64
  if w % 10 < 2 then
    (List.range 4).foldl (fun u i =>
      let r := w % 10 * 4 + i
      wr u R.CANOPY_REGION (Nat.xor (rg u R.CANOPY_REGION m r) (part i)) m r) s
  else
    (List.range 2).foldl (fun u i =>
      let r := (w % 10 - 2) * 2 + i
      let lo := Nat.xor (Tbl.get 0 u.mem.loInForce (m * 16 + r)).toNat (part (2 * i))
      let u1 := wr u R.CANOPY_WINDOW_HI (Nat.xor (rg u R.CANOPY_WINDOW_HI m r) (part (2 * i + 1))) m r
      u1.withMem { u1.mem with loInForce := Tbl.set 0 u1.mem.loInForce (m * 16 + r) (BitVec.ofNat 64 lo) }) s

/-- An error in a word of the canopy tables: uncorrectable, it denies (07 R275). -/
def canopyUpset (w : Nat) (res : EccResult) (s : State) : State :=
  match judged dieCap res with
  | .clean | .corrected _ => s
  | .uncorrectable => s.withMem { s.mem with canopyBad := addBad s.mem.canopyBad w }
  | .undetected f => canopyFlip s w (f.toNat % 2 ^ 256)

/-- An error in a word of a core's memories: X 0, Y 1, instruction 2 (06 ISQ_ECC, R246). -/
def isquinUpset (k m w : Nat) (res : EccResult) (s : State) : State :=
  let c := s.core k
  match judged dieCap res with
  | .clean => s
  | .corrected _ =>
    let f := if m = 0 then F.ISQ_ECC_X_CORR else if m = 1 then F.ISQ_ECC_Y_CORR else F.ISQ_ECC_IMEM_CORR
    if k = 32 then satAdd s R.RANGER_ECC f 1 else satAdd s R.ISQ_ECC f 1 (k / 4) (k % 4)
  | .uncorrectable => s.setCore k { c with bad := addBad c.bad (m * 0x10000 + w) }
  | .undetected f =>
    let n := f.toNat % 2 ^ 256
    s.setCore k (if m = 0 then { c with x := flipBytes c.x (w * 32) 32 n }
      else if m = 1 then { c with y := flipBytes c.y (w * 32) 32 n } else { c with imem := flipBytes c.imem (w * 32) 32 n })

/-- A byte of a core's firmware store in DDR5 has changed (06 R243). -/
def storeUpset (k m a : Nat) (v : Byte) (s : State) : State :=
  let c := s.core k
  s.setCore k (if m = 0 then { c with storeX := Tbl.set 0 c.storeX a v }
    else if m = 1 then { c with storeY := Tbl.set 0 c.storeY a v } else { c with storeI := Tbl.set 0 c.storeI a v })

/-- An error strikes a word that there is. -/
def upset (s : State) (x : Upset) : State :=
  if upsetOk x = false then s
  else
    match x with
    | .stake b w res => stakeUpset b w res s
    | .canopy w res => canopyUpset w res s
    | .isquin k m w res => isquinUpset k m w res s
    | .store k m a v => storeUpset k m a v s

end Sys2Proof.Machine
end

