-- ==== Sys2Proof/Machine/Frame.lean ====
section
/-! DEFINITION. FRAME_START: what happens at cycle 0 of a frame (02 R29, R72, R77; 09 R308; 11 R385; 13 R441), and the end of
trailhead, which is the start of a frame (12 R415). -/
namespace Sys2Proof.Machine

/-- LEASE_CFG writes take effect; paired fetches of a class that is no longer enabled are consumed in the free lane (02 R77). -/
def frameLeases (s : State) : State :=
  let s1 := applyLeases s
  s1.withSched { s1.sched with fetches := s1.sched.fetches.map fun f =>
    match f.lease with
    | some l => if leaseOn s1 l then f else { f with consume := [] }
    | none => f }

/-- HEARTBEAT toggles in every frame whose count is a multiple of 500 (13 R441). -/
def heartbeatTick (s : State) : State :=
  if s.sched.frame.toNat % 500 = 0 then s.withPower { s.power with heartbeat := !s.power.heartbeat } else s

/-- The next frame begins: the count moves on and the cycle returns to 0; `span` is the time that the frame that ends took, in thousandths
of a lantern cycle. -/
def nextFrame (span : Nat) (s : State) : State :=
  let s1 := meterFrame (lantTenths span s) (passTo s 3000)
  let s2 := landMoves (s1.withSched { s1.sched with frame := s1.sched.frame + 1, cycle := 0 }) ((s1.sched.frame.toNat + 1) * 3000)
  let s3 := frameLeases (lantFrame span s2)
  repeatPme (campFrame (if swapDue s3 then s3 else readLists s3))

/-- The start of a frame; while the ridgepole and central domain is lost there are no frames, and the time of one passes in the lantern
(09 R307). Trailhead ends with one: the first frame after a power-on or cold reset is frame 0, the count goes on after a
warm or fault reset (01 R21, 12 R415). -/
def frameStartS (span : Nat) (upsets : List Upset) (s0 : State) : State :=
  let s := upsets.foldl upset s0
  if s.trust.phase = 0 then lantAlone span s
  else if s.trust.phase = 4 then
    let n := if keepsSettings s.trust.resetKind then s.sched.frame + 1 else s.sched.frame
    let t := readLists (endTrailhead (lantFrame span (s.withSched { s.sched with frame := n, cycle := 0 })))
    if running t then heartbeatTick t else t
  else if running s then heartbeatTick (nextFrame span s)
  else nextFrame span s

/-- FRAME_START (02 R29). -/
def execFrameStart (span : FrameEnd) (s : State) : Host.Outcome State Fault Refusal :=
  doneLant s (frameStartS span.span span.upsets s)

end Sys2Proof.Machine
end

