-- ==== Sys2Proof/Machine/Flags.lean ====
section
/-! DEFINITION. Isquin arithmetic: results and predicate outputs at size `w` bits, on unsigned operands below `2 ^ w`
(06 R216-R219, R224). -/
namespace Sys2Proof.Machine

/-- Two's complement reading of the low `w` bits. -/
def sval (w v : Nat) : Int := if v % 2 ^ w < 2 ^ (w - 1) then (v % 2 ^ w : Nat) else (v % 2 ^ w : Nat) - (2 ^ w : Nat)

/-- The low `w` bits of an integer. -/
def low (w : Nat) (i : Int) : Nat := (i % ((2 ^ w : Nat) : Int)).toNat

/-- Whether `i` is representable in `w` bits, two's complement. -/
def fits (w : Nat) (i : Int) : Bool := decide (-(2 ^ (w - 1) : Nat) ≤ i ∧ i < (2 ^ (w - 1) : Nat))

/-- The comparison conditions (06 R216), numbered as the CB opcodes from 0x48: EQ NE LT LE GT GE LO LS HI HS. -/
def isqCond (n w a b : Nat) : Bool :=
  if n = 0 then a == b else if n = 1 then a != b
  else if n = 2 then decide (sval w a < sval w b) else if n = 3 then decide (sval w a ≤ sval w b)
  else if n = 4 then decide (sval w b < sval w a) else if n = 5 then decide (sval w b ≤ sval w a)
  else if n = 6 then decide (a < b) else if n = 7 then decide (a ≤ b)
  else if n = 8 then decide (b < a) else decide (b ≤ a)

/-- ADD and SUB (06 R217): result, and carry or borrow. -/
def aluAdd (w a b : Nat) : Nat × Bool := ((a + b) % 2 ^ w, decide (2 ^ w ≤ a + b))
def aluSub (w a b : Nat) : Nat × Bool := (low w ((a : Int) - b), decide (a < b))

/-- NEG and ABS (06 R217): MIN stays MIN and is flagged. -/
def aluNeg (w a : Nat) : Nat × Bool := (low w (-(sval w a)), a == 2 ^ (w - 1))
def aluAbs (w a : Nat) : Nat × Bool := (low w (if sval w a < 0 then -(sval w a) else sval w a), a == 2 ^ (w - 1))

/-- MUL, MULHS, MULHU (06 R217, R224). -/
def aluMul (w a b : Nat) : Nat × Bool := (low w (sval w a * sval w b), !fits w (sval w a * sval w b))
def aluMulhs (w a b : Nat) : Nat := low w ((sval w a * sval w b) / ((2 ^ w : Nat) : Int))
def aluMulhu (w a b : Nat) : Nat := (a * b) / 2 ^ w % 2 ^ w

/-- Division (06 R217) with CCR.DZT clear: by zero the quotient is 0 and the remainder `a`, flagged; MIN by -1 gives MIN
and remainder 0, flagged; otherwise truncated toward zero, remainder with the sign of `a`. -/
def aluDivs (w a b : Nat) : Nat × Bool :=
  if b = 0 then (0, true)
  else if a = 2 ^ (w - 1) ∧ sval w b = -1 then (a, true)
  else (low w (Int.tdiv (sval w a) (sval w b)), false)
def aluDivu (a b : Nat) : Nat × Bool := if b = 0 then (0, true) else (a / b, false)
def aluRems (w a b : Nat) : Nat × Bool :=
  if b = 0 then (a, true)
  else if a = 2 ^ (w - 1) ∧ sval w b = -1 then (0, true)
  else (low w (Int.tmod (sval w a) (sval w b)), false)
def aluRemu (a b : Nat) : Nat × Bool := if b = 0 then (a, true) else (a % b, false)

/-- Bitwise operations (06 R224). -/
def aluNot (w a : Nat) : Nat := 2 ^ w - 1 - a % 2 ^ w

/-- Shifts and rotates (06 R217): the count is unsigned of size SZ. -/
def aluShl (w a b : Nat) : Nat := if w ≤ b then 0 else (a * 2 ^ b) % 2 ^ w
def aluShr (w a b : Nat) : Nat := if w ≤ b then 0 else a / 2 ^ b
def aluSar (w a b : Nat) : Nat := low w (sval w a / ((2 ^ (min b w) : Nat) : Int))
def aluRol (w a b : Nat) : Nat := (a * 2 ^ (b % w) + a / 2 ^ (w - b % w)) % 2 ^ w
def aluRor (w a b : Nat) : Nat := (a / 2 ^ (b % w) + a * 2 ^ (w - b % w)) % 2 ^ w

/-- MAC, MSU, MACU (06 R218): the accumulator modulo 2^80, and whether the exact sum leaves the signed 80-bit range. -/
def accMac (w : Nat) (acc : BitVec 80) (a b : Nat) : BitVec 80 × Bool :=
  let e := sval 80 acc.toNat + sval w a * sval w b
  (BitVec.ofInt 80 e, !fits 80 e)
def accMsu (w : Nat) (acc : BitVec 80) (a b : Nat) : BitVec 80 × Bool :=
  let e := sval 80 acc.toNat - sval w a * sval w b
  (BitVec.ofInt 80 e, !fits 80 e)
def accMacu (acc : BitVec 80) (a b : Nat) : BitVec 80 × Bool :=
  let e := sval 80 acc.toNat + ((a * b : Nat) : Int)
  (BitVec.ofInt 80 e, !fits 80 e)

/-- ACX (06 R219): arithmetic shift right and saturation to the signed range of `w` bits. -/
def accExtract (w : Nat) (acc : BitVec 80) (b : Nat) : Nat × Bool :=
  let v := sval 80 acc.toNat / ((2 ^ (min b 80) : Nat) : Int)
  let lo : Int := -((2 ^ (w - 1) : Nat) : Int)
  let hi : Int := ((2 ^ (w - 1) : Nat) : Int) - 1
  if v < lo then (low w lo, true) else if hi < v then (low w hi, true) else (low w v, false)

end Sys2Proof.Machine
end

