-- ==== Sys2Proof/Machine/Operands.lean ====
section
/-! DEFINITION. The Isquin instruction form: fetching parcels, decoding, the addressing modes and their address arithmetic
(06 R208-R215, R222, R224). -/
namespace Sys2Proof.Machine

/-- The kinds of operand in the Operands column of 06 R224. -/
inductive OpKind where
  | any | written | addr | pred | acc
  deriving DecidableEq, Repr

/-- Shape of an instruction: operand kinds, whether it has a size, a predicate output, a displacement, an extension
parcel, and whether it may not stand after REP (06 R222, R224). -/
structure Shape where
  ops : List OpKind
  sized : Bool
  po : Bool
  disp : Bool
  ext : Bool
  noRep : Bool
  deriving DecidableEq, Repr

/-- The instruction table (06 R224). -/
def isqShape (op : Nat) : Option Shape :=
  if op = 0x01 ∨ op = 0x02 ∨ op = 0x03 then some ⟨[.written, .any], true, false, false, false, false⟩
  else if op = 0x04 then some ⟨[.written, .addr], true, false, false, false, false⟩
  else if op = 0x10 ∨ op = 0x11 ∨ op = 0x14 ∨ (0x17 ≤ op ∧ op ≤ 0x1A) then
    some ⟨[.written, .any, .any], true, true, false, false, false⟩
  else if op = 0x12 ∨ op = 0x13 then some ⟨[.written, .any], true, true, false, false, false⟩
  else if op = 0x23 then some ⟨[.written, .any], true, false, false, false, false⟩
  else if op = 0x15 ∨ op = 0x16 ∨ (0x20 ≤ op ∧ op ≤ 0x28) then
    some ⟨[.written, .any, .any], true, false, false, false, false⟩
  else if 0x30 ≤ op ∧ op ≤ 0x32 then some ⟨[.acc, .any, .any], true, true, false, false, false⟩
  else if op = 0x33 then some ⟨[.written, .acc, .any], true, true, false, false, false⟩
  else if 0x34 ≤ op ∧ op ≤ 0x37 then some ⟨[.pred, .pred, .pred], false, false, false, false, false⟩
  else if 0x38 ≤ op ∧ op ≤ 0x3E then some ⟨[.pred, .any, .any], true, false, false, false, false⟩
  else if op = 0x40 ∨ op = 0x42 then some ⟨[], false, false, true, false, true⟩
  else if op = 0x41 then some ⟨[.any], false, false, false, false, true⟩
  else if op = 0x44 then some ⟨[], false, false, false, false, true⟩
  else if op = 0x45 then some ⟨[.written], true, false, true, false, true⟩
  else if 0x48 ≤ op ∧ op ≤ 0x51 then some ⟨[.any, .any], true, false, true, false, true⟩
  else if op = 0x60 then some ⟨[], false, false, false, false, true⟩
  else if op = 0x61 ∨ op = 0x62 then some ⟨[], false, false, false, true, true⟩
  else if 0x63 ≤ op ∧ op ≤ 0x67 then some ⟨[], false, false, false, false, true⟩
  else if op = 0x68 then some ⟨[.any], false, false, false, false, true⟩
  else if op = 0x6F then some ⟨[], false, false, false, false, false⟩
  else none

/-- One decoded operand (06 R210): mode, REG, index register, scale, immediate or displacement, and size in bytes. -/
structure Opnd where
  mode : Nat
  reg : Nat
  idx : Nat
  scale : Nat
  ext : W32
  size : Nat
  deriving DecidableEq, Repr

/-- A decoded instruction. -/
structure Insn where
  op : Nat
  gi : Bool
  gp : Nat
  sz : Nat
  ops : List Opnd
  pe : Bool
  pn : Nat
  disp : W32
  imm : BitVec 16
  /-- length in bytes -/
  len : Nat
  deriving DecidableEq, Repr

/-- A trap: its cause and TRAP_ADDR (06 R226). -/
abbrev Trp := Nat × W32

/-- Fetch limit of instruction memory (06 R215, R244). -/
def fetchLimit (k : Nat) : Nat := if k = 32 then 0x80000 else 0x20000

/-- One byte or parcel of instruction memory. -/
def Core.imByte (c : Core) (a : Nat) : Nat := (Tbl.get (0#8) c.imem a).toNat

def Core.parcelAt (c : Core) (a : W32) : BitVec 16 :=
  BitVec.ofNat 16 (c.imByte a.toNat + 256 * c.imByte (a.toNat + 1))

/-- The 256-bit word of memory `m` (0 X, 1 Y, 2 instruction) that holds byte `a` is uncorrectable (06 R201). -/
def Core.badAt (c : Core) (m a : Nat) : Bool := c.bad.contains (m * 0x10000 + a / 32)

/-- Fetch one parcel (06 R215): misaligned, beyond the end, or uncorrectable fetches trap. -/
def Core.fetch (c : Core) (k : Nat) (a : W32) : Except Trp (BitVec 16) :=
  if a.toNat % 2 = 1 then .error (3, a)
  else if fetchLimit k ≤ a.toNat then .error (4, a)
  else if c.badAt 2 a.toNat then .error (6, BitVec.ofNat 32 (a.toNat / 32 * 32))
  else .ok (c.parcelAt a)

/-- A signed 16-bit value as a 32-bit word. -/
def sext16 (v : BitVec 16) : W32 := v.signExtend 32

/-- Size in bytes of operand `i` (06 R211, R224): MOVSX, MOVZX and LEA write .W, JMP reads .W, CRET uses 16 bits. -/
def opndSize (op sz i : Nat) : Nat :=
  if (op = 2 ∨ op = 3 ∨ op = 4) ∧ i = 0 then 4
  else if op = 0x41 then 4
  else if op = 0x68 then 2
  else 2 ^ sz

/-- Whether an operand kind admits a mode and REG (06 R213, R224). -/
def OpKind.admits (k : OpKind) (mode reg : Nat) : Bool :=
  match k with
  | .any => true
  | .written => mode != 1 && mode != 9
  | .addr => decide (2 ≤ mode ∧ mode ≤ 8)
  | .pred => mode == 11
  | .acc => mode == 10 && decide (reg < 2)

/-- A specifier byte is not reserved (06 R209, R210, R213). -/
def specOk (k : OpKind) (b : Nat) : Bool :=
  let mode := b / 16
  let reg := b / 2 % 8
  b % 2 == 0 && decide (mode ≤ 11) && k.admits mode reg &&
    !((mode == 1 || mode == 2 || mode == 9) && reg != 0) && !(mode == 10 && decide (2 < reg))

/-- Extension parcels of one operand (06 R210). -/
def extParcels (mode size : Nat) : Nat :=
  if mode = 1 then (if size = 4 then 2 else 1)
  else if mode = 2 ∨ mode = 3 ∨ mode = 5 ∨ mode = 9 then 1
  else if mode = 6 then 2
  else 0

/-- One operand from its specifier byte and its extension parcels; none where a zero bit of an index parcel is set
(06 R210, R213). -/
def mkOpnd (b size : Nat) (e : List (BitVec 16)) : Option Opnd :=
  let mode := b / 16
  let reg := b / 2 % 8
  let e0 := e.getD 0 0
  let e1 := e.getD 1 0
  if mode = 1 then
    some ⟨mode, reg, 0, 1, if size = 4 then e1 ++ e0 else if size = 1 then (e0 &&& 0xFF#16).setWidth 32 else e0.setWidth 32, size⟩
  else if mode = 2 then some ⟨mode, reg, 0, 1, e0.setWidth 32, size⟩
  else if mode = 3 ∨ mode = 9 then some ⟨mode, reg, 0, 1, sext16 e0, size⟩
  else if mode = 5 ∨ mode = 6 then
    if e0.toNat / 32 ≠ 0 then none
    else some ⟨mode, reg, e0.toNat % 8, 2 ^ (e0.toNat / 8 % 4), if mode = 6 then sext16 e1 else 0, size⟩
  else some ⟨mode, reg, 0, 1, 0, size⟩

/-- Fetch `n` parcels from `a` on. -/
def Core.fetchN (c : Core) (k : Nat) : Nat → W32 → Except Trp (List (BitVec 16))
  | 0, _ => .ok []
  | n + 1, a =>
    match c.fetch k a with
    | .error t => .error t
    | .ok p =>
      match Core.fetchN c k n (a + 2) with
      | .error t => .error t
      | .ok ps => .ok (p :: ps)

/-- Specifier parcels of a shape (06 R209). -/
def Shape.specParcels (s : Shape) : Nat :=
  if s.ops.isEmpty then 0 else if s.ops.length = 3 ∨ s.po then 2 else 1

/-- Operands from their specifier bytes and the extension parcels in operand order. -/
def mkOpnds (op sz : Nat) : Nat → List Nat → List (BitVec 16) → Option (List Opnd)
  | _, [], _ => some []
  | i, b :: bs, e =>
    let size := opndSize op sz i
    let n := extParcels (b / 16) size
    match mkOpnd b size (e.take n), mkOpnds op sz (i + 1) bs (e.drop n) with
    | some o, some os => some (o :: os)
    | _, _ => none

/-- Total extension parcels. -/
def extTotal (op sz : Nat) : Nat → List Nat → Nat
  | _, [] => 0
  | i, b :: bs => extParcels (b / 16) (opndSize op sz i) + extTotal op sz (i + 1) bs

/-- The specifier bytes pass the checks of 06 R213, one by one with the kinds of their operands. -/
def specsOk : List OpKind → List Nat → Bool
  | [], bs => bs.all (· == 0)
  | _ :: _, [] => false
  | k :: ks, b :: bs => specOk k b && specsOk ks bs

/-- Decode the instruction at `a` (06 R208-R213): traps of its fetch, or cause 1 for a reserved encoding. -/
def Core.decodeAt (c : Core) (k : Nat) (a : W32) : Except Trp Insn :=
  match c.fetch k a with
  | .error t => .error t
  | .ok p0 =>
    let w := p0.toNat
    let op := w / 256
    let sz := w / 4 % 4
    match isqShape op with
    | none => .error (1, a)
    | some sh =>
      if w % 4 ≠ 0 ∨ (sh.sized ∧ sz = 3) then .error (1, a)
      else
        match c.fetchN k sh.specParcels (a + 2) with
        | .error t => .error t
        | .ok sp =>
          let s1 := (sp.getD 0 0).toNat
          let s2 := (sp.getD 1 0).toNat
          let bytes := if sp.isEmpty then [] else if sp.length = 1 then [s1 / 256, s1 % 256] else [s1 / 256, s1 % 256, s2 / 256]
          let pob := s2 % 256
          let used := bytes.take sh.ops.length
          let e := extTotal op sz 0 used
          let tail := (if sh.disp then 1 else 0) + (if sh.ext then 1 else 0)
          if specsOk sh.ops bytes = false ∨ (pob ≠ 0 ∧ sh.po = false) ∨ 16 ≤ pob ∨ 5 < 1 + sp.length + e + tail then
            .error (1, a)
          else
            match c.fetchN k (e + tail) (a + 2 + BitVec.ofNat 32 (2 * sp.length)) with
            | .error t => .error t
            | .ok ps =>
              match mkOpnds op sz 0 used ps with
              | none => .error (1, a)
              | some os =>
                .ok { op := op, gi := w / 128 % 2 == 1, gp := w / 16 % 8, sz := sz, ops := os,
                      pe := pob / 8 % 2 == 1, pn := pob % 8,
                      disp := if sh.disp then sext16 (ps.getD e 0) else 0,
                      imm := if sh.ext then ps.getD e 0 else 0,
                      len := 2 * (1 + sp.length + e + tail) }

/-! ### The register bank in use -/

def Core.isFast (c : Core) : Bool := c.csr.getLsbD 13

def Core.bank (c : Core) : RegBank := if c.isFast then c.fast else c.main

def Core.setBank (c : Core) (b : RegBank) : Core :=
  if c.isFast then { c with fast := b } else { c with main := b }

def RegBank.getG (b : RegBank) (n : Nat) : W32 := Tbl.get 0 b.g n

def RegBank.setG (b : RegBank) (n : Nat) (v : W32) : RegBank := { b with g := Tbl.set 0 b.g n v }

/-- Predicate Pn; P0 reads 1 (06 R206). -/
def RegBank.getP (b : RegBank) (n : Nat) : Bool := if n = 0 then true else b.p.getLsbD n

/-- Write Pn; writes of P0 are discarded (06 R206). -/
def RegBank.setP (b : RegBank) (n : Nat) (v : Bool) : RegBank :=
  if n = 0 then b
  else { b with p := if v then b.p ||| (1#8 <<< n) else b.p &&& ~~~(1#8 <<< n) }

def RegBank.getAC (b : RegBank) (n : Nat) : BitVec 80 := if n = 0 then b.ac0 else b.ac1

def RegBank.setAC (b : RegBank) (n : Nat) (v : BitVec 80) : RegBank :=
  if n = 0 then { b with ac0 := v } else { b with ac1 := v }

/-- The guard of an instruction holds (06 R208). -/
def Core.guardOk (c : Core) (i : Insn) : Bool := (c.bank.getP i.gp) != i.gi

/-- An operand with its address: none for registers, immediates and predicates. -/
abbrev Located := Opnd × Option W32

/-- Address of one operand and the G updates of modes 7 and 8 (06 R210, R212); `nxt` is the next instruction's address. -/
def locate (b : RegBank) (nxt : W32) (o : Opnd) : RegBank × Option W32 :=
  let g := b.getG o.reg
  let sz := BitVec.ofNat 32 o.size
  if o.mode = 2 then (b, some o.ext)
  else if o.mode = 3 then (b, some (g + o.ext))
  else if o.mode = 4 then (b, some g)
  else if o.mode = 5 ∨ o.mode = 6 then (b, some (g + b.getG o.idx * BitVec.ofNat 32 o.scale + o.ext))
  else if o.mode = 7 then (b.setG o.reg (g + sz), some g)
  else if o.mode = 8 then (b.setG o.reg (g - sz), some (g - sz))
  else if o.mode = 9 then (b, some (nxt + o.ext))
  else (b, none)

/-- Addresses of the operands in operand order (06 R212 step 1). -/
def locateAll (nxt : W32) : RegBank → List Opnd → RegBank × List Located
  | b, [] => (b, [])
  | b, o :: os =>
    let (b1, a) := locate b nxt o
    let (b2, r) := locateAll nxt b1 os
    (b2, (o, a) :: r)

/-- Value of a register, immediate or predicate operand (06 R211), zero-extended to 80 bits. -/
def regOperand (b : RegBank) (o : Opnd) : Nat :=
  let m := 2 ^ (8 * o.size)
  if o.mode = 0 then (b.getG o.reg).toNat % m
  else if o.mode = 1 then o.ext.toNat % m
  else if o.mode = 10 then (if o.reg = 2 then b.c.toNat else (b.getAC o.reg).toNat) % m
  else if o.mode = 11 then (if b.getP o.reg then 1 else 0)
  else 0

/-- Write a register or predicate operand with the low bits of `v` (06 R211): G and C zero-extend, AC sign-extends, a
predicate takes bit 0. -/
def setRegOperand (b : RegBank) (o : Opnd) (v : Nat) : RegBank :=
  let m := 2 ^ (8 * o.size)
  if o.mode = 0 then b.setG o.reg (BitVec.ofNat 32 (v % m))
  else if o.mode = 10 then
    if o.reg = 2 then { b with c := BitVec.ofNat 32 (v % m) }
    else b.setAC o.reg (if v % m < m / 2 then BitVec.ofNat 80 (v % m) else BitVec.ofNat 80 (2 ^ 80 - (m - v % m)))
  else if o.mode = 11 then b.setP o.reg (v % 2 == 1)
  else b

/-- Extra cycles of the modes (06 R210). -/
def modeCycles (o : Opnd) : Nat := if o.mode = 5 ∨ o.mode = 6 ∨ o.mode = 9 then 1 else 0

end Sys2Proof.Machine
end

