-- ==== Sys2Proof/Machine/Isquin.lean ====
section
/-! DEFINITION. How an Isquin core runs one instruction: its data map and the checks of its accesses, traps, interrupt entry and return,
calls, and repeats (06). The meanings of the single instructions stand in `IsqRows.lean`. -/
namespace Sys2Proof.Machine

/-! ## The data address map (06 R202, R244) -/

/-- What a data access, or a code-relative read, reaches. -/
inductive Area where
  | x (o : Nat)
  | y (o : Nat)
  | code (o : Nat)
  | coreReg (o : Nat)
  | page (o : Nat)
  | window (o : Nat)
  | mgmt (o : Nat)
  | ddr (a : Nat)
  | none
  deriving DecidableEq, Repr

/-- The area of `n` bytes at `a` in the map of core `k`. -/
def dataArea (c : Core) (k a n : Nat) : Area :=
  if a + n ≤ 0x8000 then .x a
  else if 0x8000 ≤ a ∧ a + n ≤ 0x10000 then .y (a - 0x8000)
  else if 0x20000 ≤ a ∧ a < 0x20100 then .coreReg (a - 0x20000)
  else if 0x30000 ≤ a ∧ a < 0x30100 then .page (a - 0x30000)
  else if k ≠ 32 ∧ 0x10000000 ≤ a ∧ a + n ≤ 0x11800000 then .window (a - 0x10000000)
  else if k = 32 ∧ 0x40000000 ≤ a ∧ a + n ≤ 0x50000000 then .mgmt (a - 0x40000000)
  else if k = 32 ∧ 0x80000000 ≤ a ∧ a + n ≤ 0xC0000000 then .ddr (c.aperture.toNat / 2 ^ 10 * 2 ^ 30 + a - 0x80000000)
  else .none

/-- One access of an instruction. -/
structure Acs where
  addr : Nat
  size : Nat
  rd : Bool
  wr : Bool
  code : Bool
  /-- the absolute cycle and the bank port of a window write, once it is granted -/
  cycle : Nat := 0
  port : Nat := 0
  deriving DecidableEq, Repr

def areaOf (c : Core) (k : Nat) (q : Acs) : Area :=
  if q.code then (if q.addr + q.size ≤ fetchLimit k then .code q.addr else .none) else dataArea c k q.addr q.size

/-! ## Core registers (06, Core registers) -/

/-- CSR as software reads it: REPACT while a repeat is in progress, REPCNT of one that RETI resumed (06 R207). -/
def csrRead (c : Core) : Nat :=
  c.csr.toNat + (if c.repLeft = 0 then 0 else 2 ^ 15 + (if c.repBack then c.repLeft * 2 ^ 16 else 0))

/-- CSR as an entry saves it: REPCNT is the number of iterations not yet completed (06 R223). -/
def csrImage (c : Core) : W32 :=
  BitVec.ofNat 32 (c.csr.toNat + (if c.repLeft = 0 then 0 else 2 ^ 15 + c.repLeft * 2 ^ 16))

def coreRegRead (s : State) (k o : Nat) : Nat :=
  let c := s.core k
  if o = 0x00 then (if k = 32 then 2 ^ 24 else k / 4 * 2 ^ 16 + k % 4 * 2 ^ 8) + 1
  else if o = 0x04 then c.ccr.toNat
  else if o = 0x08 then csrRead c
  else if o = 0x10 then c.trapCause.toNat
  else if o = 0x14 then c.trapAddr.toNat
  else if o = 0x18 then c.trapInsn0.toNat
  else if o = 0x1C then c.trapInsn1.toNat
  else if o = 0x20 then c.trapInsn2.toNat
  else if o = 0x28 then c.fpc.toNat
  else if o = 0x2C then c.fcsr.toNat
  else if o = 0x30 then c.callSp.toNat
  else if o = 0x34 then c.callRet.toNat
  else if o = 0x38 then
    match c.current with
    | some a => if coreInCall c then a.tenant.toNat * 2 ^ 16 + a.lease.getD 0 else 0
    | none => 0
  else if o = 0x40 then s.sched.frame.toNat % 2 ^ 20 * 2 ^ 12 + s.sched.cycle
  else if o = 0x44 then c.aperture.toNat
  else 0

def coreRegWrite (s : State) (k o v : Nat) : State :=
  let c := s.core k
  if o = 0x04 then s.setCore k { c with ccr := BitVec.ofNat 32 (v % 4) }
  else if o = 0x44 then s.setCore k { c with aperture := BitVec.ofNat 32 (v / 2 ^ 10 * 2 ^ 10) }
  else s

/-! ## Checks of an instruction's accesses (06 R203, R204, R227) -/

/-- Alignment: 16 and 32-bit accesses, and 32 bits only for registers. -/
def alignTrap (q : Acs) : Option Trp :=
  let reg := !q.code && (decide (0x20000 ≤ q.addr ∧ q.addr < 0x20100) || decide (0x30000 ≤ q.addr ∧ q.addr < 0x30100))
  if q.addr % q.size ≠ 0 ∨ (reg ∧ q.size ≠ 4) then some (3, BitVec.ofNat 32 q.addr) else none

/-- The canopy's identity and target of an access, where it is checked (06 R204, R244, 07 R268). -/
def canopyTarget (s : State) (k : Nat) (t : Area) : Option (BitVec 14 × Target) :=
  match t with
  | .window o => some ((coreIdent s k).1, .sp (k / 4) o)
  | .ddr a => some (BitVec.ofNat 14 (rf s R.CANOPY_CTRL F.CANOPY_CTRL_RANGER_MASTER), .ddr a)
  | _ => none

/-- Kinds of an access that the canopy denies, reads first. -/
def deniedKind (s : State) (k : Nat) (q : Acs) : Option (BitVec 14 × AccKind × Target) :=
  let t := areaOf (s.core k) k q
  match canopyTarget s k t with
  | none => none
  | some (m, g) =>
    let free := match t with | .window o => ownCallArea s k o q.size | _ => false
    if q.rd ∧ free = false ∧ permitted s m .rd g = false then some (m, .rd, g)
    else if q.wr ∧ permitted s m .wr g = false then some (m, .wr, g)
    else none

/-- A register of the core page or of the interrupt controller's page exists and takes the access (06 R202, R203). -/
def regTakes (t : List RegD) (o : Nat) (wr : Bool) : Bool :=
  match findReg o t with
  | some (d, _, _) => !wr || accMask d .rw + accMask d .wo + accMask d .w1c != 0
  | none => false

/-- Access: unmapped, read-only, or denied (06 R202-R204, R226). -/
def accessTrap (s : State) (k : Nat) (q : Acs) : Option Trp :=
  let a := BitVec.ofNat 32 q.addr
  match areaOf (s.core k) k q with
  | .none => some (4, a)
  | .coreReg o => if regTakes regTable_core o q.wr ∧ (o ≠ 0x44 ∨ k = 32) then none else some (4, a)
  | .page o => if regTakes allAgent o q.wr then none else some (4, a)
  | .code _ => if q.wr then some (4, a) else none
  | _ => (deniedKind s k q).map fun _ => (5, a)

/-- A read of an uncorrectable word of X, Y or instruction memory; TRAP_ADDR is the word's address (06 R226). -/
def memoryTrap (s : State) (k : Nat) (q : Acs) : Option Trp :=
  let c := s.core k
  if q.rd = false then none
  else
    match areaOf c k q with
    | .x o => if c.badAt 0 o then some (6, BitVec.ofNat 32 (o / 32 * 32)) else none
    | .y o => if c.badAt 1 o then some (6, BitVec.ofNat 32 (0x8000 + o / 32 * 32)) else none
    | .code o => if c.badAt 2 o then some (6, BitVec.ofNat 32 (o / 32 * 32)) else none
    | _ => none

/-- The first trap of a list of accesses: alignment, then access, then memory error, each in operand order (06 R227). -/
def accessesTrap (s : State) (k : Nat) (l : List Acs) : Option Trp :=
  (l.findSome? alignTrap).orElse fun _ => (l.findSome? (accessTrap s k)).orElse fun _ => l.findSome? (memoryTrap s k)

/-- A denied access is counted (07 R275). -/
def noteDenial (s : State) (k : Nat) (l : List Acs) (t : Trp) : State :=
  if t.1 = 5 then
    match l.findSome? (deniedKind s k) with
    | some (m, kind, g) => deny s m kind g
    | none => s
  else s

/-- A DDR5 channel that an access needs is not on: the access waits, and starts its exit from bivouac (13 R435). -/
def waitsFor (s : State) (k : Nat) (l : List Acs) : Option Nat :=
  (l.filterMap fun q => match areaOf (s.core k) k q with | .ddr a => some (ddrChan a) | _ => none).find? fun ch => !domOn s (32 + ch)

/-! ## Grants (06 R204, R205, R244; 02 R31, R55, R60) -/

/-- The free-lane request of a core: the ranger core asks at rank 5, a pitch core at rank 6. -/
def coreReq (s : State) (k kind inst : Nat) (o : Op) : Option Req :=
  normReq s
    { kind := kind, inst := inst, rank := if k = 32 then 5 else 6, key1 := k / 4, key2 := k % 4, key3 := 0, step := 8192, lease := none
      hosted := false, tenant := 0, master := 0, owner := .frontEnd, op := o }

/-- Waiting requests that come before a core's for the same instance, or the same bank, and could be granted in cycle `c`. -/
def aheadOf (s : State) (c kind inst : Nat) (me : Req) : Nat :=
  (s.sched.waiting.filterMap (normReq s)).countP fun r => grantable s c kind inst r && reqBefore r me && !reqBefore me r

/-- The window stake of core `k` in cycle `c` for a word's bank port: of the core's lease class, with the port as its ARG, and issuing nothing
yet (06 R205). -/
def windowStake (s : State) (k c port : Nat) : Option Stake :=
  match activeBank s, (coreIdent s k).2.2 with
  | some b, some l =>
    (match (bankOf s b).claimants (frameAt s (bankOf s b) c) 7 k (c % 3000) with
      | [e] =>
        if e.kind = 7 ∧ e.lease = l ∧ e.arg = port % 64 ∧ leaseOn s l ∧ !(bankOf s b).collides (frameAt s (bankOf s b) c) e (c % 3000) ∧
            !stakeTaken s e c then some e else none
      | _ => none)
  | _, _ => none

/-- The bank port that a window access of core `k` to word `w` of its pitch takes in cycle `c`: that of a window stake, one already issued for the
core or one that issues now, else one that the free lane grants at rank 6, port A first (06 R204, R205, 07 R250); none where the access stalls. -/
def windowPort (s : State) (k c w : Nat) : Option (Nat × State) :=
  let ports := [firstPort (wordKey (k / 4) w), firstPort (wordKey (k / 4) w) + 1]
  match ports.find? fun i => claimed s c 18 (k * 64 + i % 64) with
  | some i => some (i, s.withSched { s.sched with busy := s.sched.busy.erase (c, 18, k * 64 + i % 64) })
  | none =>
    match coreReq s k 7 k .window, ports.findSome? fun i => (windowStake s k c i).map fun e => (i, e) with
    | some r, some (i, e) => some (i, charge (claimStake s e c) r 7 k (some e))
    | _, _ =>
      match coreReq s k 0 (ports.headD 0) (.bankRead (w % (bankBytes / 32)) .clean) with
      | none => none
      | some r =>
        let open_ := ports.filter fun i => instFree s 0 i c && (c == absCycle s || !stakedLater s 0 i c)
        (open_[if c = absCycle s then aheadOf s c 0 (ports.headD 0) r else 0]?).map fun i => (i, charge (claim s c 0 i) r 0 i none)

/-- The request slot that a DDR5 access of the ranger core takes in cycle `c` (06 R244, 02 R37, R55). -/
def rangerSlot (s : State) (c a : Nat) (wr : Bool) : Option State :=
  let ch := ddrChan a
  match coreReq s 32 3 ch (.ddrRead (a / 128) []) with
  | none => none
  | some r =>
    if instFree s 3 ch c ∧ (c = absCycle s ∨ !stakedLater s 3 ch c) ∧ (c ≠ absCycle s ∨ aheadOf s c 3 ch r = 0) ∧ !guyFull s (25 + ch) 0 (1000 * c) then
      some (charge (guyWords (ddrAsk (claim s c 3 ch) (a / 128) wr) (25 + ch) 0 (if wr then 4 else 1)) r 3 ch none)
    else none

/-- The accesses of an instruction as they are granted, one a cycle from the present one on, in operand order, reads before the write of the result
(06 R205); none where one of them stalls. `nw` is the cycle of the next window access, `nd` that of the next request slot. -/
def grantAccesses (k : Nat) (wr : Bool) : Nat → Nat → List Acs → State → Option (List Acs × State × Nat × Nat)
  | nw, nd, [], s => some ([], s, nw, nd)
  | nw, nd, q :: l, s =>
    let on := fun (r : Option (Acs × State)) (nw' nd' : Nat) => r.bind fun e =>
      (grantAccesses k wr nw' nd' l e.2).map fun t => (e.1 :: t.1, t.2)
    if (if wr then q.wr else q.rd) = false then on (some (q, s)) nw nd
    else
      match areaOf (s.core k) k q with
      | .window o => on ((windowPort s k nw (o / 32)).map fun e => (if wr then { q with cycle := nw, port := e.1 } else q, e.2)) (nw + 1) nd
      | .ddr a => on ((rangerSlot s nd a wr).map fun t => (q, t)) nw (nextSlot nd)
      | _ => on (some (q, s)) nw nd

/-- Every access of an instruction granted, its reads first; none where it stalls (06 R205). -/
def granted (s : State) (k : Nat) (l : List Acs) : Option (List Acs × State) :=
  (grantAccesses k false (absCycle s) (absCycle s) l s).bind fun e =>
    (grantAccesses k true e.2.2.1 e.2.2.2 e.1 e.2.1).map fun f => (f.1, f.2.1)

/-! ## Reads and writes -/

/-- A window read (06 R205, 07 R253): the stored data, whatever its code says. An uncorrectable call area is a pitch fault besides
(04 R166). -/
def windowRead (s : State) (k o n : Nat) : Nat × State :=
  let p := k / 4
  let v := leNat (spRd s p o n)
  if spUncorr s p o n then
    let s0 := raise (raise (spNote s p o n) (16 * p)) (304 + p)
    let s1 := if 0x017B0000 ≤ o then pitchFaultS p s0 else s0
    let c := s1.core k
    (v, if coreInCall c then s1.setCore k { c with current := c.current.map fun a => { a with uncorr := true } } else s1)
  else (v, s)

def acsRead (s : State) (k : Nat) (q : Acs) : Nat × State :=
  let c := s.core k
  match areaOf c k q with
  | .x o => (leNat (tread 0 c.x o q.size), s)
  | .y o => (leNat (tread 0 c.y o q.size), s)
  | .code o => (leNat (tread 0 c.imem o q.size), s)
  | .coreReg o => (coreRegRead s k o, s)
  | .page o =>
    match findReg o allAgent with
    | some (d, i, j) => regReadS d i j k s
    | none => (0, s)
  | .window o => windowRead s k o q.size
  | .mgmt o =>
    let (v, t) := accessRead .mgmt o q.size (regCross s .mgmt o 0 .clean).1
    (v, (regCross t .mgmt o 1 .clean).1)
  | .ddr a => (leNat (ddrRead s a q.size), ddrNote s a q.size)
  | .none => (0, s)

def acsWrite (s : State) (k : Nat) (q : Acs) (v : Nat) : State :=
  let c := s.core k
  let bs := leBytes q.size v
  match areaOf c k q with
  | .x o => s.setCore k { c with x := twrite 0 c.x o bs }
  | .y o => s.setCore k { c with y := twrite 0 c.y o bs }
  | .coreReg o => coreRegWrite s k o v
  | .page o =>
    match findReg o allAgent with
    | some (d, i, j) => regWriteS d i j k 4 v s
    | none => s
  | .window o =>
    portWrite s q.cycle (k / 4) (o / 32) (q.port % 2) (BitVec.ofNat 32 ((2 ^ q.size - 1) * 2 ^ (o % 32))) (BitVec.ofNat 256 (v % 2 ^ (8 * q.size) * 2 ^ (8 * (o % 32))))
  | .mgmt o => accessWrite .mgmt o q.size v (regCross s .mgmt o 0 .clean).1
  | .ddr a => if ddrUncorr s a q.size then ddrNote s a q.size else ddrWr s a bs
  | .code _ | .none => s

/-- Cycles of the accesses (06 R220, R225): reads of one memory beyond its first, register accesses, window reads. -/
def acsCycles (c : Core) (k : Nat) (l : List Acs) : Nat :=
  let rd := (l.filter (·.rd)).map (areaOf c k)
  let nx := rd.countP fun a => match a with | .x _ => true | _ => false
  let ny := rd.countP fun a => match a with | .y _ => true | _ => false
  let nc := rd.countP fun a => match a with | .code _ => true | _ => false
  let nw := rd.countP fun a => match a with | .window _ => true | _ => false
  let regs := l.filter fun q => match areaOf c k q with | .coreReg _ => true | .page _ => true | _ => false
  (nx - 1) + (ny - 1) + (nc - 1) + (if nw = 0 then 0 else nw + 2) + regs.countP (·.rd) + regs.countP (·.wr)

/-! ## What running an instruction gives -/

/-- A completed instruction: the state with what its reads did, the core after its register writes, the next PC, its cycles, and what
its store or its end does to the device. -/
structure Ran where
  s : State
  c : Core
  next : W32
  cc : Nat
  after : State → State

/-- Outcome of one instruction or iteration: it completes, traps (with what a refused access counted), waits for a grant, or halts
the core with a double fault. -/
inductive Res where
  | ran (r : Ran)
  | trap (s : State) (t : Trp)
  | wait (s : State)
  | double

/-- Meaning of an instruction: state, core number, its address and its decoded form. -/
abbrev Sem := State → Nat → W32 → Insn → Res

def nextPc (a : W32) (i : Insn) : W32 := a + BitVec.ofNat 32 i.len

/-- Target of a displacement (06 R215). -/
def target (a : W32) (i : Insn) : W32 := nextPc a i + i.disp + i.disp

/-- A guard that is false: 1 cc and nothing else (06 R214). -/
def guarded (f : Sem) : Sem := fun s k a i =>
  if (s.core k).guardOk i then f s k a i
  else .ran { s := s, c := s.core k, next := nextPc a i, cc := 1, after := id }

/-- Check accesses, have them granted, then go on; an access that is not granted stalls the instruction, which has then done nothing. -/
def withAccess (s : State) (k : Nat) (l : List Acs) (f : State → List Acs → Res) : Res :=
  match accessesTrap s k l with
  | some t => .trap (noteDenial s k l t) t
  | none =>
    match waitsFor s k l with
    | some ch => .wait (ddrTouch s ch)
    | none =>
      match granted s k l with
      | some (m, t) => f t m
      | none => .wait s

/-- Accesses of located operands; `rd` and `wr` say which operands are read and written. -/
def acsList (rd wr : Nat → Bool) : Nat → List Located → List Acs
  | _, [] => []
  | n, (o, some a) :: l =>
    if rd n || wr n then
      { addr := a.toNat, size := o.size, rd := rd n, wr := wr n, code := o.mode == 9 } :: acsList rd wr (n + 1) l
    else acsList rd wr (n + 1) l
  | n, (_, Option.none) :: l => acsList rd wr (n + 1) l

/-- Operand values in operand order: what is read; the address of a memory operand that is not (06 R212). -/
def readOpnds (k : Nat) (b : RegBank) (rd : Nat → Bool) : Nat → List Located → State → List Nat × State
  | _, [], s => ([], s)
  | n, (o, Option.none) :: l, s =>
    let (vs, t) := readOpnds k b rd (n + 1) l s
    (regOperand b o :: vs, t)
  | n, (o, some a) :: l, s =>
    if rd n then
      let (v, s1) := acsRead s k { addr := a.toNat, size := o.size, rd := true, wr := false, code := o.mode == 9 }
      let (vs, t) := readOpnds k b rd (n + 1) l s1
      (v :: vs, t)
    else
      let (vs, t) := readOpnds k b rd (n + 1) l s
      (a.toNat :: vs, t)

/-- Run an instruction over its operands (06 R212, R226): `f` gives, from the bank after the address updates and the operand values,
the bank after the register results, the value stored to operand 1 if it is in memory, and the next PC and base cycles; none is a
division by zero that traps. -/
def operate (rd wr : Nat → Bool) (f : RegBank → List Located → List Nat → Option (RegBank × Option Nat × W32 × Nat)) : Sem :=
  guarded fun s k a i =>
    let (b, ls) := locateAll (nextPc a i) (s.core k).bank i.ops
    let l := acsList rd wr 0 ls
    withAccess s k l fun t m =>
      let (vs, s1) := readOpnds k b rd 0 ls t
      match f b ls vs with
      | none => .trap s (2, a)
      | some (b2, v, nx, base) =>
        .ran {
          s := s1
          c := (s1.core k).setBank b2
          next := nx
          cc := base + (i.ops.map modeCycles).sum + acsCycles (s.core k) k l
          after := fun t =>
            match v, m.find? (·.wr) with
            | some v, some q => acsWrite t k q v
            | _, _ => t }

/-- Write a result to operand 1: to the bank, or as the value to store. -/
def putResult (b : RegBank) (ls : List Located) (v : Nat) : RegBank × Option Nat :=
  match ls with
  | (o, some _) :: _ => (b, some (v % 2 ^ (8 * o.size)))
  | (o, none) :: _ => (setRegOperand b o v, none)
  | [] => (b, none)

/-- The predicate output (06 R209). -/
def putPred (i : Insn) (b : RegBank) (p : Bool) : RegBank := if i.pe then b.setP i.pn p else b

/-- Bits of the operation size. -/
def opBits (i : Insn) : Nat := 8 * 2 ^ i.sz

/-! ## Traps (06 R226-R229) -/

/-- A frame of 8 bytes at `g` lies wholly inside X or Y. -/
def frameFits (g : Nat) : Bool := decide (g + 8 ≤ 0x8000 ∨ (0x8000 ≤ g ∧ g + 8 ≤ 0x10000))

/-- 8 bytes written to the stack at `g`. -/
def putFrame (c : Core) (g : Nat) (bs : List Byte) : Core :=
  if g < 0x8000 then { c with x := twrite 0 c.x g bs } else { c with y := twrite 0 c.y (g - 0x8000) bs }

def vectorOf (cause : Nat) : W32 :=
  if cause = 1 ∨ cause = 8 then 0x10 else if cause = 2 then 0x20 else if cause = 3 then 0x30
  else if cause = 4 ∨ cause = 5 then 0x40 else if cause = 6 then 0x50 else if cause = 7 then 0x60 else 0x70

/-- Push a frame: the return PC and the CSR image; none where it does not fit (06 R228, R229). -/
def pushFrame (c : Core) (ret : W32) : Option Core :=
  let g := c.bank.getG 0 - 8
  if frameFits g.toNat ∧ g.toNat % 4 = 0 then
    let c1 := putFrame c g.toNat (leBytes 4 (csrImage c).toNat ++ leBytes 4 ret.toNat)
    some (c1.setBank (c1.bank.setG 0 g))
  else none

/-- Continue at a vector; a vector fetch error halts the core with cause 3 (06 R229). No repeat is in progress there. -/
def atVector (c : Core) (v : W32) (cycles : Nat) : Core :=
  let c1 := { c with repLeft := 0, repFresh := false, repBack := false, sleeping := false, cwaiting := false, cc := c.cc + cycles }
  if c.badAt 2 v.toNat then { c1 with halt := 3 } else { c1 with pc := v }

/-- FDEPTH after a trap, and CSR with it (06 R234). -/
def deeper (c : Core) : W32 := if c.isFast then c.csr + 0x10 else c.csr
def tooDeep (c : Core) : Bool := c.isFast && bitsOf c.csr 7 4 == 15

/-- The five parcels at an address (06 R227). -/
def parcelNat (c : Core) (a : W32) (n : Nat) : Nat := (c.parcelAt (a + BitVec.ofNat 32 (2 * n))).toNat

/-- Count an uncorrectable error of a core's memories (06 ISQ_ECC). -/
def countUncorr (k : Nat) (s : State) : State :=
  if k = 32 then satAdd s R.RANGER_ECC F.ISQ_ECC_UNCORR 1 else satAdd s R.ISQ_ECC F.ISQ_ECC_UNCORR 1 (k / 4) (k % 4)

/-- The core after the entry of a trap: `ret` is the saved PC (06 R226-R229, R234). -/
def trapCore (c : Core) (t : Trp) (ret : W32) : Core :=
  if tooDeep c then { c with halt := 2 }
  else
    match pushFrame c ret with
    | none => { c with halt := 2 }
    | some c1 =>
      let c2 := { c1 with csr := deeper c, trapCause := BitVec.ofNat 32 t.1, trapAddr := t.2 }
      let c3 := if t.1 = 1 then
          { c2 with
            trapInsn0 := BitVec.ofNat 32 (parcelNat c t.2 0 + parcelNat c t.2 1 * 2 ^ 16)
            trapInsn1 := BitVec.ofNat 32 (parcelNat c t.2 2 + parcelNat c t.2 3 * 2 ^ 16)
            trapInsn2 := BitVec.ofNat 32 (parcelNat c t.2 4) }
        else c2
      atVector c3 (vectorOf t.1) (if t.1 = 7 then 7 else 6)

/-- Take a trap on core `k`. A memory error, that of the vector fetch included, is counted. -/
def takeTrap (s : State) (k : Nat) (t : Trp) (ret : W32) : State :=
  let c := trapCore (s.core k) t ret
  let s1 := s.setCore k c
  let s2 := if t.1 = 6 then countUncorr k s1 else s1
  if c.halt = 3 then countUncorr k s2 else s2

/-! ## Running an instruction -/

/-- A fast request can be taken (06 R231). -/
def fastTaken (s : State) (k : Nat) : Bool :=
  let c := s.core k
  c.ccr.getLsbD 1 && !c.isFast && fastRequest s k

/-- A normal request can be taken (06 R231). -/
def normalTaken (s : State) (k : Nat) : Bool :=
  let c := s.core k
  c.csr.getLsbD 11 && !c.isFast && !fastOnTop s k &&
    (match normalRequest s k with | some p => decide (curPrio s k < p) | none => false)

/-- Core `k` executes: it exists, its domain is on, and it is not halted (06 R229, 13 R434). -/
def coreRuns (s : State) (k : Nat) : Bool := decide (k < 33) && domOn s (coreDomain k) && (s.core k).halt == 0

/-- Address of the instruction after the REP prefix at PC (06 R221). -/
def repeatedAt (c : Core) : W32 := c.pc + (if c.imByte (c.pc.toNat + 1) = 0x61 then 4 else 2)

/-- Where the core's next instruction or iteration stands. -/
def insnAt (c : Core) : W32 := if c.repLeft = 0 then c.pc else repeatedAt c

/-- The core after an instruction, or one iteration of a repeat, has completed (06 R221, R223). -/
def retire (c0 : Core) (r : Ran) : Core :=
  let c := { r.c with cc := r.c.cc + r.cc }
  if c0.repLeft = 0 then { c with pc := r.next }
  else if c0.repLeft = 1 then { c with pc := r.next, repLeft := 0, repFresh := false, repBack := false }
  else { c with repLeft := c0.repLeft - 1, repFresh := false }

/-- Run instruction `i` at `a` with its meaning. -/
def runInsn (f : Sem) (s : State) (k : Nat) (a : W32) (i : Insn) : State :=
  let c := s.core k
  match f s k a i with
  | .ran r => r.after (r.s.setCore k (retire c r))
  | .trap s1 t => takeTrap s1 k t (if t.1 = 7 then nextPc a i else c.pc)
  | .wait s1 => s1
  | .double => s.setCore k { c with halt := 2 }

/-- No request is presented that the core would take at its present boundary (06 R230). -/
def noRequest (s : State) (k : Nat) : Bool := !fastTaken s k && !normalTaken s k

/-- The core stands at a boundary before an instruction that its row runs: not asleep, not between iterations of a repeat, and with no request to
take first (06 R230). -/
def atInsn (s : State) (k : Nat) : Bool :=
  let c := s.core k
  coreRuns s k && !coreAsleep c && (c.repLeft == 0 || c.repFresh) && noRequest s k

/-- A row of the instruction table: core `k` runs the instruction at its PC if that is an instruction of the row (06 R224). -/
def isqRow (op : Nat) (f : Sem) (k : Nat) (s : State) : State :=
  let c := s.core k
  if atInsn s k then
    match c.decodeAt k (insnAt c) with
    | .ok i => if i.op = op then runInsn f s k (insnAt c) i else s
    | .error _ => s
  else s

/-! ## Repeats (06 R221-R223) -/

/-- The instructions that may not follow REP (06 R222). -/
def notAfterRep (op : Nat) : Bool :=
  match isqShape op with
  | some sh => sh.noRep
  | none => false

/-- REP: the count is latched; a count of 0 skips the instruction (06 R221, R222). -/
def repSem (count : Core → Insn → Nat) : Sem := fun s k a i =>
  let c := s.core k
  if i.gp ≠ 0 ∨ i.gi then .trap s (1, a)
  else
    match c.fetch k (nextPc a i) with
    | .error t => .trap s t
    | .ok p =>
      if notAfterRep (p.toNat / 256) then .trap s (1, a)
      else if count c i = 0 then
        match c.decodeAt k (nextPc a i) with
        | .error t => .trap s t
        | .ok j => .ran { s := s, c := c, next := nextPc (nextPc a i) j, cc := 1, after := id }
      else
        .ran { s := s, c := { c with repLeft := count c i, repFresh := true, repBack := false }, next := a, cc := 1, after := id }

/-- Restore what a CSR image says of a repeat (06 R223, R235). An image with REPACT and no iteration left continues after the repeated
instruction. -/
def restoreRep (k : Nat) (img : W32) (c : Core) : Core :=
  let n := bitsOf img 31 16
  if img.getLsbD 15 = false then { c with repLeft := 0, repFresh := false, repBack := false }
  else if n = 0 then
    let a := repeatedAt c
    { c with
      repLeft := 0, repFresh := false, repBack := false
      pc := match c.decodeAt k a with
        | .ok j => nextPc a j
        | .error _ => a }
  else { c with repLeft := n, repFresh := false, repBack := true }

/-! ## Interrupts (06 R230-R237, 08 R300) -/

/-- Normal entry (06 R232, R233). -/
def normalCore (c : Core) : Core :=
  match pushFrame c c.pc with
  | none => { c with halt := 2 }
  | some c1 => atVector { c1 with csr := c1.csr &&& ~~~0x800#32 } 0x80 6

/-- Fast entry (06 R234). -/
def fastCore (c : Core) : Core :=
  atVector { c with fpc := c.pc, fcsr := csrImage c, csr := (c.csr &&& ~~~0xF0#32) ||| 0x2000#32 } 0x90 2

/-- Give core `k` the state after an entry; a vector fetch error is counted. -/
def entered (s : State) (k : Nat) (c : Core) : State :=
  let s1 := s.setCore k c
  if c.halt = 3 then countUncorr k s1 else s1

def normalEntryS (k : Nat) (s : State) : State :=
  if coreRuns s k ∧ fastTaken s k = false ∧ normalTaken s k then entered s k (normalCore (s.core k)) else s

def fastEntryS (k : Nat) (s : State) : State :=
  if coreRuns s k ∧ fastTaken s k then entered s k (fastCore (s.core k)) else s

/-- Wake-up (06 R237, 08 R300): a source is presented to a sleeping core; it enters a handler or goes on after SLEEP. A waiting CWAIT
that takes no request waits on. -/
def coreWakeS (k : Nat) (s : State) : State :=
  let c := s.core k
  if coreRuns s k = false ∨ coreAsleep c = false ∨ (presentedAt s k).isEmpty then s
  else if fastTaken s k then fastEntryS k s
  else if normalTaken s k then normalEntryS k s
  else s.setCore k { c with sleeping := false }

/-- RETI (06 R235, R236). -/
def retiSem : Sem := guarded fun s k _ _ =>
  let c := s.core k
  if c.isFast ∧ bitsOf c.csr 7 4 = 0 then
    let c1 := restoreRep k c.fcsr { c with pc := c.fpc, csr := c.fcsr &&& 0x00007FFF#32 }
    .ran { s := s, c := c1, next := c1.pc, cc := 2, after := id }
  else
    let g := (c.bank.getG 0).toNat
    if frameFits g = false then .double
    else
      let l : List Acs := [{ addr := g, size := 4, rd := true, wr := false, code := false },
        { addr := g + 4, size := 4, rd := true, wr := false, code := false }]
      withAccess s k l fun t _ =>
        let (img, s1) := acsRead t k (l.headD { addr := 0, size := 0, rd := false, wr := false, code := false })
        let (ret, s2) := acsRead s1 k ((l.drop 1).headD { addr := 0, size := 0, rd := false, wr := false, code := false })
        let keep := if c.isFast then (c.csr - 0x10) &&& 0x60F0#32 else c.csr &&& 0x60F0#32
        let c1 := c.setBank (c.bank.setG 0 (c.bank.getG 0 + 8))
        let c2 := restoreRep k (BitVec.ofNat 32 img)
          { c1 with pc := BitVec.ofNat 32 ret, csr := keep ||| (BitVec.ofNat 32 img &&& 0x800#32) }
        .ran { s := s2, c := c2, next := c2.pc, cc := 5, after := id }

/-! ## Calls (06 R239-R242) -/

/-- A core takes the oldest call of its queue, in a CWAIT at `a` (06 R239). -/
def dispatched (c : Core) (a : W32) : Core :=
  match c.calls with
  | [] => c
  | q :: rest =>
    let b := (c.bank.setG 1 (0x10000000 + q.block)).setG 2 (BitVec.ofNat 32 q.routine)
    { c.setBank b with
      callRet := a, callSp := c.bank.getG 0, csr := c.csr ||| 0x4000#32, calls := rest, current := some q, cwaiting := false }

/-- A call was dispatched: it is counted, and a CALL step that waited for a queue may have its place (06 R239). -/
def callTaken (k : Nat) (s : State) : State :=
  retryCalls (k / 4) (satAdd s R.PITCH_CALL_COUNTS F.PITCH_CALL_COUNTS_CALLS 1 (k / 4))

/-- CWAIT (06 R239). -/
def cwaitSem : Sem := guarded fun s k a _ =>
  let c := s.core k
  if k = 32 ∨ coreInCall c then .trap s (8, a)
  else
    match c.calls with
    | [] => .ran { s := s, c := { c with cwaiting := true }, next := a, cc := 0, after := id }
    | q :: _ => .ran { s := s, c := dispatched c a, next := q.entry, cc := 3, after := callTaken k }

/-- A call arrives for a core that waits in CWAIT (06 R239). -/
def callDispatchS (k : Nat) (s : State) : State :=
  let c := s.core k
  match c.calls with
  | [] => s
  | q :: _ =>
    if coreRuns s k ∧ c.cwaiting ∧ noRequest s k then
      let c1 := dispatched c c.pc
      callTaken k (s.setCore k { c1 with pc := q.entry, cc := c1.cc + 3 })
    else s

/-- CRET (06 R240): the result goes to the caller's context, and the core returns to its CWAIT. -/
def cretSem : Sem := guarded fun s k a i =>
  let c := s.core k
  if k = 32 ∨ coreInCall c = false then .trap s (8, a)
  else
    let (b, ls) := locateAll (nextPc a i) c.bank i.ops
    let l := acsList (fun _ => true) (fun _ => false) 0 ls
    withAccess s k l fun t _ =>
      let (vs, s1) := readOpnds k b (fun _ => true) 0 ls t
      let c1 := s1.core k
      let c2 := { c1.setBank (b.setG 0 c1.callSp) with csr := c1.csr &&& ~~~0x4000#32, current := none }
      .ran {
        s := s1, c := c2, next := c1.callRet
        cc := 3 + (i.ops.map modeCycles).sum + acsCycles c k l
        after := fun t => match c1.current with | some q => callResult q (vs.headD 0) t | none => t }

/-- The call that the core runs has passed its limit (06 R242). -/
def callOverdue (s : State) (c : Core) : Bool :=
  match c.current with
  | some a => coreInCall c && a.expired && decide (a.frame.toNat * 3000 + a.cycle + a.limit ≤ absCycle s)
  | none => false

/-- The call-limit trap (06 R242): no frame is pushed. -/
def callLimitTrapS (k : Nat) (s : State) : State :=
  let c := s.core k
  match c.current with
  | none => s
  | some a =>
    if coreRuns s k ∧ callOverdue s c ∧ c.isFast = false ∧ curPrio s k = 0 then
      let c1 := { c.setBank (c.bank.setG 0 c.callSp) with
        csr := c.csr &&& ~~~0x4000#32, trapCause := 9, trapAddr := BitVec.ofNat 32 a.routine, current := none }
      entered s k (atVector c1 0x70 6)
    else s

end Sys2Proof.Machine
end

