-- ==== Sys2Proof/Machine/IsqRows.lean ====
section
/-! DEFINITION. The Isquin instructions (06 R224): the meaning of each, and the commands that run them. -/
namespace Sys2Proof.Machine

/-! ## Forms shared by several instructions -/

/-- Operand 1 is written and the others are read; `f` gives the result and the predicate output from the operation size in bits and the
source values (06 R212, R217). -/
def aluSem (base : Nat) (f : Nat → List Nat → Nat × Bool) : Sem := fun s k a i =>
  operate (fun n => n != 0) (fun n => n == 0) (fun b ls vs =>
    let (v, p) := f (opBits i) (vs.drop 1)
    let (b1, m) := putResult b ls v
    some (putPred i b1 p, m, nextPc a i, base)) s k a i

/-- The same for a division, which traps on a zero divisor while CCR.DZT is set (06 R217). -/
def divSem (f : Nat → Nat → Nat → Nat × Bool) : Sem := fun s k a i =>
  operate (fun n => n != 0) (fun n => n == 0) (fun b ls vs =>
    let d := vs.getD 2 0
    if d = 0 ∧ (s.core k).ccr.getLsbD 0 then none
    else
      let (v, p) := f (opBits i) (vs.getD 1 0) d
      let (b1, m) := putResult b ls v
      some (putPred i b1 p, m, nextPc a i, if i.sz = 0 then 6 else if i.sz = 1 then 10 else 18)) s k a i

/-- ACn is combined with the product of operands 2 and 3 (06 R218). -/
def accSem (f : Nat → BitVec 80 → Nat → Nat → BitVec 80 × Bool) : Sem := fun s k a i =>
  operate (fun n => n != 0) (fun _ => false) (fun b _ vs =>
    let r := (i.ops.headD ⟨10, 0, 0, 1, 0, 4⟩).reg
    let (v, p) := f (opBits i) (b.getAC r) (vs.getD 1 0) (vs.getD 2 0)
    some (putPred i (b.setAC r v) p, none, nextPc a i, 1)) s k a i

/-- Branch if a condition on operands 1 and 2 holds (06 R215, R216, R224). -/
def cbSem (cond : Nat) : Sem := fun s k a i =>
  operate (fun _ => true) (fun _ => false) (fun b _ vs =>
    let t := isqCond cond (opBits i) (vs.getD 0 0) (vs.getD 1 0)
    some (b, none, if t then target a i else nextPc a i, if t then 2 else 1)) s k a i

/-- An instruction that only changes the core. -/
def coreSem (cycles : Nat) (f : Core → W32 → Insn → Core × W32) : Sem := guarded fun s k a i =>
  let (c, nx) := f (s.core k) a i
  .ran { s := s, c := c, next := nx, cc := cycles, after := id }

/-! ## Meanings -/

/-- MOV: d := a. -/
def movSem : Sem := aluSem 1 fun _ vs => (vs.getD 0 0, false)

/-- MOVSX: d.W := a sign-extended from SZ. -/
def movsxSem : Sem := aluSem 1 fun w vs => (low 32 (sval w (vs.getD 0 0)), false)

/-- MOVZX: d.W := a zero-extended from SZ. -/
def movzxSem : Sem := aluSem 1 fun _ vs => (vs.getD 0 0, false)

/-- LEA: d.W := address of a. -/
def leaSem : Sem := fun s k a i =>
  operate (fun _ => false) (fun n => n == 0) (fun b ls vs =>
    let (b1, m) := putResult b ls (vs.getD 1 0)
    some (b1, m, nextPc a i, 1)) s k a i

/-- ADD: d := a + b; carry. -/
def addSem : Sem := aluSem 1 fun w vs => aluAdd w (vs.getD 0 0) (vs.getD 1 0)

/-- SUB: d := a − b; borrow. -/
def subSem : Sem := aluSem 1 fun w vs => aluSub w (vs.getD 0 0) (vs.getD 1 0)

/-- NEG: d := −a. -/
def negSem : Sem := aluSem 1 fun w vs => aluNeg w (vs.getD 0 0)

/-- ABS: d := |a|. -/
def absSem : Sem := aluSem 1 fun w vs => aluAbs w (vs.getD 0 0)

/-- MUL: d := low SZ bits of a × b. -/
def mulSem : Sem := aluSem 2 fun w vs => aluMul w (vs.getD 0 0) (vs.getD 1 0)

/-- MULHS: d := high SZ bits of the signed product. -/
def mulhsSem : Sem := aluSem 2 fun w vs => (aluMulhs w (vs.getD 0 0) (vs.getD 1 0), false)

/-- MULHU: d := high SZ bits of the unsigned product. -/
def mulhuSem : Sem := aluSem 2 fun w vs => (aluMulhu w (vs.getD 0 0) (vs.getD 1 0), false)

/-- DIVS: d := a ÷ b signed. -/
def divsSem : Sem := divSem aluDivs

/-- DIVU: d := a ÷ b unsigned. -/
def divuSem : Sem := divSem (fun _ => aluDivu)

/-- REMS: d := a rem b signed. -/
def remsSem : Sem := divSem aluRems

/-- REMU: d := a rem b unsigned. -/
def remuSem : Sem := divSem (fun _ => aluRemu)

/-- AND: d := a AND b. -/
def andSem : Sem := aluSem 1 fun _ vs => (vs.getD 0 0 &&& vs.getD 1 0, false)

/-- OR: d := a OR b. -/
def orSem : Sem := aluSem 1 fun _ vs => (vs.getD 0 0 ||| vs.getD 1 0, false)

/-- XOR: d := a XOR b. -/
def xorSem : Sem := aluSem 1 fun _ vs => (vs.getD 0 0 ^^^ vs.getD 1 0, false)

/-- NOT: d := NOT a. -/
def notSem : Sem := aluSem 1 fun w vs => (aluNot w (vs.getD 0 0), false)

/-- SHL: d := a << b. -/
def shlSem : Sem := aluSem 1 fun w vs => (aluShl w (vs.getD 0 0) (vs.getD 1 0), false)

/-- SHR: d := a >> b, logical. -/
def shrSem : Sem := aluSem 1 fun w vs => (aluShr w (vs.getD 0 0) (vs.getD 1 0), false)

/-- SAR: d := a >> b, arithmetic. -/
def sarSem : Sem := aluSem 1 fun w vs => (aluSar w (vs.getD 0 0) (vs.getD 1 0), false)

/-- ROL: d := a rotated left by b. -/
def rolSem : Sem := aluSem 1 fun w vs => (aluRol w (vs.getD 0 0) (vs.getD 1 0), false)

/-- ROR: d := a rotated right by b. -/
def rorSem : Sem := aluSem 1 fun w vs => (aluRor w (vs.getD 0 0) (vs.getD 1 0), false)

/-- MAC: ACn := ACn + a × b, signed. -/
def macSem : Sem := accSem accMac

/-- MSU: ACn := ACn − a × b, signed. -/
def msuSem : Sem := accSem accMsu

/-- MACU: ACn := ACn + a × b, unsigned. -/
def macuSem : Sem := accSem (fun _ => accMacu)

/-- ACX: d := ACn >> b, saturated (06 R219). -/
def acxSem : Sem := fun s k a i =>
  operate (fun n => n == 2) (fun n => n == 0) (fun b ls vs =>
    let (v, p) := accExtract (opBits i) (b.getAC ((i.ops.drop 1).headD ⟨10, 0, 0, 1, 0, 4⟩).reg) (vs.getD 2 0)
    let (b1, m) := putResult b ls v
    some (putPred i b1 p, m, nextPc a i, 2)) s k a i

/-- PAND: Pd := Pa AND Pb. -/
def pandSem : Sem := aluSem 1 fun _ vs => (vs.getD 0 0 &&& vs.getD 1 0, false)

/-- POR: Pd := Pa OR Pb. -/
def porSem : Sem := aluSem 1 fun _ vs => (vs.getD 0 0 ||| vs.getD 1 0, false)

/-- PXOR: Pd := Pa XOR Pb. -/
def pxorSem : Sem := aluSem 1 fun _ vs => (vs.getD 0 0 ^^^ vs.getD 1 0, false)

/-- PANDN: Pd := Pa AND NOT Pb. -/
def pandnSem : Sem := aluSem 1 fun _ vs => (vs.getD 0 0 &&& (1 - vs.getD 1 0), false)

/-- CMPEQ: Pd := condition (06 R216). -/
def cmpeqSem : Sem := aluSem 1 fun w vs => (b2n (isqCond 0 w (vs.getD 0 0) (vs.getD 1 0)), false)

/-- CMPNE: Pd := condition (06 R216). -/
def cmpneSem : Sem := aluSem 1 fun w vs => (b2n (isqCond 1 w (vs.getD 0 0) (vs.getD 1 0)), false)

/-- CMPLT: Pd := condition (06 R216). -/
def cmpltSem : Sem := aluSem 1 fun w vs => (b2n (isqCond 2 w (vs.getD 0 0) (vs.getD 1 0)), false)

/-- CMPLE: Pd := condition (06 R216). -/
def cmpleSem : Sem := aluSem 1 fun w vs => (b2n (isqCond 3 w (vs.getD 0 0) (vs.getD 1 0)), false)

/-- CMPLO: Pd := condition (06 R216). -/
def cmploSem : Sem := aluSem 1 fun w vs => (b2n (isqCond 6 w (vs.getD 0 0) (vs.getD 1 0)), false)

/-- CMPLS: Pd := condition (06 R216). -/
def cmplsSem : Sem := aluSem 1 fun w vs => (b2n (isqCond 7 w (vs.getD 0 0) (vs.getD 1 0)), false)

/-- TST: Pd := (a AND b) ≠ 0. -/
def tstSem : Sem := aluSem 1 fun _ vs => (b2n ((vs.getD 0 0 &&& vs.getD 1 0) != 0), false)

/-- BRA: PC := target. -/
def braSem : Sem := coreSem 2 fun c a i => (c, target a i)

/-- JMP: PC := a, read as .W. -/
def jmpSem : Sem := operate (fun _ => true) (fun _ => false) fun b _ vs => some (b, none, BitVec.ofNat 32 (vs.getD 0 0), 3)

/-- BRL: the address of the next instruction is pushed; PC := target. -/
def brlSem : Sem := guarded fun s k a i =>
  let c := s.core k
  let g := c.bank.getG 0 - 4
  let q : Acs := { addr := g.toNat, size := 4, rd := false, wr := true, code := false }
  withAccess s k [q] fun s1 m =>
    .ran { s := s1, c := c.setBank (c.bank.setG 0 g), next := target a i, cc := 3 + acsCycles c k [q],
           after := fun t => acsWrite t k (m.headD q) (nextPc a i).toNat }

/-- RET: the return address is popped. -/
def retSem : Sem := guarded fun s k _ _ =>
  let c := s.core k
  let g := c.bank.getG 0
  let q : Acs := { addr := g.toNat, size := 4, rd := true, wr := false, code := false }
  withAccess s k [q] fun t _ =>
    let (v, s1) := acsRead t k q
    let c1 := s1.core k
    .ran { s := s1, c := c1.setBank (c1.bank.setG 0 (g + 4)), next := BitVec.ofNat 32 v, cc := 3 + acsCycles c k [q], after := id }

/-- DBNZ: d := d − 1; branch if d ≠ 0. -/
def dbnzSem : Sem := fun s k a i =>
  operate (fun _ => true) (fun _ => true) (fun b ls vs =>
    let v := (aluSub (opBits i) (vs.getD 0 0) 1).1
    let (b1, m) := putResult b ls v
    some (b1, m, if v = 0 then nextPc a i else target a i, if v = 0 then 1 else 2)) s k a i

/-- CBEQ: branch if the condition holds (06 R216). -/
def cbeqSem : Sem := cbSem 0

/-- CBNE: branch if the condition holds (06 R216). -/
def cbneSem : Sem := cbSem 1

/-- CBLT: branch if the condition holds (06 R216). -/
def cbltSem : Sem := cbSem 2

/-- CBLE: branch if the condition holds (06 R216). -/
def cbleSem : Sem := cbSem 3

/-- CBGT: branch if the condition holds (06 R216). -/
def cbgtSem : Sem := cbSem 4

/-- CBGE: branch if the condition holds (06 R216). -/
def cbgeSem : Sem := cbSem 5

/-- CBLO: branch if the condition holds (06 R216). -/
def cbloSem : Sem := cbSem 6

/-- CBLS: branch if the condition holds (06 R216). -/
def cblsSem : Sem := cbSem 7

/-- CBHI: branch if the condition holds (06 R216). -/
def cbhiSem : Sem := cbSem 8

/-- CBHS: branch if the condition holds (06 R216). -/
def cbhsSem : Sem := cbSem 9

/-- REP C and REP #n (06 R221). -/
def repCSem : Sem := repSem fun c _ => c.bank.c.toNat % 2 ^ 16
def repNSem : Sem := repSem fun _ i => i.imm.toNat

/-- TRAP #n: cause 7; n is bits 7:0 of the extension parcel. -/
def trapSem : Sem := guarded fun s _ _ i => .trap s (7, BitVec.ofNat 32 (i.imm.toNat % 256))

/-- EI and DI: CSR.IE. -/
def eiSem : Sem := coreSem 1 fun c a i => ({ c with csr := c.csr ||| 0x800#32 }, nextPc a i)
def diSem : Sem := coreSem 1 fun c a i => ({ c with csr := c.csr &&& ~~~0x800#32 }, nextPc a i)

/-- SLEEP: the core sleeps with PC at the next instruction (06 R237). -/
def sleepSem : Sem := coreSem 1 fun c a i => ({ c with sleeping := true }, nextPc a i)

/-- NOP. -/
def isqNopSem : Sem := coreSem 1 fun c a i => (c, nextPc a i)

/-- The meaning of an opcode of the instruction table (06 R224). -/
def semOf (op : Nat) : Sem :=
  if op = 0x01 then movSem
  else if op = 0x02 then movsxSem
  else if op = 0x03 then movzxSem
  else if op = 0x04 then leaSem
  else if op = 0x10 then addSem
  else if op = 0x11 then subSem
  else if op = 0x12 then negSem
  else if op = 0x13 then absSem
  else if op = 0x14 then mulSem
  else if op = 0x15 then mulhsSem
  else if op = 0x16 then mulhuSem
  else if op = 0x17 then divsSem
  else if op = 0x18 then divuSem
  else if op = 0x19 then remsSem
  else if op = 0x1A then remuSem
  else if op = 0x20 then andSem
  else if op = 0x21 then orSem
  else if op = 0x22 then xorSem
  else if op = 0x23 then notSem
  else if op = 0x24 then shlSem
  else if op = 0x25 then shrSem
  else if op = 0x26 then sarSem
  else if op = 0x27 then rolSem
  else if op = 0x28 then rorSem
  else if op = 0x30 then macSem
  else if op = 0x31 then msuSem
  else if op = 0x32 then macuSem
  else if op = 0x33 then acxSem
  else if op = 0x34 then pandSem
  else if op = 0x35 then porSem
  else if op = 0x36 then pxorSem
  else if op = 0x37 then pandnSem
  else if op = 0x38 then cmpeqSem
  else if op = 0x39 then cmpneSem
  else if op = 0x3A then cmpltSem
  else if op = 0x3B then cmpleSem
  else if op = 0x3C then cmploSem
  else if op = 0x3D then cmplsSem
  else if op = 0x3E then tstSem
  else if op = 0x40 then braSem
  else if op = 0x41 then jmpSem
  else if op = 0x42 then brlSem
  else if op = 0x44 then retSem
  else if op = 0x45 then dbnzSem
  else if op = 0x48 then cbeqSem
  else if op = 0x49 then cbneSem
  else if op = 0x4A then cbltSem
  else if op = 0x4B then cbleSem
  else if op = 0x4C then cbgtSem
  else if op = 0x4D then cbgeSem
  else if op = 0x4E then cbloSem
  else if op = 0x4F then cblsSem
  else if op = 0x50 then cbhiSem
  else if op = 0x51 then cbhsSem
  else if op = 0x60 then repCSem
  else if op = 0x61 then repNSem
  else if op = 0x62 then trapSem
  else if op = 0x63 then retiSem
  else if op = 0x64 then eiSem
  else if op = 0x65 then diSem
  else if op = 0x66 then sleepSem
  else if op = 0x67 then cwaitSem
  else if op = 0x68 then cretSem
  else isqNopSem

/-! ## The commands -/

/-- MOV (06 R224). -/
def execMov (core : Nat) (s : State) : Host.Outcome State Fault Refusal := done s (isqRow 0x01 movSem core s)

/-- MOVSX (06 R224). -/
def execMovsx (core : Nat) (s : State) : Host.Outcome State Fault Refusal := done s (isqRow 0x02 movsxSem core s)

/-- MOVZX (06 R224). -/
def execMovzx (core : Nat) (s : State) : Host.Outcome State Fault Refusal := done s (isqRow 0x03 movzxSem core s)

/-- LEA (06 R224). -/
def execLea (core : Nat) (s : State) : Host.Outcome State Fault Refusal := done s (isqRow 0x04 leaSem core s)

/-- ADD (06 R224). -/
def execAdd (core : Nat) (s : State) : Host.Outcome State Fault Refusal := done s (isqRow 0x10 addSem core s)

/-- SUB (06 R224). -/
def execSub (core : Nat) (s : State) : Host.Outcome State Fault Refusal := done s (isqRow 0x11 subSem core s)

/-- NEG (06 R224). -/
def execNeg (core : Nat) (s : State) : Host.Outcome State Fault Refusal := done s (isqRow 0x12 negSem core s)

/-- ABS (06 R224). -/
def execAbs (core : Nat) (s : State) : Host.Outcome State Fault Refusal := done s (isqRow 0x13 absSem core s)

/-- MUL (06 R224). -/
def execMul (core : Nat) (s : State) : Host.Outcome State Fault Refusal := done s (isqRow 0x14 mulSem core s)

/-- MULHS (06 R224). -/
def execMulhs (core : Nat) (s : State) : Host.Outcome State Fault Refusal := done s (isqRow 0x15 mulhsSem core s)

/-- MULHU (06 R224). -/
def execMulhu (core : Nat) (s : State) : Host.Outcome State Fault Refusal := done s (isqRow 0x16 mulhuSem core s)

/-- DIVS (06 R224). -/
def execDivs (core : Nat) (s : State) : Host.Outcome State Fault Refusal := done s (isqRow 0x17 divsSem core s)

/-- DIVU (06 R224). -/
def execDivu (core : Nat) (s : State) : Host.Outcome State Fault Refusal := done s (isqRow 0x18 divuSem core s)

/-- REMS (06 R224). -/
def execRems (core : Nat) (s : State) : Host.Outcome State Fault Refusal := done s (isqRow 0x19 remsSem core s)

/-- REMU (06 R224). -/
def execRemu (core : Nat) (s : State) : Host.Outcome State Fault Refusal := done s (isqRow 0x1A remuSem core s)

/-- AND (06 R224). -/
def execAnd (core : Nat) (s : State) : Host.Outcome State Fault Refusal := done s (isqRow 0x20 andSem core s)

/-- OR (06 R224). -/
def execOr (core : Nat) (s : State) : Host.Outcome State Fault Refusal := done s (isqRow 0x21 orSem core s)

/-- XOR (06 R224). -/
def execXor (core : Nat) (s : State) : Host.Outcome State Fault Refusal := done s (isqRow 0x22 xorSem core s)

/-- NOT (06 R224). -/
def execNot (core : Nat) (s : State) : Host.Outcome State Fault Refusal := done s (isqRow 0x23 notSem core s)

/-- SHL (06 R224). -/
def execShl (core : Nat) (s : State) : Host.Outcome State Fault Refusal := done s (isqRow 0x24 shlSem core s)

/-- SHR (06 R224). -/
def execShr (core : Nat) (s : State) : Host.Outcome State Fault Refusal := done s (isqRow 0x25 shrSem core s)

/-- SAR (06 R224). -/
def execSar (core : Nat) (s : State) : Host.Outcome State Fault Refusal := done s (isqRow 0x26 sarSem core s)

/-- ROL (06 R224). -/
def execRol (core : Nat) (s : State) : Host.Outcome State Fault Refusal := done s (isqRow 0x27 rolSem core s)

/-- ROR (06 R224). -/
def execRor (core : Nat) (s : State) : Host.Outcome State Fault Refusal := done s (isqRow 0x28 rorSem core s)

/-- MAC (06 R224). -/
def execMac (core : Nat) (s : State) : Host.Outcome State Fault Refusal := done s (isqRow 0x30 macSem core s)

/-- MSU (06 R224). -/
def execMsu (core : Nat) (s : State) : Host.Outcome State Fault Refusal := done s (isqRow 0x31 msuSem core s)

/-- MACU (06 R224). -/
def execMacu (core : Nat) (s : State) : Host.Outcome State Fault Refusal := done s (isqRow 0x32 macuSem core s)

/-- ACX (06 R224). -/
def execAcx (core : Nat) (s : State) : Host.Outcome State Fault Refusal := done s (isqRow 0x33 acxSem core s)

/-- PAND (06 R224). -/
def execPand (core : Nat) (s : State) : Host.Outcome State Fault Refusal := done s (isqRow 0x34 pandSem core s)

/-- POR (06 R224). -/
def execPor (core : Nat) (s : State) : Host.Outcome State Fault Refusal := done s (isqRow 0x35 porSem core s)

/-- PXOR (06 R224). -/
def execPxor (core : Nat) (s : State) : Host.Outcome State Fault Refusal := done s (isqRow 0x36 pxorSem core s)

/-- PANDN (06 R224). -/
def execPandn (core : Nat) (s : State) : Host.Outcome State Fault Refusal := done s (isqRow 0x37 pandnSem core s)

/-- CMPEQ (06 R224). -/
def execCmpeq (core : Nat) (s : State) : Host.Outcome State Fault Refusal := done s (isqRow 0x38 cmpeqSem core s)

/-- CMPNE (06 R224). -/
def execCmpne (core : Nat) (s : State) : Host.Outcome State Fault Refusal := done s (isqRow 0x39 cmpneSem core s)

/-- CMPLT (06 R224). -/
def execCmplt (core : Nat) (s : State) : Host.Outcome State Fault Refusal := done s (isqRow 0x3A cmpltSem core s)

/-- CMPLE (06 R224). -/
def execCmple (core : Nat) (s : State) : Host.Outcome State Fault Refusal := done s (isqRow 0x3B cmpleSem core s)

/-- CMPLO (06 R224). -/
def execCmplo (core : Nat) (s : State) : Host.Outcome State Fault Refusal := done s (isqRow 0x3C cmploSem core s)

/-- CMPLS (06 R224). -/
def execCmpls (core : Nat) (s : State) : Host.Outcome State Fault Refusal := done s (isqRow 0x3D cmplsSem core s)

/-- TST (06 R224). -/
def execTst (core : Nat) (s : State) : Host.Outcome State Fault Refusal := done s (isqRow 0x3E tstSem core s)

/-- BRA (06 R224). -/
def execBra (core : Nat) (s : State) : Host.Outcome State Fault Refusal := done s (isqRow 0x40 braSem core s)

/-- JMP (06 R224). -/
def execJmp (core : Nat) (s : State) : Host.Outcome State Fault Refusal := done s (isqRow 0x41 jmpSem core s)

/-- BRL (06 R224). -/
def execBrl (core : Nat) (s : State) : Host.Outcome State Fault Refusal := done s (isqRow 0x42 brlSem core s)

/-- RET (06 R224). -/
def execRet (core : Nat) (s : State) : Host.Outcome State Fault Refusal := done s (isqRow 0x44 retSem core s)

/-- DBNZ (06 R224). -/
def execDbnz (core : Nat) (s : State) : Host.Outcome State Fault Refusal := done s (isqRow 0x45 dbnzSem core s)

/-- CBEQ (06 R224). -/
def execCbeq (core : Nat) (s : State) : Host.Outcome State Fault Refusal := done s (isqRow 0x48 cbeqSem core s)

/-- CBNE (06 R224). -/
def execCbne (core : Nat) (s : State) : Host.Outcome State Fault Refusal := done s (isqRow 0x49 cbneSem core s)

/-- CBLT (06 R224). -/
def execCblt (core : Nat) (s : State) : Host.Outcome State Fault Refusal := done s (isqRow 0x4A cbltSem core s)

/-- CBLE (06 R224). -/
def execCble (core : Nat) (s : State) : Host.Outcome State Fault Refusal := done s (isqRow 0x4B cbleSem core s)

/-- CBGT (06 R224). -/
def execCbgt (core : Nat) (s : State) : Host.Outcome State Fault Refusal := done s (isqRow 0x4C cbgtSem core s)

/-- CBGE (06 R224). -/
def execCbge (core : Nat) (s : State) : Host.Outcome State Fault Refusal := done s (isqRow 0x4D cbgeSem core s)

/-- CBLO (06 R224). -/
def execCblo (core : Nat) (s : State) : Host.Outcome State Fault Refusal := done s (isqRow 0x4E cbloSem core s)

/-- CBLS (06 R224). -/
def execCbls (core : Nat) (s : State) : Host.Outcome State Fault Refusal := done s (isqRow 0x4F cblsSem core s)

/-- CBHI (06 R224). -/
def execCbhi (core : Nat) (s : State) : Host.Outcome State Fault Refusal := done s (isqRow 0x50 cbhiSem core s)

/-- CBHS (06 R224). -/
def execCbhs (core : Nat) (s : State) : Host.Outcome State Fault Refusal := done s (isqRow 0x51 cbhsSem core s)

/-- REP_C (06 R224). -/
def execRepC (core : Nat) (s : State) : Host.Outcome State Fault Refusal := done s (isqRow 0x60 repCSem core s)

/-- REP_N (06 R224). -/
def execRepN (core : Nat) (s : State) : Host.Outcome State Fault Refusal := done s (isqRow 0x61 repNSem core s)

/-- TRAP (06 R224). -/
def execTrap (core : Nat) (s : State) : Host.Outcome State Fault Refusal := done s (isqRow 0x62 trapSem core s)

/-- RETI (06 R224). -/
def execReti (core : Nat) (s : State) : Host.Outcome State Fault Refusal := done s (isqRow 0x63 retiSem core s)

/-- EI (06 R224). -/
def execEi (core : Nat) (s : State) : Host.Outcome State Fault Refusal := done s (isqRow 0x64 eiSem core s)

/-- DI (06 R224). -/
def execDi (core : Nat) (s : State) : Host.Outcome State Fault Refusal := done s (isqRow 0x65 diSem core s)

/-- SLEEP (06 R224). -/
def execSleep (core : Nat) (s : State) : Host.Outcome State Fault Refusal := done s (isqRow 0x66 sleepSem core s)

/-- CWAIT (06 R224). -/
def execCwait (core : Nat) (s : State) : Host.Outcome State Fault Refusal := done s (isqRow 0x67 cwaitSem core s)

/-- CRET (06 R224). -/
def execCret (core : Nat) (s : State) : Host.Outcome State Fault Refusal := done s (isqRow 0x68 cretSem core s)

/-- ISQ_NOP (06 R224). -/
def execIsqNop (core : Nat) (s : State) : Host.Outcome State Fault Refusal := done s (isqRow 0x6F isqNopSem core s)

/-- A further iteration of a repeat (06 R221, R223). -/
def repeatS (k : Nat) (s : State) : State :=
  let c := s.core k
  if coreRuns s k ∧ coreAsleep c = false ∧ c.repLeft ≠ 0 ∧ c.repFresh = false ∧ noRequest s k then
    match c.decodeAt k (insnAt c) with
    | .ok i => runInsn (semOf i.op) s k (insnAt c) i
    | .error t => takeTrap s k t c.pc
  else s

/-- REPEAT_ITERATION (06 R223). -/
def execRepeatIteration (core : Nat) (s : State) : Host.Outcome State Fault Refusal := done s (repeatS core s)

/-- The instruction at PC is a reserved encoding, or its fetch traps (06 R213, R215, R226). -/
def reservedS (k : Nat) (s : State) : State :=
  let c := s.core k
  if atInsn s k then
    match c.decodeAt k (insnAt c) with
    | .ok _ => s
    | .error t => takeTrap s k t c.pc
  else s

/-- RESERVED_OPCODE (06 R213). -/
def execReservedOpcode (core : Nat) (s : State) : Host.Outcome State Fault Refusal := done s (reservedS core s)

/-- CALL_DISPATCH (06 R239). -/
def execCallDispatch (core : Nat) (s : State) : Host.Outcome State Fault Refusal := done s (callDispatchS core s)

/-- CALL_LIMIT_TRAP (06 R242). -/
def execCallLimitTrap (core : Nat) (s : State) : Host.Outcome State Fault Refusal := done s (callLimitTrapS core s)

/-- NORMAL_ENTRY (06 R232). -/
def execNormalEntry (core : Nat) (s : State) : Host.Outcome State Fault Refusal := done s (normalEntryS core s)

/-- FAST_ENTRY (06 R234). -/
def execFastEntry (core : Nat) (s : State) : Host.Outcome State Fault Refusal := done s (fastEntryS core s)

/-- CORE_WAKE (08 R300). -/
def execCoreWake (core : Nat) (s : State) : Host.Outcome State Fault Refusal := done s (coreWakeS core s)

end Sys2Proof.Machine
end

