-- ==== Sys2Proof/Machine/Dispatch.lean ====
section
/-! DEFINITION. One arm for each command: the meaning it calls. -/
namespace Sys2Proof.Machine

def exec (i : Instr) (s : State) : Host.Outcome State Fault Refusal :=
  match i with
  | .registerWrite bar off size v => Sys2Proof.Machine.execRegisterWrite bar off size v s
  | .badAccess bar off size dir v => Sys2Proof.Machine.execBadAccess bar off size dir v s
  | .unmappedAccess bar off size dir v => Sys2Proof.Machine.execUnmappedAccess bar off size dir v s
  | .frameStart span => Sys2Proof.Machine.execFrameStart span s
  | .stakeIssue cycle kind inst ready => Sys2Proof.Machine.execStakeIssue cycle kind inst ready s
  | .freeLaneGrant cycle kind inst reqs => Sys2Proof.Machine.execFreeLaneGrant cycle kind inst reqs s
  | .responseLanded fetch cycle data ecc words => Sys2Proof.Machine.execResponseLanded fetch cycle data ecc words s
  | .refreshDebtTick ch => Sys2Proof.Machine.execRefreshDebtTick ch s
  | .refreshStake ch cycle => Sys2Proof.Machine.execRefreshStake ch cycle s
  | .backgroundTestAccess p fails ecc => Sys2Proof.Machine.execBackgroundTestAccess p fails ecc s
  | .testStepRestore p => Sys2Proof.Machine.execTestStepRestore p s
  | .meterSample unit => Sys2Proof.Machine.execMeterSample unit s
  | .bankWrite bank off size v => Sys2Proof.Machine.execBankWrite bank off size v s
  | .bankCheck v => Sys2Proof.Machine.execBankCheck v s
  | .checkComplete => Sys2Proof.Machine.execCheckComplete s
  | .swapArm v => Sys2Proof.Machine.execSwapArm v s
  | .bankSwap => Sys2Proof.Machine.execBankSwap s
  | .leaseCfgWrite n v => Sys2Proof.Machine.execLeaseCfgWrite n v s
  | .sqDoorbell fn slot => Sys2Proof.Machine.execSqDoorbell fn slot s
  | .indexRecordLanded fn slot r producer => Sys2Proof.Machine.execIndexRecordLanded fn slot r producer s
  | .ringUnitsLanded fn slot r units => Sys2Proof.Machine.execRingUnitsLanded fn slot r units s
  | .roundPauseRelease fn slot => Sys2Proof.Machine.execRoundPauseRelease fn slot s
  | .entryAccepted fn slot => Sys2Proof.Machine.execEntryAccepted fn slot s
  | .dispatch fn slot ctx => Sys2Proof.Machine.execDispatch fn slot ctx s
  | .fragmentTableLanded fn slot r descs => Sys2Proof.Machine.execFragmentTableLanded fn slot r descs s
  | .completionPosted fn slot => Sys2Proof.Machine.execCompletionPosted fn slot s
  | .moderationTimer fn slot => Sys2Proof.Machine.execModerationTimer fn slot s
  | .vectorUnmask fn vec => Sys2Proof.Machine.execVectorUnmask fn vec s
  | .linkReachesL0 port => Sys2Proof.Machine.execLinkReachesL0 port s
  | .cqDoorbell fn slot v => Sys2Proof.Machine.execCqDoorbell fn slot v s
  | .sqResume fn slot => Sys2Proof.Machine.execSqResume fn slot s
  | .sqEnable fn slot v => Sys2Proof.Machine.execSqEnable fn slot v s
  | .sqDisable fn slot v => Sys2Proof.Machine.execSqDisable fn slot v s
  | .cqEnable fn slot v => Sys2Proof.Machine.execCqEnable fn slot v s
  | .cqDisable fn slot v => Sys2Proof.Machine.execCqDisable fn slot v s
  | .queueReset fn slot => Sys2Proof.Machine.execQueueReset fn slot s
  | .functionLevelReset fn => Sys2Proof.Machine.execFunctionLevelReset fn s
  | .functionD3hotEntry fn pmeEn => Sys2Proof.Machine.execFunctionD3hotEntry fn pmeEn s
  | .functionD0Return fn => Sys2Proof.Machine.execFunctionD0Return fn s
  | .busMasterEnableClear fn => Sys2Proof.Machine.execBusMasterEnableClear fn s
  | .busMasterEnableSet fn => Sys2Proof.Machine.execBusMasterEnableSet fn s
  | .assignIdent v => Sys2Proof.Machine.execAssignIdent v s
  | .assignQueue v => Sys2Proof.Machine.execAssignQueue v s
  | .assignLease v => Sys2Proof.Machine.execAssignLease v s
  | .invalidCode ctx => Sys2Proof.Machine.execInvalidCode ctx s
  | .reservedCode ctx => Sys2Proof.Machine.execReservedCode ctx s
  | .nop ctx => Sys2Proof.Machine.execNop ctx s
  | .tic ctx => Sys2Proof.Machine.execTic ctx s
  | .ticCond ctx => Sys2Proof.Machine.execTicCond ctx s
  | .waitEvent ctx => Sys2Proof.Machine.execWaitEvent ctx s
  | .waitCheck ctx word => Sys2Proof.Machine.execWaitCheck ctx word s
  | .post ctx => Sys2Proof.Machine.execPost ctx s
  | .note ctx => Sys2Proof.Machine.execNote ctx s
  | .stamp ctx => Sys2Proof.Machine.execStamp ctx s
  | .call ctx => Sys2Proof.Machine.execCall ctx s
  | .move ctx => Sys2Proof.Machine.execMove ctx s
  | .measure ctx => Sys2Proof.Machine.execMeasure ctx s
  | .measureSample ctx => Sys2Proof.Machine.execMeasureSample ctx s
  | .sampleRecordWritten ctx code status => Sys2Proof.Machine.execSampleRecordWritten ctx code status s
  | .devWrite ctx => Sys2Proof.Machine.execDevWrite ctx s
  | .devRead ctx => Sys2Proof.Machine.execDevRead ctx s
  | .devControl ctx => Sys2Proof.Machine.execDevControl ctx s
  | .devSense ctx => Sys2Proof.Machine.execDevSense ctx s
  | .flush ctx => Sys2Proof.Machine.execFlush ctx s
  | .writeZeroes ctx => Sys2Proof.Machine.execWriteZeroes ctx s
  | .datasetManagement ctx => Sys2Proof.Machine.execDatasetManagement ctx s
  | .compare ctx => Sys2Proof.Machine.execCompare ctx s
  | .passThrough ctx => Sys2Proof.Machine.execPassThrough ctx s
  | .discardFrame ctx => Sys2Proof.Machine.execDiscardFrame ctx s
  | .timedSend ctx => Sys2Proof.Machine.execTimedSend ctx s
  | .spiFullDuplex ctx => Sys2Proof.Machine.execSpiFullDuplex ctx s
  | .pwm ctx => Sys2Proof.Machine.execPwm ctx s
  | .generateEdge ctx => Sys2Proof.Machine.execGenerateEdge ctx s
  | .hostedCommandLanded ctx r cmd => Sys2Proof.Machine.execHostedCommandLanded ctx r cmd s
  | .stepComplete ctx res => Sys2Proof.Machine.execStepComplete ctx res s
  | .fenceAck ctx r => Sys2Proof.Machine.execFenceAck ctx r s
  | .deviceTimeout ctx => Sys2Proof.Machine.execDeviceTimeout ctx s
  | .completionTimeout ctx => Sys2Proof.Machine.execCompletionTimeout ctx s
  | .pitchCtxSelect p v => Sys2Proof.Machine.execPitchCtxSelect p v s
  | .pitchFault p => Sys2Proof.Machine.execPitchFault p s
  | .pitchReset p host => Sys2Proof.Machine.execPitchReset p host s
  | .recoverDevice host => Sys2Proof.Machine.execRecoverDevice host s
  | .rebuildComplete => Sys2Proof.Machine.execRebuildComplete s
  | .recovReadSelect v => Sys2Proof.Machine.execRecovReadSelect v s
  | .recovReadComplete => Sys2Proof.Machine.execRecovReadComplete s
  | .mov core => Sys2Proof.Machine.execMov core s
  | .movsx core => Sys2Proof.Machine.execMovsx core s
  | .movzx core => Sys2Proof.Machine.execMovzx core s
  | .lea core => Sys2Proof.Machine.execLea core s
  | .add core => Sys2Proof.Machine.execAdd core s
  | .sub core => Sys2Proof.Machine.execSub core s
  | .neg core => Sys2Proof.Machine.execNeg core s
  | .abs core => Sys2Proof.Machine.execAbs core s
  | .mul core => Sys2Proof.Machine.execMul core s
  | .mulhs core => Sys2Proof.Machine.execMulhs core s
  | .mulhu core => Sys2Proof.Machine.execMulhu core s
  | .divs core => Sys2Proof.Machine.execDivs core s
  | .divu core => Sys2Proof.Machine.execDivu core s
  | .rems core => Sys2Proof.Machine.execRems core s
  | .remu core => Sys2Proof.Machine.execRemu core s
  | .and core => Sys2Proof.Machine.execAnd core s
  | .or core => Sys2Proof.Machine.execOr core s
  | .xor core => Sys2Proof.Machine.execXor core s
  | .not core => Sys2Proof.Machine.execNot core s
  | .shl core => Sys2Proof.Machine.execShl core s
  | .shr core => Sys2Proof.Machine.execShr core s
  | .sar core => Sys2Proof.Machine.execSar core s
  | .rol core => Sys2Proof.Machine.execRol core s
  | .ror core => Sys2Proof.Machine.execRor core s
  | .mac core => Sys2Proof.Machine.execMac core s
  | .msu core => Sys2Proof.Machine.execMsu core s
  | .macu core => Sys2Proof.Machine.execMacu core s
  | .acx core => Sys2Proof.Machine.execAcx core s
  | .pand core => Sys2Proof.Machine.execPand core s
  | .por core => Sys2Proof.Machine.execPor core s
  | .pxor core => Sys2Proof.Machine.execPxor core s
  | .pandn core => Sys2Proof.Machine.execPandn core s
  | .cmpeq core => Sys2Proof.Machine.execCmpeq core s
  | .cmpne core => Sys2Proof.Machine.execCmpne core s
  | .cmplt core => Sys2Proof.Machine.execCmplt core s
  | .cmple core => Sys2Proof.Machine.execCmple core s
  | .cmplo core => Sys2Proof.Machine.execCmplo core s
  | .cmpls core => Sys2Proof.Machine.execCmpls core s
  | .tst core => Sys2Proof.Machine.execTst core s
  | .bra core => Sys2Proof.Machine.execBra core s
  | .jmp core => Sys2Proof.Machine.execJmp core s
  | .brl core => Sys2Proof.Machine.execBrl core s
  | .ret core => Sys2Proof.Machine.execRet core s
  | .dbnz core => Sys2Proof.Machine.execDbnz core s
  | .cbeq core => Sys2Proof.Machine.execCbeq core s
  | .cbne core => Sys2Proof.Machine.execCbne core s
  | .cblt core => Sys2Proof.Machine.execCblt core s
  | .cble core => Sys2Proof.Machine.execCble core s
  | .cbgt core => Sys2Proof.Machine.execCbgt core s
  | .cbge core => Sys2Proof.Machine.execCbge core s
  | .cblo core => Sys2Proof.Machine.execCblo core s
  | .cbls core => Sys2Proof.Machine.execCbls core s
  | .cbhi core => Sys2Proof.Machine.execCbhi core s
  | .cbhs core => Sys2Proof.Machine.execCbhs core s
  | .repC core => Sys2Proof.Machine.execRepC core s
  | .repN core => Sys2Proof.Machine.execRepN core s
  | .repeatIteration core => Sys2Proof.Machine.execRepeatIteration core s
  | .trap core => Sys2Proof.Machine.execTrap core s
  | .reservedOpcode core => Sys2Proof.Machine.execReservedOpcode core s
  | .reti core => Sys2Proof.Machine.execReti core s
  | .ei core => Sys2Proof.Machine.execEi core s
  | .di core => Sys2Proof.Machine.execDi core s
  | .sleep core => Sys2Proof.Machine.execSleep core s
  | .cwait core => Sys2Proof.Machine.execCwait core s
  | .callDispatch core => Sys2Proof.Machine.execCallDispatch core s
  | .cret core => Sys2Proof.Machine.execCret core s
  | .isqNop core => Sys2Proof.Machine.execIsqNop core s
  | .normalEntry core => Sys2Proof.Machine.execNormalEntry core s
  | .fastEntry core => Sys2Proof.Machine.execFastEntry core s
  | .coreWake core => Sys2Proof.Machine.execCoreWake core s
  | .callLimit ctx => Sys2Proof.Machine.execCallLimit ctx s
  | .callLimitTrap core => Sys2Proof.Machine.execCallLimitTrap core s
  | .coreReset core => Sys2Proof.Machine.execCoreReset core s
  | .halt core => Sys2Proof.Machine.execHalt core s
  | .resume core => Sys2Proof.Machine.execResume core s
  | .bgtEnableWrite p v => Sys2Proof.Machine.execBgtEnableWrite p v s
  | .scrubRead ch res => Sys2Proof.Machine.execScrubRead ch res s
  | .scrubWriteBack ch => Sys2Proof.Machine.execScrubWriteBack ch s
  | .scrubPeriodExpiry ch => Sys2Proof.Machine.execScrubPeriodExpiry ch s
  | .dimmThermalRead ch hot => Sys2Proof.Machine.execDimmThermalRead ch hot s
  | .rcdParityError ch => Sys2Proof.Machine.execRcdParityError ch s
  | .canopyWindowLo m w v => Sys2Proof.Machine.execCanopyWindowLo m w v s
  | .canopyWindowHi m w v => Sys2Proof.Machine.execCanopyWindowHi m w v s
  | .drain v => Sys2Proof.Machine.execDrain v s
  | .drainComplete => Sys2Proof.Machine.execDrainComplete s
  | .canopyDenyCount => Sys2Proof.Machine.execCanopyDenyCount s
  | .mbPost agent v => Sys2Proof.Machine.execMbPost agent v s
  | .mbRxSelect agent v => Sys2Proof.Machine.execMbRxSelect agent v s
  | .fnNoticeStatus fn => Sys2Proof.Machine.execFnNoticeStatus fn s
  | .mbRxEmpty agent v => Sys2Proof.Machine.execMbRxEmpty agent v s
  | .fnNoticeEmpty fn v => Sys2Proof.Machine.execFnNoticeEmpty fn v s
  | .mbRetPop agent => Sys2Proof.Machine.execMbRetPop agent s
  | .tnmClear v => Sys2Proof.Machine.execTnmClear v s
  | .icRaise v => Sys2Proof.Machine.execIcRaise v s
  | .icClaim core => Sys2Proof.Machine.execIcClaim core s
  | .icFclaim core => Sys2Proof.Machine.execIcFclaim core s
  | .icComplete core v => Sys2Proof.Machine.execIcComplete core v s
  | .icFcomplete core v => Sys2Proof.Machine.execIcFcomplete core v s
  | .lanternSecond => Sys2Proof.Machine.execLanternSecond s
  | .ppsInEdge input cap => Sys2Proof.Machine.execPpsInEdge input cap s
  | .refLost => Sys2Proof.Machine.execRefLost s
  | .refReturn => Sys2Proof.Machine.execRefReturn s
  | .holdoverExpiry => Sys2Proof.Machine.execHoldoverExpiry s
  | .coreLock => Sys2Proof.Machine.execCoreLock s
  | .ppsOutPulse pulse => Sys2Proof.Machine.execPpsOutPulse pulse s
  | .todMessage => Sys2Proof.Machine.execTodMessage s
  | .ptpEventMessage mac tx stamp => Sys2Proof.Machine.execPtpEventMessage mac tx stamp s
  | .ptmRequest port stamp => Sys2Proof.Machine.execPtmRequest port stamp s
  | .lantSnap v => Sys2Proof.Machine.execLantSnap v s
  | .setAtPpsEdge v => Sys2Proof.Machine.execSetAtPpsEdge v s
  | .setAtOnce v => Sys2Proof.Machine.execSetAtOnce v s
  | .addNs v => Sys2Proof.Machine.execAddNs v s
  | .setCancel v => Sys2Proof.Machine.execSetCancel v s
  | .calCommit v => Sys2Proof.Machine.execCalCommit v s
  | .calCommitComplete ok => Sys2Proof.Machine.execCalCommitComplete ok s
  | .attributionInterval internal => Sys2Proof.Machine.execAttributionInterval internal s
  | .feedStale feed => Sys2Proof.Machine.execFeedStale feed s
  | .minuteClose => Sys2Proof.Machine.execMinuteClose s
  | .headSigned ok => Sys2Proof.Machine.execHeadSigned ok s
  | .blockDelivery => Sys2Proof.Machine.execBlockDelivery s
  | .meterConsumer v => Sys2Proof.Machine.execMeterConsumer v s
  | .meterCheckpoint => Sys2Proof.Machine.execMeterCheckpoint s
  | .meterLiveSelect v => Sys2Proof.Machine.execMeterLiveSelect v s
  | .linkUp port rate width => Sys2Proof.Machine.execLinkUp port rate width s
  | .linkDown port => Sys2Proof.Machine.execLinkDown port s
  | .rootPortLinkDown port => Sys2Proof.Machine.execRootPortLinkDown port s
  | .frameReceived mac frame bad => Sys2Proof.Machine.execFrameReceived mac frame bad s
  | .kick => Sys2Proof.Machine.execKick s
  | .mgmtFrameSent => Sys2Proof.Machine.execMgmtFrameSent s
  | .mgmtFrameReceived frame bad => Sys2Proof.Machine.execMgmtFrameReceived frame bad s
  | .pinEdge port pin level stamp => Sys2Proof.Machine.execPinEdge port pin level stamp s
  | .quadTest q v => Sys2Proof.Machine.execQuadTest q v s
  | .prbsSnap lane v bits errs => Sys2Proof.Machine.execPrbsSnap lane v bits errs s
  | .prbsClear lane v => Sys2Proof.Machine.execPrbsClear lane v s
  | .prbsInject lane v => Sys2Proof.Machine.execPrbsInject lane v s
  | .checkerLock lane => Sys2Proof.Machine.execCheckerLock lane s
  | .checkerLockLoss lane => Sys2Proof.Machine.execCheckerLockLoss lane s
  | .ddr5PatStart ch v => Sys2Proof.Machine.execDdr5PatStart ch v s
  | .ddr5PatStop ch v => Sys2Proof.Machine.execDdr5PatStop ch v s
  | .patternRunComplete ch uncorr devs => Sys2Proof.Machine.execPatternRunComplete ch uncorr devs s
  | .ploetLinkUp x4 matched => Sys2Proof.Machine.execPloetLinkUp x4 matched s
  | .ploetLinkDown => Sys2Proof.Machine.execPloetLinkDown s
  | .flitReceived f => Sys2Proof.Machine.execFlitReceived f s
  | .nakReplay seq => Sys2Proof.Machine.execNakReplay seq s
  | .campRecord => Sys2Proof.Machine.execCampRecord s
  | .campDurable => Sys2Proof.Machine.execCampDurable s
  | .campTime arrival => Sys2Proof.Machine.execCampTime arrival s
  | .campNotice => Sys2Proof.Machine.execCampNotice s
  | .campEmptied => Sys2Proof.Machine.execCampEmptied s
  | .resyncStart => Sys2Proof.Machine.execResyncStart s
  | .resyncEnd => Sys2Proof.Machine.execResyncEnd s
  | .silentDecision => Sys2Proof.Machine.execSilentDecision s
  | .arbInChange level => Sys2Proof.Machine.execArbInChange level s
  | .takeOver host => Sys2Proof.Machine.execTakeOver host s
  | .campResync v => Sys2Proof.Machine.execCampResync v s
  | .campFence v => Sys2Proof.Machine.execCampFence v s
  | .backgroundVerify => Sys2Proof.Machine.execBackgroundVerify s
  | .thOtpArm v => Sys2Proof.Machine.execThOtpArm v s
  | .armExpiry => Sys2Proof.Machine.execArmExpiry s
  | .programSlot v => Sys2Proof.Machine.execProgramSlot v s
  | .revokeSlot v => Sys2Proof.Machine.execRevokeSlot v s
  | .advanceAntiRollback v => Sys2Proof.Machine.execAdvanceAntiRollback v s
  | .otpWriteComplete ok => Sys2Proof.Machine.execOtpWriteComplete ok s
  | .flashRead v => Sys2Proof.Machine.execFlashRead v s
  | .flashProgram v => Sys2Proof.Machine.execFlashProgram v s
  | .flashErase v => Sys2Proof.Machine.execFlashErase v s
  | .flashVerify v => Sys2Proof.Machine.execFlashVerify v s
  | .flashOpComplete ok => Sys2Proof.Machine.execFlashOpComplete ok s
  | .attestRequest v => Sys2Proof.Machine.execAttestRequest v s
  | .reportSignStart => Sys2Proof.Machine.execReportSignStart s
  | .reportSigned => Sys2Proof.Machine.execReportSigned s
  | .bivouacRequest d v => Sys2Proof.Machine.execBivouacRequest d v s
  | .onRequest d v => Sys2Proof.Machine.execOnRequest d v s
  | .bivouacEntryComplete d => Sys2Proof.Machine.execBivouacEntryComplete d s
  | .bivouacExitComplete d => Sys2Proof.Machine.execBivouacExitComplete d s
  | .exitTimeout d => Sys2Proof.Machine.execExitTimeout d s
  | .domainLost d => Sys2Proof.Machine.execDomainLost d s
  | .domainReturn d ms => Sys2Proof.Machine.execDomainReturn d ms s
  | .warmRequest v => Sys2Proof.Machine.execWarmRequest v s
  | .pitchRequest v => Sys2Proof.Machine.execPitchRequest v s
  | .wrstN => Sys2Proof.Machine.execWrstN s
  | .warmReset ms => Sys2Proof.Machine.execWarmReset ms s
  | .powerOnReset ms dimms => Sys2Proof.Machine.execPowerOnReset ms dimms s
  | .pwrgoodFall => Sys2Proof.Machine.execPwrgoodFall s
  | .coldReset ms dimms => Sys2Proof.Machine.execColdReset ms dimms s
  | .temperatureSample temp sensor => Sys2Proof.Machine.execTemperatureSample temp sensor s
  | .configurationRequest fn => Sys2Proof.Machine.execConfigurationRequest fn s
  | .l1Entry port => Sys2Proof.Machine.execL1Entry port s
  | .ethernetLinkDown mac => Sys2Proof.Machine.execEthernetLinkDown mac s
  | .controlStateError ms => Sys2Proof.Machine.execControlStateError ms s

end Sys2Proof.Machine
end

