-- ==== Sys2Proof/Machine/Cycle.lean ====
section
/-! DEFINITION. Commands that reach the device in one and the same cycle, in the order that decides them (00 R13, R14; 02 R32, R55; 07 R266,
R273; 08 R290, R302; 13 R436). The device takes one command at a time; what the spec decides on the state at the start of a cycle comes
first, what takes hold at its end comes last. -/
namespace Sys2Proof.Machine

/-- Rank of a command in its cycle, and the agent that decides between two of rank 2. 0: snapshots, reads that clear, claims, and entries at an
instruction boundary; 1: completions, and writes that clear bits; 2: posts; 3: resets; 4: empties; 5: stakes; 6: the free lane; 7: what the
hardware does of its own; 8: the patrol scrub, on slots that nothing took; 9: register writes, which stand against a hardware update; 10:
writes that come into force at the end of the cycle; 11: the meter sample, which captures the uses of its own cycle. -/
def cycleRank : Instr → Nat × Nat
  | .frameStart .. | .bankSwap => (0, 0)
  | .mbRxSelect .. | .fnNoticeStatus .. | .canopyDenyCount | .prbsSnap .. | .lantSnap .. | .icClaim .. | .icFclaim .. => (0, 1)
  | .normalEntry .. | .fastEntry .. | .coreWake .. => (0, 1)
  | .icComplete .. | .icFcomplete .. => (1, 0)
  | .mbPost a _ => (2, a)
  | .note c => (2, 34 + c / 1024)
  | .coreReset .. | .pitchReset .. | .functionLevelReset .. | .tnmClear .. => (3, 0)
  | .mbRxEmpty .. | .fnNoticeEmpty .. => (4, 0)
  | .refreshStake .. | .backgroundTestAccess .. | .stakeIssue .. => (5, 0)
  | .testStepRestore .. | .freeLaneGrant .. => (6, 0)
  | .scrubRead .. | .scrubWriteBack .. => (8, 0)
  | .registerWrite .. | .leaseCfgWrite .. | .bankWrite .. | .bankCheck .. | .swapArm .. | .assignIdent .. | .assignQueue .. | .assignLease .. |
    .bgtEnableWrite .. | .bivouacRequest .. | .onRequest .. | .canopyWindowLo .. => (9, 0)
  | .canopyWindowHi .. => (10, 0)
  | .meterSample .. => (11, 0)
  | _ => (7, 0)

/-- What one command does in its cycle, by rank: a register write clears the bits that it clears by writing 1 before the hardware sets any, and sets
the others after (00 R13); one that sets a lock, or writes a canopy region, comes into force last (00 R13, 07 R273). -/
def cycleParts (s : State) (c : Instr) : List ((Nat × Nat) × Instr) :=
  match c with
  | .registerWrite .mgmt off size ⟨v, gl⟩ =>
    match findReg off allMgmt with
    | none => [(cycleRank c, c)]
    | some (d, i, j) =>
      let ones := accMask d .w1c
      let clear := v.toNat &&& ones
      let last := (accMask d .lk).testBit (d.width - 1) && v.toNat.testBit (d.width - 1) || isReg d R.CANOPY_REGION
      let rest : Instr := .registerWrite .mgmt off size ⟨BitVec.ofNat 64 (v.toNat - clear), gl⟩
      if ones = 0 then [((if last then 10 else 9, 0), c)]
      else
        let old := rg s d i j &&& accMask d .rw
        [((1, 0), .registerWrite .mgmt off size ⟨BitVec.ofNat 64 (old ||| clear), gl⟩), ((9, 0), rest)]
  | _ => [(cycleRank c, c)]

/-- Put a part behind those that come before it or with it. -/
def cycleInsert (x : (Nat × Nat) × Instr) : List ((Nat × Nat) × Instr) → List ((Nat × Nat) × Instr)
  | [] => [x]
  | y :: l => if x.1.1 < y.1.1 ∨ (x.1.1 = y.1.1 ∧ x.1.2 < y.1.2) then x :: y :: l else y :: cycleInsert x l

/-- The commands of one cycle in the order that decides them; commands of one rank keep their order. -/
def cycleOrder (s : State) (cs : List Instr) : List Instr := ((cs.flatMap (cycleParts s)).foldl (fun l x => cycleInsert x l) []).map (·.2)

/-- Commands that reach the device in one cycle wait behind those of earlier cycles. -/
def State.sameCycle (cs : List Instr) (s : State) : State := { s with pending := s.pending ++ cycleOrder s cs }

end Sys2Proof.Machine
end

