-- ==== Sys2Proof/Safety.lean ====
section
/-! DEFINITION. What the claims speak of: the parts of the state, what a command changes and leaves alone, the effect of a command
with the edges it raises, and a device that has stopped. -/
namespace Sys2Proof.Machine

/-! ## Frames -/

/-- The parts of the state. -/
inductive Part where
  | regs | sched | fns | sqs | cqs | prog | recov | cores | mem | mail | intc | lant | meter | ports | camp | trust | power | out
  | busData | free | pending
  deriving DecidableEq, Repr

/-- Part `p` is the same in two states. -/
def same (p : Part) (s t : State) : Prop :=
  match p with
  | .regs => t.regs = s.regs
  | .sched => t.sched = s.sched
  | .fns => t.fns = s.fns
  | .sqs => t.sqs = s.sqs
  | .cqs => t.cqs = s.cqs
  | .prog => t.prog = s.prog
  | .recov => t.recov = s.recov
  | .cores => t.cores = s.cores
  | .mem => t.mem = s.mem
  | .mail => t.mail = s.mail
  | .intc => t.intc = s.intc
  | .lant => t.lant = s.lant
  | .meter => t.meter = s.meter
  | .ports => t.ports = s.ports
  | .camp => t.camp = s.camp
  | .trust => t.trust = s.trust
  | .power => t.power = s.power
  | .out => t.out = s.out
  | .busData => t.busData = s.busData
  | .free => t.free = s.free
  | .pending => t.pending = s.pending

/-- From `s` to `t` nothing changes but the parts of `l`. -/
def only (l : List Part) (s t : State) : Prop := ∀ p, p ∈ l ∨ same p s t

/-- What a command does: it answers a next state, which is the state `u` its own rules give, as `P` says, with the edges of that change
latched (`commit`: 01 R27-R28, 08 R292). -/
def Effect (c : Instr) (s : State) (P : State → Prop) : Prop := ∃ u, exec c s = .next (commit s u) ∧ P u

/-- From `s` to `u` the device sends things outward, `o` among them, and takes back nothing it has sent. -/
def Sends (s u : State) (o : Out) : Prop := ∃ l, u.out = s.out ++ l ∧ o ∈ l

/-- `c` has no effect at all at `s`. -/
def Ignored (c : Instr) (s : State) : Prop := exec c s = .next s

/-- From `s` to `t` words have crossed guylines, and none was lost: their occupancies and GL_STATUS may differ, nothing else (10 R368, R371). -/
def Crossed (s t : State) : Prop :=
  only [.regs, .ports] s t ∧ t.ports = { s.ports with guy := t.ports.guy } ∧
  ∀ d i j p, (∀ g x, regKey d i j p ≠ regKey R.GL_STATUS g x 0) → rg t d i j p = rg s d i j p

/-- From `s` to `u` every register reads as before but those of these keys. -/
def otherRegs (l : List Nat) (s u : State) : Prop := ∀ d i j p, regKey d i j p ∉ l → rg u d i j p = rg s d i j p

/-! ## The frame of every command -/

/-- The parts in which edges are latched and messages sent (08 R292, 01 R28, 03 R109). -/
def edgeParts : List Part := [.fns, .intc, .ports, .power, .out]

/-- The parts of the state that a command may change; all others it leaves as they are. An Isquin instruction may reach every register
through the ranger core's window to the device's registers. -/
def touches (c : Instr) : List Part :=
  edgeParts ++ match c with
    | .registerWrite .. =>
      [.regs, .sched, .sqs, .cqs, .prog, .recov, .cores, .mem, .mail, .lant, .camp, .trust, .free]
    | .badAccess .. | .unmappedAccess .. | .fnNoticeStatus .. =>
      [.regs, .busData]
    | .frameStart .. =>
      [.regs, .sched, .recov, .cores, .mem, .mail, .lant, .meter, .camp, .trust, .free]
    | .stakeIssue .. | .freeLaneGrant .. =>
      [.regs, .sched, .prog, .mem, .meter, .free]
    | .responseLanded .. | .scrubRead .. =>
      [.regs, .sched, .recov, .mem, .meter, .camp, .free]
    | .refreshDebtTick .. | .leaseCfgWrite .. =>
      [.sched]
    | .refreshStake .. | .backgroundTestAccess .. | .testStepRestore .. | .bankSwap | .scrubWriteBack .. =>
      [.regs, .sched, .mem, .meter, .free]
    | .meterSample .. | .attributionInterval .. | .meterCheckpoint =>
      [.meter]
    | .bankWrite .. | .bankCheck .. | .checkComplete | .swapArm .. =>
      [.regs, .sched]
    | .sqDoorbell .. | .indexRecordLanded .. | .roundPauseRelease .. =>
      [.regs, .sqs, .recov, .mem, .camp]
    | .ringUnitsLanded .. =>
      [.regs, .sqs, .cqs, .recov, .mem, .camp]
    | .entryAccepted .. | .sqEnable .. | .sqDisable .. | .cqEnable .. | .cqDisable .. | .queueReset .. | .callLimit .. =>
      [.regs, .sqs, .cqs, .prog, .recov, .cores, .mem, .camp]
    | .dispatch .. | .waitCheck .. | .fenceAck .. | .completionTimeout .. =>
      [.regs, .sqs, .cqs, .prog, .recov, .mem, .mail, .camp]
    | .fragmentTableLanded .. | .sqResume .. | .hostedCommandLanded .. | .deviceTimeout .. =>
      [.regs, .sqs, .cqs, .prog, .recov, .mem, .camp]
    | .completionPosted .. =>
      [.regs, .sqs, .cqs, .recov, .mem, .meter, .camp]
    | .moderationTimer .. | .linkReachesL0 .. =>
      [.regs, .cqs, .mem]
    | .vectorUnmask .. =>
      [.regs, .cqs, .recov, .mem, .camp]
    | .cqDoorbell .. =>
      [.regs, .cqs]
    | .functionLevelReset .. | .campDurable | .resyncEnd | .silentDecision =>
      [.regs, .sqs, .cqs, .prog, .recov, .cores, .mem, .mail, .camp]
    | .functionD3hotEntry .. | .busMasterEnableClear .. | .rcdParityError .. | .icRaise .. | .ppsOutPulse ..
    | .ptpEventMessage .. | .ptmRequest .. | .kick | .onRequest .. | .bivouacEntryComplete .. | .warmRequest ..
    | .pitchRequest .. | .wrstN | .configurationRequest .. | .l1Entry .. =>
      []
    | .functionD0Return .. | .busMasterEnableSet .. =>
      [.regs, .sqs, .cqs, .prog, .recov, .cores, .mem, .mail, .meter, .camp, .free]
    | .assignIdent .. =>
      [.regs, .recov, .camp]
    | .assignQueue .. =>
      [.regs, .sqs, .cqs, .recov, .camp]
    | .assignLease .. =>
      [.regs, .sqs, .recov, .camp]
    | .invalidCode .. | .reservedCode .. | .nop .. | .tic .. | .ticCond .. | .waitEvent .. | .post .. | .note ..
    | .stamp .. | .move .. | .measure .. | .sampleRecordWritten .. | .devWrite .. | .devRead .. | .devControl ..
    | .devSense .. | .flush .. | .writeZeroes .. | .datasetManagement .. | .compare .. | .passThrough ..
    | .discardFrame .. | .timedSend .. | .spiFullDuplex .. | .pwm .. | .generateEdge .. =>
      [.regs, .sqs, .cqs, .prog, .recov, .mem, .mail, .meter, .camp]
    | .call .. | .takeOver .. =>
      [.regs, .sqs, .cqs, .prog, .recov, .cores, .mem, .mail, .meter, .camp]
    | .measureSample .. =>
      [.prog]
    | .stepComplete .. =>
      [.regs, .sqs, .cqs, .prog, .recov, .mem, .mail, .meter, .camp, .free]
    | .pitchCtxSelect .. | .pitchFault .. | .dimmThermalRead .. | .canopyWindowLo .. | .mbRxSelect .. | .icComplete ..
    | .icFcomplete .. | .lantSnap .. | .meterConsumer .. | .meterLiveSelect .. | .checkerLock .. | .checkerLockLoss ..
    | .ddr5PatStart .. | .backgroundVerify =>
      [.regs]
    | .pitchReset .. =>
      [.regs, .sched, .sqs, .cqs, .prog, .recov, .cores, .mem, .mail, .meter, .camp]
    | .recoverDevice .. =>
      [.regs, .sqs, .cqs, .prog, .recov, .cores, .mem, .meter, .camp]
    | .rebuildComplete | .recovReadSelect .. | .recovReadComplete =>
      [.regs, .recov]
    | .mov .. | .movsx .. | .movzx .. | .lea .. | .add .. | .sub .. | .neg .. | .abs .. | .mul .. | .mulhs ..
    | .mulhu .. | .divs .. | .divu .. | .rems .. | .remu .. | .and .. | .or .. | .xor .. | .not .. | .shl .. | .shr ..
    | .sar .. | .rol .. | .ror .. | .mac .. | .msu .. | .macu .. | .acx .. | .pand .. | .por .. | .pxor .. | .pandn ..
    | .cmpeq .. | .cmpne .. | .cmplt .. | .cmple .. | .cmplo .. | .cmpls .. | .tst .. | .bra .. | .jmp .. | .brl ..
    | .ret .. | .dbnz .. | .cbeq .. | .cbne .. | .cblt .. | .cble .. | .cbgt .. | .cbge .. | .cblo .. | .cbls ..
    | .cbhi .. | .cbhs .. | .repC .. | .repN .. | .repeatIteration .. | .trap .. | .reti .. | .ei .. | .di ..
    | .sleep .. | .cwait .. | .cret .. | .isqNop .. =>
      [.regs, .sched, .sqs, .cqs, .prog, .recov, .cores, .mem, .mail, .lant, .meter, .camp, .trust, .busData, .free]
    | .reservedOpcode .. | .normalEntry .. | .fastEntry .. | .coreWake .. | .callLimitTrap .. =>
      [.regs, .cores]
    | .callDispatch .. =>
      [.regs, .prog, .cores]
    | .coreReset .. =>
      [.regs, .prog, .cores, .mail, .camp]
    | .halt .. =>
      [.cores]
    | .resume .. =>
      [.prog, .cores]
    | .bgtEnableWrite .. | .scrubPeriodExpiry .. | .canopyWindowHi .. | .drain .. | .drainComplete | .mgmtFrameSent
    | .mgmtFrameReceived .. =>
      [.regs, .mem]
    | .canopyDenyCount =>
      [.regs, .mem, .busData]
    | .mbPost .. | .mbRxEmpty .. | .fnNoticeEmpty .. | .tnmClear .. =>
      [.regs, .mail, .camp]
    | .mbRetPop .. =>
      [.mail]
    | .icClaim .. | .icFclaim .. =>
      [.busData]
    | .lanternSecond | .campTime .. =>
      [.regs, .lant, .camp, .free]
    | .ppsInEdge .. | .refLost =>
      [.regs, .lant, .free]
    | .refReturn | .holdoverExpiry | .coreLock | .todMessage =>
      [.lant]
    | .setAtPpsEdge .. | .setAtOnce .. | .addNs .. | .setCancel .. =>
      [.regs, .lant]
    | .calCommit .. | .calCommitComplete .. | .otpWriteComplete .. =>
      [.regs, .lant, .trust]
    | .feedStale .. =>
      [.regs, .meter]
    | .minuteClose =>
      [.regs, .meter, .trust]
    | .headSigned .. =>
      [.meter, .free]
    | .blockDelivery =>
      [.regs, .mem, .meter]
    | .linkUp .. | .prbsSnap .. | .prbsClear .. | .prbsInject .. =>
      [.regs, .free]
    | .linkDown .. | .arbInChange .. | .campResync .. | .campFence .. =>
      [.regs, .recov, .mail, .camp, .free]
    | .rootPortLinkDown .. | .ethernetLinkDown .. =>
      [.regs, .sqs, .cqs, .prog, .recov, .mem, .camp, .free]
    | .frameReceived .. =>
      [.regs, .prog, .recov, .camp, .free]
    | .pinEdge .. =>
      [.regs, .prog]
    | .quadTest .. =>
      [.regs, .sqs, .cqs, .prog, .recov, .mem, .mail, .lant, .camp, .free]
    | .ddr5PatStop .. | .patternRunComplete .. =>
      [.regs, .mem, .free]
    | .ploetLinkUp .. =>
      [.regs, .sqs, .cqs, .prog, .recov, .cores, .mem, .mail, .camp, .free]
    | .ploetLinkDown | .nakReplay .. =>
      [.regs, .mail, .lant, .camp, .free]
    | .flitReceived .. | .campRecord | .resyncStart =>
      [.regs, .camp]
    | .campNotice | .campEmptied =>
      [.mail, .camp]
    | .thOtpArm .. | .armExpiry | .reportSignStart =>
      [.trust]
    | .programSlot .. | .revokeSlot .. | .advanceAntiRollback .. | .flashRead .. | .flashProgram .. | .flashErase ..
    | .flashVerify .. =>
      [.regs, .trust]
    | .flashOpComplete .. | .attestRequest .. | .reportSigned =>
      [.regs, .trust, .free]
    | .bivouacRequest .. =>
      [.mem]
    | .bivouacExitComplete .. =>
      [.prog, .mem]
    | .exitTimeout .. | .domainLost .. | .warmReset .. | .powerOnReset .. | .pwrgoodFall | .coldReset ..
    | .temperatureSample .. | .controlStateError .. =>
      [.regs, .sched, .sqs, .cqs, .prog, .recov, .cores, .mem, .mail, .lant, .meter, .camp, .trust, .free]
    | .domainReturn .. =>
      [.regs, .sched, .prog, .recov, .cores, .mem, .mail, .lant, .camp, .trust, .free]

/-- The device as it stands at cycle `c` of its frame, before anything is issued there: the consuming stakes that passed without their
data are counted (02 R45), and a fault that its timetable holds before `c` has ended it (02 R71, R72). -/
def reach (s : State) (c : Nat) : State := passTo s c

/-! ## Steps of channel programs (04) -/

/-- The command that begins a step whose first command has this CODE (04 R125). -/
def stepRow (code c : Nat) : Instr :=
  match code with
  | 0x00 => .invalidCode c
  | 0x01 => .nop c
  | 0x02 => .tic c
  | 0x03 => .ticCond c
  | 0x04 => .waitEvent c
  | 0x05 => .post c
  | 0x06 => .note c
  | 0x07 => .stamp c
  | 0x08 => .call c
  | 0x09 => .move c
  | 0x0A => .measure c
  | 0x0B => .devWrite c
  | 0x0C => .devRead c
  | 0x0D => .devControl c
  | 0x0E => .devSense c
  | 0x10 => .flush c
  | 0x11 => .writeZeroes c
  | 0x12 => .datasetManagement c
  | 0x13 => .compare c
  | 0x14 => .passThrough c
  | 0x20 => .discardFrame c
  | 0x21 => .timedSend c
  | 0x30 => .spiFullDuplex c
  | 0x31 => .pwm c
  | 0x32 => .generateEdge c
  | _ => .reservedCode c

/-- FAIL_INDEX of a completion entry (03 R104). -/
def entryFail (e : BitVec 256) : Nat := bitsOf e 143 128

/-- The program of context `c` has ended with a channel status and a FAIL_INDEX: its context is free, and the completion of its entry is
decided (04 R158, R160). -/
def Ended (s u : State) (c st fail : Nat) : Prop :=
  u.ctx c = Ctx.reset ∧
  ∀ i, findItem (s.sq (s.ctx c).fn (s.ctx c).slot) (s.ctx c).seq = some i → i.decided = false →
    ∃ p, (u.cq (s.ctx c).fn i.cq).posts = (s.cq (s.ctx c).fn i.cq).posts ++ [p] ∧ p.sqSlot = (s.ctx c).slot ∧ p.seq = (s.ctx c).seq ∧
      entryStatus p.entry = st ∧ entryFail p.entry = fail % 2 ^ 16

/-- A program may go on at position `next`: a library or inline program has a command there, a hosted one may read its next command
from host memory (04 R128, R133). -/
def MayGoOn (s : State) (c next : Nat) : Prop :=
  next < 2 ^ 64 ∧
  (((s.ctx c).kind ≠ 1 ∧ next < progLen s (s.ctx c)) ∨
   ((s.ctx c).kind = 1 ∧ next % 32 = 0 ∧ progTarget (c / 1024) next = .host next ∧
      permitted s (s.ctx c).master .fetch (.host next) = true ∧ fnLive s (s.ctx c).fn = true))

/-- Context `c` has ended a step of one command and goes on at `next` with these COND bits; a hosted program reads its next command. -/
def GoesOn (s u : State) (c next cond : Nat) : Prop :=
  (u.ctx c).position = BitVec.ofNat 64 next ∧ (u.ctx c).ordinal = (s.ctx c).ordinal + 1 ∧ (u.ctx c).cond = BitVec.ofNat 4 cond ∧
  (u.ctx c).running = false ∧ (u.ctx c).cmds = [] ∧ (u.ctx c).state = 2 ∧
  ((s.ctx c).kind = 1 → (u.ctx c).fetching = some (BitVec.ofNat 64 next) ∧ Sends s u (.hostRead (s.ctx c).fn next 32))

/-- A step of the one command `cmd` has ended normally: the program ends without FOLLOW, and goes on at `next` with it (04 R126, R140). -/
def Finished (s u : State) (c : Nat) (cmd : BitVec 256) (next cond : Nat) : Prop :=
  (cFollow cmd = false → Ended s u c 0 (s.ctx c).ordinal) ∧ (cFollow cmd = true → MayGoOn s c next → GoesOn s u c next cond)

/-- A step of `cmd` commits: its record comes before its first operation (05 R178). -/
def commits (s : State) (c : Nat) (cmd : BitVec 256) : Bool := cFence cmd || !repeatable s (c / 1024) cmd

/-- A command carries IDA in an entry of kind 3 only (04 R134). -/
def idaFits (x : Ctx) (cmd : BitVec 256) : Bool := !cIda cmd || x.kind == 3

/-- Context `c` begins its next step, which is the one command `cmd` at `pos`: from a readable word, within its budget, with no PAUSE left to
honour, with the host memory it needs, and with no record that must first become durable in a camp (04 R128, R142, R163, R166, 05 R178,
11 R387). -/
def beginsAlone (s : State) (c : Nat) (pos : W64) (cmd : BitVec 256) : Bool :=
  stepReady s c && decide (nextChain s (s.ctx c) = (0, [(pos, cmd)])) && !libraryUncorr s c [pos] && decide ((s.ctx c).ordinal < (s.ctx c).budget) &&
    (!cPause cmd || (s.ctx c).resumed) && (!needsHost s (s.ctx c) (c / 1024) [cmd] || fnLive s (s.ctx c).fn) &&
    (!commits s c cmd || !campWaits s)

/-- Context `c` is in a step of the one command `cmd` at `pos` that waits for its operation, within its budget. -/
def waitsIn (s : State) (c : Nat) (pos : W64) (cmd : BitVec 256) : Bool :=
  stepOpen (s.ctx c) && (s.ctx c).cmds == [cmd] && (s.ctx c).poss == [pos] && (s.ctx c).fetching.isNone &&
    decide ((s.ctx c).ordinal < (s.ctx c).budget) && (!cFence cmd || !campWaits s)

/-! ## Isquin instructions (06) -/

/-- The command that runs an instruction with this opcode on core `k` (06 R224). -/
def isqRowOf (op k : Nat) : Instr :=
  match op with
  | 0x01 => .mov k
  | 0x02 => .movsx k
  | 0x03 => .movzx k
  | 0x04 => .lea k
  | 0x10 => .add k
  | 0x11 => .sub k
  | 0x12 => .neg k
  | 0x13 => .abs k
  | 0x14 => .mul k
  | 0x15 => .mulhs k
  | 0x16 => .mulhu k
  | 0x17 => .divs k
  | 0x18 => .divu k
  | 0x19 => .rems k
  | 0x1A => .remu k
  | 0x20 => .and k
  | 0x21 => .or k
  | 0x22 => .xor k
  | 0x23 => .not k
  | 0x24 => .shl k
  | 0x25 => .shr k
  | 0x26 => .sar k
  | 0x27 => .rol k
  | 0x28 => .ror k
  | 0x30 => .mac k
  | 0x31 => .msu k
  | 0x32 => .macu k
  | 0x33 => .acx k
  | 0x34 => .pand k
  | 0x35 => .por k
  | 0x36 => .pxor k
  | 0x37 => .pandn k
  | 0x38 => .cmpeq k
  | 0x39 => .cmpne k
  | 0x3A => .cmplt k
  | 0x3B => .cmple k
  | 0x3C => .cmplo k
  | 0x3D => .cmpls k
  | 0x3E => .tst k
  | 0x40 => .bra k
  | 0x41 => .jmp k
  | 0x42 => .brl k
  | 0x44 => .ret k
  | 0x45 => .dbnz k
  | 0x48 => .cbeq k
  | 0x49 => .cbne k
  | 0x4A => .cblt k
  | 0x4B => .cble k
  | 0x4C => .cbgt k
  | 0x4D => .cbge k
  | 0x4E => .cblo k
  | 0x4F => .cbls k
  | 0x50 => .cbhi k
  | 0x51 => .cbhs k
  | 0x60 => .repC k
  | 0x61 => .repN k
  | 0x62 => .trap k
  | 0x63 => .reti k
  | 0x64 => .ei k
  | 0x65 => .di k
  | 0x66 => .sleep k
  | 0x67 => .cwait k
  | 0x68 => .cret k
  | _ => .isqNop k

/-- Core `k` stands before instruction `i` at its PC, outside a repeat, and the guard of `i` holds (06 R208, R214). -/
def isqAt (s : State) (k : Nat) (i : Insn) : Prop :=
  atInsn s k = true ∧ (s.core k).repLeft = 0 ∧ (s.core k).decodeAt k (s.core k).pc = .ok i ∧ (s.core k).guardOk i = true

/-- The instructions that compute operand 1 from the others (06 R217, R224). -/
def computes (op : Nat) : Bool :=
  [0x01, 0x02, 0x03, 0x10, 0x11, 0x12, 0x13, 0x14, 0x15, 0x16, 0x17, 0x18, 0x19, 0x1A, 0x20, 0x21, 0x22, 0x23, 0x24, 0x25, 0x26, 0x27,
   0x28, 0x34, 0x35, 0x36, 0x37, 0x38, 0x39, 0x3A, 0x3B, 0x3C, 0x3D, 0x3E].contains op

def divides (op : Nat) : Bool := decide (0x17 ≤ op ∧ op ≤ 0x1A)

/-- Their results and predicate outputs at `w` bits, with CCR.DZT clear (06 R216, R217, R224). -/
def isqResult (op w a b : Nat) : Nat × Bool :=
  match op with
  | 0x02 => (low 32 (sval w a), false)
  | 0x10 => ((a + b) % 2 ^ w, decide (2 ^ w ≤ a + b))
  | 0x11 => (low w ((a : Int) - b), decide (a < b))
  | 0x12 => (low w (-(sval w a)), a == 2 ^ (w - 1))
  | 0x13 => (low w (sval w a).natAbs, a == 2 ^ (w - 1))
  | 0x14 => (low w (sval w a * sval w b), !fits w (sval w a * sval w b))
  | 0x15 => (low w (sval w a * sval w b / ((2 ^ w : Nat) : Int)), false)
  | 0x16 => (a * b / 2 ^ w % 2 ^ w, false)
  | 0x17 =>
    if b = 0 then (0, true)
    else if a = 2 ^ (w - 1) ∧ sval w b = -1 then (a, true) else (low w (Int.tdiv (sval w a) (sval w b)), false)
  | 0x18 => if b = 0 then (0, true) else (a / b, false)
  | 0x19 =>
    if b = 0 then (a, true)
    else if a = 2 ^ (w - 1) ∧ sval w b = -1 then (0, true) else (low w (Int.tmod (sval w a) (sval w b)), false)
  | 0x1A => if b = 0 then (a, true) else (a % b, false)
  | 0x20 | 0x34 => (a &&& b, false)
  | 0x21 | 0x35 => (a ||| b, false)
  | 0x22 | 0x36 => (a ^^^ b, false)
  | 0x23 => (2 ^ w - 1 - a % 2 ^ w, false)
  | 0x24 => (if w ≤ b then 0 else a * 2 ^ b % 2 ^ w, false)
  | 0x25 => (if w ≤ b then 0 else a / 2 ^ b, false)
  | 0x26 => (low w (sval w a / ((2 ^ min b w : Nat) : Int)), false)
  | 0x27 => ((a * 2 ^ (b % w) + a / 2 ^ (w - b % w)) % 2 ^ w, false)
  | 0x28 => ((a / 2 ^ (b % w) + a * 2 ^ (w - b % w)) % 2 ^ w, false)
  | 0x37 => (a &&& (1 - b), false)
  | 0x38 => (b2n (a == b), false)
  | 0x39 => (b2n (a != b), false)
  | 0x3A => (b2n (decide (sval w a < sval w b)), false)
  | 0x3B => (b2n (decide (sval w a ≤ sval w b)), false)
  | 0x3C => (b2n (decide (a < b)), false)
  | 0x3D => (b2n (decide (a ≤ b)), false)
  | 0x3E => (b2n ((a &&& b) != 0), false)
  | _ => (a, false)

/-- Their cycles before those of operands and accesses (06 R225). -/
def isqBase (op sz : Nat) : Nat :=
  if divides op then (if sz = 0 then 6 else if sz = 1 then 10 else 18)
  else if op = 0x14 ∨ op = 0x15 ∨ op = 0x16 ∨ op = 0x33 then 2 else 1

/-- The operands of `i` are located and read, none of its accesses traps or waits, and all are granted: the bank after the address updates, the
located operands, the accesses, the same as they are granted, the values, and the state after the reads (06 R205, R212, R227). -/
structure Operands (s : State) (k : Nat) (i : Insn) (rd wr : Nat → Bool) (b : RegBank) (ls : List Located) (l m : List Acs) (vs : List Nat)
    (s1 : State) : Prop where
  located : locateAll (nextPc (s.core k).pc i) (s.core k).bank i.ops = (b, ls)
  accesses : acsList rd wr 0 ls = l
  traps : accessesTrap s k l = none
  waits : waitsFor s k l = none
  values : ∃ t, granted s k l = some (m, t) ∧ readOpnds k b rd 0 ls t = (vs, s1)

/-- A result in operand 1: the bank with it in a register, and the state with it in memory (06 R211, R212). -/
def destReg (b : RegBank) (ls : List Located) (v : Nat) : RegBank :=
  match ls with
  | (o, none) :: _ => setRegOperand b o v
  | _ => b
def destMem (u : State) (k : Nat) (m : List Acs) (ls : List Located) (v : Nat) : State :=
  match ls, m.find? (·.wr) with
  | (o, some _) :: _, some q => acsWrite u k q (v % 2 ^ (8 * o.size))
  | _, _ => u

/-- Core `k` of `s` with this bank and PC, some cycles later. -/
def steps (s : State) (k : Nat) (b : RegBank) (pc : W32) (cycles : Nat) : State :=
  s.setCore k { (s.core k).setBank b with pc := pc, cc := (s.core k).cc + cycles }

/-- Cycles of an instruction: its own, those of its operands' modes and of its accesses (06 R225). -/
def isqCycles (s : State) (k : Nat) (i : Insn) (l : List Acs) (base : Nat) : Nat :=
  base + (i.ops.map modeCycles).sum + acsCycles (s.core k) k l

/-- Core `k` of `u` has taken trap `t` at `s`, saving `ret`: it continues at the vector with its cause and address, under a frame of 8 bytes,
or halts with a double fault where the frame does not fit or a fast handler is too deep (06 R226-R229, R234). -/
def Trapped (s u : State) (k : Nat) (t : Trp) (ret : W32) : Prop :=
  let c := s.core k
  let d := u.core k
  let g := c.bank.getG 0 - 8
  (tooDeep c = true ∨ frameFits g.toNat = false ∨ g.toNat % 4 ≠ 0 → d.halt = 2) ∧
  (tooDeep c = false → frameFits g.toNat = true → g.toNat % 4 = 0 → c.badAt 2 (vectorOf t.1).toNat = false →
    d.pc = vectorOf t.1 ∧ d.trapCause = BitVec.ofNat 32 t.1 ∧ d.trapAddr = t.2 ∧ d.bank.getG 0 = g ∧ d.halt = 0 ∧
    d.csr = (if c.isFast then c.csr + 0x10 else c.csr) ∧ d.repLeft = 0 ∧
    (if g.toNat < 0x8000 then tread 0 d.x g.toNat 8 else tread 0 d.y (g.toNat - 0x8000) 8) =
      leBytes 4 (csrImage c).toNat ++ leBytes 4 ret.toNat)

/-! ## Mailboxes (08) -/

/-- Source `n` is latched, where it is enabled (08 R292). -/
def Latched (s u : State) (n : Nat) : Prop :=
  srcCfg s F.IC_SRC_CFG_ENABLE n ≠ 0 → (u.src n).pending = true ∧ (u.src n).count = min ((s.src n).count + 1) 255

/-- A mailbox has been emptied, taken or cleared, and its notice goes back to its sender as R286 and R287 say. -/
def Returned (s u : State) (t : Bool) (n : Nat) (aborted : Bool) : Prop :=
  let b := s.mbox t n
  u.mbox t n = { full := false, serial := b.serial, agent := 0x3F, notice := 0 } ∧
  (∀ t' n', (t', n') ≠ (t, n) → u.mbox t' n' = s.mbox t' n') ∧ u.regs = s.regs ∧
  (b.agent ≤ 33 → agentGen s b.agent = noticeGen b.notice →
    ((retQueue s b.agent).length < 16 →
      (∃ e, retQueue u b.agent = retQueue s b.agent ++ [e] ∧ e.tenant = t ∧ e.aborted = aborted ∧ e.number = n ∧
        ∀ i, i < 128 → e.notice.getLsbD i = (b.notice.getLsbD i || (aborted && i == 127))) ∧
      (b.agent < 32 → Latched s u (b.agent / 4 * 16 + 1 + b.agent % 4)) ∧ (b.agent = 32 → Latched s u 192)) ∧
    (16 ≤ (retQueue s b.agent).length → u.mail.ret = s.mail.ret ∧ u.mail.lost.contains b.agent = true)) ∧
  (33 < b.agent ∨ agentGen s b.agent ≠ noticeGen b.notice → u.mail.ret = s.mail.ret ∧ u.mail.lost = s.mail.lost)

/-! ## The lantern (09) -/

/-- The device is out of reset: trailhead runs, or has ended with or without an image (12 R415, R419, 09 R307). -/
def isUp (s : State) : Prop := s.trust.phase = 1 ∨ s.trust.phase = 2 ∨ s.trust.phase = 4

/-- The lantern has applied a phase error of `e` ps of its selected source (09 R313, R314): a step waits for the next second where the
source was just selected outside LOCKED with more than 1,000 ns, or at the fourth such error in a row since LOCKED; otherwise the loop
slews within 10 ppm. Eight errors within 50 ns lock it, one beyond ends the lock. -/
def Disciplined (s u : State) (e : Int) (partner : Bool) : Prop :=
  let l := s.lant
  let errs := (e.natAbs :: l.errors).take 8
  let big := decide (1000000 < e.natAbs)
  let row := if big = true ∧ (0 < l.bigErrors ∨ l.state = 2) then l.bigErrors + 1 else 0
  let step := (l.fresh && l.state != 2 && big) || decide (4 ≤ row)
  u.lant.errors = errs ∧ u.lant.fresh = false ∧ u.lant.time = l.time ∧
  rf u R.LANT_PHASE F.LANT_PHASE_PHASE = unsigned 32 (satSigned 32 e) ∧
  u.lant.state =
    (if l.refLost then 3 else if l.state = 2 then (if 50000 < e.natAbs then 1 else 2)
     else if errs.length = 8 ∧ errs.all (· ≤ 50000) then 2 else 1) ∧
  u.lant.pendingStep = (if step then some (e, partner) else l.pendingStep) ∧
  (step = false → u.lant.state ≠ 3 → ∃ x : Int, x.natAbs ≤ 10000000 ∧ rf u R.LANT_PHASE F.LANT_PHASE_FREQ = unsigned 32 x) ∧
  (step = true ∨ u.lant.state = 3 → rf u R.LANT_PHASE F.LANT_PHASE_FREQ = rf s R.LANT_PHASE F.LANT_PHASE_FREQ)

/-- Lantern time has jumped by `x` units of 2^-40 ns (09 R306, R313, R316, R347): the frame lock is lost, STEPPED is set and source 520
gets an edge. -/
def Stepped (s u : State) (x : Int) : Prop :=
  u.lant.time = LTime.of ((s.lant.time.units : Int) + x).toNat ∧ u.lant.coreLocked = false ∧ u.lant.goodFrames = 0 ∧
  rf u R.LANT_FAULT F.LANT_FAULT_STEPPED = 1 ∧ Latched s u 520

/-! ## The camp (11) -/

/-- The messages sent and not yet acknowledged, and those that wait for room in the retry buffer (11 R384). -/
def ploetWaiting (s : State) : List Msg := s.camp.unacked.flatMap (·.2) ++ s.camp.txQueue

/-- A RECORD message carries `n` blocks of this device's recovery area from block `k` on (11 R383, R386). -/
def Mirrors (s u : State) (n k : Nat) : Prop :=
  ∃ m ∈ ploetWaiting u, m.type = 1 ∧ m.arg = BitVec.ofNat 64 (k * 64) ∧ m.body.length = 64 * n ∧
    ∀ i, i < n → (m.body.drop (64 * i)).take 64 = leBytes 64 (recBlock s (k + i)).toNat

/-- A resync has begun: RESYNC_START, every live record and RESYNC_END are sent, and the camp is SYNCING (11 R390). -/
def Resyncs (s u : State) : Prop :=
  u.camp.state = 2 ∧ u.camp.partnerEnd = false ∧ (∃ m ∈ ploetWaiting u, m.type = 6 ∧ m.mseq = (s.camp.mseq + 1) % 2 ^ 32) ∧
  (∃ m ∈ ploetWaiting u, m.type = 7 ∧ u.camp.ownEnd = some m.mseq) ∧
  (∀ e ∈ s.sqs, e.2.state ≠ 0 → Mirrors s u 2 (sqBlock e.2.num) ∧ (∀ i, i < 128 → Mirrors s u 1 (fnBlock (e.1 / 256) + i)) ∧
    ∀ k, journalBlock e.2.num 0 ≤ k → k < journalBlock e.2.num 0 + 1024 → journalHere (recBlock s k) = true → Mirrors s u 1 k) ∧
  (∀ e ∈ s.cqs, e.2.state ≠ 0 → Mirrors s u 1 (cqBlock e.2.num) ∧ ∀ i, i < 128 → Mirrors s u 1 (fnBlock (e.1 / 256) + i)) ∧
  (∀ c, c < 8192 → bitsOf (recBlock s (progBlock c)) 71 64 ≠ 0 → Mirrors s u 1 (progBlock c)) ∧
  (∀ n, n < 1024 → (recBlock s (peerBlock n)).getLsbD 0 = true → ∀ i, i < 128 → Mirrors s u 1 (peerBlock n + i))

/-- The device is FENCED: every general port is down and CAMP_ARB_OUT is low (11 R392, R394). -/
def Fenced (u : State) : Prop :=
  u.camp.state = 6 ∧ u.camp.arbOut = 0 ∧ ∀ p, p < 24 ∨ 32 ≤ p ∧ p < 96 → (u.port p).link = 0

/-! ## Power domains and resets (13) -/

/-- Entry of domain `d` into bivouac is permitted (13 R434). -/
def MayEnter (s : State) (d : Nat) : Prop :=
  (d < 8 ∧ pitchCtxs s d = [] ∧ (∀ e ∈ s.sqs, e.2.state ≠ 0 → e.2.home ≠ d) ∧
    ∀ k, k < 4 → (s.core (4 * d + k)).sleeping = true ∧ (s.core (4 * d + k)).calls = []) ∨
  (8 ≤ d ∧ d < 32 ∧ (∀ p ∈ quadPorts s (d - 8), (s.port p).link = 0) ∧ inTest s (d - 8) = false) ∨
  (32 ≤ d ∧ d < 44 ∧ recovChannel s (d - 32) = false ∧ channelStaked s (d - 32) false = false ∧ patRunning s (d - 32) = false) ∨
  (d = 44 ∧ campOn s = false) ∨ (d = 46 ∧ fieldSteps s = []) ∨ (d = 48 ∧ (s.core 32).sleeping = true)

/-- Fields of PWR_DOMAIN[d]: REQ, STATE and RESULT. -/
def Domain (u : State) (d req state result : Nat) : Prop :=
  domField u F.PWR_DOMAIN_REQ d = req ∧ domState u d = state ∧ domField u F.PWR_DOMAIN_RESULT d = result

/-- What a reset command does: the device restarts from `b`, trailhead leaves it as `u`, and the edges are those since `b`. -/
def Restarts (c : Instr) (s : State) (P : State → Prop) : Prop := ∃ b u, exec c s = .next (commit b u) ∧ P u

/-! ## Register writes (00 R13) -/

/-- Management registers whose write is more than a write of their fields: their own rows, and the registers of 02, 08, 09, 10 and 13
whose rules say what a write does. -/
def ownEffect : List RegD :=
  [R.SCHED_CTRL, R.LEASE_CFG, R.PITCH_CTX_SELECT, R.RECOV_READ_SELECT, R.ISQ_CTRL, R.RANGER_CTRL, R.BGT_CTRL, R.CANOPY_WINDOW_LO,
   R.CANOPY_WINDOW_HI, R.CANOPY_DRAIN, R.IC_SRC_CFG, R.IC_SRC_STATE, R.TNM_CLEAR, R.LANT_CFG, R.LANT_SNAP, R.LANT_SET_CTRL,
   R.CAL_COMMIT, R.METER_RING_CFG, R.METER_CONSUMER, R.METER_LIVE_SELECT, R.QUAD_TEST, R.LANE_PRBS_CTRL, R.FP_PINS, R.MGMT_ETH_CTRL,
   R.DDR5_PAT_CTRL, R.CAMP_CMD, R.TH_OTP_ARM, R.TH_OTP_CMD, R.TH_FLASH_CTRL, R.TH_ATTEST_CTRL, R.PWR_DOMAIN, R.PWR_RESET]

/-- The device as a write of the management function's register at `off` finds it: its word has crossed the guylines on its way. -/
def arrived (s : State) (off : Nat) (gl : EccResult) : State := (regCross (guyPort s (portOfBar s .mgmt) 1) .mgmt off 0 gl).1

/-- The word of a write to `off` is not lost on its way (10 R371). -/
def arrives (s : State) (off : Nat) (gl : EccResult) : Bool := !(regCross (guyPort s (portOfBar s .mgmt) 1) .mgmt off 0 gl).2

/-- A write of management register `d` at index `i` sets its fields by their access codes and does nothing else. -/
def plainReg (s : State) (d : RegD) (i v : Nat) : Bool :=
  !(ownEffect.any fun x => x.off == d.off) && !outputDenied s d i v

/-! ## Stopping and starting (01 R22, 13 R438, R444, R446) -/

/-- The commands that start a stopped device, or take its power away. -/
def isReset (c : Instr) : Bool :=
  match c with
  | .powerOnReset _ _ | .coldReset _ _ | .pwrgoodFall => true
  | _ => false

/-- A device that has lost its lantern and always-on domain, and for which no reset is waiting. -/
def halted (s : State) : Bool := s.trust.phase == 3 && s.pending.all fun c => !isReset c

/-- The same device but for the commands that wait. -/
def unqueued (s : State) : State := { s with pending := [] }

/-! ## Memory (07 R245, R261, 06 R200, 12 R427) -/

/-- The canonical form of the byte memories: rising addresses and no byte that equals what an unlisted one reads as. -/
def Memory.wf (m : Mem) : Bool := Tbl.ok (fun _ => (0 : Byte)) m.sp && Tbl.ok (fun _ => (0 : Byte)) m.ddr

end Sys2Proof.Machine
end

