-- ==== Sys2Proof/Certificates/Slice0/Obligations.lean ====
section
/-! DEFINITION. The statements for the provers, by chapter of the spec. -/
open Sys2Proof Sys2Proof.Machine

/-- The block takes the command at the front of its queue and runs it with the queue's rest (log entry 1). -/
def Obligations.StepRunsTheFrontCommand : Prop :=
  ∀ (c : Instr) (rest : List Instr) (s : State), step { s with pending := c :: rest } = exec c { s with pending := rest }

/-- The model's choice (log entry 1): on an empty queue a running device passes one core cycle of its frame, the last cycle of which lasts
until FRAME_START; what its timetable holds in the cycle that ends happens. Without a schedule and with nothing under way only the cycle
changes, and in a device that does not run nothing does. Commands that reach the device in one cycle (log entry 1) are taken by what
decides them: those that stand whole keep each its place behind all of lower rank, and none is lost; a register write clears its W1C bits
before the hardware sets any, and sets its others after, whichever came first (00 R13). -/
def Obligations.CommandsTakeTheirOrderAndIdleCyclesPass : Prop :=
  (∀ (s : State), s.pending = [] →
     (running s = true → step s = .next (reach s (min (s.sched.cycle + 1) 2999))) ∧
     (running s = true → activeBank s = none → s.sched.flights = [] → s.sched.fetches = [] → s.sched.cycle < 2999 →
       step s = .next { s with sched := { s.sched with cycle := s.sched.cycle + 1 } }) ∧
     (running s = false → step s = .next s)) ∧
  ((∀ (s : State) (cs : List Instr), (∀ c, c ∈ cs → cycleParts s c = [(cycleRank c, c)]) →
     (s.sameCycle cs).pending = s.pending ++ cycleOrder s cs ∧ only [.pending] s (s.sameCycle cs) ∧ (cycleOrder s cs).Perm cs ∧
     (cycleOrder s cs).Pairwise fun a b => (cycleRank a).1 < (cycleRank b).1 ∨
       ((cycleRank a).1 = (cycleRank b).1 ∧ (cycleRank a).2 ≤ (cycleRank b).2)) ∧
   ∀ (s : State) (off size : Nat) (v : W64) (gl : EccResult) (h : Instr) (d : RegD) (i j : Nat),
     findReg off allMgmt = some (d, i, j) → accMask d .w1c ≠ 0 → (cycleRank h).1 = 7 →
     ∃ v1 v2 : W64, v1.toNat &&& accMask d .w1c = v.toNat &&& accMask d .w1c ∧ v2.toNat &&& accMask d .w1c = 0 ∧
       v2.toNat &&& accMask d .rw = v.toNat &&& accMask d .rw ∧ v1.toNat &&& accMask d .w1s = 0 ∧
       ∀ l ∈ [[Instr.registerWrite .mgmt off size ⟨v, gl⟩, h], [h, Instr.registerWrite .mgmt off size ⟨v, gl⟩]],
         cycleOrder s l = [.registerWrite .mgmt off size ⟨v1, gl⟩, h, .registerWrite .mgmt off size ⟨v2, gl⟩])

/-- No command stops the block: each one answers a next state in every state, and changes no part of the state but those that the table
`touches` gives it; no command touches the queue. -/
def Obligations.EveryCommandAnswersWithinItsParts : Prop :=
  ∀ (c : Instr) (s : State), ∃ t, exec c s = .next t ∧ only (touches c) s t ∧ t.pending = s.pending

/-- 01 R28, 03 R109, 08 R292, 13 R435: the edges of a change latch sources and send messages, and change nothing else: of a source its
PENDING and COUNT, of a function its pending bits, of a port its link's way out of L1, and the power request of the ranger core. What was
sent stays sent. 01 R28, 08 R292: a fault summary bit that rises latches an edge on its source 256 + n, where the source is enabled. -/
def Obligations.EdgesLatchSourcesAndNothingElse : Prop :=
  (∀ (s t : State),
     (∀ p, p ∉ edgeParts → same p t (commit s t)) ∧
     (∀ n, { (commit s t).src n with pending := (t.src n).pending, count := (t.src n).count } = t.src n) ∧
     (∀ n, (t.src n).pending = true → ((commit s t).src n).pending = true) ∧ (commit s t).intc.stack = t.intc.stack ∧
     (∀ f, { (commit s t).fn f with pba := (t.fn f).pba } = t.fn f) ∧
     (∀ d, d ≠ 48 → domState (commit s t) d = domState t d) ∧
     (∃ l, (commit s t).out = t.out ++ l)) ∧
  (∀ (s t : State) (n : Nat), n < 13 → faultBit s n = false → faultBit t n = true →
     srcCfg t F.IC_SRC_CFG_ENABLE (256 + n) ≠ 0 → ((commit s t).src (256 + n)).pending = true)

/-- 01 R22, 13 R438, R444: a device that has lost its lantern and always-on domain does nothing more but to be reset; before a reset ends,
and until trailhead hands over, only resets and the return of the domain act. (The model's choices in it: log entry 10.) -/
def Obligations.StoppedDeviceIgnoresCommands : Prop :=
  ∀ (c : Instr) (s : State),
    (s.trust.phase = 3 → isReset c = false → Ignored c s) ∧
    (s.trust.phase = 0 → isReset c = false → (∀ d ms, c ≠ .domainReturn d ms) → Ignored c s)

/-- 01 R22: "The device stops". A stopped device with no reset in its queue stays as it is through every step, but for the queue, which
only runs empty. -/
def Obligations.StoppedDeviceStaysStopped : Prop :=
  ∀ (s s' : State), halted s = true → step s = .next s' →
    halted s' = true ∧ unqueued s' = unqueued s ∧ s'.pending = s.pending.tail

/-- 07 R245, R261: the byte memories keep their canonical form, rising addresses and no byte listed that equals what an unlisted one reads
as, through every step of every command. (The model's choices in it: log entry 4.) -/
def Obligations.ByteMemoriesStayCanonical : Prop :=
  ∀ (s s' : State), Memory.wf s.mem = true → step s = .next s' → Memory.wf s'.mem = true

/-- The device after reset has its memories in canonical form, waits for no command, is held in reset, and every register reads the value
of its Reset column; a chosen value is named in log entry 5. -/
def Obligations.ResetStateIsCanonical : Prop :=
  Memory.wf State.reset.mem = true ∧ State.reset.pending = [] ∧ State.reset.trust.phase = 0 ∧
    (∀ (d : RegD) (i j p : Nat), rg State.reset d i j p = (resetVal d i j).toNat) ∧
    mgmtRead State.reset R.GLOBAL_ID 0 0 = 0x96404E00 ∧ mgmtRead State.reset R.GLOBAL_FRAME_COUNT 0 0 = 0 ∧
    mgmtRead State.reset R.LEASE_CFG 0 0 = 0x80000000

/-- 00 R12, 01 R27: an access of unsupported size or alignment completes, returns zero or is discarded, and sets BAD_ACCESS; an aligned
access of 4 or 8 bytes to no register does the same and sets UNMAPPED. -/
def Obligations.StrayAccessesAreFlaggedAndHarmless : Prop :=
  ∀ (s : State) (bar : Bar) (off size : Nat) (dir : Dir) (v : W64), (s.trust.phase = 1 ∨ s.trust.phase = 2) →
    reachesBar s bar off size = true →
    (accessKind s bar off size = .bad → Effect (.badAccess bar off size dir v) s fun u =>
      u = { wf s R.GLOBAL_FAULT_SUMMARY F.GLOBAL_FAULT_SUMMARY_BAD_ACCESS 1 with
            busData := if dir = .read then 0 else s.busData }) ∧
    (accessKind s bar off size = .unmapped → Effect (.unmappedAccess bar off size dir v) s fun u =>
      u = { wf s R.GLOBAL_FAULT_SUMMARY F.GLOBAL_FAULT_SUMMARY_UNMAPPED 1 with
            busData := if dir = .read then 0 else s.busData }) ∧
    (regAt s bar off size = none → bankAt s bar off size = none →
      accessKind s bar off size =
        if ∃ i, i < size ∧ holdsReg s bar (off + i) = true then .bad
        else if (size = 4 ∨ size = 8) ∧ off % size = 0 then .unmapped else .bad)

/-- 00 R13: a write of a management register that has no rule of its own sets its RW bits, clears the W1C bits and sets the W1S bits where
a one is written, sets LK bits until they are locked, and leaves every other bit and every other register as it was. Its word crosses the
guylines of the host port and of the register's block, which change in nothing but their own occupancy and GL_STATUS. -/
def Obligations.RegisterWritesFollowTheAccessCodes : Prop :=
  ∀ (s : State) (off size : Nat) (v : W64) (gl : EccResult) (d : RegD) (i j : Nat), (s.trust.phase = 1 ∨ s.trust.phase = 2) →
    reachesBar s .mgmt off size = true → arrives s off gl = true → bankAt (arrived s off gl) .mgmt off size = none →
    regAt (arrived s off gl) .mgmt off size = some (d, i, j, 0) →
    d.page = .mgmt → d.width ≤ 64 → plainReg (arrived s off gl) d i (v.toNat % 2 ^ d.width) = true →
    Crossed s (arrived s off gl) ∧
    Effect (.registerWrite .mgmt off size ⟨v, gl⟩) s fun u =>
      u = wr (arrived s off gl) d (rg u d i j) i j ∧
      ∀ b, b < d.width → (rg u d i j).testBit b =
        if (accMask d .w1s).testBit b && v.toNat.testBit b then true
        else if (accMask d .w1c).testBit b && v.toNat.testBit b then false
        else if (accMask d .rw).testBit b || (!locked (arrived s off gl) d i j && (accMask d .lk).testBit b) then v.toNat.testBit b
        else (rg (arrived s off gl) d i j).testBit b

/-- 02 R29, 01 R21, 13 R441: in a running device FRAME_START moves the frame count on by one and the cycle back to 0, the heartbeat
toggles in frames whose count is a multiple of 500, and an active bank executes timetable frame (n - S) mod P. -/
def Obligations.FrameStartOpensTheNextFrame : Prop :=
  ∀ (s : State) (span : Nat) (upsets : List Upset), running s = true →
    Effect (.frameStart ⟨span, upsets⟩) s fun u =>
      u.sched.frame = s.sched.frame + 1 ∧ u.sched.cycle = 0 ∧
      u.power.heartbeat = (if (s.sched.frame + 1).toNat % 500 = 0 then !s.power.heartbeat else s.power.heartbeat) ∧
      ∀ b, activeBank u = some b →
        timetableFrame u (bankOf u b) = ((s.sched.frame + 1).toNat - rg s R.SCHED_LAST_SWAP) % (bankOf u b).period

/-- 02 R77: a write of LEASE_CFG[n] is read back at once, and the register in force changes only at the next FRAME_START, where it takes
the value that was read; class 0 reads as 0x80000000 and ignores writes. 02 R65, R66: a write to a bank that is not active is stored,
clears the bank's CHECKED flag and cancels a swap pending to it; a write to the active bank is discarded and sets BANK_WRITE_DENIED. 02
R66, R68: CHECK starts a check of a bank that is not active while none runs, and a check that completes leaves its code, and the CHECKED
flag on a pass alone. SWAP_ARM without CHECK arms a swap to a checked bank that is not active, for the frame asked but not before two
frames from now, and is refused with result 3 or 4 otherwise, leaving a pending swap as it is. (The model's choices in it: log entries 13,
95, 96 and 106.) -/
def Obligations.LeasesAndBanksChangeUnderTheirRules : Prop :=
  ((∀ (s : State) (n : Nat) (v : W32), running s = true → mgmtAnswers s = true → 1 ≤ n → n < 256 →
     Effect (.leaseCfgWrite n v) s fun u =>
       leaseCfgRead u n = v.toNat / 2 ^ 31 * 2 ^ 31 + v.toNat / 2 ^ 16 % 2 ^ 12 * 2 ^ 16 ∧ u.regs = s.regs ∧
       (∀ m, m ≠ n → leaseCfgRead u m = leaseCfgRead s m) ∧
       u = s.withSched { s.sched with leasePending := u.sched.leasePending }) ∧
   (∀ (s : State) (v : W32), running s = true →
     Effect (.leaseCfgWrite 0 v) s (fun u => u = s) ∧ leaseCfgRead s 0 = 0x80000000) ∧
   (∀ (s : State), (s.sched.leasePending.map (·.1)).Nodup → (frameLeases s).sched.leasePending = [] ∧
     ∀ n, 1 ≤ n → n < 256 → rg (frameLeases s) R.LEASE_CFG n = leaseCfgRead s n)) ∧
  (∀ (s : State) (b : Bool) (off size : Nat) (v : W64), running s = true → mgmtAnswers s = true → bankReg off = some size →
     (activeBank s = some b → Effect (.bankWrite b off size v) s fun u =>
       u = wf s R.SCHED_STATUS F.SCHED_STATUS_BANK_WRITE_DENIED 1) ∧
     (activeBank s ≠ some b → Effect (.bankWrite b off size v) s fun u =>
       bankOf u b = (bankOf s b).write off size v.toNat ∧ bankOf u (!b) = bankOf s (!b) ∧
       rf u R.SCHED_STATUS (checkedField b) = 0 ∧ activeBank u = activeBank s ∧
       (∀ f late, s.sched.swap = some (b, f, late) → u.sched.swap = none ∧ rf u R.SCHED_STATUS F.SCHED_STATUS_SWAP_RESULT = 3) ∧
       (∀ arm, s.sched.check = some (b, arm) → u.sched.check = none ∧ rf u R.SCHED_STATUS F.SCHED_STATUS_CHECK_RESULT = 12))) ∧
  ((∀ (s : State) (v : W32), running s = true → mgmtAnswers s = true → v.getLsbD 1 = true → v.getLsbD 2 = false → s.sched.check = none →
     activeBank s ≠ some (v.getLsbD 0) →
     Effect (.bankCheck v) s fun u =>
       u.sched.check = some (v.getLsbD 0, false) ∧ rf u R.SCHED_STATUS F.SCHED_STATUS_CHECK_BUSY = 1 ∧
       rf u R.SCHED_CTRL F.SCHED_CTRL_TARGET = v.toNat % 2) ∧
   (∀ (s : State) (b : Bool), running s = true → s.sched.check = some (b, false) →
     Effect .checkComplete s fun u =>
       u.sched.check = none ∧ rf u R.SCHED_STATUS F.SCHED_STATUS_CHECK_BUSY = 0 ∧
       rf u R.SCHED_STATUS F.SCHED_STATUS_CHECK_RESULT = (checkBank s (bankOf s b)).code % 16 ∧
       rf u R.SCHED_STATUS (checkedField b) = (if (checkBank s (bankOf s b)).code = 1 then 1 else 0)) ∧
   (∀ (s : State) (v : W32), running s = true → mgmtAnswers s = true → v.getLsbD 2 = true → v.getLsbD 1 = false →
     (activeBank s = some (v.getLsbD 0) → Effect (.swapArm v) s fun u =>
       u.sched = s.sched ∧ rf u R.SCHED_STATUS F.SCHED_STATUS_SWAP_RESULT = 4) ∧
     (activeBank s ≠ some (v.getLsbD 0) → rb s R.SCHED_STATUS (checkedField (v.getLsbD 0)) = false →
       Effect (.swapArm v) s fun u => u.sched = s.sched ∧ rf u R.SCHED_STATUS F.SCHED_STATUS_SWAP_RESULT = 3) ∧
     (activeBank s ≠ some (v.getLsbD 0) → rb s R.SCHED_STATUS (checkedField (v.getLsbD 0)) = true →
       Effect (.swapArm v) s fun u =>
         rf u R.SCHED_STATUS F.SCHED_STATUS_SWAP_PENDING = 1 ∧
         u.sched.swap = some (v.getLsbD 0,
           if s.sched.frame.toNat + 2 ≤ rg s R.SCHED_SWAP_FRAME then BitVec.ofNat 64 (rg s R.SCHED_SWAP_FRAME)
           else BitVec.ofNat 64 (s.sched.frame.toNat + 2),
           decide (¬ s.sched.frame.toNat + 2 ≤ rg s R.SCHED_SWAP_FRAME)))))

/-- 02 R48, R49, R50, R71: the debt of a channel in service grows by one at every interval. In a slot in which the active list has a
refresh stake of a channel that is ON, that collides with nothing and whose slot nothing has taken, a channel with debt issues one REFsb,
takes one from the debt, takes the slot and opens a window of W cycles; without debt it leaves the stake unused. -/
def Obligations.RefreshDebtGrowsAndIsPaid : Prop :=
  (∀ (s : State) (ch : Nat), running s = true → ddrPresent s ch = true → domOn s (32 + ch) = true →
    Effect (.refreshDebtTick ch) s fun u =>
      u = s.withSched { s.sched with debt := Tbl.set 0 s.sched.debt ch (Tbl.get 0 s.sched.debt ch + 1) }) ∧
  (∀ (s v : State) (ch c k : Nat) (b : Bool) (e : Stake), running s = true → s.sched.cycle ≤ c → c < 3000 → v = reach s c →
    activeBank v = some b → ddrSlotAt c = some k →
    (((bankOf v b).live (timetableFrame v (bankOf v b)) (8 + ch)).find? fun e => e.kind == 4 && e.inst == ch && stakeAt e k) = some e →
    (bankOf v b).collides (timetableFrame v (bankOf v b)) e c = false → domOn v (32 + ch) = true →
    (Tbl.get 0 v.sched.debt ch ≠ 0 → claimed v (absCycle v) 3 ch = false →
      Effect (.refreshStake ch c) s fun u =>
        Tbl.get 0 u.sched.debt ch = Tbl.get 0 v.sched.debt ch - 1 ∧
        Tbl.get 0 u.sched.refreshEnd ch = absCycle v + rf v R.DDR5_INFO F.DDR5_INFO_REFW ch ∧
        claimed u (absCycle v) 3 ch = true ∧ claimed u (nextSlot (absCycle v)) 3 ch = true ∧
        u.out = v.out ++ [.ddrCommand ch 0] ∧ u.regs = v.regs ∧ u.sched.fetches = v.sched.fetches) ∧
    (Tbl.get 0 v.sched.debt ch = 0 → Effect (.refreshStake ch c) s fun u => u = v))

/-- 02 R32, R33, R38, R46, 01 R20: at a stake that one entry of its list alone claims, of a class in use, with its instance ON, which
collides with nothing and of which nothing has been taken, the first owner in line that may use it issues its operation: the stake's
claims are taken, the operation has its effect (`issueOp`), and each stake-cycle it uses is charged. Where the canopy denies the
operation, nothing issues. With no ready owner the stake is unused and nothing changes. (The model's choices in it: log entry 82.) -/
def Obligations.StakeGoesToTheFirstReadyOwner : Prop :=
  ∀ (s v : State) (c kind inst : Nat) (e : Stake) (ready : List Req) (b : Bool),
    running s = true → s.sched.cycle ≤ c → c < 3000 → v = reach s c → activeBank v = some b →
    (bankOf v b).claimants (timetableFrame v (bankOf v b)) kind inst c = [e] → e.kind = kind → kind ≠ 4 → kind < 8 →
    (bankOf v b).collides (timetableFrame v (bankOf v b)) e c = false → leaseOn v e.lease = true → instOn v kind inst = true →
    stakeTaken v e (absCycle v) = false →
    (∀ r, (ready.filterMap (normReq v)).find? (mayUse v e (absCycle v)) = some r →
      ((opChecks v r inst).find? fun x => !permitted v r.master x.1 x.2) = none →
      Effect (.stakeIssue c kind inst ready) s fun u =>
        u = (List.range (opUses (some e) r.op)).foldl
          (fun t _ => mStep (mStake t (meterUnit kind inst) e.lease) (payer t r) e.lease)
          (issueOp (claimStake v e (absCycle v)) r kind inst (absCycle v) (some e)) ∧
        claimed u (absCycle v) kind inst = true ∧ (kind = 2 → claimed u (absCycle v + 6) 16 e.arg = true)) ∧
    (∀ r x, (ready.filterMap (normReq v)).find? (mayUse v e (absCycle v)) = some r →
      ((opChecks v r inst).find? fun x => !permitted v r.master x.1 x.2) = some x →
      Effect (.stakeIssue c kind inst ready) s fun u => u = denyReq v r x.1 x.2) ∧
    ((ready.filterMap (normReq v)).find? (mayUse v e (absCycle v)) = none →
      Effect (.stakeIssue c kind inst ready) s fun u => u = v)

/-- 02 R71, R73, R74: two claims on one instance in one cycle of the active list make the device free-lane-only from the next cycle on: no
bank is active any more. In the cycle itself neither stake issues, and the free lane does not grant the instance. The first such event of
the frame is recorded: for a collision cause 1, its cycle, an instance claimed twice then and the two lowest classes. A fault recorded
before stays. (The model's choices in it: log entries 12 and 95.) -/
def Obligations.CollisionEndsTheSchedule : Prop :=
  (∀ (s : State) (b : Bool) (kind inst t c : Nat), activeBank s = some b → s.sched.cycle ≤ t → t < c → c ≤ 3000 →
    2 ≤ ((bankOf s b).claimants (timetableFrame s (bankOf s b)) kind inst t).length →
    activeBank (reach s c) = none ∧ rf (reach s c) R.SCHED_FAULT F.SCHED_FAULT_CONTRACT = 1) ∧
  (∀ (s v : State) (c kind inst : Nat) (ready : List Req) (b : Bool), running s = true → s.sched.cycle ≤ c → c < 3000 →
    v = reach s c → activeBank v = some b →
    2 ≤ ((bankOf v b).claimants (timetableFrame v (bankOf v b)) kind inst c).length →
    Effect (.stakeIssue c kind inst ready) s (fun u => u = v) ∧ instFree v kind inst (absCycle v) = false) ∧
  ∀ (s : State) (b : Bool) (c : Nat) (e : Event), activeBank s = some b → s.sched.cycle ≤ c → c ≤ 3000 →
    (bankOf s b).firstEvent (timetableFrame s (bankOf s b)) s.sched.cycle c = some e →
    s.sched.cycle ≤ e.cycle ∧ e.cycle < c ∧
    (rf s R.SCHED_FAULT F.SCHED_FAULT_CAUSE ≠ 0 →
      rf (reach s c) R.SCHED_FAULT F.SCHED_FAULT_CAUSE = rf s R.SCHED_FAULT F.SCHED_FAULT_CAUSE ∧
      rg (reach s c) R.SCHED_FAULT_INFO = rg s R.SCHED_FAULT_INFO) ∧
    (rf s R.SCHED_FAULT F.SCHED_FAULT_CAUSE = 0 →
      rf (reach s c) R.SCHED_FAULT F.SCHED_FAULT_CAUSE = e.cause ∧
      rf (reach s c) R.SCHED_FAULT_INFO F.SCHED_FAULT_INFO_FRAME_LOW = s.sched.frame.toNat % 2 ^ 32 ∧
      rf (reach s c) R.SCHED_FAULT_INFO F.SCHED_FAULT_INFO_CYCLE = e.cycle ∧
      (e.cause = 1 → ∃ k i, 2 ≤ ((bankOf s b).claimants (timetableFrame s (bankOf s b)) k i e.cycle).length ∧
        (k ≠ 16 → rf (reach s c) R.SCHED_FAULT_INFO F.SCHED_FAULT_INFO_KIND = k ∧
          rf (reach s c) R.SCHED_FAULT_INFO F.SCHED_FAULT_INFO_INSTANCE = i) ∧
        ∀ x y, (bankOf s b).claimants (timetableFrame s (bankOf s b)) k i e.cycle = [x, y] →
          rf (reach s c) R.SCHED_FAULT_LEASES F.SCHED_FAULT_LEASES_LEASE_A = min x.lease y.lease ∧
          rf (reach s c) R.SCHED_FAULT_LEASES F.SCHED_FAULT_LEASES_LEASE_B = max x.lease y.lease))

/-- 02 R55, R56, R57: on a free instance the free lane grants the first waiting request in the order of ranks that can go: it waits no
longer and the instance is claimed. A bank's port B is granted after its port A (07 R250). On an instance that is not free nobody is
granted and every request waits on, and so on one that none of them can use. 02 R44: a response that arrives in cycle c is held by its
fetch from that cycle on, a DDR5 line with what memory holds of it; the other fetches keep theirs. (The model's choices in it: log entries
80, 97 and 98.) -/
def Obligations.FreeLaneGrantsInOrderAndResponsesLand : Prop :=
  (∀ (s v w : State) (c kind inst : Nat) (reqs : List Req),
     running s = true → s.sched.cycle ≤ c → c < 3000 → v = reach s c →
     w = v.withSched { v.sched with waiting := (v.sched.waiting ++ reqs).filter fun q => (normReq v q).isSome } →
     (∀ q r, kind ≠ 0 → instFree w kind inst (absCycle w) = true → instOn w kind inst = true →
       firstReq (candidates w kind inst) = some (q, r) →
       ((opChecks (w.withSched { w.sched with waiting := w.sched.waiting.erase q }) r inst).find? fun x =>
         !permitted (w.withSched { w.sched with waiting := w.sched.waiting.erase q }) r.master x.1 x.2) = none →
       Effect (.freeLaneGrant c kind inst reqs) s fun u =>
         u.sched.waiting = w.sched.waiting.erase q ∧ claimed u (absCycle w) kind inst = true) ∧
     ((∀ i ∈ grantInsts kind inst, instFree w kind i (absCycle w) = false) →
       Effect (.freeLaneGrant c kind inst reqs) s fun u => u = w) ∧
     (2 ≤ kind → instOn w kind inst = true → candidates w kind inst = [] →
       Effect (.freeLaneGrant c kind inst reqs) s fun u => u = w) ∧
     (∀ q r, kind = 0 → instFree w 0 (inst / 2 * 2) (absCycle w) = true → instOn w 0 (inst / 2 * 2) = true →
       instFree w 0 (inst / 2 * 2 + 1) (absCycle w) = false →
       firstReq (candidates w 0 (inst / 2 * 2)) = some (q, r) →
       ((opChecks (w.withSched { w.sched with waiting := w.sched.waiting.erase q }) r (inst / 2 * 2)).find? fun x =>
         !permitted (w.withSched { w.sched with waiting := w.sched.waiting.erase q }) r.master x.1 x.2) = none →
       Effect (.freeLaneGrant c 0 inst reqs) s fun u =>
         u.sched.waiting = w.sched.waiting.erase q ∧ claimed u (absCycle w) 0 (inst / 2 * 2) = true)) ∧
  (∀ (s v : State) (id c : Nat) (data : List (BitVec 8)) (ecc : EccResult) (words : List (Nat × EccResult)), running s = true →
     s.sched.cycle ≤ c → c < 3000 → v = undrain (settleMisses (reach s c) (absCycle (reach s c))) id →
     Effect (.responseLanded id c data ecc words) s fun u =>
       u.sched.fetches.length = v.sched.fetches.length ∧
       ∀ (i : Nat) (f : Fetch), v.sched.fetches[i]? = some f →
         u.sched.fetches[i]? = some
           (if f.id = id ∧ f.landed = none then
             { f with landed := some (absCycle (reach s c)), data := (match f.line with
                 | some l => leBytes 128 (Nat.xor (leNat (ddrRead v (l * 128) 128)) (flipsAt ecc 0 128))
                 | none => data) }
           else f))

/-- 02 R69, R70, R74: at cycle 0 of its frame an armed swap makes the target bank active from that frame on, with the result it was armed
with, and ends free-lane-only operation and its recorded fault; where the bank's lists of its frame 0 hold no word in error and no invalid
entry (R72), as those of a checked bank do, that is all. (The model's choices in it: log entry 108.) -/
def Obligations.SwapActivatesTheArmedBank : Prop :=
  ∀ (s : State) (b late : Bool) (f : W64), running s = true → s.sched.swap = some (b, f, late) → f.toNat ≤ s.sched.frame.toNat →
    s.sched.cycle = 0 →
    Effect .bankSwap s fun u =>
      (u = swapTo s b late ∨ ∃ n x, n < 24 ∧ x ∈ (bankOf s b).entries 0 n ∧ ((bankOf s b).stakeBad x.1 = true ∨
        stakeValid x.2 = false ∨ stakeFits x.2 = false ∨ unitOf x.2.kind x.2.inst ≠ n)) ∧
      (u = swapTo s b late →
        activeBank u = some b ∧ u.sched.swap = none ∧ rg u R.SCHED_LAST_SWAP = s.sched.frame.toNat ∧
        timetableFrame u (bankOf u b) = 0 ∧
        rf u R.SCHED_STATUS F.SCHED_STATUS_SWAP_PENDING = 0 ∧
        rf u R.SCHED_STATUS F.SCHED_STATUS_SWAP_RESULT = (if late then 2 else 1) ∧
        rf u R.SCHED_STATUS F.SCHED_STATUS_ACTIVE_PERIOD = (bankOf s b).period % 256 ∧
        rf u R.SCHED_FAULT F.SCHED_FAULT_CONTRACT = 0 ∧ rg u R.SCHED_FAULT_INFO = 0 ∧
        rf u R.SCHED_STATUS (checkedField (!b)) = rf s R.SCHED_STATUS (checkedField (!b)))

/-- 03 R95, R96, R100: a doorbell of an assigned SQ that is not being recovered, and the end of the condition that paused a round, start a
round of an ACTIVE SQ with a read of PRODUCER; while a round runs, or while the function may not access its memory, the request is
remembered instead, and an SQ in any other state ignores it. The doorbell's word first crosses the guyline of its port (01 R24). 03 R96,
R88: a PRODUCER read that lands well sets the limit of the round to the least of PRODUCER + 8, CONSUMED + 2^k and NEXT + 64, and the ring
units below it are read; one that fails puts the SQ into ERROR with cause 3. (The model's choices in it: log entries 27, 81 and 83.) -/
def Obligations.ScanRoundsReadProducerAndTakeItsLimit : Prop :=
  (∀ (s : State) (fn slot : Nat) (q : SQ), running s = true → q = s.sq fn slot →
     let asked : State → State → Prop := fun v u =>
       (q.state ≠ 1 → u = v) ∧
       (q.state = 1 → q.round.isSome = true ∨ fnLive s fn = false ∨ migrating s fn slot = true →
         u = v.setSq fn slot { q with rescan := true }) ∧
       (q.state = 1 → q.round = none → fnLive s fn = true → migrating s fn slot = false →
         hostDenied s q.master .rd q.index.toNat 8 = none →
         u = emit (v.setSq fn slot { q with round := some ⟨false, 0, 0, [], false, []⟩, paused := none, rescan := false })
           (.hostRead fn q.index.toNat 8))
     (q.valid = true → sqRecovering s fn slot = false → Effect (.sqDoorbell fn slot) s (asked (guyPort s (fnPort fn) 1))) ∧
     (q.paused = some none → windowOpen q q.expected = true → Effect (.roundPauseRelease fn slot) s (asked s)) ∧
     (∀ c, q.paused = some (some c) → (s.cq fn c).state ≠ 1 ∨ 0 < cqFree (s.cq fn c) →
       Effect (.roundPauseRelease fn slot) s (asked s)) ∧
     (q.paused = some none → windowOpen q q.expected = false → Effect (.roundPauseRelease fn slot) s (fun u => u = s)) ∧
     (∀ c, q.paused = some (some c) → (s.cq fn c).state = 1 → cqFree (s.cq fn c) = 0 →
       Effect (.roundPauseRelease fn slot) s (fun u => u = s))) ∧
  (∀ (s : State) (fn slot : Nat) (r : Rsp) (p : W64) (q : SQ) (rd : Round) (limit : Nat), running s = true → q = s.sq fn slot →
     q.round = some rd → rd.gotProducer = false → q.state = 1 →
     limit = min (p.toNat + 8) (min (q.consumed.toNat + q.size) (q.nextUnit.toNat + 64)) →
     (r ≠ .ok → Effect (.indexRecordLanded fn slot r p) s fun u =>
       (u.sq fn slot).state = 3 ∧ (u.sq fn slot).errorCause = 3 ∧ (u.sq fn slot).round = none ∧
       (u.sq fn slot).items = q.items ∧ (u.sq fn slot).nextUnit = q.nextUnit) ∧
     (r = .ok → q.nextUnit.toNat < limit → fnLive s fn = true →
       (∀ e ∈ ringReads q.size limit (limit - q.nextUnit.toNat) q.nextUnit.toNat,
         hostDenied s q.master .rd (q.base.toNat + e.1 % q.size * 32) (e.2 * 32) = none) →
       Effect (.indexRecordLanded fn slot r p) s fun u =>
         u.sq fn slot = { q with round := some { rd with
           gotProducer := true, limit := limit, upTo := q.nextUnit.toNat
           reads := rd.reads ++ (ringReads q.size limit (limit - q.nextUnit.toNat) q.nextUnit.toNat).map fun e => (e.1, e.2, false) } } ∧
         u.out = s.out ++ (ringReads q.size limit (limit - q.nextUnit.toNat) q.nextUnit.toNat).map fun e =>
           .hostRead fn (q.base.toNat + e.1 % q.size * 32) (e.2 * 32)) ∧
     (r = .ok → limit ≤ q.nextUnit.toNat → q.rescan = false → q.consumed.toNat + q.size ≤ q.nextUnit.toNat →
       Effect (.indexRecordLanded fn slot r p) s fun u => u.sq fn slot = { q with round := none } ∧ u.out = s.out))

/-- 03 R87, R92, R96, R99: the units at NEXT, once landed and owned by the device, are admitted as one entry when its SEQ is the expected
one, lies in the window and its CQ has a free slot: NEXT and the expected SEQ move on and a slot of the CQ is reserved. Units that the
driver still owns end the round; a wrong SEQ and a failed read are ERRORs with causes 1 and 3; a closed window or a full CQ pauses the
round. (The model's choices in it: log entries 29, 83 and 84.) -/
def Obligations.LandedUnitsAreAdmittedInOrder : Prop :=
  ∀ (s : State) (fn slot : Nat) (r : Rsp) (units : List (BitVec 256)) (h : BitVec 256) (q : SQ) (rd : Round) (x : Nat),
    running s = true → q = s.sq fn slot → q.state = 1 → q.round = some rd → rd.gotProducer = true → rd.fresh = false → rd.units = [] →
    rd.reads = [(x, units.length, false)] → x = q.nextUnit.toNat → rd.upTo = x → rd.limit = x + units.length → units.head? = some h → q.rescan = false →
    (r ≠ .ok → Effect (.ringUnitsLanded fn slot r units) s fun u =>
      (u.sq fn slot).state = 3 ∧ (u.sq fn slot).errorCause = 3 ∧ (u.sq fn slot).items = q.items) ∧
    (r = .ok → bitsOf h 0 0 ≠ (x / q.size + 1) % 2 → Effect (.ringUnitsLanded fn slot r units) s fun u =>
      u.sq fn slot = { q with round := none } ∧ u.cqs = s.cqs ∧ u.out = s.out) ∧
    (r = .ok → bitsOf h 0 0 = (x / q.size + 1) % 2 → x % q.size + units.length ≤ q.size → bitsOf h 7 4 ≠ 15 →
      bitsOf h 3 1 + 1 = units.length → (q.reread = true → freshUnits x units.length = 0) →
      (h.extractLsb' 64 32 ≠ q.expected → Effect (.ringUnitsLanded fn slot r units) s fun u =>
        (u.sq fn slot).state = 3 ∧ (u.sq fn slot).errorCause = 1 ∧ (u.sq fn slot).items = q.items) ∧
      (h.extractLsb' 64 32 = q.expected →
        (windowOpen q q.expected = false → Effect (.ringUnitsLanded fn slot r units) s fun u =>
          u.sq fn slot = { q with round := none, paused := some none }) ∧
        (windowOpen q q.expected = true →
          (targetCq s fn q (bitsOf h 125 112) = none → Effect (.ringUnitsLanded fn slot r units) s fun u =>
            (u.sq fn slot).state = 3 ∧ (u.sq fn slot).errorCause = 5 ∧ (u.sq fn slot).items = q.items) ∧
          (∀ c f, targetCq s fn q (bitsOf h 125 112) = some (c, f) →
            (cqFree (s.cq fn c) = 0 → Effect (.ringUnitsLanded fn slot r units) s fun u =>
              u.sq fn slot = { q with round := none, paused := some (some c) }) ∧
            (cqFree (s.cq fn c) ≠ 0 → Effect (.ringUnitsLanded fn slot r units) s fun u =>
              (u.sq fn slot).nextUnit = q.nextUnit + BitVec.ofNat 64 units.length ∧
              (u.sq fn slot).expected = q.expected + 1 ∧
              (u.cq fn c).reservations = (s.cq fn c).reservations + 1 ∧
              ∃ i, (u.sq fn slot).items = q.items ++ [i] ∧ i.seq = q.expected ∧ i.units = units ∧ i.unit = q.nextUnit ∧
                i.cq = c ∧ i.f001 = f ∧ i.accepted = false ∧ i.dispatched = false ∧ i.posted = false)))))

/-- 03 R102, 01 R18: the oldest entry that waits for acceptance is accepted once its record stands in both copies and, in a camp, at the
partner: it may be dispatched, and ACCEPT stands past it and the skips that follow. 03 R103, R105, R89, R90: the next entry of an SQ that
is neither dispatched nor decided is completed with 0xF001 to 0xF003 where it must not run; otherwise a kind 3 entry first reads its
fragment table, and any other takes a free context of its home pitch as `newCtx` says, a hosted one with a read of its first command. A
table that lands well gives the entry its fragments or leads on to the next table, the part of it in one page to its next page, and a bad
one ends it with 0xF004. (The model's choices in it: log entries 15 and 30.) -/
def Obligations.EntriesAreAcceptedAndDispatchedInOrder : Prop :=
  (∀ (s : State) (fn slot : Nat) (q : SQ) (i : Item), running s = true → q = s.sq fn slot →
     q.items.find? (fun i => !i.skip && !i.accepted) = some i → recovOn s = true → fenced s = false → gateOpen s i.mseq = true →
     i.posted = false → q.resetting = false →
     Effect (.entryAccepted fn slot) s fun u =>
       (∃ j, findItem (u.sq fn slot) i.seq = some j ∧ j.accepted = true ∧ j.durable = true) ∧
       ∀ j, (q.items.takeWhile fun j => j.skip || j.accepted || j.seq == i.seq).getLast? = some j →
         (u.sq fn slot).accept = j.next) ∧
  ((∀ (s : State) (fn slot c : Nat) (i : Item), running s = true → dispatchable (s.sq fn slot) = some i →
     recovering s = false → fenced s = false → i.resume = none → findItem (s.sq fn slot) i.seq = some i → i.ctx = none →
     (dispatchStatus s i ≠ 0 → Effect (.dispatch fn slot c) s fun u =>
       ∃ p, (u.cq fn i.cq).posts = (s.cq fn i.cq).posts ++ [p] ∧ p.seq = i.seq ∧ entryStatus p.entry = dispatchStatus s i) ∧
     (dispatchStatus s i = 0 → eKind (i.units.headD 0) = 3 → i.frags = none → fnLive s fn = true →
       hostDenied s (s.sq fn slot).master .rd (eData (i.units.headD 0)).toNat (16 * tableUnits (eData (i.units.headD 0)).toNat 0) = none →
       Effect (.dispatch fn slot c) s fun u =>
         u = emit (updItem s fn slot i.seq fun i => { i with fragWait := some (eData (i.units.headD 0), 1, 0, []) })
           (.hostRead fn (eData (i.units.headD 0)).toNat (16 * tableUnits (eData (i.units.headD 0)).toNat 0))) ∧
     (dispatchStatus s i = 0 → eKind (i.units.headD 0) = 3 → i.frags = none → fnLive s fn = false →
       Effect (.dispatch fn slot c) s fun u => u = s) ∧
     (dispatchStatus s i = 0 → (eKind (i.units.headD 0) = 3 → i.frags.isSome = true) → ctxFits s fn slot c i.seq = true →
       Effect (.dispatch fn slot c) s fun u =>
         (eKind (i.units.headD 0) ≠ 1 → u.ctx c = newCtx s fn slot i (c / 1024) ∧
           findItem (u.sq fn slot) i.seq = some { i with dispatched := true, ctx := some c }) ∧
         (eKind (i.units.headD 0) = 1 → ∀ a, progTarget (c / 1024) (eParam (i.units.headD 0)).toNat = .host a → a % 32 = 0 →
           permitted s (s.sq fn slot).master .fetch (.host a) = true → fnLive s fn = true →
           u.ctx c = { newCtx s fn slot i (c / 1024) with fetching := some (BitVec.ofNat 64 a) } ∧ Sends s u (.hostRead fn a 32) ∧
           findItem (u.sq fn slot) i.seq = some { i with dispatched := true, ctx := some c })) ∧
     (dispatchStatus s i = 0 → (eKind (i.units.headD 0) = 3 → i.frags.isSome = true) → ctxFits s fn slot c i.seq = false →
       Effect (.dispatch fn slot c) s fun u => u = s)) ∧
   (∀ (s : State) (fn slot n seen k : Nat) (r : Rsp) (descs ds : List (BitVec 128)) (i : Item) (a : W64) (acc acc1 : List (W64 × Nat)),
     running s = true → (s.sq fn slot).items.find? (fun i => i.fragWait.isSome) = some i → i.fragWait = some (a, n, seen, acc) →
     findItem (s.sq fn slot) i.seq = some i → i.decided = false → k = tableUnits a.toNat seen → ds = descs.take k →
     (r ≠ .ok ∨ (¬(ds.length = k ∧ tableOpen ds = true ∧ seen + k < 256) ∧ walkTable ds acc = none) →
       Effect (.fragmentTableLanded fn slot r descs) s fun u =>
         ∃ p, (u.cq fn i.cq).posts = (s.cq fn i.cq).posts ++ [p] ∧ p.seq = i.seq ∧ entryStatus p.entry = 0xF004) ∧
     (r = .ok → ¬(ds.length = k ∧ tableOpen ds = true ∧ seen + k < 256) →
       (walkTable ds acc = some (acc1, none) → Effect (.fragmentTableLanded fn slot r descs) s fun u =>
         findItem (u.sq fn slot) i.seq = some { i with fragWait := none, frags := some acc1 }) ∧
       (∀ b, walkTable ds acc = some (acc1, some b) → n < 16 → fnLive s fn = true →
         hostDenied s (s.sq fn slot).master .rd b.toNat (16 * tableUnits b.toNat 0) = none →
         Effect (.fragmentTableLanded fn slot r descs) s fun u =>
           findItem (u.sq fn slot) i.seq = some { i with fragWait := some (b, n + 1, 0, acc1) } ∧
           Sends s u (.hostRead fn b.toNat (16 * tableUnits b.toNat 0)))) ∧
     (∀ b : W64, r = .ok → ds.length = k → tableOpen ds = true → seen + k < 256 → n ≤ 16 → fnLive s fn = true →
       b = a + BitVec.ofNat 64 (16 * k) → hostDenied s (s.sq fn slot).master .rd b.toNat (16 * tableUnits b.toNat (seen + k)) = none →
       Effect (.fragmentTableLanded fn slot r descs) s fun u =>
         findItem (u.sq fn slot) i.seq = some { i with fragWait := some (b, n, seen + k, acc ++ tableFrags ds) } ∧
         Sends s u (.hostRead fn b.toNat (16 * tableUnits b.toNat (seen + k))))))

/-- 01 R19, 03 R101, R107, R109, R110: a completion that may be written goes to the slot at TAIL, which then moves on by one and gives its
reservation back. A timer that has run out, and the unmasking of a vector, send the message that is due; a link that reaches L0 sends all
that waited for it. (The model's choices in it: log entries 30 and 32.) -/
def Obligations.CompletionsAndInterruptsAreDelivered : Prop :=
  (∀ (s : State) (fn slot : Nat) (p : Compl), running s = true → postReady s fn slot = some p → p.rewrite = false →
    hostDenied s (s.sq p.sqFn p.sqSlot).master .wr ((s.cq fn slot).base.toNat + (s.cq fn slot).tail.toNat % (s.cq fn slot).size * 32) 32 = none →
    Effect (.completionPosted fn slot) s fun u =>
      Sends s u (.hostWrite fn ((s.cq fn slot).base.toNat + (s.cq fn slot).tail.toNat % (s.cq fn slot).size * 32)
        (leBytes 32 p.entry.toNat)) ∧
      (u.cq fn slot).tail = (s.cq fn slot).tail + 1 ∧ (u.cq fn slot).reservations = (s.cq fn slot).reservations - 1 ∧
      (u.cq fn slot).posts = (s.cq fn slot).posts.tail) ∧
  (∀ (s : State) (fn slot v : Nat) (f : W64), running s = true → slot < 256 → (s.cq fn slot).timer = some f → (s.cq fn slot).ien = true →
    fnLive s fn = true → v = (s.cq fn slot).vector →
    (s.sched.frame.toNat ≤ f.toNat + bitsOf (s.cq fn slot).mod 15 0 → Effect (.moderationTimer fn slot) s fun u => u = s) ∧
    (f.toNat + bitsOf (s.cq fn slot).mod 15 0 < s.sched.frame.toNat →
      (vecMasked s fn v = true → Effect (.moderationTimer fn slot) s fun u =>
        (u.fn fn).pba.getLsbD v = true ∧ (u.cq fn slot).due = true ∧ u.out = s.out) ∧
      (vecMasked s fn v = false → (s.port (fnPort fn)).link = 1 →
        hostDenied s (s.fn fn).master .wr (bitsOf ((s.fn fn).entry v) 63 0) 4 = none →
        Effect (.moderationTimer fn slot) s fun u =>
          Sends s u (.msix fn v (((s.fn fn).entry v).extractLsb' 0 64) (((s.fn fn).entry v).extractLsb' 64 32)) ∧
          (u.cq fn slot).unsignalled = 0 ∧ (u.cq fn slot).timer = none ∧ (u.cq fn slot).due = false))) ∧
  (∀ (s : State) (fn : Nat) (v : BitVec 8), s.trust.phase = 1 ∨ s.trust.phase = 2 → (s.fn fn).present = true →
    (s.fn fn).maskAll = false → fnLive s fn = true → (s.port (fnPort fn)).link = 1 → (s.fn fn).pba = 1#256 <<< v.toNat →
    vecDue s fn v.toNat = true → hostDenied s (s.fn fn).master .wr (bitsOf ((s.fn fn).entry v.toNat) 63 0) 4 = none →
    Effect (.vectorUnmask fn (some v)) s fun u =>
      (u.fn fn).pba = 0 ∧ vecMasked u fn v.toNat = false ∧
      Sends s u (.msix fn v.toNat (((s.fn fn).entry v.toNat).extractLsb' 0 64) (((s.fn fn).entry v.toNat).extractLsb' 64 32))) ∧
  (∀ (s : State) (port : Nat), s.trust.phase = 1 ∨ s.trust.phase = 2 ∨ s.trust.phase = 4 →
    (s.port port).link = 2 ∨ (s.port port).link = 3 →
    Effect (.linkReachesL0 port) s fun u =>
      (u.port port).link = 1 ∧ (u.port port).due = [] ∧
      ∀ e ∈ (s.port port).due, e.1 / 256 = port → e.2 < 256 → vecMasked s e.1 e.2 = false → (s.fn e.1).d3 = false →
        (s.fn e.1).bme = true → vecDue s e.1 e.2 = true →
        hostDenied s (s.fn e.1).master .wr (bitsOf ((s.fn e.1).entry e.2) 63 0) 4 = none →
        Sends s u (.msix e.1 e.2 (((s.fn e.1).entry e.2).extractLsb' 0 64) (((s.fn e.1).entry e.2).extractLsb' 64 32)))

/-- 03 R108: the head a doorbell gives is taken if it lies between the head in force and TAIL, counted modulo 2^32; a head beyond TAIL is
refused and sets HEAD_ERR alone. A slot that is not assigned ignores doorbells. The doorbell's word crosses the guyline of its port first.
03 R117: a CQ is enabled empty, with HEAD, TAIL and the moderation at rest, or stays DISABLED with the number of the check that failed;
disabled, it drains while it has reservations or held completions. 03 R114, R115, R117: an enable that passes its checks makes the SQ
ACTIVE with the next GENERATION and all indices at SQ_START and SQ_SEQ_BASE, writes them to the index record and reads PRODUCER without a
doorbell; one that fails leaves it DISABLED with the number of the check. Disabling drains an SQ that has entries, and disables one that
has none. (The model's choices in it: log entries 28 and 86.) -/
def Obligations.QueueStatesFollowTheirRules : Prop :=
  (∀ (s : State) (fn slot : Nat) (v : W64) (k : CQ) (h : W32) (t : State), running s = true → cqRecovering s fn slot = false →
     k = s.cq fn slot → h = v.truncate 32 → t = guyPort s (fnPort fn) 1 →
     (k.valid = true → (k.tail - k.head).toNat < (h - k.head).toNat →
       Effect (.cqDoorbell fn slot v) s fun u => u = t.setCq fn slot { k with headErr := true }) ∧
     (k.valid = true → (h - k.head).toNat ≤ (k.tail - k.head).toNat →
       Effect (.cqDoorbell fn slot v) s fun u => u = t.setCq fn slot { k with head := h }) ∧
     (k.valid = false → Effect (.cqDoorbell fn slot v) s fun u => u = t)) ∧
  ((∀ (s : State) (fn slot : Nat) (v : W32) (k : CQ), running s = true → cqRecovering s fn slot = false → k = s.cq fn slot → k.state = 0 →
     slot < 256 → v.getLsbD 31 = true →
     (k.valid = false → Effect (.cqEnable fn slot v) s fun u =>
       u.cq fn slot = { k with cfg := BitVec.ofNat 32 (v.toNat &&& 0x5F0000FF), enableErr := 1 } ∧ u.sqs = s.sqs) ∧
     (k.valid = true → bitsOf v 28 24 < 6 ∨ 16 < bitsOf v 28 24 → Effect (.cqEnable fn slot v) s fun u =>
       u.cq fn slot = { k with cfg := BitVec.ofNat 32 (v.toNat &&& 0x5F0000FF), enableErr := 2 } ∧ u.sqs = s.sqs) ∧
     (k.valid = true → 6 ≤ bitsOf v 28 24 → bitsOf v 28 24 ≤ 16 → Effect (.cqEnable fn slot v) s fun u =>
       (u.cq fn slot).state = 1 ∧ (u.cq fn slot).head = 0 ∧ (u.cq fn slot).tail = 0 ∧ (u.cq fn slot).unsignalled = 0 ∧
       (u.cq fn slot).timer = none ∧ (u.cq fn slot).reservations = 0 ∧ (u.cq fn slot).posts = [] ∧ (u.cq fn slot).enableErr = 0 ∧
       (u.cq fn slot).cfg = BitVec.ofNat 32 (v.toNat &&& 0x5F0000FF) ∧ u.sqs = s.sqs)) ∧
   (∀ (s : State) (fn slot : Nat) (v : W32) (k : CQ), running s = true → cqRecovering s fn slot = false → k = s.cq fn slot → k.state = 1 →
     slot < 256 → v.getLsbD 31 = false →
     Effect (.cqDisable fn slot v) s fun u =>
       (u.cq fn slot).state = (if k.reservations = 0 ∧ k.posts = [] then 0 else 2) ∧ (u.cq fn slot).tail = k.tail ∧
       (u.cq fn slot).posts = k.posts ∧ (u.cq fn slot).reservations = k.reservations ∧ u.sqs = s.sqs)) ∧
  ((∀ (s : State) (fn slot : Nat) (v : W32) (q : SQ) (f : Fn), running s = true → sqRecovering s fn slot = false → (s.sq fn slot).state = 0 →
     slot < 256 → v.getLsbD 31 = true → q = { s.sq fn slot with cfg := BitVec.ofNat 32 (v.toNat &&& 0x5F003FFF) } → f = s.fn fn →
     (∀ e, e = enableErr (s.setSq fn slot q) fn { q with assign := q.ownAssign } → e ≠ 0 → Effect (.sqEnable fn slot v) s fun u =>
       u.sq fn slot = { q with enableErr := e } ∧ u.cqs = s.cqs ∧ u.out = s.out ∧ u.recov = s.recov) ∧
     (enableErr (s.setSq fn slot q) fn { q with assign := q.ownAssign } = 0 → Effect (.sqEnable fn slot v) s fun u =>
       ((u.sq fn slot).generation = q.generation + 1 ∧ (u.sq fn slot).accept = q.start ∧ (u.sq fn slot).consumed = q.start ∧
        (u.sq fn slot).completedSeq = q.seqBase - 1 ∧ (u.sq fn slot).nextUnit = q.start ∧ (u.sq fn slot).expected = q.seqBase ∧
        (u.sq fn slot).items = [] ∧ (u.sq fn slot).enableErr = 0 ∧ (u.sq fn slot).assign = q.ownAssign ∧ u.cqs = s.cqs) ∧
       (fnLive s fn = true → campWaits s = false → migrating s fn slot = false →
         hostDenied s f.master .wr (q.index.toNat + 8) 8 = none → hostDenied s f.master .wr (q.index.toNat + 16) 16 = none →
         hostDenied s f.master .wr (q.index.toNat + 32) 2 = none → hostDenied s f.master .rd q.index.toNat 8 = none →
         (u.sq fn slot).state = 1 ∧ (u.sq fn slot).round = some ⟨false, 0, 0, [], false, []⟩ ∧
         Sends s u (.hostWrite fn (q.index.toNat + 8) (leBytes 8 q.start.toNat)) ∧
         Sends s u (.hostWrite fn (q.index.toNat + 16) (leBytes 8 q.start.toNat ++ leBytes 8 (q.seqBase - 1).toNat)) ∧
         Sends s u (.hostWrite fn (q.index.toNat + 32) (leBytes 2 (q.generation + 1).toNat)) ∧
         Sends s u (.hostRead fn q.index.toNat 8)))) ∧
   (∀ (s : State) (fn slot : Nat) (v : W32), running s = true → sqRecovering s fn slot = false → slot < 256 →
     (s.sq fn slot).state = 1 ∨ (s.sq fn slot).state = 3 → v.getLsbD 31 = false →
     Effect (.sqDisable fn slot v) s fun u =>
       (u.sq fn slot).round = none ∧ (u.sq fn slot).paused = none ∧ (u.sq fn slot).rescan = false ∧ u.cqs = s.cqs ∧
       (u.sq fn slot).state = (if (s.sq fn slot).items.all (·.skip) then 0 else 2) ∧
       (u.sq fn slot).items = (if (s.sq fn slot).items.all (·.skip) then [] else (s.sq fn slot).items)))

/-- 05 R192, R193, 03 R113: a queue reset ends every accepted entry of its SQ that is not yet decided with 0xF005 and leaves the SQ
draining, or DISABLED where it has no entries; a Function Level Reset disables every queue of the function and discards what they held.
(The model's choices in it: log entry 16.) -/
def Obligations.QueueResetsEndTheirEntries : Prop :=
  (∀ (s : State) (fn slot : Nat), running s = true → sqRecovering s fn slot = false → slot < 256 → (s.sq fn slot).state ≠ 0 →
    (s.sq fn slot).resetting = false →
    Effect (.queueReset fn slot) s fun u =>
      (u.sq fn slot).state = (if (s.sq fn slot).items.all (·.skip) then 0 else 2) ∧ (u.sq fn slot).round = none ∧
      ∀ i, i ∈ (s.sq fn slot).items → i.skip = false → i.accepted = true → i.decided = false →
        findItem (s.sq fn slot) i.seq = some i →
        ∃ p ∈ (u.cq fn i.cq).posts, p.sqFn = fn ∧ p.sqSlot = slot ∧ p.seq = i.seq ∧ entryStatus p.entry = 0xF005) ∧
  (∀ (s : State) (fn : Nat), s.trust.phase = 1 ∨ s.trust.phase = 2 → (s.fn fn).present = true →
    Effect (.functionLevelReset fn) s fun u =>
      (u.fn fn).bme = false ∧ (u.fn fn).d3 = false ∧ (u.fn fn).pba = 0 ∧
      ∀ k, k < 256 → (u.sq fn k).state = 0 ∧ (u.cq fn k).state = 0 ∧
        ((s.sq fn k).state ≠ 0 → (u.sq fn k).items = []) ∧
        ((s.cq fn k).state ≠ 0 → (u.cq fn k).posts = [] ∧ (u.cq fn k).reservations = 0))

/-- 03 R111, R112, R118, 04 R164: a function in D3hot or without Bus Master Enable is held, and sends PME for a held completion if PME_En
is set; once it may access its memory again its HELD programs go on in the state they left, here those that stand between steps. A resume
doorbell lets go on the programs of the SQ that were suspended before it. (The model's choices in it: log entries 27, 39, 64, 81 and 85.) -/
def Obligations.HeldWorkGoesOnWhenItsFunctionMay : Prop :=
  (∀ (s : State) (fn : Nat) (pmeEn : Bool), s.trust.phase = 1 ∨ s.trust.phase = 2 → (s.fn fn).present = true →
    Effect (.functionD3hotEntry fn pmeEn) s fun u =>
      (u.fn fn).d3 = true ∧ (u.fn fn).pmeEn = pmeEn ∧ u.sqs = s.sqs ∧ u.cqs = s.cqs ∧ u.prog = s.prog ∧
      (fnHolds s fn = true → pmeEn = true → u.out = s.out ++ [.pme fn] ∧ (u.fn fn).pmeStatus = true) ∧
      (fnHolds s fn = false ∨ pmeEn = false → u.out = s.out)) ∧
  (∀ (s : State) (fn : Nat), s.trust.phase = 1 ∨ s.trust.phase = 2 →
    Effect (.busMasterEnableClear fn) s fun u => u = s.setFn fn { s.fn fn with bme := false }) ∧
  (∀ (s : State) (fn : Nat), s.trust.phase = 1 ∨ s.trust.phase = 2 → (s.prog.ctxs.map (·.1)).Nodup →
    ((s.fn fn).d3 = true → Effect (.functionD0Return fn) s fun u =>
      (u.fn fn).d3 = false ∧ (u.fn fn).pmeStatus = false ∧
      ((s.fn fn).bme = true → fenced s = false → ∀ c, (s.ctx c).state = 5 → (s.ctx c).fn = fn → (s.ctx c).kind ≠ 1 →
        (s.ctx c).running = false → (s.ctx c).heldDone = none → (s.ctx c).heldSample = none →
        u.ctx c = { s.ctx c with state := (s.ctx c).held, held := 0, waitLate := false })) ∧
    (fnExists s fn = true → (s.fn fn).bme = false → (s.port (fnPort fn)).link ≠ 0 → Effect (.busMasterEnableSet fn) s fun u =>
      (u.fn fn).bme = true ∧ (u.fn fn).present = true ∧
      ((s.fn fn).d3 = false → fenced s = false → ∀ c, (s.ctx c).state = 5 → (s.ctx c).fn = fn → (s.ctx c).kind ≠ 1 →
        (s.ctx c).running = false → (s.ctx c).heldDone = none → (s.ctx c).heldSample = none →
        u.ctx c = { s.ctx c with state := (s.ctx c).held, held := 0, waitLate := false }))) ∧
  (∀ (s : State) (fn slot : Nat), running s = true → (s.sq fn slot).valid = true → (s.sq fn slot).state ≠ 0 →
    Effect (.sqResume fn slot) s fun u =>
      ∀ c ∈ sqCtxs s fn slot, ∀ t, (s.ctx c).suspendedAt = some t → (s.ctx c).state = 4 →
        (beforeNow s t = true → (s.ctx c).kind ≠ 1 → u.ctx c = { s.ctx c with state := 2, resumed := true, suspendedAt := none }) ∧
        (beforeNow s t = false → u.ctx c = s.ctx c))

/-- 03 R122: a write to ASSIGN_IDENT, ASSIGN_QUEUE or ASSIGN_LEASE takes effect on the selected function and slot and leaves RESULT 0, or
is refused with RESULT 3 for a function that does not exist, 1 while a queue concerned is not DISABLED, and 2 for a queue number in use; a
refused write changes nothing else. (The model's choices in it: log entry 31.) -/
def Obligations.AssignmentsTakeEffectOrAreRefused : Prop :=
  (∀ (s : State) (v : W32) (fn : Nat), running s = true → mgmtAnswers s = true → fn = assignFn s →
    (∀ n, (fnExists s fn = false ∧ n = 3) ∨ (fnExists s fn = true ∧ n = 1 ∧
        ((fnSqs s fn).any (fun q => (s.sq fn q).state != 0) || (fnCqs s fn).any (fun c => (s.cq fn c).state != 0)) = true) →
      Effect (.assignIdent v) s fun u => u = wr s R.ASSIGN_STATUS n 0 0 (mgmtFn s)) ∧
    (fnExists s fn = true →
      ((fnSqs s fn).any (fun q => (s.sq fn q).state != 0) || (fnCqs s fn).any (fun c => (s.cq fn c).state != 0)) = false →
      Effect (.assignIdent v) s fun u =>
        u.fn fn = { s.fn fn with ident := BitVec.ofNat 32 (v.toNat &&& 0x8FFF3FFF) } ∧ rg u R.ASSIGN_STATUS 0 0 (mgmtFn s) = 0 ∧
        u.sqs = s.sqs ∧ u.cqs = s.cqs)) ∧
  (∀ (s : State) (v : W32) (l : W64) (fn slot st : Nat), running s = true → mgmtAnswers s = true → fn = assignFn s → slot = assignSlot s →
    st = (if assignCq s then (s.cq fn slot).state else (s.sq fn slot).state) →
    (∀ n, (fnExists s fn = false ∧ n = 3) ∨ (fnExists s fn = true ∧ st ≠ 0 ∧ n = 1) →
      Effect (.assignQueue v) s (fun u => u = wr s R.ASSIGN_STATUS n 0 0 (mgmtFn s)) ∧
      Effect (.assignLease l) s (fun u => u = wr s R.ASSIGN_STATUS n 0 0 (mgmtFn s))) ∧
    (fnExists s fn = true → st = 0 →
      (v.getLsbD 31 = true → qnumTaken s (assignCq s) (v.toNat % 2 ^ 14) (qkey fn slot) = true →
        Effect (.assignQueue v) s fun u => u = wr s R.ASSIGN_STATUS 2 0 0 (mgmtFn s)) ∧
      (v.getLsbD 31 = false ∨ qnumTaken s (assignCq s) (v.toNat % 2 ^ 14) (qkey fn slot) = false →
        Effect (.assignQueue v) s fun u =>
          rg u R.ASSIGN_STATUS 0 0 (mgmtFn s) = 0 ∧
          (assignCq s = true → u.cq fn slot = { s.cq fn slot with assign := BitVec.ofNat 32 (v.toNat &&& 0x80003FFF) } ∧ u.sqs = s.sqs) ∧
          (assignCq s = false → u.sq fn slot = { s.sq fn slot with assign := BitVec.ofNat 32 (v.toNat &&& 0xFF873FFF), assignedHome := none } ∧ u.cqs = s.cqs)) ∧
      (assignCq s = false → Effect (.assignLease l) s fun u =>
        rg u R.ASSIGN_STATUS 0 0 (mgmtFn s) = 0 ∧ u.sq fn slot = { s.sq fn slot with leases := l } ∧ u.cqs = s.cqs) ∧
      (assignCq s = true → Effect (.assignLease l) s fun u => u = wr s R.ASSIGN_STATUS 0 0 0 (mgmtFn s))))

/-- 04 R125, R126, R128, R142, R164, R166, 05 R178, 11 R387: a context that may begin a step begins it under the row of its command's CODE
alone. A command in an uncorrectable word of the pitch's library copy is a pitch fault; the program ends with 0x0602 when its budget is
used up and with the status of a chain that cannot be gathered; before a command with PAUSE it suspends, with a notice if NOTIFY is set; a
step that needs host memory which its function may not access (shown of POST) begins and is HELD; and in a camp that waits a committing
step begins but issues nothing yet. (The model's choices in it: log entries 39 and 87.) -/
def Obligations.StepsBeginUnderTheRowOfTheirCode : Prop :=
  ∀ (s : State) (c st : Nat) (x : Ctx) (pos : W64) (cmd : BitVec 256) (l : List (W64 × BitVec 256)), running s = true → x = s.ctx c →
    stepReady s c = true → nextChain s x = (st, (pos, cmd) :: l) →
    (∀ code < 256, stepRow code c ≠ stepRow (cCode cmd) c → Effect (stepRow code c) s fun u => u = s) ∧
    (libraryUncorr s c (pos :: l.map (·.1)) = true → Effect (stepRow (cCode cmd) c) s fun u =>
      rf u R.PITCH_FAULT F.PITCH_FAULT_FAULT (c / 1024) = 1 ∧ u.power.pitchPending.contains (c / 1024) = true ∧ u.ctx c = x ∧ u.cqs = s.cqs) ∧
    (libraryUncorr s c (pos :: l.map (·.1)) = false → x.budget ≤ x.ordinal → Effect (stepRow (cCode cmd) c) s fun u =>
      Ended s u c 0x0602 x.ordinal) ∧
    (libraryUncorr s c (pos :: l.map (·.1)) = false → x.ordinal + l.length < x.budget →
      (cPause cmd = true → x.resumed = false → Effect (stepRow (cCode cmd) c) s fun u =>
        u.ctx c = { x with state := 4, suspendedAt := some (s.sched.frame, s.sched.cycle), cmds := [], poss := [] } ∧ u.cqs = s.cqs ∧
        u.mail = (if cNotify cmd then (noteS s (c / 1024) x.tenant x.master pos 0).mail else s.mail)) ∧
      (cPause cmd = false ∨ x.resumed = true →
        (st ≠ 0 → st < 2 ^ 16 → Effect (stepRow (cCode cmd) c) s fun u => Ended s u c st (x.ordinal + l.length)) ∧
        (st = 0 → cCode cmd = 5 → cCount cmd = 32 → cIda cmd = false → needsHost s x (c / 1024) [cmd] = true → fnLive s x.fn = false →
          cFence cmd = false ∨ campWaits s = false → Effect (stepRow (cCode cmd) c) s fun u =>
            (u.ctx c).state = 5 ∧ (u.ctx c).held = 2 ∧ (u.ctx c).running = true ∧ (u.ctx c).issued = false ∧
            (u.ctx c).ordinal = x.ordinal ∧ (s.camp.up = false → u.out = s.out)) ∧
        (st = 0 → cCode cmd = 1 → idaFits x cmd = true → cFence cmd = true → campWaits s = true →
          Effect (stepRow (cCode cmd) c) s fun u =>
            (u.ctx c).running = true ∧ (u.ctx c).issued = false ∧ (u.ctx c).ordinal = x.ordinal ∧
            (u.ctx c).mseq.isSome = true)))

/-- 04 R125, R134, R140, R141, R143: CODE 0x00 and the reserved codes end their program with 0x0101 and 0x0102. NOP goes on, or ends
without FOLLOW; TIC goes on at its target, or ends with 0x0107 where it has none; TIC-COND goes on at its target when it is taken and at
the next command otherwise; NOTE leaves its notice. All four leave COND as it is, and end with 0x0105 where they carry IDA outside a kind
3 entry. -/
def Obligations.StepsWithoutDataComplete : Prop :=
  ∀ (s : State) (c : Nat) (x : Ctx) (pos : W64) (cmd : BitVec 256), running s = true → x = s.ctx c → beginsAlone s c pos cmd = true →
    (cCode cmd = 0 → Effect (.invalidCode c) s fun u => Ended s u c 0x0101 x.ordinal) ∧
    (cCode cmd = 0x0F ∨ 0x40 ≤ cCode cmd → Effect (.reservedCode c) s fun u => Ended s u c 0x0102 x.ordinal) ∧
    ([1, 2, 3, 6].contains (cCode cmd) = true → idaFits x cmd = false →
      Effect (stepRow (cCode cmd) c) s fun u => Ended s u c 0x0105 x.ordinal) ∧
    (idaFits x cmd = true →
    (cCode cmd = 1 → Effect (.nop c) s fun u => Finished s u c cmd (nextPos x pos.toNat) x.cond.toNat) ∧
    (cCode cmd = 6 → Effect (.note c) s fun u =>
      Finished s u c cmd (nextPos x pos.toNat) x.cond.toNat ∧
      (cNotify cmd = false → u.mail =
        (noteS s (c / 1024) x.tenant x.master (BitVec.ofNat 64 (cAddr cmd)) (BitVec.ofNat 32 (cCount cmd))).mail)) ∧
    (∀ t, ticTarget s x cmd = some t → MayGoOn s c t →
      (cCode cmd = 2 → Effect (.tic c) s fun u => GoesOn s u c t x.cond.toNat) ∧
      (cCode cmd = 3 → ticTaken x cmd = true → Effect (.ticCond c) s fun u => GoesOn s u c t x.cond.toNat)) ∧
    (ticTarget s x cmd = none →
      (cCode cmd = 2 → Effect (.tic c) s fun u => Ended s u c 0x0107 x.ordinal) ∧
      (cCode cmd = 3 → ticTaken x cmd = true → Effect (.ticCond c) s fun u => Ended s u c 0x0107 x.ordinal)) ∧
    (cCode cmd = 3 → ticTaken x cmd = false → MayGoOn s c (nextPos x pos.toNat) → Effect (.ticCond c) s fun u =>
      GoesOn s u c (nextPos x pos.toNat) x.cond.toNat))

/-- 04 R146, R147, R148, R151: POST writes its 32-byte completion record and STAMP its 16-byte record of the time to ADDRESS, and end with
0x0104 where COUNT is not the length and with 0x0301 where the canopy denies the write (rows post and stamp). WAIT for a frame or a time
goes on with COND 0 once it has come, waits while it has not, and at the end of its COUNT frames goes on with COND 2 or ends with 0x0601.
(The model's choices in it: log entry 38.) -/
def Obligations.RecordsAndWaitsFollowTheirRules : Prop :=
  (∀ (s : State) (c n : Nat) (x : Ctx) (pos : W64) (cmd : BitVec 256) (bs : List Byte), running s = true → x = s.ctx c →
    beginsAlone s c pos cmd = true →
    (cCode cmd = 5 ∧ n = 32 ∧ bs = leBytes 32 (complEntry x.tag.toNat x.sq.toNat x.seq.toNat 1 (coreNs s)
      { status := 0, dev := cHi cmd, residual := x.lastResidual.toNat, fail := x.ordinal,
        flags := 8 + b2n x.eventTime.isSome + 2 * b2n x.recovered + 4 * b2n x.partialDone, time := 0, meter := if x.lease.isSome then x.meter else 0 }).toNat) ∨
    (cCode cmd = 7 ∧ n = 16 ∧ bs = stampBytes (coreTime s) s.sched.frame.toNat) →
    (cCount cmd ≠ n → Effect (stepRow (cCode cmd) c) s fun u => Ended s u c 0x0104 x.ordinal) ∧
    (∀ a, cCount cmd = n → cIda cmd = false → progTarget (c / 1024) (cAddr cmd) = .host a → a % 4096 + n ≤ 4096 →
      (permitted s x.master .wr (.host a) = false → Effect (stepRow (cCode cmd) c) s fun u => Ended s u c 0x0301 x.ordinal) ∧
      (permitted s x.master .wr (.host a) = true → Effect (stepRow (cCode cmd) c) s fun u =>
        Sends s u (.hostWrite x.fn a bs) ∧
        (cFence cmd = false → Finished s u c cmd (nextPos x pos.toNat) 0) ∧
        (cFence cmd = true → (u.ctx c).fenceWait = true ∧ (u.ctx c).state = 3 ∧ Sends s u (.hostRead x.fn a 0))))) ∧
  (∀ (s : State) (c : Nat) (x : Ctx) (pos : W64) (cmd : BitVec 256), running s = true → x = s.ctx c → cCode cmd = 4 → waitKind cmd < 2 →
    (beginsAlone s c pos cmd = true → idaFits x cmd = true →
      (waitArrived s x cmd none = true → Effect (.waitEvent c) s fun u => Finished s u c cmd (nextPos x pos.toNat) 0) ∧
      (waitArrived s x cmd none = false → 0 < cCount cmd → Effect (.waitEvent c) s fun u =>
        (u.ctx c).state = 3 ∧ (u.ctx c).running = true ∧ (u.ctx c).waitFrame = s.sched.frame ∧ (u.ctx c).cmds = [cmd] ∧
        (u.ctx c).ordinal = x.ordinal)) ∧
    (waitsIn s c pos cmd = true → s.sched.frame ≠ x.sampleFrame →
      (waitArrived s x cmd none = true → Effect (.waitCheck c none) s fun u => Finished s u c cmd (nextPos x pos.toNat) 0) ∧
      (waitArrived s x cmd none = false → s.sched.frame.toNat < x.waitFrame.toNat + cCount cmd → Effect (.waitCheck c none) s fun u =>
        u = s.setCtx c { x with sampleFrame := s.sched.frame }) ∧
      (waitArrived s x cmd none = false → x.waitFrame.toNat + cCount cmd ≤ s.sched.frame.toNat →
        ((cHi cmd).testBit 15 = true → Effect (.waitCheck c none) s fun u => Finished s u c cmd (nextPos x pos.toNat) 2) ∧
        ((cHi cmd).testBit 15 = false → Effect (.waitCheck c none) s fun u => Ended s u c 0x0601 x.ordinal))))

/-- 04 R134, R149, R150, R152, R154, R155: CALL puts its call at the end of the queue of the permitted core with the fewest calls, waits
and counts where none has room, and ends with 0x0108 for a routine it may not call. MOVE, MEASURE and the device commands that pass their
checks begin and wait; one that has no data to send asks its device at once, a transfer from a drive apart, and one that fails a check
ends with that check's status. The rows are call, move, measure, devWrite, devRead, devControl, devSense, flush, writeZeroes,
datasetManagement, compare, passThrough, discardFrame, timedSend, spiFullDuplex, pwm and generateEdge. (The model's choices in it: log
entry 33.) -/
def Obligations.CallsAndDeviceStepsBegin : Prop :=
  ∀ (s b : State) (c : Nat) (x : Ctx) (pos : W64) (cmd : BitVec 256), running s = true → x = s.ctx c → beginsAlone s c pos cmd = true →
    b = beginStep c [(pos, cmd)] s →
    (∀ r, cCode cmd = 8 → r = routine s (c / 1024) (cMid cmd % 2 ^ 16) →
      (r.testBit 63 = false ∨ (x.kind = 1 ∧ r.testBit 62 = false) → Effect (.call c) s fun u => Ended s u c 0x0108 x.ordinal) ∧
      (r.testBit 63 = true → (x.kind = 1 → r.testBit 62 = true) → idaFits x cmd = true →
        (∀ k, callCore s (c / 1024) r = some k → Effect (.call c) s fun u =>
          (u.ctx c).state = 3 ∧ (u.ctx c).called = true ∧
          ∃ a, (u.core k).calls = (s.core k).calls ++ [a] ∧ a.ctx = c ∧ a.entry = BitVec.ofNat 32 (r % 2 ^ 17) ∧
            a.tenant = x.tenant ∧ a.master = x.master ∧ a.lease = x.lease ∧ a.limit = r / 2 ^ 28 % 2 ^ 24) ∧
        (callCore s (c / 1024) r = none → Effect (.call c) s fun u =>
          (u.ctx c).state = 3 ∧ (u.ctx c).called = false ∧ u.cores = s.cores ∧
          rf u R.PITCH_CALL_COUNTS F.PITCH_CALL_COUNTS_QUEUE_FULL (c / 1024) =
            min (rf s R.PITCH_CALL_COUNTS F.PITCH_CALL_COUNTS_QUEUE_FULL (c / 1024) + 1) 0xFFFF))) ∧
    (∀ k, (cCode cmd = 9 ∧ k = moveCheck b (b.ctx c) cmd) ∨ (cCode cmd = 0x0A ∧ k = measureCheck (c / 1024) b (b.ctx c) cmd) ∨
        ([0x0B, 0x0C, 0x0D, 0x0E, 0x10, 0x11, 0x12, 0x13, 0x14, 0x20, 0x21, 0x30, 0x31, 0x32].contains (cCode cmd) = true ∧
          k = deviceStepCheck (c / 1024) b (b.ctx c) cmd) →
      (k ≠ 0 → Effect (stepRow (cCode cmd) c) s fun u => Ended s u c k x.ordinal) ∧
      (k = 0 → idaFits x cmd = false → Effect (stepRow (cCode cmd) c) s fun u => Ended s u c 0x0105 x.ordinal) ∧
      (k = 0 → idaFits x cmd = true → (cCode cmd = 0x0A → 0 < cCount cmd) → x.resumeMoved = 0 → Effect (stepRow (cCode cmd) c) s fun u =>
        (u.ctx c).state = 3 ∧ (u.ctx c).running = true ∧ (u.ctx c).issued = true ∧ (u.ctx c).begun = absCycle s ∧
        (u.ctx c).cmds = [cmd] ∧ (u.ctx c).ordinal = x.ordinal ∧
        (cCode cmd = 0x0A → (u.ctx c).sampleIndex = 0 ∧ (u.ctx c).sampleDone = 0 ∧
          (u.ctx c).sampleFrame = BitVec.ofNat 64 (firstSample s.sched.frame.toNat (cLo cmd) (cMid cmd))) ∧
        ([0x0C, 0x0E, 0x10, 0x11, 0x12, 0x20, 0x31, 0x32].contains (cCode cmd) = true →
          (devPers (devEntry s (cDevice cmd)) = 1 → cCode cmd ≠ 0x0C ∧ cCode cmd ≠ 0x0E) →
          Sends s u (.device (cDevice cmd) (cCode cmd) (cHi cmd) (cMid cmd) (cLo cmd) (cCount cmd) [])) ∧
        (∀ a, cCode cmd = 9 → progTarget (c / 1024) (cLo cmd) = .host a → 0 < cCount cmd → a % 4096 + cCount cmd ≤ 4096 →
          permitted s x.master .rd (.host a) = true → Sends s u (.hostRead x.fn a (cCount cmd)))))

/-- 04 R133, R136, R145, R150, R152, R155, R157, R159, R161, R162, R165, 09 R325: what a step waited for comes. A hosted command that
lands becomes the next step; a read that failed ends its program with the status of the failure. A sample goes out at cycle 0 of its
frame, and its record is written; MOVE and a device transfer of a page reach host memory and end their step; a device that reports
failure, is unreachable or late ends the program with 0x0501, 0x0502 or 0x0503; a fence ends with its acknowledgement. The window shows
the context selected. (The model's choices in it: log entries 29, 35, 89 and 91.) -/
def Obligations.StepsEndWhenTheirWorkIsDone : Prop :=
  (∀ (s : State) (c a : Nat) (r : Rsp) (x : Ctx) (pos : W64) (cmd : BitVec 256), running s = true → x = s.ctx c →
    x.fetching = some pos → progTarget (c / 1024) pos.toNat = .host a →
    (r = .ok → x.cmds = [] → x.poss = [] → cJoin cmd = false → Effect (.hostedCommandLanded c r cmd) s fun u =>
      u.ctx c = { x with fetching := none, cmds := [cmd], poss := [pos] }) ∧
    (r ≠ .ok → Effect (.hostedCommandLanded c r cmd) s fun u => Ended s u c (rspStatus r) (x.ordinal + x.cmds.length)) ∧
    (x.state ≠ 5 → Effect (.completionTimeout c) s fun u => Ended s u c 0x0401 (x.ordinal + x.cmds.length))) ∧
  (∀ (s : State) (c : Nat) (x : Ctx) (pos : W64) (cmd : BitVec 256), running s = true → x = s.ctx c → waitsIn s c pos cmd = true →
    (∀ q, cCode cmd = 0x0A → q = devPort (devEntry s (cDevice cmd)) →
      (s.sched.frame.toNat = sampleAt x x.sampleIndex → s.sched.cycle = 0 → x.sampleIndex < cCount cmd / 16 →
        Effect (.measureSample c) s fun u =>
          u.ctx c = { x with sampleIndex := x.sampleIndex + 1, begun := absCycle s } ∧ ∃ w, u.out = s.out ++
            [.sample q w (rf s R.FP_MEAS F.FP_MEAS_CMD_LEN (q - 128) + 1) (rf s R.FP_MEAS F.FP_MEAS_RX_LEN (q - 128) + 1)]) ∧
      (∀ code t a, x.sampleDone < x.sampleIndex → x.sampleDone + 1 < cCount cmd / 16 → cIda cmd = false → fnLive s x.fn = true →
        slotOf s (cDevice cmd) (cHi cmd % 256) = none → progTarget (c / 1024) (cAddr cmd) = .host a →
        (a + 16 * x.sampleDone) % 4096 + 16 ≤ 4096 → permitted s x.master .wr (.host (a + 16 * x.sampleDone)) = true →
        Effect (.sampleRecordWritten c code ⟨0, t⟩) s fun u =>
          (u.ctx c).sampleDone = x.sampleDone + 1 ∧ (u.ctx c).moved = x.moved + 16 ∧
          Sends s u (.hostWrite x.fn (a + 16 * x.sampleDone) (leBytes 16 (pack [(32, unsigned 32 (rawOf s (q - 128) code.toNat)),
            (32, unsigned 32 (rawOf s (q - 128) code.toNat)), (32, sampleAt x x.sampleDone), (8, cHi cmd), (8, 0xFF), (8, 0), (8, 1)]))))) ∧
    (∀ (res : DevResult) (a : Nat), 0 < cCount cmd → cCount cmd ≤ res.len → x.moved = 0 → cIda cmd = false → cDrop cmd = false →
      fnLive s x.fn = true →
      progTarget (c / 1024) (cAddr cmd) = .host a → a % 4096 + cCount cmd ≤ 4096 → permitted s x.master .wr (.host a) = true →
      ((cCode cmd = 9 ∧ ∃ e, progTarget (c / 1024) (cLo cmd) = .host e ∧ e % 4096 + cCount cmd ≤ 4096 ∧
          permitted s x.master .rd (.host e) = true ∧ res.rsp = .ok ∧ res.uncorr = false ∧ (e + cCount cmd ≤ a ∨ a + cCount cmd ≤ e)) ∨
       (cCode cmd = 0x0C ∧ devPers (devEntry s (cDevice cmd)) = 1 ∧ portUp s (devPort (devEntry s (cDevice cmd))) = true ∧
          portAnswers s (devPort (devEntry s (cDevice cmd))) = true ∧ bitsOf res.cqe 127 113 = 0)) →
      Effect (.stepComplete c res) s fun u =>
        Sends s u (.hostWrite x.fn a (bytesAt res.data 0 (cCount cmd))) ∧
        (cFence cmd = false → Finished s u c cmd (nextPos x pos.toNat) 0) ∧
        (cFence cmd = true → (u.ctx c).fenceWait = true ∧ Sends s u (.hostRead x.fn a 0))) ∧
    (∀ res, isDevice (cCode cmd) = true → cCode cmd ≠ 0x0A → stepWaits (cCode cmd) = true → stepHost s c = false ∨ fnLive s x.fn = true →
      (portUp s (devPort (devEntry s (cDevice cmd))) = false → Effect (.stepComplete c res) s fun u =>
        Ended s u c 0x0502 x.ordinal ∧ Sends s u (.deviceAbort (cDevice cmd))) ∧
      (cCode cmd = 0x10 → devPers (devEntry s (cDevice cmd)) = 1 → portUp s (devPort (devEntry s (cDevice cmd))) = true →
        portAnswers s (devPort (devEntry s (cDevice cmd))) = true →
        (bitsOf res.cqe 127 113 = 0 → Effect (.stepComplete c res) s fun u => Finished s u c cmd (nextPos x pos.toNat) 0) ∧
        (bitsOf res.cqe 127 113 ≠ 0 → Effect (.stepComplete c res) s fun u => Ended s u c 0x0501 x.ordinal))) ∧
    (isDevice (cCode cmd) = true → cCode cmd ≠ 0x0A → portAnswers s (devPort (devEntry s (cDevice cmd))) = true →
      devTimeout (devEntry s (cDevice cmd)) ≤ s.sched.frame.toNat - x.begun / 3000 → Effect (.deviceTimeout c) s fun u =>
        Ended s u c 0x0503 x.ordinal ∧ Sends s u (.deviceAbort (cDevice cmd)))) ∧
  (∀ (s : State) (c a : Nat) (x : Ctx) (pos : W64) (cmd : BitVec 256), running s = true → x = s.ctx c → x.running = true →
    x.fenceWait = true → x.state = 3 → x.cmds = [cmd] → x.poss = [pos] → x.fetching = none → campWaits s = false →
    keepsCond (cCode cmd) = false → x.ordinal < x.budget →
    Effect (.fenceAck c .ok) s (fun u => Finished s u c cmd (nextPos x pos.toNat) (condOf s x)) ∧
    (lastHost ((destPieces s x (c / 1024)).getD []) = some a →
      Effect (.fenceAck c .ur) s (fun u => Ended s u c 0x0403 x.ordinal) ∧
      Effect (.fenceAck c .timeout) s (fun u => Ended s u c 0x0401 x.ordinal))) ∧
  (∀ (s : State) (p : Nat) (v : W32) (x : Ctx), running s = true → mgmtAnswers s = true → p < 8 → x = s.ctx (p * 1024 + v.toNat % 1024) →
    Effect (.pitchCtxSelect p v) s fun u =>
      rg u R.PITCH_CTX_SELECT p = v.toNat % 1024 ∧
      (x.state < 8 → x.ordinal < 2 ^ 16 → x.lease.getD 0 < 256 →
        rf u R.PITCH_CTX_STATE F.PITCH_CTX_STATE_STATE p = ctxShown s (p * 1024 + v.toNat % 1024) x ∧ rf u R.PITCH_CTX_STATE F.PITCH_CTX_STATE_STEP p = x.ordinal ∧
        rf u R.PITCH_CTX_STATE F.PITCH_CTX_STATE_COND p = x.cond.toNat ∧ rf u R.PITCH_CTX_QUEUE F.PITCH_CTX_QUEUE_SEQ p = x.seq.toNat))

/-- 04 R166, 05 R190, 06 R243, 07 R247, 13 R438: a pitch fault sets FAULT and has the pitch reset. The reset frees every context of the
pitch, clears its reserved scratchpad, all of it where its domain was lost, lays the library section of the stored image into it again,
and leaves every other byte; it loads its cores from the firmware store, and halts a core with cause 4 where the store does not have its
digest. The front end ends with LAST_KIND 3. (The model's choices in it: log entry 42.) -/
def Obligations.PitchResetStopsItsContextsAndReloadsItsCores : Prop :=
  (∀ (s : State) (p : Nat), running s = true → p < 8 → Effect (.pitchFault p) s fun u =>
    rf u R.PITCH_FAULT F.PITCH_FAULT_FAULT p = 1 ∧ p ∈ u.power.pitchPending ∧ u.prog = s.prog ∧ u.cores = s.cores ∧ u.mem = s.mem) ∧
  (∀ (s : State) (p : Nat) (host : List Host.Cell) (e : Sect) (inCopy : Nat → Bool), running s = true → p < 8 →
    p ∈ s.power.pitchPending → recovering s = false → e = sectOf s.trust.store 3 → spReserved s p + e.len ≤ 2 ^ 25 →
    (∀ a, inCopy a = (s.trust.store != [] && decide (a / 2 ^ 25 = p ∧ spReserved s p ≤ a % 2 ^ 25 ∧ a % 2 ^ 25 < spReserved s p + e.len))) →
    Effect (.pitchReset p host) s fun u =>
      p ∉ u.power.pitchPending ∧ (∀ c, c / 1024 = p → u.ctx c = Ctx.reset) ∧
      rf u R.RECOV_STATUS F.RECOV_STATUS_LAST_KIND = 3 ∧ rg u R.RECOV_LAST_FRAME = s.sched.frame.toNat ∧
      (∀ k, k / 4 = p → (u.core k).imem = (s.core k).storeI ∧ (u.core k).x = (s.core k).storeX ∧ (u.core k).y = (s.core k).storeY ∧
        (u.core k).calls = [] ∧ (u.core k).halt = (if storeOk (s.core k) k then 0 else 4)) ∧
      (∀ a, Tbl.get 0 u.mem.sp a =
        (if inCopy a then Tbl.get 0xFF s.trust.store (e.off + (a % 2 ^ 25 - spReserved s p))
         else if a / 2 ^ 25 = p ∧ (if 4 ≤ domState s p ∨ p ∈ s.power.pitchLost then 0 else spReserved s p) ≤ a % 2 ^ 25 then 0
         else Tbl.get 0 s.mem.sp a)))

/-- 05 R167, R189: recovery of the device takes the digests of the image in force into the header, notes whether they had changed, and
restores every queue from its record; the queues of a function that may not access its memory stay as their records give them and wait. 05
R170, R200: when the copy into SPARE ends, SPARE takes the lost channel's role with the survivor's records, and SINGLE_COPY and
REBUILD_BUSY clear. A write of RECOV_READ_SELECT sets READ_BUSY, and the fetch that ends it delivers the 64 bytes of the block selected,
or READ_ERR where that copy cannot be read. (The model's choices in it: log entries 18, 41, 92 and 93.) -/
def Obligations.RecoveryRestoresQueuesAndCopies : Prop :=
  (∀ (s : State) (host : List Host.Cell), running s = true → recovering s = true →
     Effect (.recoverDevice host) s fun u =>
       recovering u = false ∧ rg u R.RECOV_LAST_FRAME = s.sched.frame.toNat ∧
       rf u R.RECOV_STATUS F.RECOV_STATUS_LAST_KIND = (if s.trust.resetKind = 4 then 2 else 1) ∧
       rb u R.RECOV_STATUS F.RECOV_STATUS_IMAGE_CHANGED = imageChanged s.recov s ∧
       ∀ k v fn slot, recBlocks s.recov 0x4000 0x8000 = [] → (recBlocks s.recov 0x8000 0x10000).filter (fun k => k % 2 == 0) = [k] →
         readRec s.recov k 2 128 = some v → fget v (115, 112) ≠ 0 → fn = fget v (172, 160) → slot = fget v (183, 176) →
         fnLive s fn = false →
         (u.sq fn slot).consumed.toNat = fget v (63, 0) ∧ (u.sq fn slot).completedSeq.toNat = fget v (95, 64) ∧
         (u.sq fn slot).generation.toNat = fget v (111, 96) ∧ (u.sq fn slot).state = fget v (115, 112) ∧
         (u.sq fn slot).base.toNat = fget v (319, 256) ∧ (u.sq fn slot).index.toNat = fget v (383, 320) ∧
         sqRecovering u fn slot = true) ∧
  ((∀ (s : State) (ch : Nat), running s = true → s.recov.rebuild = some ch → ch < 16 → Effect .rebuildComplete s fun u =>
     rf u R.RECOV_STATUS F.RECOV_STATUS_SINGLE_COPY = 0 ∧ rf u R.RECOV_STATUS F.RECOV_STATUS_REBUILD_BUSY = 0 ∧
     u.recov.rebuild = none ∧
     (s.recov.lostA = true → u.recov.copyA = s.recov.copyB ∧ u.recov.copyB = s.recov.copyB ∧ u.recov.lostA = false ∧
       rf u R.RECOV_CFG F.RECOV_CFG_COPY_A = ch ∧ rf u R.RECOV_CFG F.RECOV_CFG_COPY_B = rf s R.RECOV_CFG F.RECOV_CFG_COPY_B) ∧
     (s.recov.lostA = false → u.recov.copyB = s.recov.copyA ∧ u.recov.copyA = s.recov.copyA ∧ u.recov.lostB = false ∧
       rf u R.RECOV_CFG F.RECOV_CFG_COPY_B = ch ∧ rf u R.RECOV_CFG F.RECOV_CFG_COPY_A = rf s R.RECOV_CFG F.RECOV_CFG_COPY_A)) ∧
   (∀ (s : State) (v : W32), running s = true → mgmtAnswers s = true → Effect (.recovReadSelect v) s fun u =>
     rf u R.RECOV_STATUS F.RECOV_STATUS_READ_BUSY = 1 ∧ u.recov.readPending = true ∧
     rf u R.RECOV_READ_SELECT F.RECOV_READ_SELECT_AREA = bitsOf v 31 28 ∧
     rf u R.RECOV_READ_SELECT F.RECOV_READ_SELECT_COPY = bitsOf v 24 24 ∧
     rf u R.RECOV_READ_SELECT F.RECOV_READ_SELECT_INDEX = bitsOf v 23 0 ∧
     ∀ i, i < 8 → rg u R.RECOV_READ_DATA i = rg s R.RECOV_READ_DATA i) ∧
   (∀ (s : State) (base n i : Nat) (b : Bool), running s = true → s.recov.readPending = true →
     areaBlocks[rf s R.RECOV_READ_SELECT F.RECOV_READ_SELECT_AREA]? = some (base, n) →
     i = rf s R.RECOV_READ_SELECT F.RECOV_READ_SELECT_INDEX → b = rb s R.RECOV_READ_SELECT F.RECOV_READ_SELECT_COPY → i < n →
     Effect .recovReadComplete s fun u =>
       rf u R.RECOV_STATUS F.RECOV_STATUS_READ_BUSY = 0 ∧ u.recov.readPending = false ∧
       (copyOk s.recov b (base + i) = true → rf u R.RECOV_STATUS F.RECOV_STATUS_READ_ERR = 0 ∧
         ∀ j, j < 8 → rg u R.RECOV_READ_DATA j = bitsOf (copyAt s.recov b (base + i)) (64 * j + 63) (64 * j)) ∧
       (copyOk s.recov b (base + i) = false → rf u R.RECOV_STATUS F.RECOV_STATUS_READ_ERR = 1)))

/-- 06 R205, R212, R216, R217, R224, R225: an instruction that computes operand 1 from the others reads them at its size once its accesses
are granted, gives operand 1, in a register or in memory, the result of its operation, writes the predicate output if its specifier names
one, and goes on at the next instruction. A division by zero completes so only while CCR.DZT is clear. The rows (`isqRowOf`) are mov,
movsx, movzx, add, sub, neg, abs, mul, mulhs, mulhu, divs, divu, rems, remu, and, or, xor, not, shl, shr, sar, rol, ror, pand, por, pxor,
pandn, cmpeq, cmpne, cmplt, cmple, cmplo, cmpls and tst. (The model's choices in it: log entries 3, 47 and 51.) -/
def Obligations.IsquinInstructionsComputeTheirResults : Prop :=
  ∀ (s s1 : State) (k : Nat) (i : Insn) (b : RegBank) (ls : List Located) (l m : List Acs) (vs : List Nat) (r : Nat × Bool),
    running s = true → isqAt s k i → computes i.op = true →
    Operands s k i (fun n => n != 0) (fun n => n == 0) b ls l m vs s1 →
    (divides i.op = true → vs.getD 2 0 = 0 → (s.core k).ccr.getLsbD 0 = false) →
    r = isqResult i.op (opBits i) (vs.getD 1 0) (vs.getD 2 0) →
    Effect (isqRowOf i.op k) s fun u =>
      u = destMem (steps s1 k (putPred i (destReg b ls r.1) r.2) (nextPc (s.core k).pc i) (isqCycles s k i l (isqBase i.op i.sz))) k m ls r.1

/-- 06 R214, R215, R218, R219, R224, R225, R237: what the branches, the accumulator instructions, LEA, EI, DI, SLEEP and NOP do, and that
an instruction whose guard does not hold takes one cycle and nothing else. Among the rows are mac, msu and macu (opcodes 0x30 to 0x32) and
cbeq, cbne, cblt, cble, cbgt, cbge, cblo, cbls, cbhi and cbhs (0x48 to 0x51). (The model's choices in it: log entry 3.) -/
def Obligations.IsquinBranchesAndAccumulatorsFollowTheirRules : Prop :=
  (∀ (s : State) (k : Nat) (i : Insn) (c : Core), running s = true → c = s.core k → atInsn s k = true → c.repLeft = 0 →
    c.decodeAt k c.pc = .ok i → c.guardOk i = false → i.op ≠ 0x60 → i.op ≠ 0x61 →
    Effect (isqRowOf i.op k) s fun u => u = s.setCore k { c with pc := nextPc c.pc i, cc := c.cc + 1 }) ∧
  (∀ (s : State) (k : Nat) (i : Insn) (c : Core), running s = true → c = s.core k → isqAt s k i →
    (i.op = 0x40 → Effect (.bra k) s fun u => u = s.setCore k { c with pc := target c.pc i, cc := c.cc + 2 }) ∧
    (i.op = 0x6F → Effect (.isqNop k) s fun u => u = s.setCore k { c with pc := nextPc c.pc i, cc := c.cc + 1 }) ∧
    (i.op = 0x64 → Effect (.ei k) s fun u => u = s.setCore k { c with csr := c.csr ||| 0x800, pc := nextPc c.pc i, cc := c.cc + 1 }) ∧
    (i.op = 0x65 → Effect (.di k) s fun u =>
      u = s.setCore k { c with csr := c.csr &&& ~~~0x800, pc := nextPc c.pc i, cc := c.cc + 1 }) ∧
    (i.op = 0x66 → Effect (.sleep k) s fun u => u = s.setCore k { c with sleeping := true, pc := nextPc c.pc i, cc := c.cc + 1 }) ∧
    (∀ q m t, q = ({ addr := (c.bank.getG 0 - 4).toNat, size := 4, rd := false, wr := true, code := false } : Acs) → i.op = 0x42 →
      accessesTrap s k [q] = none → waitsFor s k [q] = none → granted s k [q] = some (m, t) →
      Effect (.brl k) s fun u =>
        u = acsWrite (steps t k (c.bank.setG 0 (c.bank.getG 0 - 4)) (target c.pc i) (3 + acsCycles c k [q])) k (m.headD q)
          (nextPc c.pc i).toNat) ∧
    (∀ q v m t s1, q = ({ addr := (c.bank.getG 0).toNat, size := 4, rd := true, wr := false, code := false } : Acs) → i.op = 0x44 →
      accessesTrap s k [q] = none → waitsFor s k [q] = none → granted s k [q] = some (m, t) → acsRead t k q = (v, s1) →
      Effect (.ret k) s fun u =>
        u = steps s1 k ((s1.core k).bank.setG 0 (c.bank.getG 0 + 4)) (BitVec.ofNat 32 v) (3 + acsCycles c k [q]))) ∧
  (∀ (s s1 : State) (k n : Nat) (i : Insn) (c : Core) (b : RegBank) (ls : List Located) (l m : List Acs) (vs : List Nat), running s = true →
    c = s.core k → isqAt s k i →
    (i.op = 0x04 → Operands s k i (fun _ => false) (fun n => n == 0) b ls l m vs s1 → Effect (.lea k) s fun u =>
      u = destMem (steps s1 k (destReg b ls (vs.getD 1 0)) (nextPc c.pc i) (isqCycles s k i l 1)) k m ls (vs.getD 1 0)) ∧
    (0x30 ≤ i.op → i.op ≤ 0x32 → Operands s k i (fun n => n != 0) (fun _ => false) b ls l m vs s1 →
      n = (i.ops.headD ⟨10, 0, 0, 1, 0, 4⟩).reg → ∀ e : Int,
      e = sval 80 (b.getAC n).toNat +
        (if i.op = 0x30 then sval (opBits i) (vs.getD 1 0) * sval (opBits i) (vs.getD 2 0)
         else if i.op = 0x31 then -(sval (opBits i) (vs.getD 1 0) * sval (opBits i) (vs.getD 2 0))
         else ((vs.getD 1 0 * vs.getD 2 0 : Nat) : Int)) →
      Effect (isqRowOf i.op k) s fun u =>
        u = steps s1 k (putPred i (b.setAC n (BitVec.ofInt 80 e)) (!fits 80 e)) (nextPc c.pc i) (isqCycles s k i l 1)) ∧
    (i.op = 0x33 → Operands s k i (fun n => n == 2) (fun n => n == 0) b ls l m vs s1 →
      n = ((i.ops.drop 1).headD ⟨10, 0, 0, 1, 0, 4⟩).reg → ∀ (e : Int) (r : Nat),
      e = sval 80 (b.getAC n).toNat / ((2 ^ min (vs.getD 2 0) 80 : Nat) : Int) →
      r = (if fits (opBits i) e then low (opBits i) e
        else if e < 0 then 2 ^ (opBits i - 1) else 2 ^ (opBits i - 1) - 1) →
      Effect (.acx k) s fun u =>
        u = destMem (steps s1 k (putPred i (destReg b ls r) (!fits (opBits i) e)) (nextPc c.pc i) (isqCycles s k i l 2)) k m ls r) ∧
    (i.op = 0x41 → Operands s k i (fun _ => true) (fun _ => false) b ls l m vs s1 → Effect (.jmp k) s fun u =>
      u = steps s1 k b (BitVec.ofNat 32 (vs.getD 0 0)) (isqCycles s k i l 3)) ∧
    (i.op = 0x45 → Operands s k i (fun _ => true) (fun _ => true) b ls l m vs s1 →
      ∀ v, v = (vs.getD 0 0 + 2 ^ opBits i - 1) % 2 ^ opBits i → vs.getD 0 0 < 2 ^ opBits i → Effect (.dbnz k) s fun u =>
      u = destMem (steps s1 k (destReg b ls v) (if v = 0 then nextPc c.pc i else target c.pc i)
        (isqCycles s k i l (if v = 0 then 1 else 2))) k m ls v) ∧
    (0x48 ≤ i.op → i.op ≤ 0x51 → Operands s k i (fun _ => true) (fun _ => false) b ls l m vs s1 → ∀ t,
      t = isqCond (i.op - 0x48) (opBits i) (vs.getD 0 0) (vs.getD 1 0) → Effect (isqRowOf i.op k) s fun u =>
      u = steps s1 k b (if t then target c.pc i else nextPc c.pc i) (isqCycles s k i l (if t then 2 else 1))))

/-- 06 R213, R217, R221, R222, R223, R226, R227, R228: REP latches its count and repeats the instruction after it that many times, or
skips it for a count of 0; an iteration that completes, no request being presented to take first, counts down, and the last one goes on
after the instruction. Reserved encodings, TRAP, an access that may not be made and a division by zero under CCR.DZT trap, saving the
address at which the core can go on. The rows of REP are repC (opcode 0x60) and repN (0x61). (The model's choices in it: log entries 3 and
46.) -/
def Obligations.RepeatsCountDownAndTrapsAreTaken : Prop :=
  (∀ (s : State) (k n : Nat) (i : Insn) (c : Core) (p : BitVec 16), running s = true → c = s.core k → isqAt s k i → i.gp = 0 → i.gi = false →
    (i.op = 0x60 ∧ n = c.bank.c.toNat % 2 ^ 16) ∨ (i.op = 0x61 ∧ n = i.imm.toNat) → c.fetch k (nextPc c.pc i) = .ok p →
    (notAfterRep (p.toNat / 256) = true → Effect (isqRowOf i.op k) s fun u => Trapped s u k (1, c.pc) c.pc) ∧
    (notAfterRep (p.toNat / 256) = false → n ≠ 0 → Effect (isqRowOf i.op k) s fun u =>
      u = s.setCore k { c with repLeft := n, repFresh := true, repBack := false, cc := c.cc + 1 }) ∧
    (notAfterRep (p.toNat / 256) = false → n = 0 → ∀ j, c.decodeAt k (nextPc c.pc i) = .ok j → Effect (isqRowOf i.op k) s fun u =>
      u = s.setCore k { c with pc := nextPc (nextPc c.pc i) j, cc := c.cc + 1 })) ∧
  (∀ (s : State) (k n : Nat) (j : Insn) (c : Core) (r : Ran), running s = true → c = s.core k → coreRuns s k = true → coreAsleep c = false →
    noRequest s k = true → c.repLeft = n + 1 → c.decodeAt k (repeatedAt c) = .ok j → semOf j.op s k (repeatedAt c) j = .ran r →
    Effect (if c.repFresh then isqRowOf j.op k else .repeatIteration k) s fun u =>
      u = r.after (r.s.setCore k (if n = 0
        then { r.c with cc := r.c.cc + r.cc, pc := r.next, repLeft := 0, repFresh := false, repBack := false }
        else { r.c with cc := r.c.cc + r.cc, repLeft := n, repFresh := false }))) ∧
  (∀ (s : State) (k : Nat) (t : Trp), running s = true → atInsn s k = true → (s.core k).decodeAt k (insnAt (s.core k)) = .error t →
    Effect (.reservedOpcode k) s fun u => Trapped s u k t (s.core k).pc) ∧
  (∀ (s s1 : State) (k : Nat) (i : Insn) (b : RegBank) (ls : List Located) (l m : List Acs) (vs : List Nat) (t : Trp), running s = true →
    isqAt s k i →
    (i.op = 0x62 → Effect (.trap k) s fun u =>
      Trapped s u k (7, BitVec.ofNat 32 (i.imm.toNat % 256)) (nextPc (s.core k).pc i)) ∧
    (computes i.op = true → locateAll (nextPc (s.core k).pc i) (s.core k).bank i.ops = (b, ls) →
      accessesTrap s k (acsList (fun n => n != 0) (fun n => n == 0) 0 ls) = some t → t.1 ≠ 7 →
      Effect (isqRowOf i.op k) s fun u => Trapped s u k t (s.core k).pc) ∧
    (divides i.op = true → Operands s k i (fun n => n != 0) (fun n => n == 0) b ls l m vs s1 → vs.getD 2 0 = 0 →
      (s.core k).ccr.getLsbD 0 = true →
      Effect (isqRowOf i.op k) s fun u => Trapped s u k (2, (s.core k).pc) (s.core k).pc))

/-- 06 R231-R237, 08 R300: a normal request pushes a frame and goes on at 0x80 with IE clear, and a fast request switches to the fast bank
at 0x90 with PC and CSR in FPC and FCSR. A core that sleeps wakes for a source presented to it, and goes on after SLEEP where none can be
taken. RETI returns through the frame, or through FPC and FCSR. (The model's choices in it: log entries 44 and 45.) -/
def Obligations.InterruptsAreEnteredAndReturnedFrom : Prop :=
  (∀ (s : State) (k : Nat) (c : Core) (g : W32), running s = true → c = s.core k → coreRuns s k = true → g = c.bank.getG 0 - 8 →
    (fastTaken s k = true → c.badAt 2 0x90 = false → ∀ e : Instr,
      e = .fastEntry k ∨ (e = .coreWake k ∧ coreAsleep c = true ∧ presentedAt s k ≠ []) → Effect e s fun u =>
        (u.core k).pc = 0x90 ∧ (u.core k).fpc = c.pc ∧ (u.core k).fcsr = csrImage c ∧
        (u.core k).csr = ((c.csr &&& ~~~0xF0) ||| 0x2000) ∧ (u.core k).main = c.main ∧ (u.core k).fast = c.fast ∧
        (u.core k).sleeping = false ∧ (u.core k).cc = c.cc + 2) ∧
    (fastTaken s k = false → normalTaken s k = true → ∀ e : Instr,
      e = .normalEntry k ∨ (e = .coreWake k ∧ coreAsleep c = true ∧ presentedAt s k ≠ []) →
      (frameFits g.toNat = true → g.toNat % 4 = 0 → c.badAt 2 0x80 = false → Effect e s fun u =>
        (u.core k).pc = 0x80 ∧ (u.core k).csr = (c.csr &&& ~~~0x800) ∧ (u.core k).bank.getG 0 = g ∧ (u.core k).sleeping = false ∧
        (u.core k).repLeft = 0 ∧ (u.core k).cc = c.cc + 6 ∧
        (if g.toNat < 0x8000 then tread 0 (u.core k).x g.toNat 8 else tread 0 (u.core k).y (g.toNat - 0x8000) 8) =
          leBytes 4 (csrImage c).toNat ++ leBytes 4 c.pc.toNat) ∧
      (frameFits g.toNat = false ∨ g.toNat % 4 ≠ 0 → Effect e s fun u => u = s.setCore k { c with halt := 2 })) ∧
    (fastTaken s k = false → normalTaken s k = false → coreAsleep c = true → presentedAt s k ≠ [] →
      Effect (.coreWake k) s fun u => u = s.setCore k { c with sleeping := false })) ∧
  (∀ (s : State) (k g : Nat) (i : Insn) (c : Core) (img : W32), running s = true → c = s.core k → isqAt s k i → i.op = 0x63 →
    g = (c.bank.getG 0).toNat →
    (c.isFast = true → bitsOf c.csr 7 4 = 0 → c.fcsr.getLsbD 15 = false → Effect (.reti k) s fun u =>
      (u.core k).pc = c.fpc ∧ (u.core k).csr = (c.fcsr &&& 0x7FFF) ∧ (u.core k).main = c.main ∧ (u.core k).fast = c.fast ∧
      (u.core k).repLeft = 0 ∧ (u.core k).cc = c.cc + 2) ∧
    (c.isFast = false ∨ bitsOf c.csr 7 4 ≠ 0 →
      (frameFits g = false → Effect (.reti k) s fun u => u = s.setCore k { c with halt := 2 }) ∧
      (frameFits g = true → g % 4 = 0 → (∀ o, o < 8 → (if g < 0x8000 then c.badAt 0 (g + o) else c.badAt 1 (g - 0x8000 + o)) = false) →
        img = BitVec.ofNat 32 (leNat (if g < 0x8000 then tread 0 c.x g 4 else tread 0 c.y (g - 0x8000) 4)) → img.getLsbD 15 = false →
        Effect (.reti k) s fun u =>
          (u.core k).pc = BitVec.ofNat 32 (leNat (if g < 0x8000 then tread 0 c.x (g + 4) 4 else tread 0 c.y (g + 4 - 0x8000) 4)) ∧
          (u.core k).csr = (((if c.isFast then c.csr - 0x10 else c.csr) &&& 0x60F0) ||| (img &&& 0x800)) ∧
          (u.core k).bank.getG 0 = c.bank.getG 0 + 8 ∧ (u.core k).repLeft = 0 ∧ (u.core k).cc = c.cc + 5)))

/-- 06 R239-R242: CWAIT, or the arrival of a call for a core that waits in it, takes the oldest call: its routine runs with the call block
in G1 and its number in G2. CRET gives its result to the step of the caller and returns to CWAIT. A step whose routine passes its limit
ends with 0x0603, and the core that still runs it takes trap 9 without a frame. 06 R229, R243: HALT stops a core that runs with cause 1
and RESUME lets it go on where it stands; CORE_RESET loads its memories from the firmware store and starts it at 0, keeping its queue, or
halts it with cause 4 where the store does not have its digest. (The model's choices in it: log entries 40, 50 and 49.) -/
def Obligations.CallsAreTakenAndCoresHaltAndReset : Prop :=
  ((∀ (s : State) (k : Nat) (c : Core), running s = true → c = s.core k →
     (∀ i, isqAt s k i → i.op = 0x67 → k < 32 → coreInCall c = false → c.calls = [] → Effect (.cwait k) s fun u =>
       u = s.setCore k { c with cwaiting := true }) ∧
     (∀ i, isqAt s k i → i.op = 0x67 → k = 32 ∨ coreInCall c = true → Effect (.cwait k) s fun u => Trapped s u k (8, c.pc) c.pc) ∧
     (∀ q rest e, c.calls = q :: rest →
       (e = .cwait k ∧ (∃ i, isqAt s k i ∧ i.op = 0x67) ∧ k < 32 ∧ coreInCall c = false) ∨
       (e = .callDispatch k ∧ coreRuns s k = true ∧ c.cwaiting = true ∧ noRequest s k = true) →
       Effect e s fun u =>
         (u.core k).pc = q.entry ∧ (u.core k).current = some q ∧ rest <+: (u.core k).calls ∧ coreInCall (u.core k) = true ∧
         (u.core k).callRet = c.pc ∧ (u.core k).callSp = c.bank.getG 0 ∧ (u.core k).cwaiting = false ∧
         (u.core k).bank.getG 1 = 0x10000000 + q.block ∧ (u.core k).bank.getG 2 = BitVec.ofNat 32 q.routine ∧
         rf u R.PITCH_CALL_COUNTS F.PITCH_CALL_COUNTS_CALLS (k / 4) = min (rf s R.PITCH_CALL_COUNTS F.PITCH_CALL_COUNTS_CALLS (k / 4) + 1)
           (2 ^ fwidth F.PITCH_CALL_COUNTS_CALLS - 1))) ∧
   (∀ (s s1 : State) (k : Nat) (i : Insn) (b : RegBank) (ls : List Located) (l m : List Acs) (vs : List Nat) (q : IsqCall), running s = true →
     isqAt s k i → i.op = 0x68 →
     (k = 32 ∨ coreInCall (s.core k) = false → Effect (.cret k) s fun u => Trapped s u k (8, (s.core k).pc) (s.core k).pc) ∧
     (k < 32 → coreInCall (s.core k) = true → Operands s k i (fun _ => true) (fun _ => false) b ls l m vs s1 →
       (s1.core k).current = some q → Effect (.cret k) s fun u =>
         (u.core k).pc = (s.core k).callRet ∧ (u.core k).bank.getG 0 = (s.core k).callSp ∧ (u.core k).current = none ∧
         coreInCall (u.core k) = false ∧
         ∀ pos cmd, q.expired = false → q.uncorr = false → waitsIn s q.ctx pos cmd = true → cCode cmd = 8 →
           (vs.getD 0 0 % 2 ^ 16 = 0 → Finished s u q.ctx cmd (nextPos (s.ctx q.ctx) pos.toNat) 0) ∧
           (vs.getD 0 0 % 2 ^ 16 ≠ 0 → (cHi cmd).testBit 15 = true → Finished s u q.ctx cmd (nextPos (s.ctx q.ctx) pos.toNat) 4) ∧
           (vs.getD 0 0 % 2 ^ 16 ≠ 0 → (cHi cmd).testBit 15 = false → Ended s u q.ctx 0x0510 (s.ctx q.ctx).ordinal))) ∧
   (∀ (s : State) (c : Nat) (pos : W64) (cmd : BitVec 256), running s = true → waitsIn s c pos cmd = true → cCode cmd = 8 →
     limitPassed s c = true → callUncorr s c = false → Effect (.callLimit c) s fun u => Ended s u c 0x0603 (s.ctx c).ordinal) ∧
   (∀ (s : State) (k : Nat) (c : Core) (a : IsqCall), running s = true → c = s.core k → coreRuns s k = true → c.current = some a →
     callOverdue s c = true → c.isFast = false → curPrio s k = 0 → c.badAt 2 0x70 = false → Effect (.callLimitTrap k) s fun u =>
       (u.core k).pc = 0x70 ∧ (u.core k).bank.getG 0 = c.callSp ∧ (u.core k).trapCause = 9 ∧
       (u.core k).trapAddr = BitVec.ofNat 32 a.routine ∧ (u.core k).current = none ∧ coreInCall (u.core k) = false ∧
       (u.core k).x = c.x ∧ (u.core k).y = c.y)) ∧
  (∀ (s : State) (k : Nat) (c : Core), running s = true → mgmtAnswers s = true → c = s.core k → corePowered s k = true →
     (c.halt = 0 → Effect (.halt k) s fun u => u = s.setCore k { c with halt := 1 }) ∧
     (c.halt = 1 → Effect (.resume k) s fun u =>
       (u.core k).halt = 0 ∧ (u.core k).pc = c.pc ∧ (u.core k).main = c.main ∧ (u.core k).fast = c.fast ∧ (u.core k).csr = c.csr ∧
       (u.core k).x = c.x ∧ (u.core k).y = c.y ∧ c.calls <+: (u.core k).calls) ∧
     (c.halt ≠ 1 → Effect (.resume k) s fun u => u = s) ∧
     Effect (.coreReset k) s fun u =>
       (u.core k).pc = 0 ∧ (u.core k).csr = 0 ∧ (u.core k).x = c.storeX ∧ (u.core k).y = c.storeY ∧ (u.core k).imem = c.storeI ∧
       (u.core k).halt = (if storeOk c k then 0 else 4) ∧ (u.core k).current = none ∧ c.calls <+: (u.core k).calls)

/-- 02 R33, R52, 07 R250, R254-R258: the accesses of a background test step, one at each cycle of a test stake that one entry alone
claims, on port B of the bank under test, which it takes. A save takes the word into its shadow entry unless a write made the entry first;
a march write stores the background and a march read notes a failed row; a restore writes the entry back and frees it, maps a failed row
to the next spare at its first restore, and the last one moves on to the next step. ENABLE = 0 aborts the step; its entries stand until
each is restored by a write on a free port of the bank. A write of a word under test goes to its entry. (The model's choices in it: log
entry 94.) -/
def Obligations.BackgroundTestSavesMarchesAndRestores : Prop :=
  (∀ (s v : State) (p c : Nat) (b : Bool) (e : Stake) (t : TestStep) (fails : Bool) (ecc : EccResult), running s = true →
    s.sched.cycle ≤ c → c < 3000 → v = reach s c → activeBank v = some b →
    (bankOf v b).claimants (timetableFrame v (bankOf v b)) 8 p c = [e] →
    (bankOf v b).collides (timetableFrame v (bankOf v b)) e c = false → claimed v (absCycle v) 8 p = false →
    claimed v (absCycle v) 0 (testPort v p) = false → testRuns v p = true → t = testOf v p →
    Effect (.backgroundTestAccess ⟨p, c⟩ fails ecc) s fun u =>
      claimed u (absCycle v) 8 p = true ∧ claimed u (absCycle v) 0 (testPort v p) = true ∧
      (∀ w bad, t.access < 64 → w = testBase v p + t.access →
        bad = (judged dieCap ecc == .uncorrectable || v.mem.spBad.contains (spWordKey p w)) →
        testOf u p = { t with access := t.access + 1 } ∧ u.mem.sp = v.mem.sp ∧
        shadowOf u p t.access =
          (if (shadowOf v p t.access).valid then shadowOf v p t.access
           else { valid := true, bad := bad, data := spArray v p w ^^^ BitVec.ofNat 256 (flipsAt ecc 0 32),
                  check := if bad then some (spCheckOf v p w) else none }) ∧
        ∀ j, j < 64 → j ≠ t.access → shadowOf u p j = shadowOf v p j) ∧
      (∀ m w want, 64 ≤ t.access → t.access < 704 → m = marchAccess (t.access - 64) → w = testBase v p + m.1 →
        want = background (rf v R.BGT_STATUS F.BGT_STATUS_PATTERN p) (rf v R.BGT_STATUS F.BGT_STATUS_STEP p * 64 + m.1)
          (marchInverse (t.access - 64)) →
        u.mem.shadow = v.mem.shadow ∧ u.regs = v.regs ∧
        (m.2 = false → spArray u p w = want.1 ∧ spCheckOf u p w = want.2 ∧ testOf u p = { t with access := t.access + 1 } ∧
          ∀ q, q / 32 ≠ spWordKey p w → Tbl.get 0 u.mem.sp q = Tbl.get 0 v.mem.sp q) ∧
        (m.2 = true → u.mem.sp = v.mem.sp ∧ testOf u p = { t with
          access := t.access + 1
          failed := if (fails ∨ spArray v p w ≠ want.1 ∨ spCheckOf v p w ≠ want.2) ∧ ¬t.failed.contains (m.1 / 16) then
            t.failed ++ [m.1 / 16] else t.failed })) ∧
      (∀ i w x bank row soft, 704 ≤ t.access → t.access < 768 → i = t.access - 704 → w = testBase v p + i → x = shadowOf v p i →
        bank = rf v R.BGT_STATUS F.BGT_STATUS_BANK p → row = rf v R.BGT_STATUS F.BGT_STATUS_STEP p * 4 + i / 16 →
        soft = rf v R.SP_BANK_REPAIR F.SP_BANK_REPAIR_SOFT p bank →
        (x.valid = true → spArray u p w = x.data ∧ u.mem.spBad.contains (spWordKey p w) = x.bad ∧ shadowOf u p i = Shadow.reset) ∧
        (x.valid = false → u.mem.sp = v.mem.sp ∧ u.mem.spBad = v.mem.spBad) ∧
        (∀ q, q / 32 ≠ spWordKey p w → Tbl.get 0 u.mem.sp q = Tbl.get 0 v.mem.sp q) ∧
        (i % 16 = 0 → t.failed.contains (i / 16) = true →
          (soft < 8 → rf u R.SP_BANK_REPAIR F.SP_BANK_REPAIR_SOFT p bank = soft + 1 ∧
            rf u R.SP_BANK_REPAIR F.SP_BANK_REPAIR_LAST_ROW p bank = row ∧ u.mem.repairs = v.mem.repairs ++ [(p, bank, row)]) ∧
          (8 ≤ soft → rf u R.SP_BANK_REPAIR F.SP_BANK_REPAIR_EXHAUSTED p bank = 1 ∧
            rf u R.SP_FAULT F.SP_FAULT_EXHAUSTED p = 1 ∧ rf u R.SP_BANK_REPAIR F.SP_BANK_REPAIR_SOFT p bank = soft ∧
            u.mem.repairs = v.mem.repairs)) ∧
        ((i % 16 ≠ 0 ∨ t.failed.contains (i / 16) = false) → u.mem.repairs = v.mem.repairs ∧
          rf u R.SP_BANK_REPAIR F.SP_BANK_REPAIR_SOFT p bank = soft) ∧
        (t.access < 767 → testOf u p = { t with access := t.access + 1 } ∧ rg u R.BGT_STATUS p = rg v R.BGT_STATUS p) ∧
        (t.access = 767 → testOf u p = TestStep.reset ∧
          (∀ step, step = rf v R.BGT_STATUS F.BGT_STATUS_STEP p →
            rf u R.BGT_STATUS F.BGT_STATUS_STEP p = (if step < 383 then step + 1 else 0) ∧
            rf u R.BGT_STATUS F.BGT_STATUS_BANK p = (if step < 383 then bank else if bank < 31 then bank + 1 else 0) ∧
            rf u R.BGT_STATUS F.BGT_STATUS_PATTERN p =
              (rf v R.BGT_STATUS F.BGT_STATUS_PATTERN p + if 383 ≤ step ∧ 31 ≤ bank then 1 else 0) % 4 ∧
            rf u R.BGT_STATUS F.BGT_STATUS_SWEEPS p =
              (rf v R.BGT_STATUS F.BGT_STATUS_SWEEPS p + if 383 ≤ step ∧ 31 ≤ bank then 1 else 0) % 2 ^ 32)))) ∧
  (∀ (s : State) (p : Nat) (v : W32), running s = true → mgmtAnswers s = true → p < 8 → Effect (.bgtEnableWrite p v) s fun u =>
    rf u R.BGT_CTRL F.BGT_CTRL_ENABLE p = v.toNat % 2 ∧ otherRegs [regKey R.BGT_CTRL p 0 0] s u ∧ u.mem.sp = s.mem.sp ∧
    u.mem.shadow = s.mem.shadow ∧
    testOf u p = (if v.toNat % 2 = 0 ∧ (testOf s p).access ≠ 0 then
      { access := 0, failed := [], aborted := (List.range 64).any fun i => (shadowOf s p i).valid } else testOf s p)) ∧
  (∀ (s v : State) (p c i : Nat), running s = true → s.sched.cycle ≤ c → c < 3000 → v = reach s c → p < 8 → (testOf v p).aborted = true →
    domOn v p = true → i < 64 → (shadowOf v p i).valid = true → (∀ j, j < i → (shadowOf v p j).valid = false) →
    (∀ port, port = testPort v p - 1 ∨ instFree v 0 (testPort v p - 1) (absCycle v) = false ∧ port = testPort v p →
      instFree v 0 port (absCycle v) = true → Effect (.testStepRestore ⟨p, c⟩) s fun u =>
        claimed u (absCycle v) 0 port = true ∧ u.regs = v.regs ∧
        spArray u p (testBase v p + i) = (shadowOf v p i).data ∧ shadowOf u p i = Shadow.reset ∧
        u.mem.spBad.contains (spWordKey p (testBase v p + i)) = (shadowOf v p i).bad ∧
        (∀ j, j < 64 → j ≠ i → shadowOf u p j = shadowOf v p j) ∧
        ((∀ j, j < 64 → j ≠ i → (shadowOf v p j).valid = false) → testOf u p = TestStep.reset) ∧
        ((∃ j, j < 64 ∧ j ≠ i ∧ (shadowOf v p j).valid = true) → testOf u p = testOf v p) ∧
        ∀ q, q / 32 ≠ spWordKey p (testBase v p + i) → Tbl.get 0 u.mem.sp q = Tbl.get 0 v.mem.sp q) ∧
    (instFree v 0 (testPort v p - 1) (absCycle v) = false → instFree v 0 (testPort v p) (absCycle v) = false →
      Effect (.testStepRestore ⟨p, c⟩) s fun u => u = v)) ∧
  (∀ (s : State) (p w i o : Nat) (bs : List Byte), redirected s p w = some i → (spWord s p w).2 = false → o + bs.length ≤ 32 →
    (spWrWord s p w o bs).mem.sp = s.mem.sp ∧ (spWrWord s p w o bs).regs = s.regs ∧
    spWord (spWrWord s p w o bs) p w = (BitVec.ofNat 256 (leNat (splice (leBytes 32 (spWord s p w).1.toNat) o bs)), false))

/-- 07 R260, R265-R267: in a request slot of its channel that nothing uses, a patrol scrub asks for the next line and moves on; a
corrected line is counted against its devices and waits to be written back, an uncorrectable one is counted and the first recorded. Its
write-back takes such a slot and is counted, and a write of the line cancels it. A PERIOD that ends without a finished sweep sets
SCRUB_LATE. The sensors of a DIMM set its temperature range, and a parity error has the affected commands replayed. (The model's choices
in it: log entries 54, 105 and 111.) -/
def Obligations.ScrubReadsCorrectsAndRecords : Prop :=
  (∀ (s v : State) (ch c line l : Nat) (res : EccResult), running s = true → s.sched.cycle ≤ c → c < 3000 → v = reach s c →
    ddrPresent v ch = true → scrubSlot v ch = true →
    rb v R.DDR5_SCRUB_CFG F.DDR5_SCRUB_CFG_ENABLE ch = true → Tbl.get 0 v.mem.scrubPending ch = 0 →
    line = rf v R.DDR5_SCRUB_STATUS F.DDR5_SCRUB_STATUS_LINE ch → l = ch * 2 ^ 31 + line →
    Effect (.scrubRead ⟨ch, c⟩ res) s fun u =>
      claimed u (absCycle v) 3 ch = true ∧ u.out = (ddrAsk v l false).out ∧ u.mem.ddr = v.mem.ddr ∧
      (∀ d i j p, regKey d i j p ∉ [regKey R.DDR5_SCRUB_STATUS ch 0 0, regKey R.DDR5_ERR ch 0 0, regKey R.DDR5_FAULT ch 0 0,
        regKey R.DDR5_FIRST_UNCORR ch 0 0] ++ ((List.range 20).map fun d => regKey R.DDR5_DEV_ERR ch d 0) →
        (∀ g x, regKey d i j p ≠ regKey R.GL_STATUS g x 0) → rg u d i j p = rg v d i j p) ∧
      rf u R.DDR5_SCRUB_STATUS F.DDR5_SCRUB_STATUS_LINE ch = (if line + 1 < ddrLines v ch then (line + 1) % 2 ^ 31 else 0) ∧
      rf u R.DDR5_SCRUB_STATUS F.DDR5_SCRUB_STATUS_SWEEPS ch =
        (if line + 1 < ddrLines v ch then rf v R.DDR5_SCRUB_STATUS F.DDR5_SCRUB_STATUS_SWEEPS ch
         else min (rf v R.DDR5_SCRUB_STATUS F.DDR5_SCRUB_STATUS_SWEEPS ch + 1) 0xFFFF) ∧
      (∀ devs, judged (lineCap v ch) res = .corrected devs →
        Tbl.get 0 u.mem.scrubPending ch = line + 1 ∧ u.mem.ddrBad = v.mem.ddrBad ∧ rg u R.DDR5_ERR ch = rg v R.DDR5_ERR ch ∧
        ∀ d, d < 20 → rf u R.DDR5_DEV_ERR (31, 0) ch d = min (rf v R.DDR5_DEV_ERR (31, 0) ch d + devs.count d) (2 ^ 32 - 1)) ∧
      (judged (lineCap v ch) res = .uncorrectable ∨ (res = .clean ∧ v.mem.ddrBad.contains l = true) →
        u.mem.ddrBad.contains l = true ∧ Tbl.get 0 u.mem.scrubPending ch = 0 ∧
        rf u R.DDR5_ERR F.DDR5_ERR_UNCORR ch = min (rf v R.DDR5_ERR F.DDR5_ERR_UNCORR ch + 1) 0xFFFF ∧
        rf u R.DDR5_FAULT F.DDR5_FAULT_UNCORR ch = 1 ∧ rf u R.DDR5_FIRST_UNCORR F.DDR5_FIRST_UNCORR_VALID ch = 1 ∧
        rf u R.DDR5_FIRST_UNCORR F.DDR5_FIRST_UNCORR_LINE ch =
          (if rb v R.DDR5_FIRST_UNCORR F.DDR5_FIRST_UNCORR_VALID ch then rf v R.DDR5_FIRST_UNCORR F.DDR5_FIRST_UNCORR_LINE ch
           else line)) ∧
      (res = .clean → v.mem.ddrBad.contains l = false →
        rg u R.DDR5_ERR ch = rg v R.DDR5_ERR ch ∧ rg u R.DDR5_FAULT ch = rg v R.DDR5_FAULT ch ∧ u.mem.ddrBad = v.mem.ddrBad ∧
        Tbl.get 0 u.mem.scrubPending ch = 0)) ∧
  (∀ (s v : State) (ch c l : Nat), running s = true → s.sched.cycle ≤ c → c < 3000 → v = reach s c → ch < 12 → scrubSlot v ch = true →
    Tbl.get 0 v.mem.scrubPending ch = l + 1 → Effect (.scrubWriteBack ⟨ch, c⟩) s fun u =>
      claimed u (absCycle v) 3 ch = true ∧ u.out = (ddrAsk v (ch * 2 ^ 31 + l) true).out ∧
      rf u R.DDR5_ERR F.DDR5_ERR_SCRUB_CORR ch = min (rf v R.DDR5_ERR F.DDR5_ERR_SCRUB_CORR ch + 1) 0xFFFF ∧
      Tbl.get 0 u.mem.scrubPending ch = 0 ∧ u.mem.ddr = v.mem.ddr ∧
      ∀ d i j p, regKey d i j p ≠ regKey R.DDR5_ERR ch 0 0 → (∀ g x, regKey d i j p ≠ regKey R.GL_STATUS g x 0) →
        rg u d i j p = rg v d i j p) ∧
  (∀ (s v : State) (ch c : Nat) (res : EccResult), running s = true → s.sched.cycle ≤ c → c < 3000 → v = reach s c →
    scrubSlot v ch = false → Effect (.scrubRead ⟨ch, c⟩ res) s (fun u => u = v) ∧ Effect (.scrubWriteBack ⟨ch, c⟩) s fun u => u = v) ∧
  (∀ (s : State) (a l : Nat) (bs : List Byte), l ∈ wordsOf a bs.length 128 → l / 2 ^ 31 = ddrChan a →
    Tbl.get 0 s.mem.scrubPending (ddrChan a) = l % 2 ^ 31 + 1 → Tbl.get 0 (ddrWr s a bs).mem.scrubPending (ddrChan a) = 0) ∧
  (∀ (s : State) (ch : Nat), running s = true → ddrPresent s ch = true → rb s R.DDR5_SCRUB_CFG F.DDR5_SCRUB_CFG_ENABLE ch = true →
    Effect (.scrubPeriodExpiry ch) s fun u =>
      rf u R.DDR5_FAULT F.DDR5_FAULT_SCRUB_LATE ch =
        (if Tbl.get 0 s.mem.sweepDone ch = 0 then 1 else rf s R.DDR5_FAULT F.DDR5_FAULT_SCRUB_LATE ch) ∧
      Tbl.get 0 u.mem.sweepDone ch = 0 ∧ rg u R.DDR5_SCRUB_STATUS ch = rg s R.DDR5_SCRUB_STATUS ch ∧
      otherRegs [regKey R.DDR5_FAULT ch 0 0] s u) ∧
  (∀ (s : State) (ch : Nat) (hot : Bool), running s = true → ddrPresent s ch = true → Effect (.dimmThermalRead ch hot) s fun u =>
    rf u R.DDR5_INFO F.DDR5_INFO_TEMP_RANGE ch = b2n hot ∧ ddrPresent u ch = true ∧
    rf u R.DDR5_INFO F.DDR5_INFO_REFW ch = rf s R.DDR5_INFO F.DDR5_INFO_REFW ch ∧ ddrLines u ch = ddrLines s ch ∧
    otherRegs [regKey R.DDR5_INFO ch 0 0] s u ∧ u.mem = s.mem) ∧
  (∀ (s : State) (ch : Nat), running s = true → ddrPresent s ch = true → Effect (.rcdParityError ch) s fun u =>
    Sends s u (.ddrCommand ch 1) ∧ u.regs = s.regs ∧ u.mem = s.mem)

/-- 07 R271, R273-R275: a write of WINDOW_LO changes what no check answers; the next write of WINDOW_HI puts both in force, for its own
window alone. A drain waits for the reads in flight and BUSY clears with the last of them. A denial is counted, the first while the
capture is armed is captured, and a read of the count returns it, clears it and re-arms the capture. -/
def Obligations.WindowsTakeEffectTogetherAndDenialsAreCaptured : Prop :=
  (∀ (s : State) (m w : Nat) (v : W64), running s = true → mgmtAnswers s = true → m < 16384 → w < 16 → Effect (.canopyWindowLo m w v) s fun u =>
    rf u R.CANOPY_WINDOW_LO F.CANOPY_WINDOW_LO_BASE m w = bitsOf v 63 12 ∧ otherRegs [regKey R.CANOPY_WINDOW_LO m w 0] s u ∧
    u.mem = s.mem ∧
    ∀ (x : BitVec 14) (k : AccKind) (t : Target), (∀ p o, t = .sp p o → p < 8) → permitted u x k t = permitted s x k t) ∧
  (∀ (s : State) (m w : Nat) (v : W64), running s = true → mgmtAnswers s = true → m < 16384 → w < 16 → Effect (.canopyWindowHi m w v) s fun u =>
    (∀ space page kind, windowGrants u m w space page kind =
      (v.getLsbD 0 && decide (bitsOf v 5 4 = space) &&
        (match kind with
          | .rd => v.getLsbD 1
          | .wr => v.getLsbD 2
          | .fetch => v.getLsbD 3) &&
        decide (rf s R.CANOPY_WINDOW_LO F.CANOPY_WINDOW_LO_BASE m w ≤ page ∧ page ≤ bitsOf v 63 12))) ∧
    (∀ m' w' space page kind, m' < 16384 → w' < 16 → (m', w') ≠ (m, w) →
      windowGrants u m' w' space page kind = windowGrants s m' w' space page kind) ∧
    otherRegs [regKey R.CANOPY_WINDOW_HI m w 0] s u) ∧
  (∀ (s : State) (v : W32), running s = true → mgmtAnswers s = true → Effect (.drain v) s fun u =>
    (v.getLsbD 0 = true → rf u R.CANOPY_DRAIN F.CANOPY_DRAIN_BUSY = 1 ∧ ∀ k, k ∈ u.mem.draining ↔ k ∈ s.mem.draining ∨ k ∈ readsInFlight s) ∧
    (v.getLsbD 0 = false → u = s) ∧ otherRegs [regKey R.CANOPY_DRAIN 0 0 0] s u ∧ u.mem.loInForce = s.mem.loInForce) ∧
  (∀ (s : State), running s = true → Effect .drainComplete s fun u =>
    ((∀ k ∈ s.mem.draining, k ∉ readsInFlight s) → rf u R.CANOPY_DRAIN F.CANOPY_DRAIN_BUSY = 0 ∧ otherRegs [regKey R.CANOPY_DRAIN 0 0 0] s u) ∧
    ((∃ k ∈ s.mem.draining, k ∈ readsInFlight s) → u = s)) ∧
  (∀ (s : State) (m : BitVec 14) (k : AccKind) (t : Target),
    rf (deny s m k t) R.CANOPY_DENY_COUNT (31, 0) = min (rf s R.CANOPY_DENY_COUNT (31, 0) + 1) (2 ^ 32 - 1) ∧
    (s.mem.denyDisarmed = true → rg (deny s m k t) R.CANOPY_DENY_INFO = rg s R.CANOPY_DENY_INFO ∧
      rg (deny s m k t) R.CANOPY_DENY_ADDR = rg s R.CANOPY_DENY_ADDR) ∧
    (s.mem.denyDisarmed = false → ∀ space pitch a,
      (t = .host a ∧ space = 0 ∧ pitch = 0 ∨ t = .ddr a ∧ space = 1 ∧ pitch = 0 ∨ t = .sp pitch a ∧ space = 2) → pitch < 8 →
      (deny s m k t).mem.denyDisarmed = true ∧ rf (deny s m k t) R.CANOPY_DENY_INFO F.CANOPY_DENY_INFO_VALID = 1 ∧
      rf (deny s m k t) R.CANOPY_DENY_INFO F.CANOPY_DENY_INFO_SPACE = space ∧
      rf (deny s m k t) R.CANOPY_DENY_INFO F.CANOPY_DENY_INFO_PITCH = pitch ∧
      rf (deny s m k t) R.CANOPY_DENY_INFO F.CANOPY_DENY_INFO_KIND = k.code ∧
      rf (deny s m k t) R.CANOPY_DENY_INFO F.CANOPY_DENY_INFO_MASTER = m.toNat ∧
      rg (deny s m k t) R.CANOPY_DENY_ADDR = a % 2 ^ 64)) ∧
  (∀ (s : State), running s = true → mgmtAnswers s = true → Effect .canopyDenyCount s fun u =>
    u.busData.toNat = rg s R.CANOPY_DENY_COUNT ∧ rg u R.CANOPY_DENY_COUNT = 0 ∧ u.mem.denyDisarmed = false ∧
    otherRegs [regKey R.CANOPY_DENY_COUNT 0 0 0] s u ∧ u.mem.sp = s.mem.sp ∧ u.mem.ddr = s.mem.ddr)

/-- 08 R279, R280-R284: the result of a post, and what a post with RESULT 1 stores: the notice of the MB_NOTICE registers with the
sender's identity and generation, FULL, the next SERIAL and the posting agent. Its receiver is signalled: the mailbox's source for a core,
the vector of each receiving function. Any other post changes nothing but RESULT. Twin mailboxes: 11 R402. (The model's choices in it: log
entry 55.) -/
def Obligations.PostsAreDecidedAndStored : Prop :=
  ∀ (s : State) (a n : Nat) (t : Bool) (v : W32), running s = true → a ≤ 33 → (a = 33 → mgmtAnswers s = true) → t = v.getLsbD 31 → n = bitsOf v 11 0 →
    Effect (.mbPost a v) s fun u =>
      (t = false → 63 < n → rg u R.MB_RESULT 0 0 a = 4) ∧
      (t = false → n ≤ 63 → (rf s R.CMB_BIND F.CMB_BIND_VALID n = 0 ∨ rf s R.CMB_BIND F.CMB_BIND_SENDER n ≠ (agentIdent s a).1.toNat) →
        rg u R.MB_RESULT 0 0 a = 3) ∧
      (t = true → a < 32 → coreInCall (s.core a) = true → (∀ call, (s.core a).current = some call → call.tenant.toNat ≠ n) →
        rg u R.MB_RESULT 0 0 a = 3) ∧
      (t = false ∧ n ≤ 63 ∧ rf s R.CMB_BIND F.CMB_BIND_VALID n = 1 ∧
          rf s R.CMB_BIND F.CMB_BIND_SENDER n = (agentIdent s a).1.toNat ∧ (isTwin s n = true → n = twinTx s) ∨
        t = true ∧ (a < 32 → coreInCall (s.core a) = true → ∃ call, (s.core a).current = some call ∧ call.tenant.toNat = n) →
        rg u R.MB_RESULT 0 0 a =
          (if (s.mbox t n).full = true ∨ (t = false ∧ isTwin s n = true ∧ s.camp.up = false) then 2 else 1)) ∧
      (rg u R.MB_RESULT 0 0 a ≠ 1 → u = wr s R.MB_RESULT (rg u R.MB_RESULT 0 0 a) 0 0 a) ∧
      otherRegs [regKey R.MB_RESULT 0 0 a] s u ∧
      (rg u R.MB_RESULT 0 0 a = 1 →
        (u.mbox t n).full = true ∧ (u.mbox t n).serial = (s.mbox t n).serial + 1 ∧ (u.mbox t n).agent = a ∧
        (∀ i, i < 3 → bitsOf (u.mbox t n).notice (32 * i + 31) (32 * i) = rg s R.MB_NOTICE i 0 a % 2 ^ 32) ∧
        bitsOf (u.mbox t n).notice 109 96 = (agentIdent s a).1.toNat ∧ bitsOf (u.mbox t n).notice 121 110 = (agentIdent s a).2.toNat ∧
        bitsOf (u.mbox t n).notice 125 122 = agentGen s a ∧ bitsOf (u.mbox t n).notice 127 126 = 0 ∧
        (∀ t' n', (t', n') ≠ (t, n) → u.mbox t' n' = s.mbox t' n') ∧
        (t = false → isTwin s n = false → rf s R.CMB_BIND F.CMB_BIND_RX_MGMT n = 0 → Latched s u (128 + n)) ∧
        (t = true → ∀ fn w, fn ∈ tenantFns s n → rb s R.FN_NOTICE_CFG F.FN_NOTICE_CFG_IEN 0 0 fn = true →
          w = rf s R.FN_NOTICE_CFG F.FN_NOTICE_CFG_VECTOR 0 0 fn → (s.fn fn).d3 = false → (s.fn fn).bme = true →
          vecMasked s fn w = false → (s.port (fnPort fn)).link ≠ 2 → (s.port (fnPort fn)).link ≠ 3 →
          Sends s u (.msix fn w (((s.fn fn).entry w).extractLsb' 0 64) (((s.fn fn).entry w).extractLsb' 64 32))))

/-- 08 R285-R288, R304: a receiver's snapshot, the emptying of a mailbox whose SERIAL it names, the return of its notice to its sender,
the removal of a return entry, and the receiver reset of a tenant mailbox. -/
def Obligations.NoticesAreTakenAndReturned : Prop :=
  (∀ (s : State) (a n : Nat) (v : W32), running s = true → (a = 33 → mgmtAnswers s = true) → n = bitsOf v 5 0 → Effect (.mbRxSelect a v) s fun u =>
    rg u R.MB_RX_SELECT 0 0 a = n ∧
    (rxAllowed s a n = true →
      rf u R.MB_RX_STATUS F.MB_RX_STATUS_FULL 0 0 a = b2n (s.mbox false n).full ∧
      rf u R.MB_RX_STATUS F.MB_RX_STATUS_PERMITTED 0 0 a = 1 ∧
      rf u R.MB_RX_STATUS F.MB_RX_STATUS_SERIAL 0 0 a = (s.mbox false n).serial.toNat ∧
      ∀ i, i < 4 → rg u R.MB_RX_NOTICE i 0 a = bitsOf (s.mbox false n).notice (32 * i + 31) (32 * i)) ∧
    (rxAllowed s a n = false → rg u R.MB_RX_STATUS 0 0 a = 0 ∧ ∀ i, i < 4 → rg u R.MB_RX_NOTICE i 0 a = 0) ∧
    otherRegs ([regKey R.MB_RX_SELECT 0 0 a, regKey R.MB_RX_STATUS 0 0 a] ++ (List.range 4).map fun i => regKey R.MB_RX_NOTICE i 0 a)
      s u ∧ u.mail = s.mail) ∧
  (∀ (s : State) (fn : Nat) (b : Mbox), running s = true → b = s.mbox true (s.fn fn).tenant.toNat → Effect (.fnNoticeStatus fn) s fun u =>
    u.mail = s.mail ∧
    ((s.fn fn).identValid = false → u.busData = 0 ∧ u.regs = s.regs) ∧
    ((s.fn fn).identValid = true →
      u.busData.toNat = b2n b.full * 2 ^ 31 + b.serial.toNat ∧ rg u R.FN_NOTICE_STATUS 0 0 fn = u.busData.toNat ∧
      rg u R.FN_NOTICE_PTR 0 0 fn = (if b.full then bitsOf b.notice 63 0 else 0) ∧
      rf u R.FN_NOTICE_INFO F.FN_NOTICE_INFO_STAMP 0 0 fn = bitsOf b.notice 127 96 ∧
      rf u R.FN_NOTICE_INFO F.FN_NOTICE_INFO_LENGTH 0 0 fn = bitsOf b.notice 95 64)) ∧
  (∀ (s : State) (a n : Nat) (v : W32), running s = true → (a = 33 → mgmtAnswers s = true) → n = rf s R.MB_RX_SELECT F.MB_RX_SELECT_NUMBER 0 0 a →
    Effect (.mbRxEmpty a v) s fun u =>
      ((s.mbox false n).full = true → (s.mbox false n).serial.toNat = bitsOf v 7 0 → rxAllowed s a n = true →
        (isTwin s n = false ∨ n ≠ twinRx s → Returned s u false n false) ∧
        (isTwin s n = true → n = twinRx s → (u.mbox false n).full = false ∧
          (s.camp.up = true → s.camp.unacked.length < 1024 → Sends s u (.ploetMsg 5 0 (BitVec.ofNat 64 n) [])))) ∧
      ((s.mbox false n).full = false ∨ (s.mbox false n).serial.toNat ≠ bitsOf v 7 0 ∨ rxAllowed s a n = false → u = s)) ∧
  (∀ (s : State) (fn n : Nat) (v : W32), running s = true → n = (s.fn fn).tenant.toNat → Effect (.fnNoticeEmpty fn v) s fun u =>
    ((s.fn fn).identValid = true → (s.mbox true n).full = true → (s.mbox true n).serial.toNat = bitsOf v 7 0 →
      Returned s u true n false) ∧
    ((s.fn fn).identValid = false ∨ (s.mbox true n).full = false ∨ (s.mbox true n).serial.toNat ≠ bitsOf v 7 0 → u = s)) ∧
  (∀ (s : State) (a : Nat), running s = true → (a = 33 → mgmtAnswers s = true) → Effect (.mbRetPop a) s fun u =>
    retQueue u a = (retQueue s a).tail ∧ u.mail.lost.contains a = false ∧ (∀ b, b ≠ a → retQueue u b = retQueue s b) ∧
    u.mail.ctl = s.mail.ctl ∧ u.mail.ten = s.mail.ten ∧ u.regs = s.regs) ∧
  (∀ (s : State) (n : Nat) (v : W32), running s = true → mgmtAnswers s = true → n = bitsOf v 11 0 → Effect (.tnmClear v) s fun u =>
    ((s.mbox true n).full = true → Returned s u true n true) ∧ ((s.mbox true n).full = false → u = s))

/-- 08 R291, R292, R296, R298, R299: an edge latches an enabled source; a claim takes the highest normal source presented to the core
above its priority, or the lowest fast source while none is active, and pushes it; a completion pops the top entry of its class. Any other
completion is a stack-order fault. 08 R292-R295: a source is presented when it is pending, not active, enabled and not masked, and its
routing yields a core: of a pitch-local source its target, if that core is powered and not halted; of a device-wide one the awake eligible
core of its group with the lowest priority, the lowest number first, or the lowest-numbered eligible core where all are asleep. -/
def Obligations.SourcesAreRaisedPresentedClaimedAndCompleted : Prop :=
  ((∀ (s : State) (v : W32) (n : Nat), running s = true → n = bitsOf v 10 0 → Effect (.icRaise v) s fun u =>
     (1024 ≤ n → srcCfg s F.IC_SRC_CFG_ENABLE n ≠ 0 →
       u.src n = { s.src n with pending := true, count := min ((s.src n).count + 1) 255 } ∧ (∀ m, m ≠ n → u.src m = s.src m) ∧
       u.regs = s.regs ∧ u.intc.stack = s.intc.stack) ∧
     (n < 1024 ∨ srcCfg s F.IC_SRC_CFG_ENABLE n = 0 → u = s)) ∧
   (∀ (s : State) (k : Nat), running s = true → Effect (.icClaim k) s fun u =>
     (∀ n, n ∈ presentedAt s k → isFastSrc s n = false → curPrio s k < srcPrio s n →
       (∀ m, m ∈ presentedAt s k → isFastSrc s m = false → srcPrio s m < srcPrio s n ∨ srcPrio s m = srcPrio s n ∧ n ≤ m) →
       u.busData = BitVec.ofNat 64 (2 ^ 31 + (s.src n).count * 2 ^ 16 + n) ∧
       u.src n = { pending := false, active := true, count := 0, core := k, lastClaim := (s.src n).count } ∧
       (∀ m, m ≠ n → u.src m = s.src m) ∧ u.stack k = (n, srcPrio s n, false) :: s.stack k ∧
       (∀ j, j ≠ k → u.stack j = s.stack j) ∧ u.regs = s.regs) ∧
     ((∀ n, n ∈ presentedAt s k → isFastSrc s n = false → srcPrio s n ≤ curPrio s k) → u = { s with busData := 0 })) ∧
   (∀ (s : State) (k : Nat), running s = true → Effect (.icFclaim k) s fun u =>
     (∀ n rest, fastActive s k = false → (presentedAt s k).filter (isFastSrc s) = n :: rest →
       u.busData = BitVec.ofNat 64 (2 ^ 31 + (s.src n).count * 2 ^ 16 + n) ∧
       u.src n = { pending := false, active := true, count := 0, core := k, lastClaim := (s.src n).count } ∧
       (∀ m, m ≠ n → u.src m = s.src m) ∧ (∃ p, u.stack k = (n, p, true) :: s.stack k) ∧
       (∀ j, j ≠ k → u.stack j = s.stack j) ∧ u.regs = s.regs) ∧
     (fastActive s k = true ∨ (presentedAt s k).filter (isFastSrc s) = [] → u = { s with busData := 0 })) ∧
   (∀ (s : State) (k n : Nat) (v : W32) (fast : Bool) (c : Instr), running s = true → k ≤ 32 → n = bitsOf v 10 0 →
     c = (if fast then .icFcomplete k v else .icComplete k v) → Effect c s fun u =>
       (∀ p rest, s.stack k = (n, p, fast) :: rest →
         u.stack k = rest ∧ u.src n = { s.src n with active := false, core := 0x3F } ∧ (∀ m, m ≠ n → u.src m = s.src m) ∧
         u.regs = s.regs) ∧
       ((∀ p rest, s.stack k ≠ (n, p, fast) :: rest) →
         u.intc.stack = s.intc.stack ∧ rf u R.IC_STATUS F.IC_STATUS_STACK_FAULT 0 0 k = 1 ∧ Latched s u (320 + k) ∧
         (∀ m, m ≠ 320 + k → u.src m = s.src m) ∧ otherRegs [regKey R.IC_STATUS 0 0 k] s u))) ∧
  (∀ (s : State) (n k : Nat), srcReserved n = false →
     (presentedTo s n = some k ↔
       (s.src n).pending = true ∧ (s.src n).active = false ∧ srcCfg s F.IC_SRC_CFG_ENABLE n ≠ 0 ∧ srcCfg s F.IC_SRC_CFG_MASK n ≠ 1 ∧
       eligible s k = true ∧
       if n < 128 then k = n / 16 * 4 + srcCfg s F.IC_SRC_CFG_TARGET n % 4
       else k < 33 ∧ ∀ member : Nat → Bool,
         member = (fun j => decide (j < 33) && (rf s R.IC_GROUP F.IC_GROUP_CORES (srcCfg s F.IC_SRC_CFG_TARGET n)).testBit j && eligible s j) →
         member k = true ∧
         ((coreAsleep (s.core k) = false ∧ ∀ j, member j = true → coreAsleep (s.core j) = false →
             (if fastActive s k then 16 else curPrio s k) < (if fastActive s j then 16 else curPrio s j) ∨
             (if fastActive s k then 16 else curPrio s k) = (if fastActive s j then 16 else curPrio s j) ∧ k ≤ j) ∨
           (∀ j, member j = true → coreAsleep (s.core j) = true ∧ k ≤ j))))

/-- 09 R305-R308, R310-R316: lantern time advances with the lantern's cycles at its rate, also while the ridgepole and central domain is
lost. An edge of a PPS input is captured without its delay and qualifies its source after four good ones; of the selected source it
disciplines the lantern, or applies a pending set. A second applies the step that waited and selects the first listed qualified source.
REF_LOST holds the lantern over at its mean rate, its return follows the states; the holdover expires at HOLD_VALID; the frame lock takes
1,000 aligned frames and is lost beyond 4 ns. The rate that the loop chooses within its limit is free. (The model's choices in it: log
entries 2, 58, 99 and 100.) -/
def Obligations.LanternFollowsItsSources : Prop :=
  (∀ (s : State) (i cap t : Nat) (p : Pps) (d : Int) (good : Bool), isUp s → i < 2 → t = ((cap : Int) - calDelay s i).toNat →
    p = Tbl.get Pps.reset s.lant.pps i → d = (t : Int) - p.last - 1000000000000 →
    good = (p.last != 0 && decide (-10000000 ≤ d ∧ d ≤ 10000000)) →
    Effect (.ppsInEdge i cap) s fun u =>
      rg u R.LANT_PPS_CAP i = t / 1000 % 2 ^ 64 ∧ Latched s u (514 + i) ∧
      (s.lant.selected ≠ i + 1 ∨ s.lant.pendingSet = none → Tbl.get Pps.reset u.lant.pps i =
        { good := if good then min 4 (p.good + 1) else 0, last := t, missed := 0
          qualified := if good then p.qualified || decide (3 ≤ p.good) else false }) ∧
      (s.lant.selected ≠ i + 1 → u.lant = { s.lant with pps := u.lant.pps } ∧ otherRegs [regKey R.LANT_PPS_CAP i 0 0] s u) ∧
      (s.lant.selected = i + 1 → good = true → 3 ≤ p.good ∨ p.qualified = true →
        (s.lant.pendingSet = none → ∀ r e : Int, r = (t : Int) % 1000000000000 →
          e = (if r < 500000000000 then r else r - 1000000000000) → Disciplined s u e false) ∧
        (∀ sec ns, s.lant.pendingSet = some (1, sec, ns) →
          Stepped s u ((sec * 1000000000000 - t) * 2 ^ 40 / 1000) ∧ u.lant.pendingSet = none ∧
          (Tbl.get Pps.reset u.lant.pps i).last = sec * 1000000000000 ∧ rf u R.LANT_SET_CTRL F.LANT_SET_CTRL_MODE = 0))) ∧
  (∀ (s : State), isUp s → Effect .lanternSecond s fun u =>
    Latched s u 516 ∧
    (s.lant.pendingStep = none → u.lant.time = s.lant.time) ∧
    (∀ e, s.lant.pendingStep = some (e, true) → Stepped s u (-e * 2 ^ 40 / 1000) ∧ u.lant.pendingStep = none) ∧
    (∀ e, s.lant.pendingStep = some (e, false) →
      Stepped s u (-((e + 500) / 1000) % 1000000000 * 2 ^ 40) ∧ u.lant.pendingStep = none) ∧
    (s.lant.state = 2 → u.lant.rates = (signed 32 (rf s R.LANT_PHASE F.LANT_PHASE_FREQ) :: s.lant.rates).take (loopSeconds s)) ∧
    u.lant.selected = ((listedSources s).find? fun c => c != 0 && sourceQualified u c).getD 0 ∧
    (∀ i p, i < 2 → s.lant.pendingStep = none → p = Tbl.get Pps.reset s.lant.pps i →
      p.last + 1000010000000 < lantPs s → Tbl.get Pps.reset u.lant.pps i =
        { p with missed := min 2 (p.missed + 1), good := 0, qualified := p.qualified && p.missed == 0 }) ∧
    (s.camp.up = true → s.camp.unacked.length < 1024 → ∃ body, Sends s u (.ploetMsg 3 0 0 body))) ∧
  (∀ (s : State), isUp s → Effect .refLost s fun u =>
    u.lant.state = 3 ∧ u.lant.refLost = true ∧ u.lant.coreLocked = false ∧ timeValid u = false ∧
    (s.lant.state ≠ 3 → u.lant.holdStart = lantUnits s ∧ ∀ l, l = s.lant.rates.take (loopSeconds s) → l ≠ [] →
      rf u R.LANT_PHASE F.LANT_PHASE_FREQ = unsigned 32 (l.sum / l.length)) ∧ u.lant.time = s.lant.time) ∧
  (∀ (s : State), isUp s → Effect .refReturn s fun u =>
    (s.lant.refLost = true → u.lant.refLost = false ∧
      u.lant.state = (if s.lant.selected ≠ 0 then 1 else if s.lant.everLocked then 3 else 0)) ∧
    (s.lant.refLost = false → u = s)) ∧
  (∀ (s : State), isUp s → Effect .holdoverExpiry s fun u =>
    u = s.withLant { s.lant with
      expired := s.lant.state == 3 && rf s R.LANT_CFG F.LANT_CFG_HOLD_VALID != 255 &&
        decide (rf s R.LANT_CFG F.LANT_CFG_HOLD_VALID * (60000000000 * 2 ^ 40) ≤ lantUnits s - s.lant.holdStart) } ∧
    (s.lant.state = 3 → u.lant.expired = true → timeValid u = false)) ∧
  (∀ (s : State), isUp s → Effect .coreLock s fun u =>
    u = s.withLant { s.lant with
      lockNext := s.lant.lockNext || (decide (1000 ≤ s.lant.goodFrames) && !s.lant.coreLocked) }) ∧
  (∀ (s : State) (span m r : Nat) (x : LTime) (ups : List Upset), running s = true →
    x = LTime.of (s.lant.time.units + span * lantRate s / 1000) → m = (x.units * 10 + 2 ^ 39) / 2 ^ 40 → r = m % 10000 →
    Effect (.frameStart ⟨span, ups⟩) s fun u =>
      u.lant.time = x ∧ u.lant.mNow = m ∧ u.lant.m1 = s.lant.mNow ∧
      (s.lant.stepPrev = false → (s.sched.frame + 1 ≠ 0) → u.lant.delta = s.lant.mNow - s.lant.m1) ∧
      (s.lant.stepPrev = true → u.lant.delta = s.lant.delta) ∧
      u.lant.coreLocked = ((s.lant.coreLocked || s.lant.lockNext) && decide (min r (10000 - r) ≤ 40)) ∧
      u.lant.goodFrames = (if min r (10000 - r) ≤ 10 then s.lant.goodFrames + 1 else 0)) ∧
  (∀ (s : State) (span : Nat) (ups : List Upset), s.trust.phase = 0 → domState s 45 = 5 → ∃ u,
    exec (.frameStart ⟨span, ups⟩) s = .next u ∧ u.lant.time = LTime.of (s.lant.time.units + span * lantRate s / 1000) ∧ u.sched = s.sched)

/-- 09 R317-R322, R328, R331, R349, R350: a snapshot takes core time and the frame count; the modes of LANT_SET_CTRL set, add or cancel; a
calibration commit takes the next slot; pulses, the edges of the 10 MHz output, time-of-day messages and timestamps serve lantern time
with the calibrated delays; and what Announce messages say of the clock follows the lantern's state. (The model's choices in it: log
entries 6, 59 and 100.) -/
def Obligations.TimeIsSetAndServed : Prop :=
  (∀ (s : State) (v : W32), running s = true → mgmtAnswers s = true → Effect (.lantSnap v) s fun u =>
    (v.getLsbD 0 = true →
      rg u R.LANT_SNAP_SEC = coreSec s % 2 ^ 64 ∧ rf u R.LANT_SNAP_NS F.LANT_SNAP_NS_NS = coreSubNs s ∧
      rf u R.LANT_SNAP_NS F.LANT_SNAP_NS_FRAC = coreTime s % 65536 ∧ rf u R.LANT_SNAP_NS F.LANT_SNAP_NS_CYCLE = s.sched.cycle % 4096 ∧
      rg u R.LANT_SNAP_FRAME = s.sched.frame.toNat ∧
      otherRegs [regKey R.LANT_SNAP_SEC 0 0 0, regKey R.LANT_SNAP_NS 0 0 0, regKey R.LANT_SNAP_FRAME 0 0 0] s u ∧ u.lant = s.lant) ∧
    (v.getLsbD 0 = false → u = s)) ∧
  (∀ (s : State) (v : W64), running s = true → mgmtAnswers s = true →
    (bitsOf v 63 62 = 1 → Effect (.setAtPpsEdge v) s fun u =>
      (∃ ns, u.lant = { s.lant with pendingSet := some (1, rf s R.LANT_SET_SEC F.LANT_SET_SEC_SECONDS, ns) }) ∧
      fget (lantSetRead u) F.LANT_SET_CTRL_MODE = 1 ∧ fget (lantSetRead u) F.LANT_SET_CTRL_BUSY = 1) ∧
    (bitsOf v 63 62 = 2 → Effect (.setAtOnce v) s fun u =>
      (999999999 < bitsOf v 31 0 → u = s) ∧
      (bitsOf v 31 0 ≤ 999999999 → ∀ t : Int,
        t = (rf s R.LANT_SET_SEC F.LANT_SET_SEC_SECONDS * 1000000000 + bitsOf v 31 0) * 2 ^ 40 → Stepped s u (t - lantUnits s) ∧
        u.lant.pendingSet = none ∧ fget (lantSetRead u) F.LANT_SET_CTRL_MODE = 0 ∧ fget (lantSetRead u) F.LANT_SET_CTRL_BUSY = 0)) ∧
    (bitsOf v 63 62 = 3 → Effect (.addNs v) s fun u =>
      Stepped s u (signed 32 (bitsOf v 31 0) * 2 ^ 40) ∧ u.lant.pendingSet = none ∧ fget (lantSetRead u) F.LANT_SET_CTRL_BUSY = 0) ∧
    (bitsOf v 63 62 = 0 → Effect (.setCancel v) s fun u =>
      u.lant = { s.lant with pendingSet := none } ∧ fget (lantSetRead u) F.LANT_SET_CTRL_BUSY = 0 ∧
      fget (lantSetRead u) F.LANT_SET_CTRL_NS = bitsOf v 31 0)) ∧
  (∀ (s : State) (v : W32), running s = true → mgmtAnswers s = true → Effect (.calCommit v) s fun u =>
    (v.getLsbD 0 = false ∨ s.lant.committing = true ∨ s.trust.calWaiting = true → u = s) ∧
    (v.getLsbD 0 = true → s.lant.committing = false → s.trust.calWaiting = false →
      (16 ≤ commitsUsed s → u = wf s R.CAL_STATUS F.CAL_STATUS_RESULT 2) ∧
      (commitsUsed s < 16 → s.trust.otpOp.isSome = true → u = s.withTrust { s.trust with calWaiting := true }) ∧
      (commitsUsed s < 16 → s.trust.otpOp.isSome = false →
        u.lant = { s.lant with commits := s.lant.commits ++ [userValues s], committing := true } ∧ u.regs = s.regs ∧
        ∃ e : BitVec 128, u.trust = { s.trust with log := s.trust.log ++ [e] } ∧ bitsOf e 7 0 = 5 ∧ bitsOf e 15 8 = 1 ∧
          bitsOf e 31 16 = commitsUsed s))) ∧
  (∀ (s : State) (ok : Bool), s.trust.phase = 1 ∨ s.trust.phase = 2 → s.lant.committing = true →
    Effect (.calCommitComplete ok) s fun u =>
      u.lant = { s.lant with committing := false } ∧ rf u R.CAL_STATUS F.CAL_STATUS_RESULT = (if ok then 1 else 3) ∧
      otherRegs [regKey R.CAL_STATUS 0 0 0] s u ∧
      (ok = false → u.trust = s.trust) ∧
      (ok = true → ∀ l e, s.trust.log = l ++ [e] → ∃ e', u.trust = { s.trust with log := l ++ [e'] } ∧ e'.getLsbD 9 = true ∧
        ∀ b, b < 128 → b ≠ 9 → e'.getLsbD b = e.getLsbD b)) ∧
  (∀ (s : State) (i : Nat), isUp s → Effect (.ppsOutPulse i) s fun u =>
    (i < 2 → rb s R.LANT_PPS_OUT F.LANT_PPS_OUT_ENABLE i = true → rb s R.LANT_PPS_OUT F.LANT_PPS_OUT_GATE i = false ∨ timeValid s = true →
      u = emit s (.ppsPulse i ((lantSec s * 1000000000000 : Int) + signed 32 (rf s R.LANT_PPS_OUT F.LANT_PPS_OUT_OFFSET i) * 1000 - calDelay s (2 + i))
        (max 1 (rf s R.LANT_PPS_OUT F.LANT_PPS_OUT_WIDTH i)) (rb s R.LANT_PPS_OUT F.LANT_PPS_OUT_POLARITY i))) ∧
    (2 ≤ i ∨ rb s R.LANT_PPS_OUT F.LANT_PPS_OUT_ENABLE i = false ∨
        (rb s R.LANT_PPS_OUT F.LANT_PPS_OUT_GATE i = true ∧ timeValid s = false) → u = s)) ∧
  (∀ (s : State) (span first n : Nat) (ups : List Upset), running s = true →
    first = (s.lant.time.units * 1000 / 2 ^ 40 + 99999) / 100000 →
    n = ((s.lant.time.units + span * lantRate s / 1000) * 1000 / 2 ^ 40 + 99999) / 100000 - first →
    Effect (.frameStart ⟨span, ups⟩) s fun u =>
      (0 < n → rb s R.LANT_CLK_CFG F.LANT_CLK_CFG_ENABLE = true → rb s R.LANT_CLK_CFG F.LANT_CLK_CFG_GATE = false ∨ timeValid s = true →
        Sends s u (.clk10m ((first * 100000 : Int) - calDelay s 4) n)) ∧
      (n = 0 ∨ rb s R.LANT_CLK_CFG F.LANT_CLK_CFG_ENABLE = false ∨
          (rb s R.LANT_CLK_CFG F.LANT_CLK_CFG_GATE = true ∧ timeValid s = false) →
        ∀ a m, Out.clk10m a m ∈ u.out → Out.clk10m a m ∈ s.out)) ∧
  (∀ (s : State), (s.lant.state = 2 → announceClock s = (6, 0x21)) ∧
    (s.lant.state = 3 → announceClock s = (if timeValid s then (7, 0x21) else (52, 0xFE))) ∧
    (s.lant.state < 2 → announceClock s = (248, 0xFE))) ∧
  (∀ (s : State), isUp s → Effect .todMessage s fun u =>
    (rb s R.LANT_TOD_CFG F.LANT_TOD_CFG_ENABLE = true → ∃ m : List Byte, u = emit (s.withLant { s.lant with todCount := s.lant.todCount + 1 })
        (.tod (m ++ [crc8 m])) ∧ m.length = 15 ∧ leAt m 0 2 = 0x5AA5 ∧ leAt m 2 1 = 1 ∧
      leAt m 3 1 = (s.lant.state + 128 * b2n (timeValid s)) % 256 ∧ leAt m 4 6 = lantSec s % 2 ^ 48 ∧
      leAt m 10 2 = rf s R.LANT_UTC F.LANT_UTC_OFFSET ∧
      leAt m 12 1 = (if rf s R.LANT_UTC F.LANT_UTC_LEAP = 3 then 0 else rf s R.LANT_UTC F.LANT_UTC_LEAP) ∧
      leAt m 13 1 = s.lant.selected % 256 ∧ leAt m 14 1 = s.lant.todCount.toNat) ∧
    (rb s R.LANT_TOD_CFG F.LANT_TOD_CFG_ENABLE = false → u = s)) ∧
  (∀ (s : State) (mac stamp q t : Nat) (tx : Bool), running s = true → s.ports.ptp.contains mac = true → macQuad s mac = some q →
    t = (if tx then ((stamp : Int) + calDelay s (32 + q)).toNat else ((stamp : Int) - calDelay s (8 + q)).toNat) →
    Effect (.ptpEventMessage mac tx stamp) s fun u =>
      u = emit s (.ptpStamp mac (t / 1000000000000) (t % 1000000000000 / 1000) (t % 1000 * 65536 / 1000))) ∧
  (∀ (s : State) (port stamp : Nat), running s = true → port < 24 → 0 < Tbl.get 0 s.trust.endpoints port → 0 < (s.port port).link →
    Effect (.ptmRequest port stamp) s fun u =>
      u = emit s (.ptm port (((stamp : Int) + calDelay s (32 + port)).toNat / 1000 % 2 ^ 64)))

/-- 09 R334, R336-R346, R351: the counts of a unit are captured into their tenants' records at the end of a frame; an interval's energy is
divided over its uses; a stale feed is noted; a minute closes into the next block of the chain, which is signed and delivered in order; a
checkpoint keeps the open minute; and a selected record shows. What a signature holds is free. (The model's choices in it: log entries 60
and 74.) -/
def Obligations.UseIsMeteredChainedAndDelivered : Prop :=
  (∀ (s : State) (unit : Nat), running s = true → s.sched.cycle = 2999 → Effect (.meterSample unit) s fun u =>
    (∀ t a b, t < 4096 → a = Tbl.get TRec.reset s.meter.cur.recs t → b = Tbl.get TRec.reset u.meter.cur.recs t →
      ∀ mine, mine = (if unit < 8 ∧ domOn s unit = false then [] else (s.meter.frame.filter fun e => e.1 == unit * 4096 + t).map (·.2)) →
        b = { a with
          bytesIn := a.bytesIn + (mine.map (·.bytesIn)).sum, bytesOut := a.bytesOut + (mine.map (·.bytesOut)).sum
          stake := a.stake + (mine.map (·.stake)).sum, free := a.free + (mine.map (·.free)).sum
          commands := a.commands + (mine.map (·.commands)).sum, misses := a.misses + (mine.map (·.misses)).sum
          entries := a.entries + (mine.map (·.entries)).sum } ∧
        Tbl.get 0 u.meter.useT t = Tbl.get 0 s.meter.useT t + (mine.map fun r => r.stake + r.free).sum ∧
        Tbl.get TRec.reset u.meter.frame (unit * 4096 + t) = TRec.reset) ∧
    (∀ dev, dev = (if unit < 8 ∧ domOn s unit = false then 0 else Tbl.get 0 s.meter.frameDev unit) →
      u.meter.cur.devCycles = s.meter.cur.devCycles + dev ∧ u.meter.useDev = s.meter.useDev + dev) ∧ Tbl.get 0 u.meter.frameDev unit = 0 ∧
    (∀ k, k / 4096 ≠ unit → Tbl.get TRec.reset u.meter.frame k = Tbl.get TRec.reset s.meter.frame k) ∧ u.meter.blocks = s.meter.blocks) ∧
  (∀ (s : State) (raw p pd e base dyn a : Nat), running s = true → s.meter.intLen ≤ s.meter.intFrames → s.meter.intFrames ≠ 0 →
    p = powerNow (internalSample raw s) → pd = p * s.meter.intNs + s.meter.remainder → e = pd / 10000 →
    base = min e (rf s R.METER_ATTR_CFG F.METER_ATTR_CFG_BASE_MW * s.meter.intNs / 10000) → dyn = e - base →
    a = s.meter.useDev + (s.meter.useT.map (·.2)).sum →
    Effect (.attributionInterval raw) s fun u =>
      Tbl.get 0 u.meter.power 8 = (calibrate s 58 raw).toNat ∧
      (∀ t, Tbl.get TRec.reset u.meter.cur.recs t = { Tbl.get TRec.reset s.meter.cur.recs t with
        energy := (Tbl.get TRec.reset s.meter.cur.recs t).energy +
          ((s.meter.useT.filter fun x => x.1 == t).map fun x => dyn * x.2 / a).sum }) ∧
      u.meter.cur.baseNj = s.meter.cur.baseNj + base ∧
      u.meter.cur.devNj = s.meter.cur.devNj + (dyn - (s.meter.useT.map fun x => dyn * x.2 / a).sum) ∧
      u.meter.remainder = pd % 10000 ∧ u.meter.useT = [] ∧ u.meter.useDev = 0 ∧ u.meter.intNs = 0 ∧ u.meter.intFrames = 0 ∧
      u.regs = s.regs) ∧
  (∀ (s : State) (f : Nat), running s = true → f < 8 → rb s R.METER_FEED F.METER_FEED_ENABLE f = true →
    rb s R.METER_FEED F.METER_FEED_STALE f = false → rf s R.METER_FEED F.METER_FEED_STALE_FRAMES f ≠ 0 →
    rf s R.METER_FEED F.METER_FEED_STALE_FRAMES f ≤ Tbl.get 0 s.meter.feedAge f →
    Effect (.feedStale f) s fun u =>
      rf u R.METER_FEED F.METER_FEED_STALE f = 1 ∧ otherRegs [regKey R.METER_FEED f 0 0] s u ∧ Latched s u 532 ∧
      u.meter = { s.meter with cur := { s.meter.cur with feedStale := true } }) ∧
  (∀ (s : State) (n : Nat), running s = true → n = frameMinute s → Effect .minuteClose s fun u =>
    (s.meter.started = true → s.meter.cur.minute < n → s.meter.blocks.length < 1024 → ∀ c, c = (shareEnergy s).meter.cur →
      u.meter.cur.minute = n ∧ u.meter.cur.part = 0 ∧ u.meter.cur.gap = n - s.meter.cur.minute - 1 ∧ u.meter.cur.frames = 0 ∧
      u.meter.cur.firstFrame = s.sched.frame ∧ u.meter.chainSeq = s.meter.chainSeq + 1 ∧ Latched s u 528 ∧
      (s.meter.blocks ≠ [] → rf u R.METER_FAULT F.METER_FAULT_LATE = 1) ∧
      u.meter.blocks.map (·.head) = s.meter.blocks.map (·.head) ++ [u.meter.prevHead] ∧
      ∃ b, u.meter.blocks.getLast? = some b ∧ b.seq = s.meter.chainSeq ∧ b.minute = c.minute ∧ b.prevHead = s.meter.prevHead ∧
        b.digest = blockDigest c.recs ∧ b.head = shake256 (b.prevHead ++ b.header ++ b.digest) ∧ b.head = u.meter.prevHead ∧
        b.signature = none ∧ b.header.length = 128 ∧ leAt b.header 0 2 = 1 ∧ leAt b.header 8 8 = c.minute % 2 ^ 64 ∧
        leAt b.header 16 8 = s.meter.chainSeq.toNat ∧ leAt b.header 32 4 = c.frames % 2 ^ 32) ∧
    (s.meter.started = false ∨ n ≤ s.meter.cur.minute ∨ 1024 ≤ s.meter.blocks.length → u = s)) ∧
  (∀ (s : State) (ok : Bool) (pre post : List Block) (b : Block), running s = true → s.trust.signing = false →
    s.meter.blocks = pre ++ b :: post → (∀ x ∈ pre, x.unsigned = false) → b.unsigned = true →
    Effect (.headSigned ok) s fun u =>
      (ok = true → ∃ sig, u.meter.blocks = pre ++ { b with signature := some sig } :: post) ∧
      (ok = false → u.meter.blocks = pre ++ { b with signFailed := true } :: post) ∧
      u.meter.cur = s.meter.cur ∧ u.regs = s.regs) ∧
  (∀ (s : State) (b : Block) (r : List Block) (i : Nat) (ws : List (Nat × List Byte)), running s = true → s.meter.blocks = b :: r →
    i = rg s R.METER_PRODUCER % ringSize s →
    ws = (match b.recs with | some t => [(rg s R.METER_RING_BASE + i * 2 ^ 18, (recList t).flatten)] | none => []) ++
      [(rg s R.METER_HEAD_BASE + i * 4096, b.entry), (rg s R.METER_INDEX_ADDR, leBytes 64 ((rg s R.METER_PRODUCER + 1) % 2 ^ 32 +
        2 ^ 64 * (b.seq.toNat + 2 ^ 64 * (b.minute % 2 ^ 64))))] →
    Effect .blockDelivery s fun u =>
      (b.unsigned = true ∨ ringFull s = true ∨ rb s R.METER_RING_CFG F.METER_RING_CFG_ENABLE = false ∨ fnLive s (mgmtFn s) = false → u = s) ∧
      (b.unsigned = false → ringFull s = false → rb s R.METER_RING_CFG F.METER_RING_CFG_ENABLE = true → fnLive s (mgmtFn s) = true →
        ((∀ w ∈ ws, firstDenied s (rangerMaster s) .wr (.host w.1) w.2.length = none) →
          u.meter.blocks = r ∧ rg u R.METER_PRODUCER = (rg s R.METER_PRODUCER + 1) % 2 ^ 32 ∧
          u.out = s.out ++ ws.map (fun w => .hostWrite (mgmtFn s) w.1 w.2) ∧ Latched s u 529 ∧
          (b.signFailed = true → rf u R.METER_FAULT F.METER_FAULT_SIGN_FAIL = 1)) ∧
        ((∃ w ∈ ws, firstDenied s (rangerMaster s) .wr (.host w.1) w.2.length ≠ none) →
          rf u R.METER_FAULT F.METER_FAULT_DENIED = 1 ∧
          u.out = s.out ++ (ws.takeWhile fun w => (firstDenied s (rangerMaster s) .wr (.host w.1) w.2.length).isNone).map
            (fun w => .hostWrite (mgmtFn s) w.1 w.2) ∧ rg u R.METER_PRODUCER = rg s R.METER_PRODUCER ∧
          ∃ b', u.meter.blocks = b' :: r ∧ { b' with waits := b.waits } = b))) ∧
  (∀ (s : State) (v : W32), running s = true → mgmtAnswers s = true → Effect (.meterConsumer v) s fun u =>
    (ringSize s < (rg s R.METER_PRODUCER + 2 ^ 32 - v.toNat) % 2 ^ 32 → u = s) ∧
    ((rg s R.METER_PRODUCER + 2 ^ 32 - v.toNat) % 2 ^ 32 ≤ ringSize s → u = wr s R.METER_CONSUMER v.toNat)) ∧
  (∀ (s : State), running s = true → Effect .meterCheckpoint s fun u =>
    u = (if s.meter.started ∧ s.meter.cpFrame.toNat + 1000000 ≤ s.sched.frame.toNat then
      s.withMeter { s.meter with checkpoint := some s.meter.cur, cpFrame := s.sched.frame } else s)) ∧
  (∀ (s : State) (v : W32) (t : Nat) (r : TRec), running s = true → mgmtAnswers s = true → t = bitsOf v 11 0 → r = Tbl.get TRec.reset s.meter.cur.recs t →
    Effect (.meterLiveSelect v) s fun u =>
      rg u R.METER_LIVE_SELECT = t ∧ rg u R.METER_LIVE 0 = min r.bytesIn (2 ^ 64 - 1) ∧ rg u R.METER_LIVE 1 = min r.bytesOut (2 ^ 64 - 1) ∧
      rg u R.METER_LIVE 2 = min r.stake (2 ^ 64 - 1) ∧ rg u R.METER_LIVE 3 = min r.free (2 ^ 64 - 1) ∧
      rg u R.METER_LIVE 4 = min r.commands (2 ^ 64 - 1) ∧
      rg u R.METER_LIVE 5 = min r.misses (2 ^ 32 - 1) + 2 ^ 32 * min (r.energy / 1000000) (2 ^ 32 - 1) ∧
      rg u R.METER_LIVE 6 =
        min r.entries (2 ^ 32 - 1) + 2 ^ 32 * t + 2 ^ 48 * (b2n r.saturated + 2 * b2n r.bound) ∧
      rg u R.METER_LIVE 7 = r.energy % 1000000 ∧
      otherRegs (regKey R.METER_LIVE_SELECT 0 0 0 :: (List.range 8).map fun i => regKey R.METER_LIVE i 0 0) s u ∧ u.meter = s.meter)

/-- 10 R353-R358, R373, R376, 04 R157, 03 R110, 08 R277: a port's link comes up with its rate and width and shows in its quads; an
endpoint port that goes down resets the configuration of its functions and its virtual functions cease to exist; the steps of a root port
or a MAC end. QUAD_TEST takes the ports of its quad down and runs its lanes at RATE. (The model's choices in it: log entries 16, 63 and
102.) -/
def Obligations.LinksComeUpGoDownAndGoIntoTest : Prop :=
  (∀ (s : State) (port rate width : Nat), isUp s → port < 256 → portQuads s port ≠ [] → (∀ q ∈ portQuads s port, inTest s q = false) →
    (s.port port).link = 0 → fenced s = false → Effect (.linkUp port rate width) s fun u =>
      (u.port port).link = 1 ∧ (u.port port).width = width ∧
      (∀ q ∈ portQuads s port, (rf u R.QUAD_STATUS F.QUAD_STATUS_LINK_UP q).testBit ((quadPorts s q).idxOf port) = true ∧
        rf u R.QUAD_STATUS F.QUAD_STATUS_RATE q = rate % 16 ∧
        rf u R.QUAD_STATUS F.QUAD_STATUS_NEG_WIDTH q = (if quadPers s q = 3 then 0 else width % 8)) ∧
      (port < 48 → width < rf s R.QUAD_CFG F.QUAD_CFG_WIDTH ((portQuads s port).headD 0) →
        rf u R.PORT_FAULT F.PORT_FAULT_WIDTH_DEGRADED = 1) ∧
      (port < 24 → fnExists s (port * 256) = true → (u.fn (port * 256)).present = true) ∧
      (∀ p, p ≠ port → u.port p = s.port p)) ∧
  (∀ (s : State) (rate width : Nat), isUp s → Effect (.linkUp 256 rate width) s fun u => u = wf s R.MGMT_ETH_CTRL F.MGMT_ETH_CTRL_LINK 1) ∧
  (∀ (s : State) (port : Nat), isUp s → port < 24 → portQuads s port ≠ [] → Effect (.linkDown port) s fun u =>
    (u.port port).link = 0 ∧ ((s.port port).link ≠ 0 → rf u R.PORT_FAULT F.PORT_FAULT_LINK_DOWN = 1) ∧
    (∀ fn, fn / 256 = port → (u.fn fn).bme = false ∧ (u.fn fn).d3 = false ∧ (u.fn fn).maskAll = false ∧
      (fn % 256 ≠ 0 → (u.fn fn).present = false)) ∧
    (∀ fn, fn / 256 ≠ port → { u.fn fn with pba := (s.fn fn).pba, owed := (s.fn fn).owed } = s.fn fn) ∧
    (mgmtFn s / 256 = port → agentGen u 33 = (agentGen s 33 + 1) % 16) ∧
    (∀ q, (s.port port).link ≠ 0 → q ∈ portQuads s port →
      (rf u R.QUAD_STATUS F.QUAD_STATUS_LINK_UP q).testBit ((quadPorts s q).idxOf port) = false)) ∧
  (∀ (s : State) (port : Nat) (c : Instr), running s = true →
    (32 ≤ port ∧ port < 48 ∧ c = .rootPortLinkDown port ∨ 64 ≤ port ∧ port < 96 ∧ c = .ethernetLinkDown port) → Effect c s fun u =>
      (u.port port).link = 0 ∧ ((s.port port).link ≠ 0 → rf u R.PORT_FAULT F.PORT_FAULT_LINK_DOWN = 1) ∧
      ∀ k x, x ∈ s.prog.ctxs → x.1 = k → x.2.running = true → x.2.issued = true → x.2.fenceWait = false ∨ peerFence s x.2 = true →
        isDevice (cCode (x.2.cmds.headD 0)) = true → devPort (devEntry s (cDevice (x.2.cmds.headD 0))) = port →
        u.ctx k = Ctx.reset) ∧
  (∀ (s : State), running s = true → Effect (.ethernetLinkDown 256) s fun u => u = wf s R.MGMT_ETH_CTRL F.MGMT_ETH_CTRL_LINK 0) ∧
  (∀ (s : State) (port : Nat), isUp s → port < 24 → (s.port port).link = 1 → Effect (.l1Entry port) s fun u =>
    u = s.setPort port { s.port port with link := 2 }) ∧
  (∀ (s : State) (q : Nat) (v : W32), running s = true → mgmtAnswers s = true → q < 26 → Effect (.quadTest q v) s fun u =>
    inTest u q = v.getLsbD 31 ∧ rf u R.QUAD_TEST F.QUAD_TEST_RATE q = bitsOf v 27 24 ∧
    rf u R.QUAD_TEST F.QUAD_TEST_LOOPBACK q = bitsOf v 17 16 ∧
    (v.getLsbD 31 = true → rf u R.QUAD_STATUS F.QUAD_STATUS_RATE q = (if bitsOf v 27 24 = 0 then topRate s q else bitsOf v 27 24)) ∧
    (v.getLsbD 31 = true → inTest s q = false →
      (q < 24 → ∀ p ∈ quadPorts s q, (u.port p).link = 0) ∧ (24 ≤ q → u.camp.up = false)) ∧
    (v.getLsbD 31 = false → inTest s q = true → rf u R.QUAD_STATUS F.QUAD_STATUS_RATE q = 0 ∧
      ∀ i, i < 4 → laneLocked u (4 * q + i) = false))

/-- 10 R359-R361, R365, 04 R456: a received frame is counted and discarded, or lands in the queue that the first matching steering entry
names; a frame of a peer queue lands once without its trailer. The management port sends and receives through its rings. A selected edge
of an input pin raises its source and reaches the WAIT EDGE steps on it. (The model's choices in it: log entries 37, 62 and 107.) -/
def Obligations.FramesAndPinEdgesArrive : Prop :=
  (∀ (s : State) (mac n q : Nat) (frame : List Byte) (bad : Bool), running s = true → 64 ≤ mac → mac < 96 → (s.port mac).link ≠ 0 →
    n = frame.length + 4 → q = steerQueue s mac frame → Effect (.frameReceived mac frame bad) s fun u =>
      (9604 < n → u = macAdd s mac 5 1) ∧
      (n ≤ 9604 → bad = true ∨ n < 64 → u = macAdd s mac 4 1) ∧
      (n ≤ 9604 → bad = false → 64 ≤ n →
        ((rxQ s mac q).paused = true → u = macAdd s mac 7 1) ∧
        ((rxQ s mac q).paused = false → rxRoom s mac q frame = false →
          u = macAdd (setRxQ s mac q { rxQ s mac q with overflow := true }) mac 6 1) ∧
        ((rxQ s mac q).paused = false → rxRoom s mac q frame = true →
          (peerQueue s mac q = false →
            rxQ u mac q = { rxQ s mac q with frames := (rxQ s mac q).frames ++ [frame] } ∧
            Tbl.get 0 u.prog.macCounts (mac * 8 + 2) = Tbl.get 0 s.prog.macCounts (mac * 8 + 2) + 1 ∧
            Tbl.get 0 u.prog.macCounts (mac * 8 + 3) = Tbl.get 0 s.prog.macCounts (mac * 8 + 3) + BitVec.ofNat 64 n ∧
            (∀ m r, m * 256 + r ≠ mac * 256 + q → rxQ u m r = rxQ s m r) ∧ u.out = s.out) ∧
          (peerQueue s mac q = true → ∀ t, t = frame.drop (frame.length - 24) →
            ((leAt t 14 2).testBit 2 = true → u = s) ∧
            ((leAt t 14 2).testBit 2 = false →
              ((peerArrive s t).2.1 = true →
                rxQ u mac q = { rxQ s mac q with frames := (rxQ s mac q).frames ++ [frame.take (frame.length - 24)] }) ∧
              ((peerArrive s t).2.1 = false → rxQ u mac q = rxQ s mac q) ∧
              ((peerArrive s t).2.2 = true → (leAt t 14 2).testBit 1 = true → ∃ f : List Byte, Sends s u (.frame mac 0 none f) ∧
                f.take 6 = (frame.drop 6).take 6 ∧ f.drop (f.length - 24) = t.take 14 ++ leBytes 2 (leAt t 14 2 ||| 4) ++ t.drop 16)))))) ∧
  (∀ (s : State) (t : List Byte) (k : Nat), findStream s (leAt t 0 4) (leAt t 4 2 % 2 ^ 14) (leAt t 6 2) = some k →
    ∀ v b, v = slotPair s k (leAt t 8 4 % 1024) → b = slotBit (leAt t 8 4 % 1024) →
      fget v (b + 31, b) = leAt t 8 4 → leAt t 12 2 < fget v (b + 47, b + 32) →
      (peerArrive s t).2 = (false, true) ∧
      rf (peerArrive s t).1 R.PEER_COUNTS F.PEER_COUNTS_DUPLICATES = min (rf s R.PEER_COUNTS F.PEER_COUNTS_DUPLICATES + 1) (2 ^ 32 - 1)) ∧
  (∀ (s : State), running s = true → mgmtAnswers s = true → Effect .kick s fun u =>
    u = { s with ports := { s.ports with
      mgmtBusy := s.ports.mgmtBusy || (rb s R.MGMT_ETH_CTRL F.MGMT_ETH_CTRL_ENABLE && mgmtOwn s 0 s.ports.mgmtTx) } }) ∧
  (∀ (s : State) (a n buf : Nat), running s = true → s.ports.mgmtBusy = true → a = mgmtDesc s 0 s.ports.mgmtTx →
    n = leNat (ddrRead s (a + 8) 2) → buf = leNat (ddrRead s a 8) % 2 ^ 42 → Effect .mgmtFrameSent s fun u =>
      u.out = s.out ++ [if ddrUncorr s buf n then .badFrame 128 else .frame 128 0 none (ddrRead s buf n)] ∧
      mgmtOwn u 0 s.ports.mgmtTx = false ∧ rf u R.PORT_FAULT F.PORT_FAULT_MGMT_TX = 1 ∧
      u.ports.mgmtTx = (s.ports.mgmtTx + 1) % mgmtSize s 0 ∧
      (∀ x, x ≠ a + 10 → x ≠ a + 11 → Tbl.get 0 u.mem.ddr x = Tbl.get 0 s.mem.ddr x) ∧ u.mem.sp = s.mem.sp) ∧
  (∀ (s : State) (frame : List Byte) (bad : Bool) (a size buf : Nat), running s = true → a = mgmtDesc s 1 s.ports.mgmtRx →
    size = leNat (ddrRead s (a + 8) 2) → buf = leNat (ddrRead s a 8) % 2 ^ 42 → Effect (.mgmtFrameReceived frame bad) s fun u =>
      (rb s R.MGMT_ETH_CTRL F.MGMT_ETH_CTRL_ENABLE = false ∨ mgmtOwn s 1 s.ports.mgmtRx = false → u = s) ∧
      (rb s R.MGMT_ETH_CTRL F.MGMT_ETH_CTRL_ENABLE = true → mgmtOwn s 1 s.ports.mgmtRx = true →
        leNat (ddrRead u (a + 8) 2) = frame.length % 2 ^ 16 ∧
        leNat (ddrRead u (a + 10) 2) =
          2 * b2n (bad || decide (frame.length < 60 ∨ 1514 < frame.length ∨ size < frame.length)) ∧
        (buf + size ≤ a + 8 ∨ a + 12 ≤ buf → ddrRead u buf (frame.take size).length = frame.take size) ∧
        rf u R.PORT_FAULT F.PORT_FAULT_MGMT_RX = 1 ∧ u.ports.mgmtRx = (s.ports.mgmtRx + 1) % mgmtSize s 1 ∧ u.out = s.out)) ∧
  (∀ (s : State) (q i stamp : Nat) (level sel : Bool), running s = true → q < 16 → i < 8 → domPowered s 46 = true →
    sel = (pinInput s q i && (s.fieldPort q).pins.getLsbD i != level &&
      (s.fieldPort q).settings.getLsbD ((if level then 104 else 112) + i)) →
    Effect (.pinEdge q i level stamp) s fun u =>
      (∀ j, j < 8 → (u.fieldPort q).pins.getLsbD j = if j = i then level else (s.fieldPort q).pins.getLsbD j) ∧
      (sel = false → u.intc = s.intc ∧ u.prog = s.prog) ∧
      (sel = true → Latched s u (384 + 8 * q + i) ∧
        ∀ x ∈ s.prog.ctxs, x.2.running = true → x.2.state = 3 → cCode (x.2.cmds.headD 0) = 4 → waitKind (x.2.cmds.headD 0) = 2 →
          devPort (devEntry s (cDevice (x.2.cmds.headD 0))) = 128 + q → devSelect (devEntry s (cDevice (x.2.cmds.headD 0))) % 8 = i →
          x.2.waitEdge = none → (u.ctx x.1).waitEdge = some (stamp, s.sched.frame.toNat, i)))

/-- 10 R372-R378: a write of LANE_PRBS_CTRL takes the snapshot before the clear, starts the generator of a lane in test with the bits of
its pattern, and injects an error while it runs; a checker locks, counts and loses lock; a pattern run starts only under its conditions,
stops with RESULT 3 and ends with its counts and, where the pattern fixes them, its bytes. (The model's choices in it: log entries 65 and
101.) -/
def Obligations.LinkTestsAndPatternRunsCount : Prop :=
  (∀ (s : State) (l bits errs : Nat) (v : W32) (c : Instr) (n : Lane), running s = true → l < 104 →
    mgmtAnswers s = true → (c = .prbsSnap l v bits errs ∨ (c = .prbsClear l v ∨ c = .prbsInject l v) ∧ bits = 0 ∧ errs = 0) →
    n = (if laneLocked s l ∧ quadRuns s (l / 4) then
      { bits := min ((s.lane l).bits + bits) (2 ^ 64 - 1), errs := min ((s.lane l).errs + errs) (2 ^ 48 - 1) } else s.lane l) →
    Effect c s fun u =>
      rf u R.LANE_PRBS_CTRL F.LANE_PRBS_CTRL_GEN_EN l = bitsOf v 31 31 ∧ rf u R.LANE_PRBS_CTRL F.LANE_PRBS_CTRL_CHK_EN l = bitsOf v 30 30 ∧
      rf u R.LANE_PRBS_CTRL F.LANE_PRBS_CTRL_INVERT l = bitsOf v 29 29 ∧ rf u R.LANE_PRBS_CTRL F.LANE_PRBS_CTRL_PATTERN l = bitsOf v 26 24 ∧
      (v.getLsbD 1 = true → rg u R.LANE_BITS l = n.bits % 2 ^ 64 ∧ rg u R.LANE_ERRS l = n.errs % 2 ^ 64) ∧
      (v.getLsbD 1 = false → rg u R.LANE_BITS l = rg s R.LANE_BITS l ∧ rg u R.LANE_ERRS l = rg s R.LANE_ERRS l) ∧
      u.lane l = (if v.getLsbD 0 then Lane.reset else n) ∧
      (v.getLsbD 30 = true → rf s R.LANE_PRBS_CTRL F.LANE_PRBS_CTRL_CHK_EN l = 0 → rf u R.LANE_PRBS_STATUS F.LANE_PRBS_STATUS_LOCKS l = 0) ∧
      (v.getLsbD 30 = false → laneLocked u l = false) ∧
      ∃ ps, u.out = s.out ++ ps ++ (if v.getLsbD 2 && v.getLsbD 31 && quadRuns s (l / 4) then [.inject l] else []) ∧
        ∀ start : Bool, start = (quadRuns s (l / 4) && v.getLsbD 31 && !(rf s R.LANE_PRBS_CTRL F.LANE_PRBS_CTRL_GEN_EN l == bitsOf v 31 31 &&
            rf s R.LANE_PRBS_CTRL F.LANE_PRBS_CTRL_INVERT l == bitsOf v 29 29 && rf s R.LANE_PRBS_CTRL F.LANE_PRBS_CTRL_PATTERN l == bitsOf v 26 24)) →
          (start = false → ps = []) ∧
          (start = true → ∃ sy, ps = [.pattern l (decide (6 ≤ rf s R.QUAD_STATUS F.QUAD_STATUS_RATE (l / 4))) sy] ∧
            (6 ≤ rf s R.QUAD_STATUS F.QUAD_STATUS_RATE (l / 4) → sy.length = 40 ∧ ∀ x ∈ sy, x < 4) ∧
            (rf s R.QUAD_STATUS F.QUAD_STATUS_RATE (l / 4) < 6 → sy.length = 80 ∧
              (bitsOf v 26 24 = 5 → ∀ i, i < 80 → sy.getD i 0 =
                ((rg s R.LANE_USER l + rf s R.LANE_USER_HI F.LANE_USER_HI_PATTERN l * 2 ^ 64) / 2 ^ i % 2 + bitsOf v 29 29) % 2) ∧
              (bitsOf v 26 24 ≠ 5 → ∀ i, (prbsPowers (bitsOf v 26 24)).1 ≤ i → i < 80 → sy.getD i 0 =
                (sy.getD (i - (prbsPowers (bitsOf v 26 24)).1) 0 + sy.getD (i - (prbsPowers (bitsOf v 26 24)).2) 0 + bitsOf v 29 29) % 2)))) ∧
  (∀ (s : State) (l : Nat), running s = true → l < 104 → Effect (.checkerLock l) s fun u =>
    (quadRuns s (l / 4) = true → rb s R.LANE_PRBS_CTRL F.LANE_PRBS_CTRL_CHK_EN l = true → laneLocked s l = false →
      laneLocked u l = true ∧ rf u R.LANE_PRBS_STATUS F.LANE_PRBS_STATUS_LOCKS l =
        min (rf s R.LANE_PRBS_STATUS F.LANE_PRBS_STATUS_LOCKS l + 1) 0xFFFF ∧ otherRegs [regKey R.LANE_PRBS_STATUS l 0 0] s u) ∧
    (quadRuns s (l / 4) = false ∨ rb s R.LANE_PRBS_CTRL F.LANE_PRBS_CTRL_CHK_EN l = false ∨ laneLocked s l = true → u = s)) ∧
  (∀ (s : State) (l : Nat), running s = true → l < 104 → Effect (.checkerLockLoss l) s fun u =>
    (laneLocked s l = true → laneLocked u l = false ∧ rf u R.LANE_PRBS_STATUS F.LANE_PRBS_STATUS_LOCK_LOST l = 1 ∧
      otherRegs [regKey R.LANE_PRBS_STATUS l 0 0] s u) ∧ (laneLocked s l = false → u = s)) ∧
  (∀ (s : State) (ch : Nat) (v : W32) (allowed : Bool), running s = true → mgmtAnswers s = true → ch < 12 → v.getLsbD 31 = true → patRunning s ch = false →
    allowed = (if v.getLsbD 29 then (s.sqs.all fun e => e.2.state == 0) && !recovChannel s ch && !channelStaked s ch true
      else decide (rf s R.DDR5_PAT_REGION F.DDR5_PAT_REGION_BASE ch ≤ patFirst s ch ∧
        patLast s ch ≤ rf s R.DDR5_PAT_REGION F.DDR5_PAT_REGION_LIMIT ch)) →
    Effect (.ddr5PatStart ch v) s fun u =>
      patRunning u ch = allowed ∧ rf u R.DDR5_PAT_CTRL F.DDR5_PAT_CTRL_PATTERN ch = bitsOf v 27 26 ∧
      rf u R.DDR5_PAT_CTRL F.DDR5_PAT_CTRL_LOOPS ch = bitsOf v 15 0 ∧ rf u R.DDR5_PAT_CTRL F.DDR5_PAT_CTRL_RAW ch = bitsOf v 28 28 ∧
      (allowed = false → rf u R.DDR5_PAT_STATUS F.DDR5_PAT_STATUS_RESULT ch = 2 ∧ ∀ d, d < 20 → rg u R.DDR5_PAT_DEV ch d = rg s R.DDR5_PAT_DEV ch d) ∧
      (allowed = true → rf u R.DDR5_PAT_STATUS F.DDR5_PAT_STATUS_PASS ch = 0 ∧ rf u R.DDR5_PAT_STATUS F.DDR5_PAT_STATUS_UNCORR ch = 0 ∧
        ∀ d, d < 20 → rg u R.DDR5_PAT_DEV ch d = 0)) ∧
  (∀ (s : State) (ch : Nat) (v : W32), running s = true → mgmtAnswers s = true → ch < 12 → v.getLsbD 30 = true → patRunning s ch = true →
    Effect (.ddr5PatStop ch v) s fun u =>
      patRunning u ch = false ∧ rf u R.DDR5_PAT_STATUS F.DDR5_PAT_STATUS_RESULT ch = 3 ∧
      ∀ x, (x / 2 ^ 38 ≠ ch ∨ x % 2 ^ 38 / 128 < patFirst s ch ∨ patLast s ch < x % 2 ^ 38 / 128) →
        Tbl.get 0 u.mem.ddr x = Tbl.get 0 s.mem.ddr x) ∧
  (∀ (s : State) (ch uncorr : Nat) (devs : List Nat), running s = true → ch < 12 → patRunning s ch = true →
    Effect (.patternRunComplete ch uncorr devs) s fun u =>
      patRunning u ch = false ∧ rf u R.DDR5_PAT_STATUS F.DDR5_PAT_STATUS_RESULT ch = 1 ∧
      rf u R.DDR5_PAT_STATUS F.DDR5_PAT_STATUS_PASS ch = max 1 (rf s R.DDR5_PAT_CTRL F.DDR5_PAT_CTRL_LOOPS ch) ∧
      (rb s R.DDR5_PAT_CTRL F.DDR5_PAT_CTRL_RAW ch = false → rf u R.DDR5_PAT_STATUS F.DDR5_PAT_STATUS_UNCORR ch = min uncorr 0xFFFF) ∧
      (∀ d, d < 20 → rg u R.DDR5_PAT_DEV ch d = min (devs.getD d 0) 0xFFFFFFFF) ∧
      (∀ l w, rb s R.DDR5_PAT_CTRL F.DDR5_PAT_CTRL_RAW ch = false → patFirst s ch ≤ l → l ≤ patLast s ch → w < 16 →
        (rf s R.DDR5_PAT_CTRL F.DDR5_PAT_CTRL_PATTERN ch = 0 → leNat (ddrRead u (ch * 2 ^ 38 + l * 128 + w * 8) 8) = l * 128 + w * 8) ∧
        (rf s R.DDR5_PAT_CTRL F.DDR5_PAT_CTRL_PATTERN ch = 3 →
          leNat (ddrRead u (ch * 2 ^ 38 + l * 128 + w * 8) 8) = rg s R.DDR5_PAT_USER ch)) ∧
      ∀ x, (x / 2 ^ 38 ≠ ch ∨ x % 2 ^ 38 / 128 < patFirst s ch ∨ patLast s ch < x % 2 ^ 38 / 128) →
        Tbl.get 0 u.mem.ddr x = Tbl.get 0 s.mem.ddr x)

/-- 11 R381, R383-R385, R390, R402: the Ploet link comes up, counts trainings after the first and begins a resync with a partner that
fits; it goes down, and the twin notices with it. Flits are accepted in order only, answered with ACK or NAK, and carry heartbeats; a NAK
replays every flit after the last accepted one, and the eighth replay from one flit without progress takes the link down. (The model's
choices in it: log entries 7 and 82.) -/
def Obligations.PloetFlitsAreAcceptedInOrderAndReplayed : Prop :=
  (∀ (s : State) (x4 matched : Bool), running s = true → campOn s = true → s.camp.up = false → inTest s 24 = false → inTest s 25 = false →
    rf s R.QUAD_CFG F.QUAD_CFG_PERSONALITY 24 = 4 → rf s R.QUAD_CFG F.QUAD_CFG_PERSONALITY 25 = 4 → domOn s 44 = true →
    Effect (.ploetLinkUp x4 matched) s fun u =>
      u.camp.up = true ∧ u.camp.x4 = x4 ∧ u.camp.matched = matched ∧
      rf u R.CAMP_LINK_COUNTS F.CAMP_LINK_COUNTS_RETRAINS = min (rf s R.CAMP_LINK_COUNTS F.CAMP_LINK_COUNTS_RETRAINS + b2n s.camp.everUp) 0xFFFF ∧
      (matched = false → rf u R.CAMP_FAULT F.CAMP_FAULT_MISMATCH = 1 ∧ u.camp.state = s.camp.state) ∧
      (matched = true → 1 ≤ s.camp.state → s.camp.state ≤ 4 → Resyncs s u)) ∧
  (∀ (s : State), running s = true → s.camp.up = true → Effect .ploetLinkDown s fun u =>
    u.camp.up = false ∧ u.camp.unacked = [] ∧ u.camp.txQueue = [] ∧ u.camp.ownEnd = none ∧ u.camp.partnerEnd = false ∧
    u.camp.state = (if s.camp.state = 2 then 1 else s.camp.state) ∧
    (campOn s = true → ∀ b, b = s.mbox false (twinTx s) → b.full = true → (u.mbox false (twinTx s)).full = false ∧
      (b.agent ≤ 33 → agentGen s b.agent = noticeGen b.notice → (retQueue s b.agent).length < 16 →
        ∃ e, retQueue u b.agent = retQueue s b.agent ++ [e] ∧ e.tenant = false ∧ e.aborted = true ∧ e.number = twinTx s)) ∧
    (campOn s = true → (s.mbox false (twinRx s)).full = true → (u.mbox false (twinRx s)).full = true ∧
      ∀ i, i < 128 → (u.mbox false (twinRx s)).notice.getLsbD i = ((s.mbox false (twinRx s)).notice.getLsbD i || i == 126))) ∧
  (∀ (s : State) (f : Flit) (inOrder : Bool), running s = true → s.camp.up = true →
    inOrder = decide (f.kind = 1 → f.seq % 4096 = (s.camp.rxSeq + 1) % 4096) → Effect (.flitReceived f) s fun u =>
      (f.rejected = true → u.camp = s.camp ∧ Sends s u (.ploetNak s.camp.rxSeq) ∧
        rf u R.CAMP_LINK_COUNTS F.CAMP_LINK_COUNTS_REJECTED = min (rf s R.CAMP_LINK_COUNTS F.CAMP_LINK_COUNTS_REJECTED + 1) 0xFFFFFFFF) ∧
      (f.rejected = false → inOrder = false → u = emit s (.ploetNak s.camp.rxSeq)) ∧
      (f.rejected = false → inOrder = true →
        (∀ d i j p, (∀ g x, regKey d i j p ≠ regKey R.GL_STATUS g x 0) → rg u d i j p = rg s d i j p) ∧ u.camp.heartbeat = (s.camp.heartbeat || f.hb) ∧ u.camp.silent = (if f.hb then 0 else s.camp.silent) ∧
        u.camp.state = (if f.hb = true ∧ s.camp.state = 4 then 3 else s.camp.state) ∧
        (f.kind = 1 → u.camp.rxSeq = f.seq % 4096 ∧ Sends s u (.ploetAck (f.seq % 4096)) ∧
          u.camp.inbox = s.camp.inbox ++ f.msgs.map fun m => { type := m.1, mseq := m.2.1, arg := m.2.2.1, body := m.2.2.2 }) ∧
        (f.kind ≠ 1 → u.camp.rxSeq = s.camp.rxSeq ∧ u.camp.inbox = s.camp.inbox) ∧
        (s.camp.txQueue = [] → ∀ a e b, s.camp.unacked = a ++ e :: b → (∀ x ∈ a, x.1 ≠ f.ack % 4096) → e.1 = f.ack % 4096 →
          u.camp.unacked = b) ∧
        ((∀ x ∈ s.camp.unacked, x.1 ≠ f.ack % 4096) → u.camp.unacked = s.camp.unacked))) ∧
  (∀ (s : State) (seq n : Nat) (a b : List (Nat × List Msg)) (e : Nat × List Msg), running s = true → s.camp.up = true →
    s.camp.txQueue = [] → s.camp.unacked = a ++ e :: b →
    ((a = [] ∧ ∀ x ∈ e :: b, x.1 ≠ seq % 4096) ∨
      ∃ a' y, a = a' ++ [y] ∧ y.1 = seq % 4096 ∧ ∀ x ∈ a', x.1 ≠ seq % 4096) →
    n = (if s.camp.replays ≠ 0 ∧ s.camp.replayFrom = e.1 then s.camp.replays + 1 else 1) →
    Effect (.nakReplay seq) s fun u =>
      rf u R.CAMP_LINK_COUNTS F.CAMP_LINK_COUNTS_REPLAYS = min (rf s R.CAMP_LINK_COUNTS F.CAMP_LINK_COUNTS_REPLAYS + 1) 0xFFFF ∧
      (n < 8 → u.camp.up = true ∧ u.camp.unacked = e :: b ∧ u.camp.replays = n ∧ u.camp.replayFrom = e.1 ∧
        ∀ x ∈ e :: b, Sends s u (.ploetFlit x.1) ∧ ∀ m ∈ x.2, Sends s u (.ploetMsg m.type m.mseq m.arg m.body)) ∧
      (8 ≤ n → u.camp.up = false ∧ rf u R.CAMP_FAULT F.CAMP_FAULT_RETRY_EXHAUST = 1 ∧ Latched s u 579))

/-- 11 R386, R387, R390, R400, R402: the messages of the partner are acted on in order. A record goes into both copies of the mirror area,
if its UPDATE is the later, and is acknowledged with DURABLE; the resync ends in PAIRED, or in ALONE where the areas do not fit; a TIME
message gives the phase error of source 3; a notice takes the twin mailbox, and EMPTIED returns it to its sender. (The model's choices in
it: log entry 66.) -/
def Obligations.PartnerMessagesAreActedOn : Prop :=
  (∀ (s : State) (m : Msg) (ms : List Msg) (k n : Nat) (body : Nat → BitVec 512), running s = true → s.camp.inbox = m :: ms → m.type = 1 →
    m.body.length = 64 * n → 0 < n → k = m.arg.toNat / 64 → (∀ i, body i = BitVec.ofNat 512 (leNat ((m.body.drop (64 * i)).take 64))) →
    Effect .campRecord s fun u =>
      u.camp.inbox = ms ∧ u.camp.lostA = s.camp.lostA ∧ u.camp.lostB = s.camp.lostB ∧
      (s.camp.up = true → ∃ d ∈ ploetWaiting u, d.type = 2 ∧ d.mseq = 0 ∧ d.arg = BitVec.ofNat 64 m.mseq) ∧
      (∀ i, i < k ∨ k + n ≤ i → Tbl.get 0 u.camp.mirrorA i = Tbl.get 0 s.camp.mirrorA i ∧ Tbl.get 0 u.camp.mirrorB i = Tbl.get 0 s.camp.mirrorB i) ∧
      ((k < 0x400 ∨ 0x2400 ≤ k) → (k < 0x4000 ∨ 0x10000 ≤ k) → ∀ i, i < n →
        Tbl.get 0 u.camp.mirrorA (k + i) = body i ∧ Tbl.get 0 u.camp.mirrorB (k + i) = body i) ∧
      (readBlock (mirrorRecov s) k = none ∨ readBlock (mirrorRecov s) k = some 0 → ∀ i, i < n →
        Tbl.get 0 u.camp.mirrorA (k + i) = body i ∧ Tbl.get 0 u.camp.mirrorB (k + i) = body i) ∧
      (∀ lo d old, (0x400 ≤ k ∧ k < 0x2400 ∧ lo = 448 ∨ 0x4000 ≤ k ∧ k < 0x10000 ∧ lo = 128) →
        readBlock (mirrorRecov s) k = some old → old ≠ 0 →
        d = (bitsOf (body 0) (lo + 31) lo + 2 ^ 32 - bitsOf old (lo + 31) lo) % 2 ^ 32 →
        (0 < d → d < 2 ^ 31 → ∀ i, i < n →
          Tbl.get 0 u.camp.mirrorA (k + i) = body i ∧ Tbl.get 0 u.camp.mirrorB (k + i) = body i) ∧
        (d = 0 ∨ 2 ^ 31 ≤ d → u.camp.mirrorA = s.camp.mirrorA ∧ u.camp.mirrorB = s.camp.mirrorB))) ∧
  (∀ (s : State) (m : Msg) (ms : List Msg) (c : Instr), running s = true → s.camp.inbox = m :: ms →
    (c = .campDurable ∧ m.type = 2 ∨ c = .resyncEnd ∧ m.type = 7) → Effect c s fun u =>
      u.camp.inbox = ms ∧
      (m.type = 2 → u.camp.durable = m.arg.toNat % 2 ^ 32 ∧ u.camp.partnerEnd = s.camp.partnerEnd) ∧
      (m.type = 7 → u.camp.partnerEnd = true ∧ u.camp.durable = s.camp.durable ∧
        (s.camp.up = true → ∃ d ∈ ploetWaiting u, d.type = 2 ∧ d.arg = BitVec.ofNat 64 m.mseq)) ∧
      (∀ e, s.camp.state = 2 → u.camp.partnerEnd = true → s.camp.ownEnd = some e → (u.camp.durable + 2 ^ 32 - e) % 2 ^ 32 < 2 ^ 31 →
        u.camp.state = (if pairMismatch s then 1 else 3) ∧ (pairMismatch s = true → rf u R.CAMP_FAULT F.CAMP_FAULT_MISMATCH = 1)) ∧
      (s.camp.state ≠ 2 ∨ u.camp.partnerEnd = false ∨ s.camp.ownEnd = none → u.camp.state = s.camp.state)) ∧
  (∀ (s : State) (q : SQ) (b : BitVec 512), (∃ k, (k, q) ∈ s.sqs) → q.valid = true →
    readBlock (mirrorRecov s) (sqBlock q.num + 1) = some b → b.getLsbD 31 = true → pairMismatch s = true) ∧
  (∀ (s : State) (m : Msg) (ms : List Msg), running s = true → s.camp.inbox = m :: ms → m.type = 6 → Effect .resyncStart s fun u =>
    u.camp.inbox = ms ∧ u.camp.mirrorA = [] ∧ u.camp.mirrorB = [] ∧ u.camp.partnerEnd = false ∧
    (s.camp.up = true → ∃ d ∈ ploetWaiting u, d.type = 2 ∧ d.arg = BitVec.ofNat 64 m.mseq)) ∧
  (∀ (s : State) (m : Msg) (ms : List Msg) (arrival t1 t2 t3 t4 : W64) (t : State) (e : Int), running s = true → s.camp.inbox = m :: ms →
    m.type = 3 → t3 = BitVec.ofNat 64 (leAt m.body 0 8) → t2 = BitVec.ofNat 64 (leAt m.body 8 8) → t4 = s.camp.rxTime →
    t1 = (if (t2 - s.camp.txTime).toInt < -500000000 then s.camp.txPrev else s.camp.txTime) →
    e = ((t4 - t3).toInt - (t2 - t1).toInt) / 2 →
    t = { s with camp := { s.camp with
      inbox := ms, rxTime := BitVec.ofInt 64 (((arrival.toNat : Int) * 1000 - calDelay s 56) / 1000), partnerSource := leAt m.body 0x16 1
      partnerState := leAt m.body 0x18 1, partnerValid := (m.body.getD 0x19 0).getLsbD 7 } } →
    recheck t = t → Effect (.campTime arrival) s fun u =>
      u.camp = t.camp ∧
      (s.lant.selected = 3 → t1 ≠ 0 → t2 ≠ 0 → t3 ≠ 0 → t4 ≠ 0 → Disciplined s u (e * 1000) true) ∧
      (s.lant.selected ≠ 3 ∨ t1 = 0 ∨ t2 = 0 ∨ t3 = 0 ∨ t4 = 0 → u = t)) ∧
  (∀ (s : State) (m : Msg) (ms : List Msg) (n : Nat), running s = true → s.camp.inbox = m :: ms → m.type = 4 → campOn s = true →
    n = twinRx s → m.arg.toNat % 2 ^ 32 = n → Effect .campNotice s fun u =>
      u.camp = { s.camp with inbox := ms } ∧
      u.mbox false n = { full := true, serial := (s.mbox false n).serial + 1, agent := 0x3F, notice := BitVec.ofNat 128 (leNat (m.body.take 16)) } ∧
      (∀ t' n', (t', n') ≠ (false, n) → u.mbox t' n' = s.mbox t' n') ∧
      (rf s R.CMB_BIND F.CMB_BIND_RX_MGMT n = 0 → Latched s u (128 + n))) ∧
  (∀ (s : State) (m : Msg) (ms : List Msg) (n : Nat), running s = true → s.camp.inbox = m :: ms → m.type = 5 → campOn s = true →
    n = twinTx s → m.arg.toNat % 2 ^ 32 = n → Effect .campEmptied s fun u =>
      u.camp = { s.camp with inbox := ms } ∧
      ((s.mbox false n).full = true → Returned s u false n (m.arg.getLsbD 63)) ∧
      ((s.mbox false n).full = false → u.mail = s.mail))

/-- 11 R389, R390, R392-R394: after 16 silent frames a device that sees a low CAMP_ARB_IN takes over from its partner, and one that sees
it toggle goes on ALONE. A high level fences the device, but for ROLE 0 in TAKEOVER; a low one while heartbeats come is an arbitration
fault. CAMP_CMD fences the device, or starts a resync from ALONE with the link up. (The model's choices in it: log entry 67.) -/
def Obligations.SilenceAndCommandsDecideTheCamp : Prop :=
  (∀ (s : State), running s = true → s.camp.state = 4 → 16 ≤ s.camp.silent → s.camp.arbIn = 0 → Effect .silentDecision s fun u =>
    u.camp.state = 5 ∧ u.camp.arbOut = 2 ∧ u.camp.claimFrame = s.sched.frame ∧ rf u R.CAMP_FAULT F.CAMP_FAULT_PARTNER_LOST = 1 ∧
    rf u R.CAMP_TAKEOVER F.CAMP_TAKEOVER_FRAME_LOW = s.sched.frame.toNat % 2 ^ 32 ∧ rf u R.CAMP_TAKEOVER F.CAMP_TAKEOVER_FAILED = 0 ∧
    Latched s u 581) ∧
  (∀ (s : State), running s = true → s.camp.state = 4 → 16 ≤ s.camp.silent → s.camp.arbIn = 1 → Effect .silentDecision s fun u =>
    u.camp.state = 1 ∧ u.camp.mirrorA = s.camp.mirrorA ∧ u.camp.mirrorB = s.camp.mirrorB) ∧
  (∀ (s : State), running s = true → s.camp.state ≠ 4 ∨ s.camp.silent < 16 → Effect .silentDecision s fun u => u.camp.state = s.camp.state) ∧
  (∀ (s : State) (level : Nat), isUp s → level < 3 → campOn s = true → s.camp.state ≠ 0 → Effect (.arbInChange level) s fun u =>
    u.camp.arbIn = level ∧
    (level = 2 → s.camp.state ≠ 5 ∨ campRole s = 1 → s.camp.state ≠ 6 → Fenced u) ∧
    (level = 2 → s.camp.state = 5 → campRole s = 0 → u = { s with camp := { s.camp with arbIn := 2 } }) ∧
    (level = 1 → u = { s with camp := { s.camp with arbIn := 1 } }) ∧
    (level = 0 → u.camp.state = s.camp.state) ∧
    ((level = 0 ∨ level = 2 ∧ s.camp.state ≠ 5) → s.camp.silent = 0 → s.camp.heartbeat = true ∨ s.camp.state = 3 →
      rf u R.CAMP_FAULT F.CAMP_FAULT_ARB_FAULT = 1)) ∧
  (∀ (s : State) (v : W32), running s = true → mgmtAnswers s = true → campOn s = true → v.getLsbD 0 = true →
    Effect (.campFence v) s fun u => s.camp.state ≠ 6 → Fenced u) ∧
  (∀ (s : State) (v : W32), running s = true → mgmtAnswers s = true → campOn s = true → v.getLsbD 0 = false → v.getLsbD 1 = true →
    s.camp.state = 1 → s.camp.up = true → s.camp.matched = true → Effect (.campResync v) s fun u => Resyncs s u) ∧
  (∀ (s : State) (v : W32) (c : Instr), running s = true → mgmtAnswers s = true → (c = .campFence v ∨ c = .campResync v) →
    campOn s = false ∨ v.getLsbD 0 = false ∧ (v.getLsbD 1 = false ∨ s.camp.state ≠ 1 ∨ s.camp.up = false ∨ s.camp.matched = false) →
    Effect c s fun u => u = s)

/-- 11 R396-R398: after the claim has been held for 8 frames the device takes over. Every SQ of the mirror goes to its twin function, or
is counted as one that cannot be migrated; the device is then ALONE, with CAMP_ARB_OUT toggling, and recovered. Before that the takeover
waits. (The model's choices in it: log entries 67 and 110.) -/
def Obligations.TakeoverRestoresTheMirroredQueues : Prop :=
  (∀ (s : State) (host : List Host.Cell), running s = true → s.camp.state = 5 → s.camp.claimFrame.toNat + 8 ≤ s.sched.frame.toNat →
    recovering s = false → Effect (.takeOver host) s fun u =>
      u.camp.state = 1 ∧ u.camp.arbOut = 1 ∧ rf u R.CAMP_FAULT F.CAMP_FAULT_TAKEOVER = 1 ∧ Latched s u 582 ∧
      rf u R.RECOV_STATUS F.RECOV_STATUS_LAST_KIND = 5 ∧ recovering u = false ∧
      (∀ n v f, n < 0x4000 → readRec (mirrorRecov s) (sqBlock n) 2 128 = some v → sqBlock n ∈ recBlocks (mirrorRecov s) 0x8000 0x10000 →
        fget v (115, 112) ≠ 0 → fget v (543, 543) = 1 → f = fget v (172, 160) →
        (rf u R.CAMP_TAKEOVER F.CAMP_TAKEOVER_FAILED ≠ 0 ∧ rf u R.CAMP_FAULT F.CAMP_FAULT_MIGRATE_FAIL = 1 ∧
          (srcCfg s F.IC_SRC_CFG_ENABLE 583 ≠ 0 → (u.src 583).pending = true)) ∨
        (∃ g slot, twinFunction s f = some g ∧
          (readBlock (mirrorRecov s) (fnBlock f)).map (fun b => bitsOf b 31 0) = some (s.fn g).ident.toNat ∧
          (u.sq g slot).valid = true ∧ (u.sq g slot).num = fget v (525, 512)))) ∧
  (∀ (s : State) (host : List Host.Cell), running s = true → s.camp.state ≠ 5 ∨ s.sched.frame.toNat < s.camp.claimFrame.toNat + 8 →
    Effect (.takeOver host) s fun u => u.camp.state = s.camp.state)

/-- 12 R421-R424: the arm serves one command within 1,000 frames; PROGRAM_SLOT, REVOKE_SLOT and ADVANCE_ANTI_ROLLBACK run only under their
conditions, with RESULT 2, 4 to 8 otherwise, and begin with a PENDING log entry; the end of the change writes the setting and DONE, or
RESULT 9. (The model's choices in it: log entries 22 and 69.) -/
def Obligations.OtpChangesRunUnderTheirConditions : Prop :=
  (∀ (s : State) (v : W32), s.trust.phase = 1 ∨ s.trust.phase = 2 → mgmtAnswers s = true → Effect (.thOtpArm v) s fun u =>
    u = { s with trust := { s.trust with armed := if bitsOf v 15 0 = 0x5A5A then some s.sched.frame else none } }) ∧
  (∀ (s : State) (f : W64), s.trust.phase = 1 ∨ s.trust.phase = 2 → s.trust.armed = some f → Effect .armExpiry s fun u =>
    u = { s with trust := { s.trust with armed := if s.sched.frame.toNat ≤ f.toNat + 1000 then some f else none } }) ∧
  (∀ (s : State) (v : W32) (c : Instr) (op arg r : Nat), s.trust.phase = 1 ∨ s.trust.phase = 2 → mgmtAnswers s = true →
    (op = 1 ∧ c = .programSlot v ∨ op = 2 ∧ c = .revokeSlot v ∨ op = 3 ∧ c = .advanceAntiRollback v) → bitsOf v 3 0 = op →
    arg = bitsOf v 15 8 →
    r = (if s.trust.armed.all fun f => decide (f.toNat + 1000 < s.sched.frame.toNat) then 2
      else if s.trust.image.otpLock then 4
      else if op = 1 then (if arg < 8 ∧ (s.keySlot arg).state = 0 then 0 else 5)
      else if op = 2 then
        (if 8 ≤ arg ∨ (s.keySlot arg).state ≠ 1 then 5
         else if (s.trust.phase = 1 ∧ arg = s.trust.image.keySlot) ∨ ((List.range 8).all fun k => k == arg || (s.keySlot k).state != 1) then 6 else 0)
      else if arg ≤ s.trust.rollback ∨ s.trust.image.svn < arg then 7
      else if flashGood s (!s.trust.fromB) = false ∨ imgSvn (flash s (!s.trust.fromB)) < arg then 8
      else 0) →
    Effect c s fun u =>
      (otpBusy s = true → u = s) ∧
      (otpBusy s = false → u.trust.armed = none ∧
        (r ≠ 0 → rf u R.TH_OTP_STATUS F.TH_OTP_STATUS_RESULT = r ∧ u.trust = { s.trust with armed := none } ∧
          otherRegs [regKey R.TH_OTP_STATUS 0 0 0] s u) ∧
        (r = 0 → u.trust.otpOp = some (op, arg) ∧ u.regs = s.regs ∧ u.trust.rollback = s.trust.rollback ∧
          (∃ e, u.trust.log = s.trust.log ++ [e] ∧ bitsOf e 7 0 = op + 1 ∧ bitsOf e 15 8 = 1 ∧ bitsOf e 31 16 = arg ∧
            bitsOf e 39 32 = s.trust.image.svn % 256 ∧ bitsOf e 111 64 = coreSec s % 2 ^ 48) ∧
          (∀ k, k ≠ arg → u.keySlot k = s.keySlot k) ∧
          (op = 1 → (u.keySlot arg).state = 0 ∧ (u.keySlot arg).hash.length = 64 ∧
            ∀ i, i < 8 → leAt (u.keySlot arg).hash (8 * i) 8 = rg s R.TH_OTP_DATA i % 2 ^ 64) ∧
          (op ≠ 1 → u.keySlot arg = s.keySlot arg)))) ∧
  (∀ (s : State) (ok : Bool) (op arg : Nat), s.trust.phase = 1 ∨ s.trust.phase = 2 → s.trust.otpOp = some (op, arg) → 1 ≤ op → op ≤ 3 →
    Effect (.otpWriteComplete ok) s fun u =>
      u.trust.otpOp = none ∧ rf u R.TH_OTP_STATUS F.TH_OTP_STATUS_RESULT = (if ok then 1 else 9) ∧
      (∀ k, u.keySlot k = if ok = true ∧ op ≠ 3 ∧ k = arg then { s.keySlot arg with state := op } else s.keySlot k) ∧
      u.trust.rollback = (if ok = true ∧ op = 3 then arg else s.trust.rollback) ∧
      (∀ l e, s.trust.log = l ++ [e] → s.trust.calWaiting = false →
        u.trust.log = l ++ [if ok then e ||| BitVec.ofNat 128 (2 * 256) else e] ∧ u.lant = s.lant) ∧
      (s.trust.calWaiting = true → u.trust.calWaiting = false ∧ u.lant.committing = true))

/-- 12 R429, R430, R414: a flash operation starts only within its device's rules and clears GOOD before it changes a device; its end
delivers, programs or erases exactly its bytes, or records the verdict on the image. The other device is verified in the background. An
image that is admitted has a valid header, key, signature and version. (The model's choices in it: log entries 21, 23, 24 and 68.) -/
def Obligations.FlashIsReadChangedAndVerified : Prop :=
  (∀ (s : State) (v : W32) (c : Instr) (op a n r : Nat) (b : Bool), s.trust.phase = 1 ∨ s.trust.phase = 2 → mgmtAnswers s = true →
    (op = 1 ∧ c = .flashRead v ∨ op = 2 ∧ c = .flashProgram v ∨ op = 3 ∧ c = .flashErase v ∨ op = 4 ∧ c = .flashVerify v) →
    v.getLsbD 31 = true → bitsOf v 27 24 = op → b = v.getLsbD 16 → n = bitsOf v 12 0 + 1 → a = rg s R.TH_FLASH_ADDR →
    r = (if (op = 2 ∨ op = 3) ∧ s.trust.phase = 1 ∧ flashGood s (!b) = false then 2
      else if (op ≤ 2 ∧ 4096 < a % 4096 + n) ∨ (op = 3 ∧ a % 65536 ≠ 0) then 3 else 0) →
    Effect c s fun u =>
      (s.trust.flashOp.isSome = true → u.trust = s.trust ∧ otherRegs [regKey R.TH_FLASH_CTRL 0 0 0] s u) ∧
      (s.trust.flashOp = none →
        (r ≠ 0 → u.trust = s.trust ∧ rf u R.TH_FLASH_STATUS F.TH_FLASH_STATUS_RESULT = r ∧ flashGood u b = flashGood s b) ∧
        (r = 0 → (∃ w d, u.trust = { s.trust with flashOp := some (v, w, d) } ∧ w.toNat = a % 2 ^ 32 ∧
            (op = 2 → d = (((List.range 512).flatMap fun i => leBytes 8 (rg s R.TH_FLASH_BUF i)).take n))) ∧
          flashGood u b = (flashGood s b && (op == 1 || op == 4)) ∧ flashGood u (!b) = flashGood s (!b)))) ∧
  (∀ (s : State) (ok b : Bool) (v w : W32) (buf : List Byte) (op n a : Nat), s.trust.phase = 1 ∨ s.trust.phase = 2 →
    s.trust.flashOp = some (v, w, buf) → op = bitsOf v 27 24 → b = v.getLsbD 16 → n = bitsOf v 12 0 + 1 → a = w.toNat →
    Effect (.flashOpComplete ok) s fun u =>
      u.trust.flashOp = none ∧ flash u (!b) = flash s (!b) ∧
      (1 ≤ op → op ≤ 3 → rf u R.TH_FLASH_STATUS F.TH_FLASH_STATUS_RESULT = (if ok then 1 else 4)) ∧
      (op = 1 → flash u b = flash s b ∧
        (ok = true → n ≤ 4096 → ∀ i, i < 512 → 8 * i + 8 ≤ n → rg u R.TH_FLASH_BUF i = flNat (flash s b) (a + 8 * i) 8)) ∧
      (op = 2 → (ok = true → buf.length = n → ∀ i, i < n →
          Tbl.get 0xFF (flash u b) (a + i) = Tbl.get 0xFF (flash s b) (a + i) &&& buf.getD i 0) ∧
        ∀ x, x < a ∨ a + (if ok then buf.length else n) ≤ x → Tbl.get 0xFF (flash u b) x = Tbl.get 0xFF (flash s b) x) ∧
      (op = 3 → (ok = true → ∀ i, i < 65536 → Tbl.get 0xFF (flash u b) (a + i) = 0xFF) ∧
        ∀ x, x < a ∨ a + 65536 ≤ x → Tbl.get 0xFF (flash u b) x = Tbl.get 0xFF (flash s b) x) ∧
      (op = 4 → flash u b = flash s b ∧
        (ok = true → verify s b = none → flashGood u b = true ∧ rg u R.TH_REJECT (b2n b) = 0 ∧
          rf u R.TH_FLASH_STATUS F.TH_FLASH_STATUS_RESULT = 1) ∧
        (∀ e, (ok = true ∧ verify s b = some e ∨ ok = false ∧ e = ⟨6, 0, none⟩) →
          rf u R.TH_REJECT F.TH_REJECT_VALID (b2n b) = 1 ∧ rf u R.TH_REJECT F.TH_REJECT_CODE (b2n b) = e.code % 256 ∧
          rf u R.TH_REJECT F.TH_REJECT_SECTION (b2n b) = e.sect % 256 ∧ rf u R.TH_FAULT F.TH_FAULT_REJECTED = 1 ∧
          rf u R.TH_FLASH_STATUS F.TH_FLASH_STATUS_RESULT = 5))) ∧
  (∀ (s : State) (b : Bool), running s = true → rb s R.TH_FLASH_STATUS F.TH_FLASH_STATUS_CHECKING = true → b = !s.trust.fromB →
    Effect .backgroundVerify s fun u =>
      rf u R.TH_FLASH_STATUS F.TH_FLASH_STATUS_CHECKING = 0 ∧ flashGood u b = (verify s b).isNone ∧ flashGood u (!b) = flashGood s (!b) ∧
      (verify s b = none → rg u R.TH_REJECT (b2n b) = 0) ∧
      (∀ e, verify s b = some e → rf u R.TH_REJECT F.TH_REJECT_CODE (b2n b) = e.code % 256 ∧ rf u R.TH_FAULT F.TH_FAULT_REJECTED = 1)) ∧
  (∀ (s : State) (b : Bool) (fl : Tbl Byte), fl = flash s b → verify s b = none →
    flNat fl 0 4 = 0x4D49514E ∧ flNat fl 4 2 = 1 ∧ 1 ≤ flNat fl 6 2 ∧ flNat fl 6 2 ≤ 32 ∧ flNat fl 0xC 2 ≤ rg s R.GLOBAL_STEPPING % 2 ^ 16 ∧
    s.trust.rollback ≤ flNat fl 0xE 1 ∧ flNat fl 0xE 1 ≤ 128 ∧ flNat fl 0xF 1 < 8 ∧ (s.keySlot (flNat fl 0xF 1)).state = 1 ∧
    shake256 (flBytes fl 0x40 1793) = (s.keySlot (flNat fl 0xF 1)).hash ∧
    Config.falconVerify (flBytes fl 0x40 1793) (imgDigest fl) (flBytes fl 0x790 (flNat fl 0x780 2)) = true ∧
    ∀ ty, 1 ≤ ty → ty ≤ 4 → ∃ i, i < flNat fl 6 2 ∧ (sectAt fl i).type = ty ∧ (sectAt fl i).off % 4096 = 0 ∧ 0x2000 ≤ (sectAt fl i).off ∧
      (sectAt fl i).off + (sectAt fl i).len ≤ flNat fl 8 4 ∧
      shake256 (flBytes fl (sectAt fl i).off (sectAt fl i).len) = flBytes fl (dirAt i + 0x10) 64)

/-- 12 R416, R427, R428: a request takes the report with the present TH_NONCE, one at a time; its signature begins only between seconds 1
and 58 with no meter head waiting, and its end sets READY. Until trailhead ends a Configuration Request is answered with Retry Status.
(The model's choices in it: log entries 11 and 61.) -/
def Obligations.ReportsAreTakenAndSigned : Prop :=
  (∀ (s : State) (v : W32), s.trust.phase = 1 ∨ s.trust.phase = 2 → mgmtAnswers s = true → v.getLsbD 31 = true →
    Effect (.attestRequest v) s fun u =>
    (s.trust.report.isSome = true → u = s) ∧
    (s.trust.report = none → s.trust.image.digest.length ≤ 64 → ∃ r, u.trust = { s.trust with report := some r, signing := false } ∧
      r.length = 1024 ∧ rf u R.TH_ATTEST_CTRL F.TH_ATTEST_CTRL_READY = 0 ∧ leAt r 0 2 = 1 ∧ leAt r 2 1 = 1 ∧
      leAt r 3 1 = s.trust.resetKind % 256 ∧ leAt r 0x10 8 = coreSec s % 2 ^ 48 ∧ leAt r 0x20 8 = s.sched.frame.toNat ∧
      leAt r 0x30 8 = s.trust.image.imageId.toNat ∧ leAt r 0x38 1 = s.trust.image.svn % 256 ∧ leAt r 0x3A 1 = s.trust.rollback % 256 ∧
      leAt r 0x3E 2 = s.trust.log.length % 2 ^ 16 ∧ (r.drop 0x80).take 64 = shake256 (slotHashes s ++ logBytes s) ∧
      (r.drop 0x40).take 64 = s.trust.image.digest ++ List.replicate (64 - s.trust.image.digest.length) 0 ∧
      ∀ i, i < 8 → leAt r (0xC0 + 8 * i) 8 = rg s R.TH_NONCE i % 2 ^ 64)) ∧
  (∀ (s : State), s.trust.phase = 1 ∨ s.trust.phase = 2 → Effect .reportSignStart s fun u =>
    (s.trust.report.isSome = true → s.trust.signing = false → 1 ≤ lantSec s % 60 → lantSec s % 60 ≤ 58 → (∀ b ∈ s.meter.blocks, b.unsigned = false) →
      u = { s with trust := { s.trust with signing := true } }) ∧
    (s.trust.report = none ∨ lantSec s % 60 = 0 ∨ lantSec s % 60 = 59 ∨ (∃ b ∈ s.meter.blocks, b.unsigned = true) → u = s)) ∧
  (∀ (s : State) (r : List Byte), s.trust.phase = 1 ∨ s.trust.phase = 2 → s.trust.report = some r → r.length = 1024 → s.trust.signing = true →
    Effect .reportSigned s fun u =>
      rf u R.TH_ATTEST_CTRL F.TH_ATTEST_CTRL_READY = 1 ∧ otherRegs [regKey R.TH_ATTEST_CTRL 0 0 0] s u ∧
      ∃ sig, sig = (Config.falconSign s.free (shake256 r)).take 1536 ∧ u.trust.report = none ∧ u.trust.signing = false ∧
        u.trust.lastReport.length = 4096 ∧ u.trust.lastReport.take 1024 = r ∧ leAt u.trust.lastReport 0x400 2 = sig.length ∧
        (u.trust.lastReport.drop 0x410).take sig.length = sig) ∧
  (∀ (s : State) (fn : Nat), isUp s → Effect (.configurationRequest fn) s fun u =>
    (s.trust.phase = 4 → fnExists s fn = true → (s.port (fn / 256)).link ≠ 0 → u = emit s (.crs fn)) ∧
    (s.trust.phase ≠ 4 ∨ fnExists s fn = false ∨ (s.port (fn / 256)).link = 0 → u = s))

/-- 13 R434, R436: a request of bivouac is judged by what R434 permits, refused in a cycle in which something has just woken the domain,
and kept while the domain leaves; a request of return starts the exit, or is kept while the domain enters. (The model's choices in it: log
entry 71.) -/
def Obligations.BivouacRequestsAreJudged : Prop :=
  (∀ (s : State) (d : Nat) (v : W32), s.trust.phase = 1 ∨ s.trust.phase = 2 → mgmtAnswers s = true → d < 49 → v.getLsbD 31 = true →
    Effect (.bivouacRequest d v) s fun u =>
      (d = 45 ∨ d = 47 → Domain u d 1 (domState s d) 3) ∧
      (d ≠ 45 → d ≠ 47 → Tbl.get 0 s.power.wokenAt d = absCycle s + 1 → Domain u d (domField s F.PWR_DOMAIN_REQ d) (domState s d) 2) ∧
      (d ≠ 45 → d ≠ 47 → Tbl.get 0 s.power.wokenAt d ≠ absCycle s + 1 →
        (domState s d = 0 → MayEnter s d → Domain u d 1 1 (domField s F.PWR_DOMAIN_RESULT d)) ∧
        (domState s d = 0 → ¬ MayEnter s d → Domain u d 1 0 2) ∧
        (domState s d = 3 → Domain u d 1 3 (domField s F.PWR_DOMAIN_RESULT d) ∧ Tbl.get 0 u.power.queued d = 2) ∧
        (domState s d = 1 ∨ domState s d = 2 → Domain u d 1 (domState s d) (domField s F.PWR_DOMAIN_RESULT d))) ∧
      (∀ x, x ≠ d → Tbl.get 0 u.power.dom x = Tbl.get 0 s.power.dom x) ∧ u.regs = s.regs) ∧
  (∀ (s : State) (d : Nat) (v : W32), s.trust.phase = 1 ∨ s.trust.phase = 2 → mgmtAnswers s = true → d < 49 → v.getLsbD 31 = false →
    Effect (.onRequest d v) s fun u =>
      (d = 45 ∨ d = 47 → Domain u d 0 (domState s d) 3) ∧
      (d ≠ 45 → d ≠ 47 → Domain u d 0 (if domState s d = 2 then 3 else domState s d) (domField s F.PWR_DOMAIN_RESULT d) ∧
        (domState s d = 1 → Tbl.get 0 u.power.queued d = 1)) ∧
      (∀ x, x ≠ d → Tbl.get 0 u.power.dom x = Tbl.get 0 s.power.dom x) ∧ u.regs = s.regs)

/-- 13 R434-R437, 01 R22, 06 R244: an entry or exit that ends serves a request made on the way; an exit that fails loses the domain; a
lost domain takes its work with it, and comes back. Steps that waited for the field ports start their time anew at the exit (04 R157).
(The model's choices in it: log entry 71.) -/
def Obligations.DomainsEnterLeaveAreLostAndReturn : Prop :=
  (∀ (s : State) (d : Nat), s.trust.phase = 1 ∨ s.trust.phase = 2 → domState s d = 1 → Effect (.bivouacEntryComplete d) s fun u =>
    domState u d = (if Tbl.get 0 s.power.queued d = 1 then 3 else 2) ∧ domField u F.PWR_DOMAIN_RESULT d = 1 ∧
    ∀ x, x ≠ d → Tbl.get 0 u.power.dom x = Tbl.get 0 s.power.dom x) ∧
  (∀ (s : State) (d : Nat), s.trust.phase = 1 ∨ s.trust.phase = 2 → domState s d = 3 → Effect (.bivouacExitComplete d) s fun u =>
    (Tbl.get 0 s.power.queued d ≠ 2 → domState u d = 0 ∧ domField u F.PWR_DOMAIN_RESULT d = 1) ∧
    (Tbl.get 0 s.power.queued d = 2 → (MayEnter s d → domState u d = 1) ∧
      (¬ MayEnter s d → domState u d = 0 ∧ domField u F.PWR_DOMAIN_RESULT d = 2)) ∧
    (d = 46 → ∀ c ∈ fieldSteps s, (u.ctx c).begun = absCycle s) ∧
    (∀ x, x ≠ d → Tbl.get 0 u.power.dom x = Tbl.get 0 s.power.dom x)) ∧
  (∀ (s : State) (d : Nat), s.trust.phase = 1 ∨ s.trust.phase = 2 → domState s d = 3 → Effect (.exitTimeout d) s fun u =>
    domState u d = 5 ∧ domField u F.PWR_DOMAIN_RESULT d = 4 ∧ rf u R.PWR_FAULT F.PWR_FAULT_EXIT_FAIL = 1 ∧
    rf u R.PWR_FAULT F.PWR_FAULT_DOMAIN_LOST = 1) ∧
  (∀ (s : State) (d : Nat), s.trust.phase = 1 ∨ s.trust.phase = 2 → d < 49 → domState s d < 4 → Effect (.domainLost d) s fun u =>
    domState u d = 5 ∧ rf u R.PWR_FAULT F.PWR_FAULT_DOMAIN_LOST = 1 ∧
    (d < 8 → u.power.pitchPending.contains d = true ∧ u.power.pitchLost.contains d = true ∧
      ∀ c, c / 1024 = d → (s.ctx c).state ≠ 0 → u.ctx c = Ctx.reset) ∧
    (8 ≤ d → d < 32 → ∀ p ∈ quadPorts s (d - 8), (u.port p).link = 0) ∧
    (32 ≤ d → d < 44 → (∀ f ∈ u.sched.fetches, f.buf ≠ d - 32) ∧
      (∀ e ∈ s.prog.ctxs, e.2.stagedIn.contains (d - 32) = true → u.ctx e.1 = Ctx.reset) ∧
      ∀ b, activeBank s = some b → (bankOf s b).mask.testBit (d - 32) = true →
        rb u R.SCHED_STATUS F.SCHED_STATUS_FREE_ONLY = true ∧ rf u R.SCHED_FAULT F.SCHED_FAULT_CONTRACT = 1) ∧
    (d = 44 → u.camp.up = false) ∧ (d = 45 → u.trust.phase = 0) ∧ (d = 46 → u.ports.field = []) ∧ (d = 47 → u.trust.phase = 3)) ∧
  (∀ (s : State) (d ms : Nat), s.trust.phase ≠ 3 → d ≠ 45 → d ≠ 47 → domState s d = 5 → Effect (.domainReturn d ms) s fun u =>
    domState u d = 0 ∧ (d = 48 → (u.core 32).imem = (s.core 32).storeI ∧ (u.core 32).x = (s.core 32).storeX ∧
      (u.core 32).halt = if storeOk (s.core 32) 32 then 0 else 4)) ∧
  (∀ (s : State) (ms : Nat), s.trust.phase = 0 → domState s 45 = 5 → Effect (.domainReturn 45 ms) s fun u =>
    u.trust.phase = 4 ∧ u.trust.resetKind = 4)

/-- 13 R438-R440, R444, 12 R418: requests of resets wait, and one that waits absorbs the next; a warm reset begins at cycle 0 of a later
frame and keeps what the table of R438 keeps, a fault reset likewise, while lantern time goes on; power-on and cold reset keep OTP and
flash only; without power the device is held in reset. (The model's choices in it: log entries 24, 56, 71 and 107.) -/
def Obligations.ResetsKeepWhatTheTableSays : Prop :=
  (∀ (s : State) (v : W32) (c : Instr), running s = true → (c = .warmRequest v ∧ v.getLsbD 31 = true ∧ mgmtAnswers s = true ∨ c = .wrstN) → Effect c s fun u =>
    u = { s with power := { s.power with warmPending := some (s.power.warmPending.getD s.sched.frame) } }) ∧
  (∀ (s : State) (v : W32), running s = true → mgmtAnswers s = true → Effect (.pitchRequest v) s fun u =>
    (∀ p, u.power.pitchPending.contains p = (s.power.pitchPending.contains p || (decide (p < 8) && v.getLsbD p))) ∧
    (∀ p, u.power.pitchAsked.contains p = (s.power.pitchAsked.contains p || (decide (p < 8) && v.getLsbD p))) ∧
    { u.power with pitchPending := s.power.pitchPending, pitchAsked := s.power.pitchAsked } = s.power) ∧
  (∀ (s : State) (ms kind : Nat) (c : Instr),
    (c = .warmReset ms ∧ kind = 3 ∧ running s = true ∧ s.sched.cycle = 0 ∧ (∃ f, s.power.warmPending = some f ∧ f < s.sched.frame) ∨
     c = .controlStateError ms ∧ kind = 4 ∧
       (running s = true ∨ s.trust.phase = 4 ∧ s.trust.resetKind = 3)) → Restarts c s fun u =>
      u.trust.phase = 4 ∧ u.trust.resetKind = kind ∧ u.pending = s.pending ∧
      u.sched.frame = s.sched.frame ∧ u.mem.ddr = s.mem.ddr ∧ u.mem.repairs = s.mem.repairs ∧
      u.lant.inReset = true ∧ u.lant.committing = false ∧
      (s.lant.selected = 0 ∨ s.lant.selected < 3 ∧ sourceQualified s s.lant.selected = true → ∃ t m n,
        t.units = (s.lant.time.units + ms * 1000 * (1250000 * lantRate s / 1000)) % (2 ^ 48 * 1000000000 * 2 ^ 40) ∧
        u.lant = { s.lant with inReset := true, committing := false, time := t, mNow := m, m1 := n }) ∧ u.ports.steer = s.ports.steer ∧
      u.camp.mirrorA = s.camp.mirrorA ∧ u.camp.mirrorB = s.camp.mirrorB ∧
      u.camp.arbOut = (if s.camp.state = 6 then 0 else 1) ∧ u.recov.copyA = s.recov.copyA ∧ u.recov.copyB = s.recov.copyB ∧
      (s.trust.flashOp = none → u.trust.flash0 = s.trust.flash0 ∧ u.trust.flash1 = s.trust.flash1) ∧
      (∀ d ∈ regAllowed, d.off ≠ R.LEASE_CFG.off → ∀ i j, i < d.n1 → j < d.n2 → rg u d i j = rg s d i j) ∧
      u.sqs = [] ∧ u.cqs = [] ∧ u.prog.ctxs = [] ∧ u.ports.ports = [] ∧ u.power.warmPending = none ∧
      (∀ d, d < 49 → domState u d = if domainUsed u d then 0 else 4)) ∧
  (∀ (s : State) (ms kind : Nat) (dimms : List (Option Dimm)) (c : Instr),
    (c = .powerOnReset ms dimms ∧ kind = 1 ∨ c = .coldReset ms dimms ∧ kind = 2 ∧ s.power.pwrgood = true ∧ s.power.tripped = false) →
    Restarts c s fun u =>
      u.trust.phase = 4 ∧ u.trust.resetKind = kind ∧ u.pending = s.pending ∧ u.sched.frame = 0 ∧ u.mem.ddr = [] ∧
      u.sqs = [] ∧ u.cqs = [] ∧ u.prog.ctxs = [] ∧ u.ports.ports = [] ∧ u.camp.mirrorA = [] ∧ u.lant.commits = s.lant.commits ∧
      u.lant.state = 0 ∧ rf u R.PWR_FAULT F.PWR_FAULT_TRIPPED = b2n s.power.tripped ∧ u.power.tripped = false ∧ u.power.pwrgood = true ∧
      (s.trust.flashOp = none → u.trust.flash0 = s.trust.flash0 ∧ u.trust.flash1 = s.trust.flash1) ∧
      ((∀ e ∈ s.trust.log, logOpen e = false) → u.trust.log = s.trust.log ∧ u.trust.slots = s.trust.slots ∧ u.trust.rollback = s.trust.rollback) ∧
      (∀ ch, ch < 12 → rg u R.DDR5_INFO ch = dimmInfo (dimms.getD ch none)) ∧
      (∀ ch, ch < 12 → (rb u R.DDR5_INFO F.DDR5_INFO_PRESENT ch = true ↔
        ∃ d, dimms.getD ch none = some d ∧ dimmSupported d = true ∧ d.trained = true)) ∧
      (kind = 2 → ∀ t n, (u.mbox t n).full = false ∧ ((s.mbox t n).serial ≠ 0 → (u.mbox t n).serial = (s.mbox t n).serial))) ∧
  (∀ (s : State), ∃ u, exec .pwrgoodFall s = .next u ∧ u.trust.phase = 0 ∧ u.power.pwrgood = false ∧ u.power.tripped = s.power.tripped ∧
    u.pending = s.pending ∧ u.regs = [] ∧ u.sqs = [] ∧ u.mem.ddr = [] ∧ u.trust.rollback = s.trust.rollback ∧ u.trust.slots = s.trust.slots) ∧
  (∀ (s : State) (ms : Nat) (dimms : List (Option Dimm)), s.power.pwrgood = false ∨ s.power.tripped = true → Ignored (.coldReset ms dimms) s)

/-- 13 R446, R448: a sample of the hottest sensor shows in PWR_TEMP and TEMP_ALARM and counts PWR_MISSION; at 132 °C or more the device
trips and holds itself in reset. (The model's choices in it: log entries 24 and 71.) -/
def Obligations.TemperatureRaisesTheAlarmAndTrips : Prop :=
  ∀ (s : State) (temp : Int) (sensor : Nat), isUp s → sensor < 64 → Effect (.temperatureSample temp sensor) s fun u =>
    (132 ≤ temp → u.power.tripped = true ∧ u.trust.phase = 0 ∧ u.pending = s.pending) ∧
    (-128 ≤ temp → temp ≤ 127 → rf u R.PWR_TEMP F.PWR_TEMP_MAX = (temp % 256).toNat) ∧
    (temp < 132 → rf u R.PWR_TEMP F.PWR_TEMP_SENSOR = sensor ∧ rf u R.PWR_TEMP F.PWR_TEMP_ALARM = rf s R.PWR_TEMP F.PWR_TEMP_ALARM ∧
      rf u R.PWR_FAULT F.PWR_FAULT_TEMP_ALARM = b2n (decide ((min 125 (rf s R.PWR_TEMP F.PWR_TEMP_ALARM) : Nat) ≤ temp)) ∧
      rf u R.PWR_MISSION F.PWR_MISSION_SECONDS = min (rf s R.PWR_MISSION F.PWR_MISSION_SECONDS + b2n (s.power.samples == 99999)) (2 ^ 32 - 1) ∧
      otherRegs [regKey R.PWR_TEMP 0 0 0, regKey R.PWR_FAULT 0 0 0, regKey R.PWR_MISSION 0 0 0] s u ∧ u.sqs = s.sqs ∧ u.trust = s.trust)
end

