-- ==== Sys2Proof/Laws/Table.lean ====
section
/-! SUPPORT. Laws of the sparse table: read after write, and the canonical form that every write keeps. -/
namespace Sys2Proof

variable {α : Type}

theorem Tbl.get_del_self (d : α) (t : Tbl α) (k : Nat) : Tbl.get d (Tbl.del t k) k = d := by
  induction t with
  | nil => rfl
  | cons e t ih =>
    obtain ⟨a, v⟩ := e
    unfold Tbl.del
    split
    · exact ih
    · next h => rw [Tbl.get, if_neg h, ih]

theorem Tbl.get_del_ne (d : α) (t : Tbl α) {k j : Nat} (h : j ≠ k) : Tbl.get d (Tbl.del t k) j = Tbl.get d t j := by
  induction t with
  | nil => rfl
  | cons e t ih =>
    obtain ⟨a, v⟩ := e
    unfold Tbl.del
    split
    · next e => rw [ih, Tbl.get, if_neg (fun c => h (c.symm.trans e))]
    · rw [Tbl.get, Tbl.get, ih]

theorem Tbl.get_ins_self (d : α) (t : Tbl α) (k : Nat) (v : α) : Tbl.get d (Tbl.ins t k v) k = v := by
  induction t with
  | nil => simp [Tbl.ins, Tbl.get]
  | cons e t ih =>
    obtain ⟨a, w⟩ := e
    unfold Tbl.ins
    split
    · simp [Tbl.get]
    · next h =>
      split
      · simp [Tbl.get]
      · rw [Tbl.get, if_neg h, ih]

theorem Tbl.get_ins_ne (d : α) (t : Tbl α) {k j : Nat} (v : α) (h : j ≠ k) : Tbl.get d (Tbl.ins t k v) j = Tbl.get d t j := by
  have h' : k ≠ j := fun c => h c.symm
  induction t with
  | nil => simp [Tbl.ins, Tbl.get, h']
  | cons e t ih =>
    obtain ⟨a, w⟩ := e
    unfold Tbl.ins
    split
    · next e => subst e; simp [Tbl.get, h']
    · split
      · simp [Tbl.get, h']
      · rw [Tbl.get, Tbl.get, ih]

variable [DecidableEq α]

@[simp] theorem Tbl.get_set_self (d : α) (t : Tbl α) (k : Nat) (v : α) : Tbl.get d (Tbl.set d t k v) k = v := by
  unfold Tbl.set
  split
  · next h => rw [h, Tbl.get_del_self]
  · exact Tbl.get_ins_self d t k v

theorem Tbl.get_set_ne (d : α) (t : Tbl α) {k j : Nat} (v : α) (h : j ≠ k) : Tbl.get d (Tbl.set d t k v) j = Tbl.get d t j := by
  unfold Tbl.set
  split
  · exact Tbl.get_del_ne d t h
  · exact Tbl.get_ins_ne d t v h

/-- A write of one key leaves what another key reads alone, whatever the defaults of the two. -/
theorem Tbl.get_set_default (d d' : α) (t : Tbl α) {k j : Nat} (v : α) (h : j ≠ k) :
    Tbl.get d' (Tbl.set d t k v) j = Tbl.get d' t j := by
  unfold Tbl.set
  split
  · exact Tbl.get_del_ne d' t h
  · exact Tbl.get_ins_ne d' t v h

/-- Read after write. -/
theorem Tbl.get_set (d : α) (t : Tbl α) (k j : Nat) (v : α) :
    Tbl.get d (Tbl.set d t k v) j = if j = k then v else Tbl.get d t j := by
  split
  · next h => rw [h, Tbl.get_set_self]
  · next h => exact Tbl.get_set_ne d t v h

@[simp] theorem Tbl.get_upd_self (d : α) (t : Tbl α) (k : Nat) (f : α → α) : Tbl.get d (Tbl.upd d t k f) k = f (Tbl.get d t k) :=
  Tbl.get_set_self ..

theorem Tbl.get_upd_ne (d : α) (t : Tbl α) {k j : Nat} (f : α → α) (h : j ≠ k) :
    Tbl.get d (Tbl.upd d t k f) j = Tbl.get d t j := Tbl.get_set_ne d t _ h

/-! ### The canonical form -/

theorem Tbl.okFrom_mono {d : Nat → α} {b c : Nat} {t : Tbl α} (h : Tbl.okFrom d c t = true) (hb : b ≤ c) :
    Tbl.okFrom d b t = true := by
  cases t with
  | nil => rfl
  | cons e t =>
    obtain ⟨a, v⟩ := e
    simp only [Tbl.okFrom, Bool.and_eq_true, decide_eq_true_eq] at h ⊢
    exact ⟨⟨Nat.le_trans hb h.1.1, h.1.2⟩, h.2⟩

theorem Tbl.okFrom_del {d : Nat → α} (t : Tbl α) (k : Nat) : ∀ {b}, Tbl.okFrom d b t = true → Tbl.okFrom d b (Tbl.del t k) = true := by
  induction t with
  | nil => intro b h; exact h
  | cons e t ih =>
    intro b h
    obtain ⟨a, v⟩ := e
    simp only [Tbl.okFrom, Bool.and_eq_true, decide_eq_true_eq] at h
    unfold Tbl.del
    split
    · exact ih (Tbl.okFrom_mono h.2 (by omega))
    · simp only [Tbl.okFrom, Bool.and_eq_true, decide_eq_true_eq]
      exact ⟨h.1, ih h.2⟩

theorem Tbl.okFrom_ins {d : Nat → α} (t : Tbl α) (k : Nat) (v : α) (hv : v ≠ d k) :
    ∀ {b}, b ≤ k → Tbl.okFrom d b t = true → Tbl.okFrom d b (Tbl.ins t k v) = true := by
  induction t with
  | nil => intro b hb h; simp [Tbl.ins, Tbl.okFrom, hv, hb]
  | cons e t ih =>
    intro b hb h
    obtain ⟨a, w⟩ := e
    simp only [Tbl.okFrom, Bool.and_eq_true, decide_eq_true_eq] at h
    unfold Tbl.ins
    split
    · next e =>
      subst e
      simp only [Tbl.okFrom, Bool.and_eq_true, decide_eq_true_eq]
      exact ⟨⟨hb, hv⟩, h.2⟩
    · next hne =>
      split
      · next hlt =>
        simp only [Tbl.okFrom, Bool.and_eq_true, decide_eq_true_eq]
        exact ⟨⟨hb, hv⟩, ⟨by omega, h.1.2⟩, h.2⟩
      · simp only [Tbl.okFrom, Bool.and_eq_true, decide_eq_true_eq]
        exact ⟨h.1, ih (by omega) h.2⟩

/-- Every write keeps the canonical form. -/
theorem Tbl.ok_set {d : α} {t : Tbl α} (h : Tbl.ok (fun _ => d) t = true) (k : Nat) (v : α) :
    Tbl.ok (fun _ => d) (Tbl.set d t k v) = true := by
  unfold Tbl.set
  split
  · exact Tbl.okFrom_del t k h
  · next hv => exact Tbl.okFrom_ins t k v hv (Nat.zero_le k) h

theorem Tbl.ok_keep {d : Nat → α} {t : Tbl α} (h : Tbl.ok d t = true) (p : Nat → Bool) : Tbl.ok d (Tbl.keep p t) = true := by
  have g : ∀ (t : Tbl α) (b : Nat), Tbl.okFrom d b t = true → Tbl.okFrom d b (Tbl.keep p t) = true := by
    intro t
    induction t with
    | nil => intro b h; exact h
    | cons e t ih =>
      intro b h
      obtain ⟨a, w⟩ := e
      simp only [Tbl.okFrom, Bool.and_eq_true, decide_eq_true_eq] at h
      unfold Tbl.keep at *
      rw [List.filter_cons]
      split
      · simp only [Tbl.okFrom, Bool.and_eq_true, decide_eq_true_eq]
        exact ⟨h.1, ih _ h.2⟩
      · exact ih b (Tbl.okFrom_mono h.2 (by omega))
  exact g t 0 h

end Sys2Proof
end

