-- ==== Sys2Proof/Laws/State.lean ====
section
/-! SUPPORT. The small laws of the state: what each shared update leaves alone, field by field, and read after write of the keyed
records. -/
namespace Sys2Proof.Machine

/-! `State.setCore` -/

@[simp] theorem setCore_regs (s : State) (k : Nat) (c : Core) :
    (State.setCore s k c).regs = s.regs := (rfl)
@[simp] theorem setCore_sched (s : State) (k : Nat) (c : Core) :
    (State.setCore s k c).sched = s.sched := (rfl)
@[simp] theorem setCore_fns (s : State) (k : Nat) (c : Core) :
    (State.setCore s k c).fns = s.fns := (rfl)
@[simp] theorem setCore_sqs (s : State) (k : Nat) (c : Core) :
    (State.setCore s k c).sqs = s.sqs := (rfl)
@[simp] theorem setCore_cqs (s : State) (k : Nat) (c : Core) :
    (State.setCore s k c).cqs = s.cqs := (rfl)
@[simp] theorem setCore_prog (s : State) (k : Nat) (c : Core) :
    (State.setCore s k c).prog = s.prog := (rfl)
@[simp] theorem setCore_recov (s : State) (k : Nat) (c : Core) :
    (State.setCore s k c).recov = s.recov := (rfl)
@[simp] theorem setCore_mem (s : State) (k : Nat) (c : Core) :
    (State.setCore s k c).mem = s.mem := (rfl)
@[simp] theorem setCore_mail (s : State) (k : Nat) (c : Core) :
    (State.setCore s k c).mail = s.mail := (rfl)
@[simp] theorem setCore_intc (s : State) (k : Nat) (c : Core) :
    (State.setCore s k c).intc = s.intc := (rfl)
@[simp] theorem setCore_lant (s : State) (k : Nat) (c : Core) :
    (State.setCore s k c).lant = s.lant := (rfl)
@[simp] theorem setCore_meter (s : State) (k : Nat) (c : Core) :
    (State.setCore s k c).meter = s.meter := (rfl)
@[simp] theorem setCore_ports (s : State) (k : Nat) (c : Core) :
    (State.setCore s k c).ports = s.ports := (rfl)
@[simp] theorem setCore_camp (s : State) (k : Nat) (c : Core) :
    (State.setCore s k c).camp = s.camp := (rfl)
@[simp] theorem setCore_trust (s : State) (k : Nat) (c : Core) :
    (State.setCore s k c).trust = s.trust := (rfl)
@[simp] theorem setCore_power (s : State) (k : Nat) (c : Core) :
    (State.setCore s k c).power = s.power := (rfl)
@[simp] theorem setCore_out (s : State) (k : Nat) (c : Core) :
    (State.setCore s k c).out = s.out := (rfl)
@[simp] theorem setCore_busData (s : State) (k : Nat) (c : Core) :
    (State.setCore s k c).busData = s.busData := (rfl)
@[simp] theorem setCore_free (s : State) (k : Nat) (c : Core) :
    (State.setCore s k c).free = s.free := (rfl)
@[simp] theorem setCore_pending (s : State) (k : Nat) (c : Core) :
    (State.setCore s k c).pending = s.pending := (rfl)
@[simp] theorem setCore_rg (s : State) (k : Nat) (c : Core) (d : RegD) (i j p : Nat) :
    rg ((State.setCore s k c)) d i j p = rg (s) d i j p := (rfl)
@[simp] theorem setCore_rf (s : State) (k : Nat) (c : Core) (d : RegD) (f : Nat × Nat) (i j p : Nat) :
    rf ((State.setCore s k c)) d f i j p = rf (s) d f i j p := (rfl)
@[simp] theorem setCore_rb (s : State) (k : Nat) (c : Core) (d : RegD) (f : Nat × Nat) (i j p : Nat) :
    rb ((State.setCore s k c)) d f i j p = rb (s) d f i j p := (rfl)
@[simp] theorem setCore_fn (s : State) (k : Nat) (c : Core) (f' : Nat) :
    State.fn ((State.setCore s k c)) f' = State.fn (s) f' := (rfl)
@[simp] theorem setCore_sq (s : State) (k : Nat) (c : Core) (f' k' : Nat) :
    State.sq ((State.setCore s k c)) f' k' = State.sq (s) f' k' := (rfl)
@[simp] theorem setCore_cq (s : State) (k : Nat) (c : Core) (f' k' : Nat) :
    State.cq ((State.setCore s k c)) f' k' = State.cq (s) f' k' := (rfl)
@[simp] theorem setCore_ctx (s : State) (k : Nat) (c : Core) (k' : Nat) :
    State.ctx ((State.setCore s k c)) k' = State.ctx (s) k' := (rfl)
@[simp] theorem setCore_src (s : State) (k : Nat) (c : Core) (k' : Nat) :
    State.src ((State.setCore s k c)) k' = State.src (s) k' := (rfl)
@[simp] theorem setCore_stack (s : State) (k : Nat) (c : Core) (k' : Nat) :
    State.stack ((State.setCore s k c)) k' = State.stack (s) k' := (rfl)
@[simp] theorem setCore_port (s : State) (k : Nat) (c : Core) (k' : Nat) :
    State.port ((State.setCore s k c)) k' = State.port (s) k' := (rfl)
@[simp] theorem setCore_domState (s : State) (k : Nat) (c : Core) (k' : Nat) :
    domState ((State.setCore s k c)) k' = domState (s) k' := (rfl)
@[simp] theorem setCore_domOn (s : State) (k : Nat) (c : Core) (k' : Nat) :
    domOn ((State.setCore s k c)) k' = domOn (s) k' := (rfl)

/-! `State.setFn` -/

@[simp] theorem setFn_regs (s : State) (f : Nat) (x : Fn) :
    (State.setFn s f x).regs = s.regs := (rfl)
@[simp] theorem setFn_sched (s : State) (f : Nat) (x : Fn) :
    (State.setFn s f x).sched = s.sched := (rfl)
@[simp] theorem setFn_sqs (s : State) (f : Nat) (x : Fn) :
    (State.setFn s f x).sqs = s.sqs := (rfl)
@[simp] theorem setFn_cqs (s : State) (f : Nat) (x : Fn) :
    (State.setFn s f x).cqs = s.cqs := (rfl)
@[simp] theorem setFn_prog (s : State) (f : Nat) (x : Fn) :
    (State.setFn s f x).prog = s.prog := (rfl)
@[simp] theorem setFn_recov (s : State) (f : Nat) (x : Fn) :
    (State.setFn s f x).recov = s.recov := (rfl)
@[simp] theorem setFn_cores (s : State) (f : Nat) (x : Fn) :
    (State.setFn s f x).cores = s.cores := (rfl)
@[simp] theorem setFn_mem (s : State) (f : Nat) (x : Fn) :
    (State.setFn s f x).mem = s.mem := (rfl)
@[simp] theorem setFn_mail (s : State) (f : Nat) (x : Fn) :
    (State.setFn s f x).mail = s.mail := (rfl)
@[simp] theorem setFn_intc (s : State) (f : Nat) (x : Fn) :
    (State.setFn s f x).intc = s.intc := (rfl)
@[simp] theorem setFn_lant (s : State) (f : Nat) (x : Fn) :
    (State.setFn s f x).lant = s.lant := (rfl)
@[simp] theorem setFn_meter (s : State) (f : Nat) (x : Fn) :
    (State.setFn s f x).meter = s.meter := (rfl)
@[simp] theorem setFn_ports (s : State) (f : Nat) (x : Fn) :
    (State.setFn s f x).ports = s.ports := (rfl)
@[simp] theorem setFn_camp (s : State) (f : Nat) (x : Fn) :
    (State.setFn s f x).camp = s.camp := (rfl)
@[simp] theorem setFn_trust (s : State) (f : Nat) (x : Fn) :
    (State.setFn s f x).trust = s.trust := (rfl)
@[simp] theorem setFn_power (s : State) (f : Nat) (x : Fn) :
    (State.setFn s f x).power = s.power := (rfl)
@[simp] theorem setFn_out (s : State) (f : Nat) (x : Fn) :
    (State.setFn s f x).out = s.out := (rfl)
@[simp] theorem setFn_busData (s : State) (f : Nat) (x : Fn) :
    (State.setFn s f x).busData = s.busData := (rfl)
@[simp] theorem setFn_free (s : State) (f : Nat) (x : Fn) :
    (State.setFn s f x).free = s.free := (rfl)
@[simp] theorem setFn_pending (s : State) (f : Nat) (x : Fn) :
    (State.setFn s f x).pending = s.pending := (rfl)
@[simp] theorem setFn_rg (s : State) (f : Nat) (x : Fn) (d : RegD) (i j p : Nat) :
    rg ((State.setFn s f x)) d i j p = rg (s) d i j p := (rfl)
@[simp] theorem setFn_rf (s : State) (f : Nat) (x : Fn) (d : RegD) (f' : Nat × Nat) (i j p : Nat) :
    rf ((State.setFn s f x)) d f' i j p = rf (s) d f' i j p := (rfl)
@[simp] theorem setFn_rb (s : State) (f : Nat) (x : Fn) (d : RegD) (f' : Nat × Nat) (i j p : Nat) :
    rb ((State.setFn s f x)) d f' i j p = rb (s) d f' i j p := (rfl)
@[simp] theorem setFn_core (s : State) (f : Nat) (x : Fn) (k' : Nat) :
    State.core ((State.setFn s f x)) k' = State.core (s) k' := (rfl)
@[simp] theorem setFn_sq (s : State) (f : Nat) (x : Fn) (f' k' : Nat) :
    State.sq ((State.setFn s f x)) f' k' = State.sq (s) f' k' := (rfl)
@[simp] theorem setFn_cq (s : State) (f : Nat) (x : Fn) (f' k' : Nat) :
    State.cq ((State.setFn s f x)) f' k' = State.cq (s) f' k' := (rfl)
@[simp] theorem setFn_ctx (s : State) (f : Nat) (x : Fn) (k' : Nat) :
    State.ctx ((State.setFn s f x)) k' = State.ctx (s) k' := (rfl)
@[simp] theorem setFn_src (s : State) (f : Nat) (x : Fn) (k' : Nat) :
    State.src ((State.setFn s f x)) k' = State.src (s) k' := (rfl)
@[simp] theorem setFn_stack (s : State) (f : Nat) (x : Fn) (k' : Nat) :
    State.stack ((State.setFn s f x)) k' = State.stack (s) k' := (rfl)
@[simp] theorem setFn_port (s : State) (f : Nat) (x : Fn) (k' : Nat) :
    State.port ((State.setFn s f x)) k' = State.port (s) k' := (rfl)
@[simp] theorem setFn_domState (s : State) (f : Nat) (x : Fn) (k' : Nat) :
    domState ((State.setFn s f x)) k' = domState (s) k' := (rfl)
@[simp] theorem setFn_domOn (s : State) (f : Nat) (x : Fn) (k' : Nat) :
    domOn ((State.setFn s f x)) k' = domOn (s) k' := (rfl)

/-! `State.setSq` -/

@[simp] theorem setSq_regs (s : State) (fn : Nat) (slot : Nat) (q : SQ) :
    (State.setSq s fn slot q).regs = s.regs := (rfl)
@[simp] theorem setSq_sched (s : State) (fn : Nat) (slot : Nat) (q : SQ) :
    (State.setSq s fn slot q).sched = s.sched := (rfl)
@[simp] theorem setSq_fns (s : State) (fn : Nat) (slot : Nat) (q : SQ) :
    (State.setSq s fn slot q).fns = s.fns := (rfl)
@[simp] theorem setSq_cqs (s : State) (fn : Nat) (slot : Nat) (q : SQ) :
    (State.setSq s fn slot q).cqs = s.cqs := (rfl)
@[simp] theorem setSq_prog (s : State) (fn : Nat) (slot : Nat) (q : SQ) :
    (State.setSq s fn slot q).prog = s.prog := (rfl)
@[simp] theorem setSq_recov (s : State) (fn : Nat) (slot : Nat) (q : SQ) :
    (State.setSq s fn slot q).recov = s.recov := (rfl)
@[simp] theorem setSq_cores (s : State) (fn : Nat) (slot : Nat) (q : SQ) :
    (State.setSq s fn slot q).cores = s.cores := (rfl)
@[simp] theorem setSq_mem (s : State) (fn : Nat) (slot : Nat) (q : SQ) :
    (State.setSq s fn slot q).mem = s.mem := (rfl)
@[simp] theorem setSq_mail (s : State) (fn : Nat) (slot : Nat) (q : SQ) :
    (State.setSq s fn slot q).mail = s.mail := (rfl)
@[simp] theorem setSq_intc (s : State) (fn : Nat) (slot : Nat) (q : SQ) :
    (State.setSq s fn slot q).intc = s.intc := (rfl)
@[simp] theorem setSq_lant (s : State) (fn : Nat) (slot : Nat) (q : SQ) :
    (State.setSq s fn slot q).lant = s.lant := (rfl)
@[simp] theorem setSq_meter (s : State) (fn : Nat) (slot : Nat) (q : SQ) :
    (State.setSq s fn slot q).meter = s.meter := (rfl)
@[simp] theorem setSq_ports (s : State) (fn : Nat) (slot : Nat) (q : SQ) :
    (State.setSq s fn slot q).ports = s.ports := (rfl)
@[simp] theorem setSq_camp (s : State) (fn : Nat) (slot : Nat) (q : SQ) :
    (State.setSq s fn slot q).camp = s.camp := (rfl)
@[simp] theorem setSq_trust (s : State) (fn : Nat) (slot : Nat) (q : SQ) :
    (State.setSq s fn slot q).trust = s.trust := (rfl)
@[simp] theorem setSq_power (s : State) (fn : Nat) (slot : Nat) (q : SQ) :
    (State.setSq s fn slot q).power = s.power := (rfl)
@[simp] theorem setSq_out (s : State) (fn : Nat) (slot : Nat) (q : SQ) :
    (State.setSq s fn slot q).out = s.out := (rfl)
@[simp] theorem setSq_busData (s : State) (fn : Nat) (slot : Nat) (q : SQ) :
    (State.setSq s fn slot q).busData = s.busData := (rfl)
@[simp] theorem setSq_free (s : State) (fn : Nat) (slot : Nat) (q : SQ) :
    (State.setSq s fn slot q).free = s.free := (rfl)
@[simp] theorem setSq_pending (s : State) (fn : Nat) (slot : Nat) (q : SQ) :
    (State.setSq s fn slot q).pending = s.pending := (rfl)
@[simp] theorem setSq_rg (s : State) (fn : Nat) (slot : Nat) (q : SQ) (d : RegD) (i j p : Nat) :
    rg ((State.setSq s fn slot q)) d i j p = rg (s) d i j p := (rfl)
@[simp] theorem setSq_rf (s : State) (fn : Nat) (slot : Nat) (q : SQ) (d : RegD) (f : Nat × Nat) (i j p : Nat) :
    rf ((State.setSq s fn slot q)) d f i j p = rf (s) d f i j p := (rfl)
@[simp] theorem setSq_rb (s : State) (fn : Nat) (slot : Nat) (q : SQ) (d : RegD) (f : Nat × Nat) (i j p : Nat) :
    rb ((State.setSq s fn slot q)) d f i j p = rb (s) d f i j p := (rfl)
@[simp] theorem setSq_core (s : State) (fn : Nat) (slot : Nat) (q : SQ) (k' : Nat) :
    State.core ((State.setSq s fn slot q)) k' = State.core (s) k' := (rfl)
@[simp] theorem setSq_fn (s : State) (fn : Nat) (slot : Nat) (q : SQ) (f' : Nat) :
    State.fn ((State.setSq s fn slot q)) f' = State.fn (s) f' := (rfl)
@[simp] theorem setSq_cq (s : State) (fn : Nat) (slot : Nat) (q : SQ) (f' k' : Nat) :
    State.cq ((State.setSq s fn slot q)) f' k' = State.cq (s) f' k' := (rfl)
@[simp] theorem setSq_ctx (s : State) (fn : Nat) (slot : Nat) (q : SQ) (k' : Nat) :
    State.ctx ((State.setSq s fn slot q)) k' = State.ctx (s) k' := (rfl)
@[simp] theorem setSq_src (s : State) (fn : Nat) (slot : Nat) (q : SQ) (k' : Nat) :
    State.src ((State.setSq s fn slot q)) k' = State.src (s) k' := (rfl)
@[simp] theorem setSq_stack (s : State) (fn : Nat) (slot : Nat) (q : SQ) (k' : Nat) :
    State.stack ((State.setSq s fn slot q)) k' = State.stack (s) k' := (rfl)
@[simp] theorem setSq_port (s : State) (fn : Nat) (slot : Nat) (q : SQ) (k' : Nat) :
    State.port ((State.setSq s fn slot q)) k' = State.port (s) k' := (rfl)
@[simp] theorem setSq_domState (s : State) (fn : Nat) (slot : Nat) (q : SQ) (k' : Nat) :
    domState ((State.setSq s fn slot q)) k' = domState (s) k' := (rfl)
@[simp] theorem setSq_domOn (s : State) (fn : Nat) (slot : Nat) (q : SQ) (k' : Nat) :
    domOn ((State.setSq s fn slot q)) k' = domOn (s) k' := (rfl)

/-! `State.setCq` -/

@[simp] theorem setCq_regs (s : State) (fn : Nat) (slot : Nat) (q : CQ) :
    (State.setCq s fn slot q).regs = s.regs := (rfl)
@[simp] theorem setCq_sched (s : State) (fn : Nat) (slot : Nat) (q : CQ) :
    (State.setCq s fn slot q).sched = s.sched := (rfl)
@[simp] theorem setCq_fns (s : State) (fn : Nat) (slot : Nat) (q : CQ) :
    (State.setCq s fn slot q).fns = s.fns := (rfl)
@[simp] theorem setCq_sqs (s : State) (fn : Nat) (slot : Nat) (q : CQ) :
    (State.setCq s fn slot q).sqs = s.sqs := (rfl)
@[simp] theorem setCq_prog (s : State) (fn : Nat) (slot : Nat) (q : CQ) :
    (State.setCq s fn slot q).prog = s.prog := (rfl)
@[simp] theorem setCq_recov (s : State) (fn : Nat) (slot : Nat) (q : CQ) :
    (State.setCq s fn slot q).recov = s.recov := (rfl)
@[simp] theorem setCq_cores (s : State) (fn : Nat) (slot : Nat) (q : CQ) :
    (State.setCq s fn slot q).cores = s.cores := (rfl)
@[simp] theorem setCq_mem (s : State) (fn : Nat) (slot : Nat) (q : CQ) :
    (State.setCq s fn slot q).mem = s.mem := (rfl)
@[simp] theorem setCq_mail (s : State) (fn : Nat) (slot : Nat) (q : CQ) :
    (State.setCq s fn slot q).mail = s.mail := (rfl)
@[simp] theorem setCq_intc (s : State) (fn : Nat) (slot : Nat) (q : CQ) :
    (State.setCq s fn slot q).intc = s.intc := (rfl)
@[simp] theorem setCq_lant (s : State) (fn : Nat) (slot : Nat) (q : CQ) :
    (State.setCq s fn slot q).lant = s.lant := (rfl)
@[simp] theorem setCq_meter (s : State) (fn : Nat) (slot : Nat) (q : CQ) :
    (State.setCq s fn slot q).meter = s.meter := (rfl)
@[simp] theorem setCq_ports (s : State) (fn : Nat) (slot : Nat) (q : CQ) :
    (State.setCq s fn slot q).ports = s.ports := (rfl)
@[simp] theorem setCq_camp (s : State) (fn : Nat) (slot : Nat) (q : CQ) :
    (State.setCq s fn slot q).camp = s.camp := (rfl)
@[simp] theorem setCq_trust (s : State) (fn : Nat) (slot : Nat) (q : CQ) :
    (State.setCq s fn slot q).trust = s.trust := (rfl)
@[simp] theorem setCq_power (s : State) (fn : Nat) (slot : Nat) (q : CQ) :
    (State.setCq s fn slot q).power = s.power := (rfl)
@[simp] theorem setCq_out (s : State) (fn : Nat) (slot : Nat) (q : CQ) :
    (State.setCq s fn slot q).out = s.out := (rfl)
@[simp] theorem setCq_busData (s : State) (fn : Nat) (slot : Nat) (q : CQ) :
    (State.setCq s fn slot q).busData = s.busData := (rfl)
@[simp] theorem setCq_free (s : State) (fn : Nat) (slot : Nat) (q : CQ) :
    (State.setCq s fn slot q).free = s.free := (rfl)
@[simp] theorem setCq_pending (s : State) (fn : Nat) (slot : Nat) (q : CQ) :
    (State.setCq s fn slot q).pending = s.pending := (rfl)
@[simp] theorem setCq_rg (s : State) (fn : Nat) (slot : Nat) (q : CQ) (d : RegD) (i j p : Nat) :
    rg ((State.setCq s fn slot q)) d i j p = rg (s) d i j p := (rfl)
@[simp] theorem setCq_rf (s : State) (fn : Nat) (slot : Nat) (q : CQ) (d : RegD) (f : Nat × Nat) (i j p : Nat) :
    rf ((State.setCq s fn slot q)) d f i j p = rf (s) d f i j p := (rfl)
@[simp] theorem setCq_rb (s : State) (fn : Nat) (slot : Nat) (q : CQ) (d : RegD) (f : Nat × Nat) (i j p : Nat) :
    rb ((State.setCq s fn slot q)) d f i j p = rb (s) d f i j p := (rfl)
@[simp] theorem setCq_core (s : State) (fn : Nat) (slot : Nat) (q : CQ) (k' : Nat) :
    State.core ((State.setCq s fn slot q)) k' = State.core (s) k' := (rfl)
@[simp] theorem setCq_fn (s : State) (fn : Nat) (slot : Nat) (q : CQ) (f' : Nat) :
    State.fn ((State.setCq s fn slot q)) f' = State.fn (s) f' := (rfl)
@[simp] theorem setCq_sq (s : State) (fn : Nat) (slot : Nat) (q : CQ) (f' k' : Nat) :
    State.sq ((State.setCq s fn slot q)) f' k' = State.sq (s) f' k' := (rfl)
@[simp] theorem setCq_ctx (s : State) (fn : Nat) (slot : Nat) (q : CQ) (k' : Nat) :
    State.ctx ((State.setCq s fn slot q)) k' = State.ctx (s) k' := (rfl)
@[simp] theorem setCq_src (s : State) (fn : Nat) (slot : Nat) (q : CQ) (k' : Nat) :
    State.src ((State.setCq s fn slot q)) k' = State.src (s) k' := (rfl)
@[simp] theorem setCq_stack (s : State) (fn : Nat) (slot : Nat) (q : CQ) (k' : Nat) :
    State.stack ((State.setCq s fn slot q)) k' = State.stack (s) k' := (rfl)
@[simp] theorem setCq_port (s : State) (fn : Nat) (slot : Nat) (q : CQ) (k' : Nat) :
    State.port ((State.setCq s fn slot q)) k' = State.port (s) k' := (rfl)
@[simp] theorem setCq_domState (s : State) (fn : Nat) (slot : Nat) (q : CQ) (k' : Nat) :
    domState ((State.setCq s fn slot q)) k' = domState (s) k' := (rfl)
@[simp] theorem setCq_domOn (s : State) (fn : Nat) (slot : Nat) (q : CQ) (k' : Nat) :
    domOn ((State.setCq s fn slot q)) k' = domOn (s) k' := (rfl)

/-! `State.setCtx` -/

@[simp] theorem setCtx_regs (s : State) (c : Nat) (x : Ctx) :
    (State.setCtx s c x).regs = s.regs := (rfl)
@[simp] theorem setCtx_sched (s : State) (c : Nat) (x : Ctx) :
    (State.setCtx s c x).sched = s.sched := (rfl)
@[simp] theorem setCtx_fns (s : State) (c : Nat) (x : Ctx) :
    (State.setCtx s c x).fns = s.fns := (rfl)
@[simp] theorem setCtx_sqs (s : State) (c : Nat) (x : Ctx) :
    (State.setCtx s c x).sqs = s.sqs := (rfl)
@[simp] theorem setCtx_cqs (s : State) (c : Nat) (x : Ctx) :
    (State.setCtx s c x).cqs = s.cqs := (rfl)
@[simp] theorem setCtx_recov (s : State) (c : Nat) (x : Ctx) :
    (State.setCtx s c x).recov = s.recov := (rfl)
@[simp] theorem setCtx_cores (s : State) (c : Nat) (x : Ctx) :
    (State.setCtx s c x).cores = s.cores := (rfl)
@[simp] theorem setCtx_mem (s : State) (c : Nat) (x : Ctx) :
    (State.setCtx s c x).mem = s.mem := (rfl)
@[simp] theorem setCtx_mail (s : State) (c : Nat) (x : Ctx) :
    (State.setCtx s c x).mail = s.mail := (rfl)
@[simp] theorem setCtx_intc (s : State) (c : Nat) (x : Ctx) :
    (State.setCtx s c x).intc = s.intc := (rfl)
@[simp] theorem setCtx_lant (s : State) (c : Nat) (x : Ctx) :
    (State.setCtx s c x).lant = s.lant := (rfl)
@[simp] theorem setCtx_meter (s : State) (c : Nat) (x : Ctx) :
    (State.setCtx s c x).meter = s.meter := (rfl)
@[simp] theorem setCtx_ports (s : State) (c : Nat) (x : Ctx) :
    (State.setCtx s c x).ports = s.ports := (rfl)
@[simp] theorem setCtx_camp (s : State) (c : Nat) (x : Ctx) :
    (State.setCtx s c x).camp = s.camp := (rfl)
@[simp] theorem setCtx_trust (s : State) (c : Nat) (x : Ctx) :
    (State.setCtx s c x).trust = s.trust := (rfl)
@[simp] theorem setCtx_power (s : State) (c : Nat) (x : Ctx) :
    (State.setCtx s c x).power = s.power := (rfl)
@[simp] theorem setCtx_out (s : State) (c : Nat) (x : Ctx) :
    (State.setCtx s c x).out = s.out := (rfl)
@[simp] theorem setCtx_busData (s : State) (c : Nat) (x : Ctx) :
    (State.setCtx s c x).busData = s.busData := (rfl)
@[simp] theorem setCtx_free (s : State) (c : Nat) (x : Ctx) :
    (State.setCtx s c x).free = s.free := (rfl)
@[simp] theorem setCtx_pending (s : State) (c : Nat) (x : Ctx) :
    (State.setCtx s c x).pending = s.pending := (rfl)
@[simp] theorem setCtx_rg (s : State) (c : Nat) (x : Ctx) (d : RegD) (i j p : Nat) :
    rg ((State.setCtx s c x)) d i j p = rg (s) d i j p := (rfl)
@[simp] theorem setCtx_rf (s : State) (c : Nat) (x : Ctx) (d : RegD) (f : Nat × Nat) (i j p : Nat) :
    rf ((State.setCtx s c x)) d f i j p = rf (s) d f i j p := (rfl)
@[simp] theorem setCtx_rb (s : State) (c : Nat) (x : Ctx) (d : RegD) (f : Nat × Nat) (i j p : Nat) :
    rb ((State.setCtx s c x)) d f i j p = rb (s) d f i j p := (rfl)
@[simp] theorem setCtx_core (s : State) (c : Nat) (x : Ctx) (k' : Nat) :
    State.core ((State.setCtx s c x)) k' = State.core (s) k' := (rfl)
@[simp] theorem setCtx_fn (s : State) (c : Nat) (x : Ctx) (f' : Nat) :
    State.fn ((State.setCtx s c x)) f' = State.fn (s) f' := (rfl)
@[simp] theorem setCtx_sq (s : State) (c : Nat) (x : Ctx) (f' k' : Nat) :
    State.sq ((State.setCtx s c x)) f' k' = State.sq (s) f' k' := (rfl)
@[simp] theorem setCtx_cq (s : State) (c : Nat) (x : Ctx) (f' k' : Nat) :
    State.cq ((State.setCtx s c x)) f' k' = State.cq (s) f' k' := (rfl)
@[simp] theorem setCtx_src (s : State) (c : Nat) (x : Ctx) (k' : Nat) :
    State.src ((State.setCtx s c x)) k' = State.src (s) k' := (rfl)
@[simp] theorem setCtx_stack (s : State) (c : Nat) (x : Ctx) (k' : Nat) :
    State.stack ((State.setCtx s c x)) k' = State.stack (s) k' := (rfl)
@[simp] theorem setCtx_port (s : State) (c : Nat) (x : Ctx) (k' : Nat) :
    State.port ((State.setCtx s c x)) k' = State.port (s) k' := (rfl)
@[simp] theorem setCtx_domState (s : State) (c : Nat) (x : Ctx) (k' : Nat) :
    domState ((State.setCtx s c x)) k' = domState (s) k' := (rfl)
@[simp] theorem setCtx_domOn (s : State) (c : Nat) (x : Ctx) (k' : Nat) :
    domOn ((State.setCtx s c x)) k' = domOn (s) k' := (rfl)

/-! `State.setSrc` -/

@[simp] theorem setSrc_regs (s : State) (n : Nat) (x : Src) :
    (State.setSrc s n x).regs = s.regs := (rfl)
@[simp] theorem setSrc_sched (s : State) (n : Nat) (x : Src) :
    (State.setSrc s n x).sched = s.sched := (rfl)
@[simp] theorem setSrc_fns (s : State) (n : Nat) (x : Src) :
    (State.setSrc s n x).fns = s.fns := (rfl)
@[simp] theorem setSrc_sqs (s : State) (n : Nat) (x : Src) :
    (State.setSrc s n x).sqs = s.sqs := (rfl)
@[simp] theorem setSrc_cqs (s : State) (n : Nat) (x : Src) :
    (State.setSrc s n x).cqs = s.cqs := (rfl)
@[simp] theorem setSrc_prog (s : State) (n : Nat) (x : Src) :
    (State.setSrc s n x).prog = s.prog := (rfl)
@[simp] theorem setSrc_recov (s : State) (n : Nat) (x : Src) :
    (State.setSrc s n x).recov = s.recov := (rfl)
@[simp] theorem setSrc_cores (s : State) (n : Nat) (x : Src) :
    (State.setSrc s n x).cores = s.cores := (rfl)
@[simp] theorem setSrc_mem (s : State) (n : Nat) (x : Src) :
    (State.setSrc s n x).mem = s.mem := (rfl)
@[simp] theorem setSrc_mail (s : State) (n : Nat) (x : Src) :
    (State.setSrc s n x).mail = s.mail := (rfl)
@[simp] theorem setSrc_lant (s : State) (n : Nat) (x : Src) :
    (State.setSrc s n x).lant = s.lant := (rfl)
@[simp] theorem setSrc_meter (s : State) (n : Nat) (x : Src) :
    (State.setSrc s n x).meter = s.meter := (rfl)
@[simp] theorem setSrc_ports (s : State) (n : Nat) (x : Src) :
    (State.setSrc s n x).ports = s.ports := (rfl)
@[simp] theorem setSrc_camp (s : State) (n : Nat) (x : Src) :
    (State.setSrc s n x).camp = s.camp := (rfl)
@[simp] theorem setSrc_trust (s : State) (n : Nat) (x : Src) :
    (State.setSrc s n x).trust = s.trust := (rfl)
@[simp] theorem setSrc_power (s : State) (n : Nat) (x : Src) :
    (State.setSrc s n x).power = s.power := (rfl)
@[simp] theorem setSrc_out (s : State) (n : Nat) (x : Src) :
    (State.setSrc s n x).out = s.out := (rfl)
@[simp] theorem setSrc_busData (s : State) (n : Nat) (x : Src) :
    (State.setSrc s n x).busData = s.busData := (rfl)
@[simp] theorem setSrc_free (s : State) (n : Nat) (x : Src) :
    (State.setSrc s n x).free = s.free := (rfl)
@[simp] theorem setSrc_pending (s : State) (n : Nat) (x : Src) :
    (State.setSrc s n x).pending = s.pending := (rfl)
@[simp] theorem setSrc_rg (s : State) (n : Nat) (x : Src) (d : RegD) (i j p : Nat) :
    rg ((State.setSrc s n x)) d i j p = rg (s) d i j p := (rfl)
@[simp] theorem setSrc_rf (s : State) (n : Nat) (x : Src) (d : RegD) (f : Nat × Nat) (i j p : Nat) :
    rf ((State.setSrc s n x)) d f i j p = rf (s) d f i j p := (rfl)
@[simp] theorem setSrc_rb (s : State) (n : Nat) (x : Src) (d : RegD) (f : Nat × Nat) (i j p : Nat) :
    rb ((State.setSrc s n x)) d f i j p = rb (s) d f i j p := (rfl)
@[simp] theorem setSrc_core (s : State) (n : Nat) (x : Src) (k' : Nat) :
    State.core ((State.setSrc s n x)) k' = State.core (s) k' := (rfl)
@[simp] theorem setSrc_fn (s : State) (n : Nat) (x : Src) (f' : Nat) :
    State.fn ((State.setSrc s n x)) f' = State.fn (s) f' := (rfl)
@[simp] theorem setSrc_sq (s : State) (n : Nat) (x : Src) (f' k' : Nat) :
    State.sq ((State.setSrc s n x)) f' k' = State.sq (s) f' k' := (rfl)
@[simp] theorem setSrc_cq (s : State) (n : Nat) (x : Src) (f' k' : Nat) :
    State.cq ((State.setSrc s n x)) f' k' = State.cq (s) f' k' := (rfl)
@[simp] theorem setSrc_ctx (s : State) (n : Nat) (x : Src) (k' : Nat) :
    State.ctx ((State.setSrc s n x)) k' = State.ctx (s) k' := (rfl)
@[simp] theorem setSrc_port (s : State) (n : Nat) (x : Src) (k' : Nat) :
    State.port ((State.setSrc s n x)) k' = State.port (s) k' := (rfl)
@[simp] theorem setSrc_domState (s : State) (n : Nat) (x : Src) (k' : Nat) :
    domState ((State.setSrc s n x)) k' = domState (s) k' := (rfl)
@[simp] theorem setSrc_domOn (s : State) (n : Nat) (x : Src) (k' : Nat) :
    domOn ((State.setSrc s n x)) k' = domOn (s) k' := (rfl)

/-! `State.setStack` -/

@[simp] theorem setStack_regs (s : State) (k : Nat) (l : List (Nat × Nat × Bool)) :
    (State.setStack s k l).regs = s.regs := (rfl)
@[simp] theorem setStack_sched (s : State) (k : Nat) (l : List (Nat × Nat × Bool)) :
    (State.setStack s k l).sched = s.sched := (rfl)
@[simp] theorem setStack_fns (s : State) (k : Nat) (l : List (Nat × Nat × Bool)) :
    (State.setStack s k l).fns = s.fns := (rfl)
@[simp] theorem setStack_sqs (s : State) (k : Nat) (l : List (Nat × Nat × Bool)) :
    (State.setStack s k l).sqs = s.sqs := (rfl)
@[simp] theorem setStack_cqs (s : State) (k : Nat) (l : List (Nat × Nat × Bool)) :
    (State.setStack s k l).cqs = s.cqs := (rfl)
@[simp] theorem setStack_prog (s : State) (k : Nat) (l : List (Nat × Nat × Bool)) :
    (State.setStack s k l).prog = s.prog := (rfl)
@[simp] theorem setStack_recov (s : State) (k : Nat) (l : List (Nat × Nat × Bool)) :
    (State.setStack s k l).recov = s.recov := (rfl)
@[simp] theorem setStack_cores (s : State) (k : Nat) (l : List (Nat × Nat × Bool)) :
    (State.setStack s k l).cores = s.cores := (rfl)
@[simp] theorem setStack_mem (s : State) (k : Nat) (l : List (Nat × Nat × Bool)) :
    (State.setStack s k l).mem = s.mem := (rfl)
@[simp] theorem setStack_mail (s : State) (k : Nat) (l : List (Nat × Nat × Bool)) :
    (State.setStack s k l).mail = s.mail := (rfl)
@[simp] theorem setStack_lant (s : State) (k : Nat) (l : List (Nat × Nat × Bool)) :
    (State.setStack s k l).lant = s.lant := (rfl)
@[simp] theorem setStack_meter (s : State) (k : Nat) (l : List (Nat × Nat × Bool)) :
    (State.setStack s k l).meter = s.meter := (rfl)
@[simp] theorem setStack_ports (s : State) (k : Nat) (l : List (Nat × Nat × Bool)) :
    (State.setStack s k l).ports = s.ports := (rfl)
@[simp] theorem setStack_camp (s : State) (k : Nat) (l : List (Nat × Nat × Bool)) :
    (State.setStack s k l).camp = s.camp := (rfl)
@[simp] theorem setStack_trust (s : State) (k : Nat) (l : List (Nat × Nat × Bool)) :
    (State.setStack s k l).trust = s.trust := (rfl)
@[simp] theorem setStack_power (s : State) (k : Nat) (l : List (Nat × Nat × Bool)) :
    (State.setStack s k l).power = s.power := (rfl)
@[simp] theorem setStack_out (s : State) (k : Nat) (l : List (Nat × Nat × Bool)) :
    (State.setStack s k l).out = s.out := (rfl)
@[simp] theorem setStack_busData (s : State) (k : Nat) (l : List (Nat × Nat × Bool)) :
    (State.setStack s k l).busData = s.busData := (rfl)
@[simp] theorem setStack_free (s : State) (k : Nat) (l : List (Nat × Nat × Bool)) :
    (State.setStack s k l).free = s.free := (rfl)
@[simp] theorem setStack_pending (s : State) (k : Nat) (l : List (Nat × Nat × Bool)) :
    (State.setStack s k l).pending = s.pending := (rfl)
@[simp] theorem setStack_rg (s : State) (k : Nat) (l : List (Nat × Nat × Bool)) (d : RegD) (i j p : Nat) :
    rg ((State.setStack s k l)) d i j p = rg (s) d i j p := (rfl)
@[simp] theorem setStack_rf (s : State) (k : Nat) (l : List (Nat × Nat × Bool)) (d : RegD) (f : Nat × Nat) (i j p : Nat) :
    rf ((State.setStack s k l)) d f i j p = rf (s) d f i j p := (rfl)
@[simp] theorem setStack_rb (s : State) (k : Nat) (l : List (Nat × Nat × Bool)) (d : RegD) (f : Nat × Nat) (i j p : Nat) :
    rb ((State.setStack s k l)) d f i j p = rb (s) d f i j p := (rfl)
@[simp] theorem setStack_core (s : State) (k : Nat) (l : List (Nat × Nat × Bool)) (k' : Nat) :
    State.core ((State.setStack s k l)) k' = State.core (s) k' := (rfl)
@[simp] theorem setStack_fn (s : State) (k : Nat) (l : List (Nat × Nat × Bool)) (f' : Nat) :
    State.fn ((State.setStack s k l)) f' = State.fn (s) f' := (rfl)
@[simp] theorem setStack_sq (s : State) (k : Nat) (l : List (Nat × Nat × Bool)) (f' k' : Nat) :
    State.sq ((State.setStack s k l)) f' k' = State.sq (s) f' k' := (rfl)
@[simp] theorem setStack_cq (s : State) (k : Nat) (l : List (Nat × Nat × Bool)) (f' k' : Nat) :
    State.cq ((State.setStack s k l)) f' k' = State.cq (s) f' k' := (rfl)
@[simp] theorem setStack_ctx (s : State) (k : Nat) (l : List (Nat × Nat × Bool)) (k' : Nat) :
    State.ctx ((State.setStack s k l)) k' = State.ctx (s) k' := (rfl)
@[simp] theorem setStack_port (s : State) (k : Nat) (l : List (Nat × Nat × Bool)) (k' : Nat) :
    State.port ((State.setStack s k l)) k' = State.port (s) k' := (rfl)
@[simp] theorem setStack_domState (s : State) (k : Nat) (l : List (Nat × Nat × Bool)) (k' : Nat) :
    domState ((State.setStack s k l)) k' = domState (s) k' := (rfl)
@[simp] theorem setStack_domOn (s : State) (k : Nat) (l : List (Nat × Nat × Bool)) (k' : Nat) :
    domOn ((State.setStack s k l)) k' = domOn (s) k' := (rfl)

/-! `State.setPort` -/

@[simp] theorem setPort_regs (s : State) (p : Nat) (x : Port) :
    (State.setPort s p x).regs = s.regs := (rfl)
@[simp] theorem setPort_sched (s : State) (p : Nat) (x : Port) :
    (State.setPort s p x).sched = s.sched := (rfl)
@[simp] theorem setPort_fns (s : State) (p : Nat) (x : Port) :
    (State.setPort s p x).fns = s.fns := (rfl)
@[simp] theorem setPort_sqs (s : State) (p : Nat) (x : Port) :
    (State.setPort s p x).sqs = s.sqs := (rfl)
@[simp] theorem setPort_cqs (s : State) (p : Nat) (x : Port) :
    (State.setPort s p x).cqs = s.cqs := (rfl)
@[simp] theorem setPort_prog (s : State) (p : Nat) (x : Port) :
    (State.setPort s p x).prog = s.prog := (rfl)
@[simp] theorem setPort_recov (s : State) (p : Nat) (x : Port) :
    (State.setPort s p x).recov = s.recov := (rfl)
@[simp] theorem setPort_cores (s : State) (p : Nat) (x : Port) :
    (State.setPort s p x).cores = s.cores := (rfl)
@[simp] theorem setPort_mem (s : State) (p : Nat) (x : Port) :
    (State.setPort s p x).mem = s.mem := (rfl)
@[simp] theorem setPort_mail (s : State) (p : Nat) (x : Port) :
    (State.setPort s p x).mail = s.mail := (rfl)
@[simp] theorem setPort_intc (s : State) (p : Nat) (x : Port) :
    (State.setPort s p x).intc = s.intc := (rfl)
@[simp] theorem setPort_lant (s : State) (p : Nat) (x : Port) :
    (State.setPort s p x).lant = s.lant := (rfl)
@[simp] theorem setPort_meter (s : State) (p : Nat) (x : Port) :
    (State.setPort s p x).meter = s.meter := (rfl)
@[simp] theorem setPort_camp (s : State) (p : Nat) (x : Port) :
    (State.setPort s p x).camp = s.camp := (rfl)
@[simp] theorem setPort_trust (s : State) (p : Nat) (x : Port) :
    (State.setPort s p x).trust = s.trust := (rfl)
@[simp] theorem setPort_power (s : State) (p : Nat) (x : Port) :
    (State.setPort s p x).power = s.power := (rfl)
@[simp] theorem setPort_out (s : State) (p : Nat) (x : Port) :
    (State.setPort s p x).out = s.out := (rfl)
@[simp] theorem setPort_busData (s : State) (p : Nat) (x : Port) :
    (State.setPort s p x).busData = s.busData := (rfl)
@[simp] theorem setPort_free (s : State) (p : Nat) (x : Port) :
    (State.setPort s p x).free = s.free := (rfl)
@[simp] theorem setPort_pending (s : State) (p : Nat) (x : Port) :
    (State.setPort s p x).pending = s.pending := (rfl)
@[simp] theorem setPort_rg (s : State) (p : Nat) (x : Port) (d : RegD) (i j p' : Nat) :
    rg ((State.setPort s p x)) d i j p' = rg (s) d i j p' := (rfl)
@[simp] theorem setPort_rf (s : State) (p : Nat) (x : Port) (d : RegD) (f : Nat × Nat) (i j p' : Nat) :
    rf ((State.setPort s p x)) d f i j p' = rf (s) d f i j p' := (rfl)
@[simp] theorem setPort_rb (s : State) (p : Nat) (x : Port) (d : RegD) (f : Nat × Nat) (i j p' : Nat) :
    rb ((State.setPort s p x)) d f i j p' = rb (s) d f i j p' := (rfl)
@[simp] theorem setPort_core (s : State) (p : Nat) (x : Port) (k' : Nat) :
    State.core ((State.setPort s p x)) k' = State.core (s) k' := (rfl)
@[simp] theorem setPort_fn (s : State) (p : Nat) (x : Port) (f' : Nat) :
    State.fn ((State.setPort s p x)) f' = State.fn (s) f' := (rfl)
@[simp] theorem setPort_sq (s : State) (p : Nat) (x : Port) (f' k' : Nat) :
    State.sq ((State.setPort s p x)) f' k' = State.sq (s) f' k' := (rfl)
@[simp] theorem setPort_cq (s : State) (p : Nat) (x : Port) (f' k' : Nat) :
    State.cq ((State.setPort s p x)) f' k' = State.cq (s) f' k' := (rfl)
@[simp] theorem setPort_ctx (s : State) (p : Nat) (x : Port) (k' : Nat) :
    State.ctx ((State.setPort s p x)) k' = State.ctx (s) k' := (rfl)
@[simp] theorem setPort_src (s : State) (p : Nat) (x : Port) (k' : Nat) :
    State.src ((State.setPort s p x)) k' = State.src (s) k' := (rfl)
@[simp] theorem setPort_stack (s : State) (p : Nat) (x : Port) (k' : Nat) :
    State.stack ((State.setPort s p x)) k' = State.stack (s) k' := (rfl)
@[simp] theorem setPort_domState (s : State) (p : Nat) (x : Port) (k' : Nat) :
    domState ((State.setPort s p x)) k' = domState (s) k' := (rfl)
@[simp] theorem setPort_domOn (s : State) (p : Nat) (x : Port) (k' : Nat) :
    domOn ((State.setPort s p x)) k' = domOn (s) k' := (rfl)

/-! `wr` -/

@[simp] theorem wr_sched (s : State) (d : RegD) (v : Nat) (i : Nat) (j : Nat) (p : Nat) :
    (wr s d v i j p).sched = s.sched := (rfl)
@[simp] theorem wr_fns (s : State) (d : RegD) (v : Nat) (i : Nat) (j : Nat) (p : Nat) :
    (wr s d v i j p).fns = s.fns := (rfl)
@[simp] theorem wr_sqs (s : State) (d : RegD) (v : Nat) (i : Nat) (j : Nat) (p : Nat) :
    (wr s d v i j p).sqs = s.sqs := (rfl)
@[simp] theorem wr_cqs (s : State) (d : RegD) (v : Nat) (i : Nat) (j : Nat) (p : Nat) :
    (wr s d v i j p).cqs = s.cqs := (rfl)
@[simp] theorem wr_prog (s : State) (d : RegD) (v : Nat) (i : Nat) (j : Nat) (p : Nat) :
    (wr s d v i j p).prog = s.prog := (rfl)
@[simp] theorem wr_recov (s : State) (d : RegD) (v : Nat) (i : Nat) (j : Nat) (p : Nat) :
    (wr s d v i j p).recov = s.recov := (rfl)
@[simp] theorem wr_cores (s : State) (d : RegD) (v : Nat) (i : Nat) (j : Nat) (p : Nat) :
    (wr s d v i j p).cores = s.cores := (rfl)
@[simp] theorem wr_mem (s : State) (d : RegD) (v : Nat) (i : Nat) (j : Nat) (p : Nat) :
    (wr s d v i j p).mem = s.mem := (rfl)
@[simp] theorem wr_mail (s : State) (d : RegD) (v : Nat) (i : Nat) (j : Nat) (p : Nat) :
    (wr s d v i j p).mail = s.mail := (rfl)
@[simp] theorem wr_intc (s : State) (d : RegD) (v : Nat) (i : Nat) (j : Nat) (p : Nat) :
    (wr s d v i j p).intc = s.intc := (rfl)
@[simp] theorem wr_lant (s : State) (d : RegD) (v : Nat) (i : Nat) (j : Nat) (p : Nat) :
    (wr s d v i j p).lant = s.lant := (rfl)
@[simp] theorem wr_meter (s : State) (d : RegD) (v : Nat) (i : Nat) (j : Nat) (p : Nat) :
    (wr s d v i j p).meter = s.meter := (rfl)
@[simp] theorem wr_ports (s : State) (d : RegD) (v : Nat) (i : Nat) (j : Nat) (p : Nat) :
    (wr s d v i j p).ports = s.ports := (rfl)
@[simp] theorem wr_camp (s : State) (d : RegD) (v : Nat) (i : Nat) (j : Nat) (p : Nat) :
    (wr s d v i j p).camp = s.camp := (rfl)
@[simp] theorem wr_trust (s : State) (d : RegD) (v : Nat) (i : Nat) (j : Nat) (p : Nat) :
    (wr s d v i j p).trust = s.trust := (rfl)
@[simp] theorem wr_power (s : State) (d : RegD) (v : Nat) (i : Nat) (j : Nat) (p : Nat) :
    (wr s d v i j p).power = s.power := (rfl)
@[simp] theorem wr_out (s : State) (d : RegD) (v : Nat) (i : Nat) (j : Nat) (p : Nat) :
    (wr s d v i j p).out = s.out := (rfl)
@[simp] theorem wr_busData (s : State) (d : RegD) (v : Nat) (i : Nat) (j : Nat) (p : Nat) :
    (wr s d v i j p).busData = s.busData := (rfl)
@[simp] theorem wr_free (s : State) (d : RegD) (v : Nat) (i : Nat) (j : Nat) (p : Nat) :
    (wr s d v i j p).free = s.free := (rfl)
@[simp] theorem wr_pending (s : State) (d : RegD) (v : Nat) (i : Nat) (j : Nat) (p : Nat) :
    (wr s d v i j p).pending = s.pending := (rfl)
@[simp] theorem wr_core (s : State) (d : RegD) (v : Nat) (i : Nat) (j : Nat) (p : Nat) (k' : Nat) :
    State.core ((wr s d v i j p)) k' = State.core (s) k' := (rfl)
@[simp] theorem wr_fn (s : State) (d : RegD) (v : Nat) (i : Nat) (j : Nat) (p : Nat) (f' : Nat) :
    State.fn ((wr s d v i j p)) f' = State.fn (s) f' := (rfl)
@[simp] theorem wr_sq (s : State) (d : RegD) (v : Nat) (i : Nat) (j : Nat) (p : Nat) (f' k' : Nat) :
    State.sq ((wr s d v i j p)) f' k' = State.sq (s) f' k' := (rfl)
@[simp] theorem wr_cq (s : State) (d : RegD) (v : Nat) (i : Nat) (j : Nat) (p : Nat) (f' k' : Nat) :
    State.cq ((wr s d v i j p)) f' k' = State.cq (s) f' k' := (rfl)
@[simp] theorem wr_ctx (s : State) (d : RegD) (v : Nat) (i : Nat) (j : Nat) (p : Nat) (k' : Nat) :
    State.ctx ((wr s d v i j p)) k' = State.ctx (s) k' := (rfl)
@[simp] theorem wr_src (s : State) (d : RegD) (v : Nat) (i : Nat) (j : Nat) (p : Nat) (k' : Nat) :
    State.src ((wr s d v i j p)) k' = State.src (s) k' := (rfl)
@[simp] theorem wr_stack (s : State) (d : RegD) (v : Nat) (i : Nat) (j : Nat) (p : Nat) (k' : Nat) :
    State.stack ((wr s d v i j p)) k' = State.stack (s) k' := (rfl)
@[simp] theorem wr_port (s : State) (d : RegD) (v : Nat) (i : Nat) (j : Nat) (p : Nat) (k' : Nat) :
    State.port ((wr s d v i j p)) k' = State.port (s) k' := (rfl)
@[simp] theorem wr_domState (s : State) (d : RegD) (v : Nat) (i : Nat) (j : Nat) (p : Nat) (k' : Nat) :
    domState ((wr s d v i j p)) k' = domState (s) k' := (rfl)
@[simp] theorem wr_domOn (s : State) (d : RegD) (v : Nat) (i : Nat) (j : Nat) (p : Nat) (k' : Nat) :
    domOn ((wr s d v i j p)) k' = domOn (s) k' := (rfl)

/-! `wf` -/

@[simp] theorem wf_sched (s : State) (d : RegD) (f : Nat × Nat) (x : Nat) (i : Nat) (j : Nat) (p : Nat) :
    (wf s d f x i j p).sched = s.sched := (rfl)
@[simp] theorem wf_fns (s : State) (d : RegD) (f : Nat × Nat) (x : Nat) (i : Nat) (j : Nat) (p : Nat) :
    (wf s d f x i j p).fns = s.fns := (rfl)
@[simp] theorem wf_sqs (s : State) (d : RegD) (f : Nat × Nat) (x : Nat) (i : Nat) (j : Nat) (p : Nat) :
    (wf s d f x i j p).sqs = s.sqs := (rfl)
@[simp] theorem wf_cqs (s : State) (d : RegD) (f : Nat × Nat) (x : Nat) (i : Nat) (j : Nat) (p : Nat) :
    (wf s d f x i j p).cqs = s.cqs := (rfl)
@[simp] theorem wf_prog (s : State) (d : RegD) (f : Nat × Nat) (x : Nat) (i : Nat) (j : Nat) (p : Nat) :
    (wf s d f x i j p).prog = s.prog := (rfl)
@[simp] theorem wf_recov (s : State) (d : RegD) (f : Nat × Nat) (x : Nat) (i : Nat) (j : Nat) (p : Nat) :
    (wf s d f x i j p).recov = s.recov := (rfl)
@[simp] theorem wf_cores (s : State) (d : RegD) (f : Nat × Nat) (x : Nat) (i : Nat) (j : Nat) (p : Nat) :
    (wf s d f x i j p).cores = s.cores := (rfl)
@[simp] theorem wf_mem (s : State) (d : RegD) (f : Nat × Nat) (x : Nat) (i : Nat) (j : Nat) (p : Nat) :
    (wf s d f x i j p).mem = s.mem := (rfl)
@[simp] theorem wf_mail (s : State) (d : RegD) (f : Nat × Nat) (x : Nat) (i : Nat) (j : Nat) (p : Nat) :
    (wf s d f x i j p).mail = s.mail := (rfl)
@[simp] theorem wf_intc (s : State) (d : RegD) (f : Nat × Nat) (x : Nat) (i : Nat) (j : Nat) (p : Nat) :
    (wf s d f x i j p).intc = s.intc := (rfl)
@[simp] theorem wf_lant (s : State) (d : RegD) (f : Nat × Nat) (x : Nat) (i : Nat) (j : Nat) (p : Nat) :
    (wf s d f x i j p).lant = s.lant := (rfl)
@[simp] theorem wf_meter (s : State) (d : RegD) (f : Nat × Nat) (x : Nat) (i : Nat) (j : Nat) (p : Nat) :
    (wf s d f x i j p).meter = s.meter := (rfl)
@[simp] theorem wf_ports (s : State) (d : RegD) (f : Nat × Nat) (x : Nat) (i : Nat) (j : Nat) (p : Nat) :
    (wf s d f x i j p).ports = s.ports := (rfl)
@[simp] theorem wf_camp (s : State) (d : RegD) (f : Nat × Nat) (x : Nat) (i : Nat) (j : Nat) (p : Nat) :
    (wf s d f x i j p).camp = s.camp := (rfl)
@[simp] theorem wf_trust (s : State) (d : RegD) (f : Nat × Nat) (x : Nat) (i : Nat) (j : Nat) (p : Nat) :
    (wf s d f x i j p).trust = s.trust := (rfl)
@[simp] theorem wf_power (s : State) (d : RegD) (f : Nat × Nat) (x : Nat) (i : Nat) (j : Nat) (p : Nat) :
    (wf s d f x i j p).power = s.power := (rfl)
@[simp] theorem wf_out (s : State) (d : RegD) (f : Nat × Nat) (x : Nat) (i : Nat) (j : Nat) (p : Nat) :
    (wf s d f x i j p).out = s.out := (rfl)
@[simp] theorem wf_busData (s : State) (d : RegD) (f : Nat × Nat) (x : Nat) (i : Nat) (j : Nat) (p : Nat) :
    (wf s d f x i j p).busData = s.busData := (rfl)
@[simp] theorem wf_free (s : State) (d : RegD) (f : Nat × Nat) (x : Nat) (i : Nat) (j : Nat) (p : Nat) :
    (wf s d f x i j p).free = s.free := (rfl)
@[simp] theorem wf_pending (s : State) (d : RegD) (f : Nat × Nat) (x : Nat) (i : Nat) (j : Nat) (p : Nat) :
    (wf s d f x i j p).pending = s.pending := (rfl)
@[simp] theorem wf_core (s : State) (d : RegD) (f : Nat × Nat) (x : Nat) (i : Nat) (j : Nat) (p : Nat) (k' : Nat) :
    State.core ((wf s d f x i j p)) k' = State.core (s) k' := (rfl)
@[simp] theorem wf_fn (s : State) (d : RegD) (f : Nat × Nat) (x : Nat) (i : Nat) (j : Nat) (p : Nat) (f' : Nat) :
    State.fn ((wf s d f x i j p)) f' = State.fn (s) f' := (rfl)
@[simp] theorem wf_sq (s : State) (d : RegD) (f : Nat × Nat) (x : Nat) (i : Nat) (j : Nat) (p : Nat) (f' k' : Nat) :
    State.sq ((wf s d f x i j p)) f' k' = State.sq (s) f' k' := (rfl)
@[simp] theorem wf_cq (s : State) (d : RegD) (f : Nat × Nat) (x : Nat) (i : Nat) (j : Nat) (p : Nat) (f' k' : Nat) :
    State.cq ((wf s d f x i j p)) f' k' = State.cq (s) f' k' := (rfl)
@[simp] theorem wf_ctx (s : State) (d : RegD) (f : Nat × Nat) (x : Nat) (i : Nat) (j : Nat) (p : Nat) (k' : Nat) :
    State.ctx ((wf s d f x i j p)) k' = State.ctx (s) k' := (rfl)
@[simp] theorem wf_src (s : State) (d : RegD) (f : Nat × Nat) (x : Nat) (i : Nat) (j : Nat) (p : Nat) (k' : Nat) :
    State.src ((wf s d f x i j p)) k' = State.src (s) k' := (rfl)
@[simp] theorem wf_stack (s : State) (d : RegD) (f : Nat × Nat) (x : Nat) (i : Nat) (j : Nat) (p : Nat) (k' : Nat) :
    State.stack ((wf s d f x i j p)) k' = State.stack (s) k' := (rfl)
@[simp] theorem wf_port (s : State) (d : RegD) (f : Nat × Nat) (x : Nat) (i : Nat) (j : Nat) (p : Nat) (k' : Nat) :
    State.port ((wf s d f x i j p)) k' = State.port (s) k' := (rfl)
@[simp] theorem wf_domState (s : State) (d : RegD) (f : Nat × Nat) (x : Nat) (i : Nat) (j : Nat) (p : Nat) (k' : Nat) :
    domState ((wf s d f x i j p)) k' = domState (s) k' := (rfl)
@[simp] theorem wf_domOn (s : State) (d : RegD) (f : Nat × Nat) (x : Nat) (i : Nat) (j : Nat) (p : Nat) (k' : Nat) :
    domOn ((wf s d f x i j p)) k' = domOn (s) k' := (rfl)

/-! `satAdd` -/

@[simp] theorem satAdd_sched (s : State) (d : RegD) (f : Nat × Nat) (n : Nat) (i : Nat) (j : Nat) :
    (satAdd s d f n i j).sched = s.sched := (rfl)
@[simp] theorem satAdd_fns (s : State) (d : RegD) (f : Nat × Nat) (n : Nat) (i : Nat) (j : Nat) :
    (satAdd s d f n i j).fns = s.fns := (rfl)
@[simp] theorem satAdd_sqs (s : State) (d : RegD) (f : Nat × Nat) (n : Nat) (i : Nat) (j : Nat) :
    (satAdd s d f n i j).sqs = s.sqs := (rfl)
@[simp] theorem satAdd_cqs (s : State) (d : RegD) (f : Nat × Nat) (n : Nat) (i : Nat) (j : Nat) :
    (satAdd s d f n i j).cqs = s.cqs := (rfl)
@[simp] theorem satAdd_prog (s : State) (d : RegD) (f : Nat × Nat) (n : Nat) (i : Nat) (j : Nat) :
    (satAdd s d f n i j).prog = s.prog := (rfl)
@[simp] theorem satAdd_recov (s : State) (d : RegD) (f : Nat × Nat) (n : Nat) (i : Nat) (j : Nat) :
    (satAdd s d f n i j).recov = s.recov := (rfl)
@[simp] theorem satAdd_cores (s : State) (d : RegD) (f : Nat × Nat) (n : Nat) (i : Nat) (j : Nat) :
    (satAdd s d f n i j).cores = s.cores := (rfl)
@[simp] theorem satAdd_mem (s : State) (d : RegD) (f : Nat × Nat) (n : Nat) (i : Nat) (j : Nat) :
    (satAdd s d f n i j).mem = s.mem := (rfl)
@[simp] theorem satAdd_mail (s : State) (d : RegD) (f : Nat × Nat) (n : Nat) (i : Nat) (j : Nat) :
    (satAdd s d f n i j).mail = s.mail := (rfl)
@[simp] theorem satAdd_intc (s : State) (d : RegD) (f : Nat × Nat) (n : Nat) (i : Nat) (j : Nat) :
    (satAdd s d f n i j).intc = s.intc := (rfl)
@[simp] theorem satAdd_lant (s : State) (d : RegD) (f : Nat × Nat) (n : Nat) (i : Nat) (j : Nat) :
    (satAdd s d f n i j).lant = s.lant := (rfl)
@[simp] theorem satAdd_meter (s : State) (d : RegD) (f : Nat × Nat) (n : Nat) (i : Nat) (j : Nat) :
    (satAdd s d f n i j).meter = s.meter := (rfl)
@[simp] theorem satAdd_ports (s : State) (d : RegD) (f : Nat × Nat) (n : Nat) (i : Nat) (j : Nat) :
    (satAdd s d f n i j).ports = s.ports := (rfl)
@[simp] theorem satAdd_camp (s : State) (d : RegD) (f : Nat × Nat) (n : Nat) (i : Nat) (j : Nat) :
    (satAdd s d f n i j).camp = s.camp := (rfl)
@[simp] theorem satAdd_trust (s : State) (d : RegD) (f : Nat × Nat) (n : Nat) (i : Nat) (j : Nat) :
    (satAdd s d f n i j).trust = s.trust := (rfl)
@[simp] theorem satAdd_power (s : State) (d : RegD) (f : Nat × Nat) (n : Nat) (i : Nat) (j : Nat) :
    (satAdd s d f n i j).power = s.power := (rfl)
@[simp] theorem satAdd_out (s : State) (d : RegD) (f : Nat × Nat) (n : Nat) (i : Nat) (j : Nat) :
    (satAdd s d f n i j).out = s.out := (rfl)
@[simp] theorem satAdd_busData (s : State) (d : RegD) (f : Nat × Nat) (n : Nat) (i : Nat) (j : Nat) :
    (satAdd s d f n i j).busData = s.busData := (rfl)
@[simp] theorem satAdd_free (s : State) (d : RegD) (f : Nat × Nat) (n : Nat) (i : Nat) (j : Nat) :
    (satAdd s d f n i j).free = s.free := (rfl)
@[simp] theorem satAdd_pending (s : State) (d : RegD) (f : Nat × Nat) (n : Nat) (i : Nat) (j : Nat) :
    (satAdd s d f n i j).pending = s.pending := (rfl)
@[simp] theorem satAdd_core (s : State) (d : RegD) (f : Nat × Nat) (n : Nat) (i : Nat) (j : Nat) (k' : Nat) :
    State.core ((satAdd s d f n i j)) k' = State.core (s) k' := (rfl)
@[simp] theorem satAdd_fn (s : State) (d : RegD) (f : Nat × Nat) (n : Nat) (i : Nat) (j : Nat) (f' : Nat) :
    State.fn ((satAdd s d f n i j)) f' = State.fn (s) f' := (rfl)
@[simp] theorem satAdd_sq (s : State) (d : RegD) (f : Nat × Nat) (n : Nat) (i : Nat) (j : Nat) (f' k' : Nat) :
    State.sq ((satAdd s d f n i j)) f' k' = State.sq (s) f' k' := (rfl)
@[simp] theorem satAdd_cq (s : State) (d : RegD) (f : Nat × Nat) (n : Nat) (i : Nat) (j : Nat) (f' k' : Nat) :
    State.cq ((satAdd s d f n i j)) f' k' = State.cq (s) f' k' := (rfl)
@[simp] theorem satAdd_ctx (s : State) (d : RegD) (f : Nat × Nat) (n : Nat) (i : Nat) (j : Nat) (k' : Nat) :
    State.ctx ((satAdd s d f n i j)) k' = State.ctx (s) k' := (rfl)
@[simp] theorem satAdd_src (s : State) (d : RegD) (f : Nat × Nat) (n : Nat) (i : Nat) (j : Nat) (k' : Nat) :
    State.src ((satAdd s d f n i j)) k' = State.src (s) k' := (rfl)
@[simp] theorem satAdd_stack (s : State) (d : RegD) (f : Nat × Nat) (n : Nat) (i : Nat) (j : Nat) (k' : Nat) :
    State.stack ((satAdd s d f n i j)) k' = State.stack (s) k' := (rfl)
@[simp] theorem satAdd_port (s : State) (d : RegD) (f : Nat × Nat) (n : Nat) (i : Nat) (j : Nat) (k' : Nat) :
    State.port ((satAdd s d f n i j)) k' = State.port (s) k' := (rfl)
@[simp] theorem satAdd_domState (s : State) (d : RegD) (f : Nat × Nat) (n : Nat) (i : Nat) (j : Nat) (k' : Nat) :
    domState ((satAdd s d f n i j)) k' = domState (s) k' := (rfl)
@[simp] theorem satAdd_domOn (s : State) (d : RegD) (f : Nat × Nat) (n : Nat) (i : Nat) (j : Nat) (k' : Nat) :
    domOn ((satAdd s d f n i j)) k' = domOn (s) k' := (rfl)

/-! `emit` -/

@[simp] theorem emit_regs (s : State) (o : Out) :
    (emit s o).regs = s.regs := (rfl)
@[simp] theorem emit_sched (s : State) (o : Out) :
    (emit s o).sched = s.sched := (rfl)
@[simp] theorem emit_fns (s : State) (o : Out) :
    (emit s o).fns = s.fns := (rfl)
@[simp] theorem emit_sqs (s : State) (o : Out) :
    (emit s o).sqs = s.sqs := (rfl)
@[simp] theorem emit_cqs (s : State) (o : Out) :
    (emit s o).cqs = s.cqs := (rfl)
@[simp] theorem emit_prog (s : State) (o : Out) :
    (emit s o).prog = s.prog := (rfl)
@[simp] theorem emit_recov (s : State) (o : Out) :
    (emit s o).recov = s.recov := (rfl)
@[simp] theorem emit_cores (s : State) (o : Out) :
    (emit s o).cores = s.cores := (rfl)
@[simp] theorem emit_mem (s : State) (o : Out) :
    (emit s o).mem = s.mem := (rfl)
@[simp] theorem emit_mail (s : State) (o : Out) :
    (emit s o).mail = s.mail := (rfl)
@[simp] theorem emit_intc (s : State) (o : Out) :
    (emit s o).intc = s.intc := (rfl)
@[simp] theorem emit_lant (s : State) (o : Out) :
    (emit s o).lant = s.lant := (rfl)
@[simp] theorem emit_meter (s : State) (o : Out) :
    (emit s o).meter = s.meter := (rfl)
@[simp] theorem emit_ports (s : State) (o : Out) :
    (emit s o).ports = s.ports := (rfl)
@[simp] theorem emit_camp (s : State) (o : Out) :
    (emit s o).camp = s.camp := (rfl)
@[simp] theorem emit_trust (s : State) (o : Out) :
    (emit s o).trust = s.trust := (rfl)
@[simp] theorem emit_power (s : State) (o : Out) :
    (emit s o).power = s.power := (rfl)
@[simp] theorem emit_busData (s : State) (o : Out) :
    (emit s o).busData = s.busData := (rfl)
@[simp] theorem emit_free (s : State) (o : Out) :
    (emit s o).free = s.free := (rfl)
@[simp] theorem emit_pending (s : State) (o : Out) :
    (emit s o).pending = s.pending := (rfl)
@[simp] theorem emit_rg (s : State) (o : Out) (d : RegD) (i j p : Nat) :
    rg ((emit s o)) d i j p = rg (s) d i j p := (rfl)
@[simp] theorem emit_rf (s : State) (o : Out) (d : RegD) (f : Nat × Nat) (i j p : Nat) :
    rf ((emit s o)) d f i j p = rf (s) d f i j p := (rfl)
@[simp] theorem emit_rb (s : State) (o : Out) (d : RegD) (f : Nat × Nat) (i j p : Nat) :
    rb ((emit s o)) d f i j p = rb (s) d f i j p := (rfl)
@[simp] theorem emit_core (s : State) (o : Out) (k' : Nat) :
    State.core ((emit s o)) k' = State.core (s) k' := (rfl)
@[simp] theorem emit_fn (s : State) (o : Out) (f' : Nat) :
    State.fn ((emit s o)) f' = State.fn (s) f' := (rfl)
@[simp] theorem emit_sq (s : State) (o : Out) (f' k' : Nat) :
    State.sq ((emit s o)) f' k' = State.sq (s) f' k' := (rfl)
@[simp] theorem emit_cq (s : State) (o : Out) (f' k' : Nat) :
    State.cq ((emit s o)) f' k' = State.cq (s) f' k' := (rfl)
@[simp] theorem emit_ctx (s : State) (o : Out) (k' : Nat) :
    State.ctx ((emit s o)) k' = State.ctx (s) k' := (rfl)
@[simp] theorem emit_src (s : State) (o : Out) (k' : Nat) :
    State.src ((emit s o)) k' = State.src (s) k' := (rfl)
@[simp] theorem emit_stack (s : State) (o : Out) (k' : Nat) :
    State.stack ((emit s o)) k' = State.stack (s) k' := (rfl)
@[simp] theorem emit_port (s : State) (o : Out) (k' : Nat) :
    State.port ((emit s o)) k' = State.port (s) k' := (rfl)
@[simp] theorem emit_domState (s : State) (o : Out) (k' : Nat) :
    domState ((emit s o)) k' = domState (s) k' := (rfl)
@[simp] theorem emit_domOn (s : State) (o : Out) (k' : Nat) :
    domOn ((emit s o)) k' = domOn (s) k' := (rfl)

/-! `takeFree` -/

@[simp] theorem takeFree_regs (s : State) :
    (takeFree s).2.regs = s.regs := (rfl)
@[simp] theorem takeFree_sched (s : State) :
    (takeFree s).2.sched = s.sched := (rfl)
@[simp] theorem takeFree_fns (s : State) :
    (takeFree s).2.fns = s.fns := (rfl)
@[simp] theorem takeFree_sqs (s : State) :
    (takeFree s).2.sqs = s.sqs := (rfl)
@[simp] theorem takeFree_cqs (s : State) :
    (takeFree s).2.cqs = s.cqs := (rfl)
@[simp] theorem takeFree_prog (s : State) :
    (takeFree s).2.prog = s.prog := (rfl)
@[simp] theorem takeFree_recov (s : State) :
    (takeFree s).2.recov = s.recov := (rfl)
@[simp] theorem takeFree_cores (s : State) :
    (takeFree s).2.cores = s.cores := (rfl)
@[simp] theorem takeFree_mem (s : State) :
    (takeFree s).2.mem = s.mem := (rfl)
@[simp] theorem takeFree_mail (s : State) :
    (takeFree s).2.mail = s.mail := (rfl)
@[simp] theorem takeFree_intc (s : State) :
    (takeFree s).2.intc = s.intc := (rfl)
@[simp] theorem takeFree_lant (s : State) :
    (takeFree s).2.lant = s.lant := (rfl)
@[simp] theorem takeFree_meter (s : State) :
    (takeFree s).2.meter = s.meter := (rfl)
@[simp] theorem takeFree_ports (s : State) :
    (takeFree s).2.ports = s.ports := (rfl)
@[simp] theorem takeFree_camp (s : State) :
    (takeFree s).2.camp = s.camp := (rfl)
@[simp] theorem takeFree_trust (s : State) :
    (takeFree s).2.trust = s.trust := (rfl)
@[simp] theorem takeFree_power (s : State) :
    (takeFree s).2.power = s.power := (rfl)
@[simp] theorem takeFree_out (s : State) :
    (takeFree s).2.out = s.out := (rfl)
@[simp] theorem takeFree_busData (s : State) :
    (takeFree s).2.busData = s.busData := (rfl)
@[simp] theorem takeFree_pending (s : State) :
    (takeFree s).2.pending = s.pending := (rfl)

/-! `spWrite` -/

@[simp] theorem spWrite_regs (s : State) (p : Nat) (off : Nat) (bs : List Byte) :
    (spWrite s p off bs).regs = s.regs := (rfl)
@[simp] theorem spWrite_sched (s : State) (p : Nat) (off : Nat) (bs : List Byte) :
    (spWrite s p off bs).sched = s.sched := (rfl)
@[simp] theorem spWrite_fns (s : State) (p : Nat) (off : Nat) (bs : List Byte) :
    (spWrite s p off bs).fns = s.fns := (rfl)
@[simp] theorem spWrite_sqs (s : State) (p : Nat) (off : Nat) (bs : List Byte) :
    (spWrite s p off bs).sqs = s.sqs := (rfl)
@[simp] theorem spWrite_cqs (s : State) (p : Nat) (off : Nat) (bs : List Byte) :
    (spWrite s p off bs).cqs = s.cqs := (rfl)
@[simp] theorem spWrite_prog (s : State) (p : Nat) (off : Nat) (bs : List Byte) :
    (spWrite s p off bs).prog = s.prog := (rfl)
@[simp] theorem spWrite_recov (s : State) (p : Nat) (off : Nat) (bs : List Byte) :
    (spWrite s p off bs).recov = s.recov := (rfl)
@[simp] theorem spWrite_cores (s : State) (p : Nat) (off : Nat) (bs : List Byte) :
    (spWrite s p off bs).cores = s.cores := (rfl)
@[simp] theorem spWrite_mail (s : State) (p : Nat) (off : Nat) (bs : List Byte) :
    (spWrite s p off bs).mail = s.mail := (rfl)
@[simp] theorem spWrite_intc (s : State) (p : Nat) (off : Nat) (bs : List Byte) :
    (spWrite s p off bs).intc = s.intc := (rfl)
@[simp] theorem spWrite_lant (s : State) (p : Nat) (off : Nat) (bs : List Byte) :
    (spWrite s p off bs).lant = s.lant := (rfl)
@[simp] theorem spWrite_meter (s : State) (p : Nat) (off : Nat) (bs : List Byte) :
    (spWrite s p off bs).meter = s.meter := (rfl)
@[simp] theorem spWrite_ports (s : State) (p : Nat) (off : Nat) (bs : List Byte) :
    (spWrite s p off bs).ports = s.ports := (rfl)
@[simp] theorem spWrite_camp (s : State) (p : Nat) (off : Nat) (bs : List Byte) :
    (spWrite s p off bs).camp = s.camp := (rfl)
@[simp] theorem spWrite_trust (s : State) (p : Nat) (off : Nat) (bs : List Byte) :
    (spWrite s p off bs).trust = s.trust := (rfl)
@[simp] theorem spWrite_power (s : State) (p : Nat) (off : Nat) (bs : List Byte) :
    (spWrite s p off bs).power = s.power := (rfl)
@[simp] theorem spWrite_out (s : State) (p : Nat) (off : Nat) (bs : List Byte) :
    (spWrite s p off bs).out = s.out := (rfl)
@[simp] theorem spWrite_busData (s : State) (p : Nat) (off : Nat) (bs : List Byte) :
    (spWrite s p off bs).busData = s.busData := (rfl)
@[simp] theorem spWrite_free (s : State) (p : Nat) (off : Nat) (bs : List Byte) :
    (spWrite s p off bs).free = s.free := (rfl)
@[simp] theorem spWrite_pending (s : State) (p : Nat) (off : Nat) (bs : List Byte) :
    (spWrite s p off bs).pending = s.pending := (rfl)
@[simp] theorem spWrite_rg (s : State) (p : Nat) (off : Nat) (bs : List Byte) (d : RegD) (i j p' : Nat) :
    rg ((spWrite s p off bs)) d i j p' = rg (s) d i j p' := (rfl)
@[simp] theorem spWrite_rf (s : State) (p : Nat) (off : Nat) (bs : List Byte) (d : RegD) (f : Nat × Nat) (i j p' : Nat) :
    rf ((spWrite s p off bs)) d f i j p' = rf (s) d f i j p' := (rfl)
@[simp] theorem spWrite_rb (s : State) (p : Nat) (off : Nat) (bs : List Byte) (d : RegD) (f : Nat × Nat) (i j p' : Nat) :
    rb ((spWrite s p off bs)) d f i j p' = rb (s) d f i j p' := (rfl)
@[simp] theorem spWrite_core (s : State) (p : Nat) (off : Nat) (bs : List Byte) (k' : Nat) :
    State.core ((spWrite s p off bs)) k' = State.core (s) k' := (rfl)
@[simp] theorem spWrite_fn (s : State) (p : Nat) (off : Nat) (bs : List Byte) (f' : Nat) :
    State.fn ((spWrite s p off bs)) f' = State.fn (s) f' := (rfl)
@[simp] theorem spWrite_sq (s : State) (p : Nat) (off : Nat) (bs : List Byte) (f' k' : Nat) :
    State.sq ((spWrite s p off bs)) f' k' = State.sq (s) f' k' := (rfl)
@[simp] theorem spWrite_cq (s : State) (p : Nat) (off : Nat) (bs : List Byte) (f' k' : Nat) :
    State.cq ((spWrite s p off bs)) f' k' = State.cq (s) f' k' := (rfl)
@[simp] theorem spWrite_ctx (s : State) (p : Nat) (off : Nat) (bs : List Byte) (k' : Nat) :
    State.ctx ((spWrite s p off bs)) k' = State.ctx (s) k' := (rfl)
@[simp] theorem spWrite_src (s : State) (p : Nat) (off : Nat) (bs : List Byte) (k' : Nat) :
    State.src ((spWrite s p off bs)) k' = State.src (s) k' := (rfl)
@[simp] theorem spWrite_stack (s : State) (p : Nat) (off : Nat) (bs : List Byte) (k' : Nat) :
    State.stack ((spWrite s p off bs)) k' = State.stack (s) k' := (rfl)
@[simp] theorem spWrite_port (s : State) (p : Nat) (off : Nat) (bs : List Byte) (k' : Nat) :
    State.port ((spWrite s p off bs)) k' = State.port (s) k' := (rfl)
@[simp] theorem spWrite_domState (s : State) (p : Nat) (off : Nat) (bs : List Byte) (k' : Nat) :
    domState ((spWrite s p off bs)) k' = domState (s) k' := (rfl)
@[simp] theorem spWrite_domOn (s : State) (p : Nat) (off : Nat) (bs : List Byte) (k' : Nat) :
    domOn ((spWrite s p off bs)) k' = domOn (s) k' := (rfl)

/-! `ddrWrite` -/

@[simp] theorem ddrWrite_regs (s : State) (a : Nat) (bs : List Byte) :
    (ddrWrite s a bs).regs = s.regs := (rfl)
@[simp] theorem ddrWrite_sched (s : State) (a : Nat) (bs : List Byte) :
    (ddrWrite s a bs).sched = s.sched := (rfl)
@[simp] theorem ddrWrite_fns (s : State) (a : Nat) (bs : List Byte) :
    (ddrWrite s a bs).fns = s.fns := (rfl)
@[simp] theorem ddrWrite_sqs (s : State) (a : Nat) (bs : List Byte) :
    (ddrWrite s a bs).sqs = s.sqs := (rfl)
@[simp] theorem ddrWrite_cqs (s : State) (a : Nat) (bs : List Byte) :
    (ddrWrite s a bs).cqs = s.cqs := (rfl)
@[simp] theorem ddrWrite_prog (s : State) (a : Nat) (bs : List Byte) :
    (ddrWrite s a bs).prog = s.prog := (rfl)
@[simp] theorem ddrWrite_recov (s : State) (a : Nat) (bs : List Byte) :
    (ddrWrite s a bs).recov = s.recov := (rfl)
@[simp] theorem ddrWrite_cores (s : State) (a : Nat) (bs : List Byte) :
    (ddrWrite s a bs).cores = s.cores := (rfl)
@[simp] theorem ddrWrite_mail (s : State) (a : Nat) (bs : List Byte) :
    (ddrWrite s a bs).mail = s.mail := (rfl)
@[simp] theorem ddrWrite_intc (s : State) (a : Nat) (bs : List Byte) :
    (ddrWrite s a bs).intc = s.intc := (rfl)
@[simp] theorem ddrWrite_lant (s : State) (a : Nat) (bs : List Byte) :
    (ddrWrite s a bs).lant = s.lant := (rfl)
@[simp] theorem ddrWrite_meter (s : State) (a : Nat) (bs : List Byte) :
    (ddrWrite s a bs).meter = s.meter := (rfl)
@[simp] theorem ddrWrite_ports (s : State) (a : Nat) (bs : List Byte) :
    (ddrWrite s a bs).ports = s.ports := (rfl)
@[simp] theorem ddrWrite_camp (s : State) (a : Nat) (bs : List Byte) :
    (ddrWrite s a bs).camp = s.camp := (rfl)
@[simp] theorem ddrWrite_trust (s : State) (a : Nat) (bs : List Byte) :
    (ddrWrite s a bs).trust = s.trust := (rfl)
@[simp] theorem ddrWrite_power (s : State) (a : Nat) (bs : List Byte) :
    (ddrWrite s a bs).power = s.power := (rfl)
@[simp] theorem ddrWrite_out (s : State) (a : Nat) (bs : List Byte) :
    (ddrWrite s a bs).out = s.out := (rfl)
@[simp] theorem ddrWrite_busData (s : State) (a : Nat) (bs : List Byte) :
    (ddrWrite s a bs).busData = s.busData := (rfl)
@[simp] theorem ddrWrite_free (s : State) (a : Nat) (bs : List Byte) :
    (ddrWrite s a bs).free = s.free := (rfl)
@[simp] theorem ddrWrite_pending (s : State) (a : Nat) (bs : List Byte) :
    (ddrWrite s a bs).pending = s.pending := (rfl)
@[simp] theorem ddrWrite_rg (s : State) (a : Nat) (bs : List Byte) (d : RegD) (i j p : Nat) :
    rg ((ddrWrite s a bs)) d i j p = rg (s) d i j p := (rfl)
@[simp] theorem ddrWrite_rf (s : State) (a : Nat) (bs : List Byte) (d : RegD) (f : Nat × Nat) (i j p : Nat) :
    rf ((ddrWrite s a bs)) d f i j p = rf (s) d f i j p := (rfl)
@[simp] theorem ddrWrite_rb (s : State) (a : Nat) (bs : List Byte) (d : RegD) (f : Nat × Nat) (i j p : Nat) :
    rb ((ddrWrite s a bs)) d f i j p = rb (s) d f i j p := (rfl)
@[simp] theorem ddrWrite_core (s : State) (a : Nat) (bs : List Byte) (k' : Nat) :
    State.core ((ddrWrite s a bs)) k' = State.core (s) k' := (rfl)
@[simp] theorem ddrWrite_fn (s : State) (a : Nat) (bs : List Byte) (f' : Nat) :
    State.fn ((ddrWrite s a bs)) f' = State.fn (s) f' := (rfl)
@[simp] theorem ddrWrite_sq (s : State) (a : Nat) (bs : List Byte) (f' k' : Nat) :
    State.sq ((ddrWrite s a bs)) f' k' = State.sq (s) f' k' := (rfl)
@[simp] theorem ddrWrite_cq (s : State) (a : Nat) (bs : List Byte) (f' k' : Nat) :
    State.cq ((ddrWrite s a bs)) f' k' = State.cq (s) f' k' := (rfl)
@[simp] theorem ddrWrite_ctx (s : State) (a : Nat) (bs : List Byte) (k' : Nat) :
    State.ctx ((ddrWrite s a bs)) k' = State.ctx (s) k' := (rfl)
@[simp] theorem ddrWrite_src (s : State) (a : Nat) (bs : List Byte) (k' : Nat) :
    State.src ((ddrWrite s a bs)) k' = State.src (s) k' := (rfl)
@[simp] theorem ddrWrite_stack (s : State) (a : Nat) (bs : List Byte) (k' : Nat) :
    State.stack ((ddrWrite s a bs)) k' = State.stack (s) k' := (rfl)
@[simp] theorem ddrWrite_port (s : State) (a : Nat) (bs : List Byte) (k' : Nat) :
    State.port ((ddrWrite s a bs)) k' = State.port (s) k' := (rfl)
@[simp] theorem ddrWrite_domState (s : State) (a : Nat) (bs : List Byte) (k' : Nat) :
    domState ((ddrWrite s a bs)) k' = domState (s) k' := (rfl)
@[simp] theorem ddrWrite_domOn (s : State) (a : Nat) (bs : List Byte) (k' : Nat) :
    domOn ((ddrWrite s a bs)) k' = domOn (s) k' := (rfl)

/-! `setDom` -/

@[simp] theorem setDom_regs (s : State) (f : Nat × Nat) (x : Nat) (d : Nat) :
    (setDom s f x d).regs = s.regs := (rfl)
@[simp] theorem setDom_sched (s : State) (f : Nat × Nat) (x : Nat) (d : Nat) :
    (setDom s f x d).sched = s.sched := (rfl)
@[simp] theorem setDom_fns (s : State) (f : Nat × Nat) (x : Nat) (d : Nat) :
    (setDom s f x d).fns = s.fns := (rfl)
@[simp] theorem setDom_sqs (s : State) (f : Nat × Nat) (x : Nat) (d : Nat) :
    (setDom s f x d).sqs = s.sqs := (rfl)
@[simp] theorem setDom_cqs (s : State) (f : Nat × Nat) (x : Nat) (d : Nat) :
    (setDom s f x d).cqs = s.cqs := (rfl)
@[simp] theorem setDom_prog (s : State) (f : Nat × Nat) (x : Nat) (d : Nat) :
    (setDom s f x d).prog = s.prog := (rfl)
@[simp] theorem setDom_recov (s : State) (f : Nat × Nat) (x : Nat) (d : Nat) :
    (setDom s f x d).recov = s.recov := (rfl)
@[simp] theorem setDom_cores (s : State) (f : Nat × Nat) (x : Nat) (d : Nat) :
    (setDom s f x d).cores = s.cores := (rfl)
@[simp] theorem setDom_mem (s : State) (f : Nat × Nat) (x : Nat) (d : Nat) :
    (setDom s f x d).mem = s.mem := (rfl)
@[simp] theorem setDom_mail (s : State) (f : Nat × Nat) (x : Nat) (d : Nat) :
    (setDom s f x d).mail = s.mail := (rfl)
@[simp] theorem setDom_intc (s : State) (f : Nat × Nat) (x : Nat) (d : Nat) :
    (setDom s f x d).intc = s.intc := (rfl)
@[simp] theorem setDom_lant (s : State) (f : Nat × Nat) (x : Nat) (d : Nat) :
    (setDom s f x d).lant = s.lant := (rfl)
@[simp] theorem setDom_meter (s : State) (f : Nat × Nat) (x : Nat) (d : Nat) :
    (setDom s f x d).meter = s.meter := (rfl)
@[simp] theorem setDom_ports (s : State) (f : Nat × Nat) (x : Nat) (d : Nat) :
    (setDom s f x d).ports = s.ports := (rfl)
@[simp] theorem setDom_camp (s : State) (f : Nat × Nat) (x : Nat) (d : Nat) :
    (setDom s f x d).camp = s.camp := (rfl)
@[simp] theorem setDom_trust (s : State) (f : Nat × Nat) (x : Nat) (d : Nat) :
    (setDom s f x d).trust = s.trust := (rfl)
@[simp] theorem setDom_out (s : State) (f : Nat × Nat) (x : Nat) (d : Nat) :
    (setDom s f x d).out = s.out := (rfl)
@[simp] theorem setDom_busData (s : State) (f : Nat × Nat) (x : Nat) (d : Nat) :
    (setDom s f x d).busData = s.busData := (rfl)
@[simp] theorem setDom_free (s : State) (f : Nat × Nat) (x : Nat) (d : Nat) :
    (setDom s f x d).free = s.free := (rfl)
@[simp] theorem setDom_pending (s : State) (f : Nat × Nat) (x : Nat) (d : Nat) :
    (setDom s f x d).pending = s.pending := (rfl)
@[simp] theorem setDom_rg (s : State) (f : Nat × Nat) (x : Nat) (d : Nat) (d' : RegD) (i j p : Nat) :
    rg ((setDom s f x d)) d' i j p = rg (s) d' i j p := (rfl)
@[simp] theorem setDom_rf (s : State) (f : Nat × Nat) (x : Nat) (d : Nat) (d' : RegD) (f' : Nat × Nat) (i j p : Nat) :
    rf ((setDom s f x d)) d' f' i j p = rf (s) d' f' i j p := (rfl)
@[simp] theorem setDom_rb (s : State) (f : Nat × Nat) (x : Nat) (d : Nat) (d' : RegD) (f' : Nat × Nat) (i j p : Nat) :
    rb ((setDom s f x d)) d' f' i j p = rb (s) d' f' i j p := (rfl)
@[simp] theorem setDom_core (s : State) (f : Nat × Nat) (x : Nat) (d : Nat) (k' : Nat) :
    State.core ((setDom s f x d)) k' = State.core (s) k' := (rfl)
@[simp] theorem setDom_fn (s : State) (f : Nat × Nat) (x : Nat) (d : Nat) (f' : Nat) :
    State.fn ((setDom s f x d)) f' = State.fn (s) f' := (rfl)
@[simp] theorem setDom_sq (s : State) (f : Nat × Nat) (x : Nat) (d : Nat) (f' k' : Nat) :
    State.sq ((setDom s f x d)) f' k' = State.sq (s) f' k' := (rfl)
@[simp] theorem setDom_cq (s : State) (f : Nat × Nat) (x : Nat) (d : Nat) (f' k' : Nat) :
    State.cq ((setDom s f x d)) f' k' = State.cq (s) f' k' := (rfl)
@[simp] theorem setDom_ctx (s : State) (f : Nat × Nat) (x : Nat) (d : Nat) (k' : Nat) :
    State.ctx ((setDom s f x d)) k' = State.ctx (s) k' := (rfl)
@[simp] theorem setDom_src (s : State) (f : Nat × Nat) (x : Nat) (d : Nat) (k' : Nat) :
    State.src ((setDom s f x d)) k' = State.src (s) k' := (rfl)
@[simp] theorem setDom_stack (s : State) (f : Nat × Nat) (x : Nat) (d : Nat) (k' : Nat) :
    State.stack ((setDom s f x d)) k' = State.stack (s) k' := (rfl)
@[simp] theorem setDom_port (s : State) (f : Nat × Nat) (x : Nat) (d : Nat) (k' : Nat) :
    State.port ((setDom s f x d)) k' = State.port (s) k' := (rfl)

/-! `State.withSched` -/

@[simp] theorem withSched_regs (s : State) (c : Sched) :
    (State.withSched s c).regs = s.regs := (rfl)
@[simp] theorem withSched_fns (s : State) (c : Sched) :
    (State.withSched s c).fns = s.fns := (rfl)
@[simp] theorem withSched_sqs (s : State) (c : Sched) :
    (State.withSched s c).sqs = s.sqs := (rfl)
@[simp] theorem withSched_cqs (s : State) (c : Sched) :
    (State.withSched s c).cqs = s.cqs := (rfl)
@[simp] theorem withSched_prog (s : State) (c : Sched) :
    (State.withSched s c).prog = s.prog := (rfl)
@[simp] theorem withSched_recov (s : State) (c : Sched) :
    (State.withSched s c).recov = s.recov := (rfl)
@[simp] theorem withSched_cores (s : State) (c : Sched) :
    (State.withSched s c).cores = s.cores := (rfl)
@[simp] theorem withSched_mem (s : State) (c : Sched) :
    (State.withSched s c).mem = s.mem := (rfl)
@[simp] theorem withSched_mail (s : State) (c : Sched) :
    (State.withSched s c).mail = s.mail := (rfl)
@[simp] theorem withSched_intc (s : State) (c : Sched) :
    (State.withSched s c).intc = s.intc := (rfl)
@[simp] theorem withSched_lant (s : State) (c : Sched) :
    (State.withSched s c).lant = s.lant := (rfl)
@[simp] theorem withSched_meter (s : State) (c : Sched) :
    (State.withSched s c).meter = s.meter := (rfl)
@[simp] theorem withSched_ports (s : State) (c : Sched) :
    (State.withSched s c).ports = s.ports := (rfl)
@[simp] theorem withSched_camp (s : State) (c : Sched) :
    (State.withSched s c).camp = s.camp := (rfl)
@[simp] theorem withSched_trust (s : State) (c : Sched) :
    (State.withSched s c).trust = s.trust := (rfl)
@[simp] theorem withSched_power (s : State) (c : Sched) :
    (State.withSched s c).power = s.power := (rfl)
@[simp] theorem withSched_out (s : State) (c : Sched) :
    (State.withSched s c).out = s.out := (rfl)
@[simp] theorem withSched_busData (s : State) (c : Sched) :
    (State.withSched s c).busData = s.busData := (rfl)
@[simp] theorem withSched_free (s : State) (c : Sched) :
    (State.withSched s c).free = s.free := (rfl)
@[simp] theorem withSched_pending (s : State) (c : Sched) :
    (State.withSched s c).pending = s.pending := (rfl)
@[simp] theorem withSched_rg (s : State) (c : Sched) (d : RegD) (i j p : Nat) :
    rg ((State.withSched s c)) d i j p = rg (s) d i j p := (rfl)
@[simp] theorem withSched_rf (s : State) (c : Sched) (d : RegD) (f : Nat × Nat) (i j p : Nat) :
    rf ((State.withSched s c)) d f i j p = rf (s) d f i j p := (rfl)
@[simp] theorem withSched_rb (s : State) (c : Sched) (d : RegD) (f : Nat × Nat) (i j p : Nat) :
    rb ((State.withSched s c)) d f i j p = rb (s) d f i j p := (rfl)
@[simp] theorem withSched_core (s : State) (c : Sched) (k' : Nat) :
    State.core ((State.withSched s c)) k' = State.core (s) k' := (rfl)
@[simp] theorem withSched_fn (s : State) (c : Sched) (f' : Nat) :
    State.fn ((State.withSched s c)) f' = State.fn (s) f' := (rfl)
@[simp] theorem withSched_sq (s : State) (c : Sched) (f' k' : Nat) :
    State.sq ((State.withSched s c)) f' k' = State.sq (s) f' k' := (rfl)
@[simp] theorem withSched_cq (s : State) (c : Sched) (f' k' : Nat) :
    State.cq ((State.withSched s c)) f' k' = State.cq (s) f' k' := (rfl)
@[simp] theorem withSched_ctx (s : State) (c : Sched) (k' : Nat) :
    State.ctx ((State.withSched s c)) k' = State.ctx (s) k' := (rfl)
@[simp] theorem withSched_src (s : State) (c : Sched) (k' : Nat) :
    State.src ((State.withSched s c)) k' = State.src (s) k' := (rfl)
@[simp] theorem withSched_stack (s : State) (c : Sched) (k' : Nat) :
    State.stack ((State.withSched s c)) k' = State.stack (s) k' := (rfl)
@[simp] theorem withSched_port (s : State) (c : Sched) (k' : Nat) :
    State.port ((State.withSched s c)) k' = State.port (s) k' := (rfl)
@[simp] theorem withSched_domState (s : State) (c : Sched) (k' : Nat) :
    domState ((State.withSched s c)) k' = domState (s) k' := (rfl)
@[simp] theorem withSched_domOn (s : State) (c : Sched) (k' : Nat) :
    domOn ((State.withSched s c)) k' = domOn (s) k' := (rfl)
@[simp] theorem withSched_sched (s : State) (c : Sched) :
    (State.withSched s c).sched = c := (rfl)

/-! `State.withMeter` -/

@[simp] theorem withMeter_regs (s : State) (m : Meter) :
    (State.withMeter s m).regs = s.regs := (rfl)
@[simp] theorem withMeter_sched (s : State) (m : Meter) :
    (State.withMeter s m).sched = s.sched := (rfl)
@[simp] theorem withMeter_fns (s : State) (m : Meter) :
    (State.withMeter s m).fns = s.fns := (rfl)
@[simp] theorem withMeter_sqs (s : State) (m : Meter) :
    (State.withMeter s m).sqs = s.sqs := (rfl)
@[simp] theorem withMeter_cqs (s : State) (m : Meter) :
    (State.withMeter s m).cqs = s.cqs := (rfl)
@[simp] theorem withMeter_prog (s : State) (m : Meter) :
    (State.withMeter s m).prog = s.prog := (rfl)
@[simp] theorem withMeter_recov (s : State) (m : Meter) :
    (State.withMeter s m).recov = s.recov := (rfl)
@[simp] theorem withMeter_cores (s : State) (m : Meter) :
    (State.withMeter s m).cores = s.cores := (rfl)
@[simp] theorem withMeter_mem (s : State) (m : Meter) :
    (State.withMeter s m).mem = s.mem := (rfl)
@[simp] theorem withMeter_mail (s : State) (m : Meter) :
    (State.withMeter s m).mail = s.mail := (rfl)
@[simp] theorem withMeter_intc (s : State) (m : Meter) :
    (State.withMeter s m).intc = s.intc := (rfl)
@[simp] theorem withMeter_lant (s : State) (m : Meter) :
    (State.withMeter s m).lant = s.lant := (rfl)
@[simp] theorem withMeter_ports (s : State) (m : Meter) :
    (State.withMeter s m).ports = s.ports := (rfl)
@[simp] theorem withMeter_camp (s : State) (m : Meter) :
    (State.withMeter s m).camp = s.camp := (rfl)
@[simp] theorem withMeter_trust (s : State) (m : Meter) :
    (State.withMeter s m).trust = s.trust := (rfl)
@[simp] theorem withMeter_power (s : State) (m : Meter) :
    (State.withMeter s m).power = s.power := (rfl)
@[simp] theorem withMeter_out (s : State) (m : Meter) :
    (State.withMeter s m).out = s.out := (rfl)
@[simp] theorem withMeter_busData (s : State) (m : Meter) :
    (State.withMeter s m).busData = s.busData := (rfl)
@[simp] theorem withMeter_free (s : State) (m : Meter) :
    (State.withMeter s m).free = s.free := (rfl)
@[simp] theorem withMeter_pending (s : State) (m : Meter) :
    (State.withMeter s m).pending = s.pending := (rfl)
@[simp] theorem withMeter_rg (s : State) (m : Meter) (d : RegD) (i j p : Nat) :
    rg ((State.withMeter s m)) d i j p = rg (s) d i j p := (rfl)
@[simp] theorem withMeter_rf (s : State) (m : Meter) (d : RegD) (f : Nat × Nat) (i j p : Nat) :
    rf ((State.withMeter s m)) d f i j p = rf (s) d f i j p := (rfl)
@[simp] theorem withMeter_rb (s : State) (m : Meter) (d : RegD) (f : Nat × Nat) (i j p : Nat) :
    rb ((State.withMeter s m)) d f i j p = rb (s) d f i j p := (rfl)
@[simp] theorem withMeter_core (s : State) (m : Meter) (k' : Nat) :
    State.core ((State.withMeter s m)) k' = State.core (s) k' := (rfl)
@[simp] theorem withMeter_fn (s : State) (m : Meter) (f' : Nat) :
    State.fn ((State.withMeter s m)) f' = State.fn (s) f' := (rfl)
@[simp] theorem withMeter_sq (s : State) (m : Meter) (f' k' : Nat) :
    State.sq ((State.withMeter s m)) f' k' = State.sq (s) f' k' := (rfl)
@[simp] theorem withMeter_cq (s : State) (m : Meter) (f' k' : Nat) :
    State.cq ((State.withMeter s m)) f' k' = State.cq (s) f' k' := (rfl)
@[simp] theorem withMeter_ctx (s : State) (m : Meter) (k' : Nat) :
    State.ctx ((State.withMeter s m)) k' = State.ctx (s) k' := (rfl)
@[simp] theorem withMeter_src (s : State) (m : Meter) (k' : Nat) :
    State.src ((State.withMeter s m)) k' = State.src (s) k' := (rfl)
@[simp] theorem withMeter_stack (s : State) (m : Meter) (k' : Nat) :
    State.stack ((State.withMeter s m)) k' = State.stack (s) k' := (rfl)
@[simp] theorem withMeter_port (s : State) (m : Meter) (k' : Nat) :
    State.port ((State.withMeter s m)) k' = State.port (s) k' := (rfl)
@[simp] theorem withMeter_domState (s : State) (m : Meter) (k' : Nat) :
    domState ((State.withMeter s m)) k' = domState (s) k' := (rfl)
@[simp] theorem withMeter_domOn (s : State) (m : Meter) (k' : Nat) :
    domOn ((State.withMeter s m)) k' = domOn (s) k' := (rfl)
@[simp] theorem withMeter_meter (s : State) (m : Meter) :
    (State.withMeter s m).meter = m := (rfl)

/-! `State.withLant` -/

@[simp] theorem withLant_regs (s : State) (l : Lantern) :
    (State.withLant s l).regs = s.regs := (rfl)
@[simp] theorem withLant_sched (s : State) (l : Lantern) :
    (State.withLant s l).sched = s.sched := (rfl)
@[simp] theorem withLant_fns (s : State) (l : Lantern) :
    (State.withLant s l).fns = s.fns := (rfl)
@[simp] theorem withLant_sqs (s : State) (l : Lantern) :
    (State.withLant s l).sqs = s.sqs := (rfl)
@[simp] theorem withLant_cqs (s : State) (l : Lantern) :
    (State.withLant s l).cqs = s.cqs := (rfl)
@[simp] theorem withLant_prog (s : State) (l : Lantern) :
    (State.withLant s l).prog = s.prog := (rfl)
@[simp] theorem withLant_recov (s : State) (l : Lantern) :
    (State.withLant s l).recov = s.recov := (rfl)
@[simp] theorem withLant_cores (s : State) (l : Lantern) :
    (State.withLant s l).cores = s.cores := (rfl)
@[simp] theorem withLant_mem (s : State) (l : Lantern) :
    (State.withLant s l).mem = s.mem := (rfl)
@[simp] theorem withLant_mail (s : State) (l : Lantern) :
    (State.withLant s l).mail = s.mail := (rfl)
@[simp] theorem withLant_intc (s : State) (l : Lantern) :
    (State.withLant s l).intc = s.intc := (rfl)
@[simp] theorem withLant_meter (s : State) (l : Lantern) :
    (State.withLant s l).meter = s.meter := (rfl)
@[simp] theorem withLant_ports (s : State) (l : Lantern) :
    (State.withLant s l).ports = s.ports := (rfl)
@[simp] theorem withLant_camp (s : State) (l : Lantern) :
    (State.withLant s l).camp = s.camp := (rfl)
@[simp] theorem withLant_trust (s : State) (l : Lantern) :
    (State.withLant s l).trust = s.trust := (rfl)
@[simp] theorem withLant_power (s : State) (l : Lantern) :
    (State.withLant s l).power = s.power := (rfl)
@[simp] theorem withLant_out (s : State) (l : Lantern) :
    (State.withLant s l).out = s.out := (rfl)
@[simp] theorem withLant_busData (s : State) (l : Lantern) :
    (State.withLant s l).busData = s.busData := (rfl)
@[simp] theorem withLant_free (s : State) (l : Lantern) :
    (State.withLant s l).free = s.free := (rfl)
@[simp] theorem withLant_pending (s : State) (l : Lantern) :
    (State.withLant s l).pending = s.pending := (rfl)
@[simp] theorem withLant_rg (s : State) (l : Lantern) (d : RegD) (i j p : Nat) :
    rg ((State.withLant s l)) d i j p = rg (s) d i j p := (rfl)
@[simp] theorem withLant_rf (s : State) (l : Lantern) (d : RegD) (f : Nat × Nat) (i j p : Nat) :
    rf ((State.withLant s l)) d f i j p = rf (s) d f i j p := (rfl)
@[simp] theorem withLant_rb (s : State) (l : Lantern) (d : RegD) (f : Nat × Nat) (i j p : Nat) :
    rb ((State.withLant s l)) d f i j p = rb (s) d f i j p := (rfl)
@[simp] theorem withLant_core (s : State) (l : Lantern) (k' : Nat) :
    State.core ((State.withLant s l)) k' = State.core (s) k' := (rfl)
@[simp] theorem withLant_fn (s : State) (l : Lantern) (f' : Nat) :
    State.fn ((State.withLant s l)) f' = State.fn (s) f' := (rfl)
@[simp] theorem withLant_sq (s : State) (l : Lantern) (f' k' : Nat) :
    State.sq ((State.withLant s l)) f' k' = State.sq (s) f' k' := (rfl)
@[simp] theorem withLant_cq (s : State) (l : Lantern) (f' k' : Nat) :
    State.cq ((State.withLant s l)) f' k' = State.cq (s) f' k' := (rfl)
@[simp] theorem withLant_ctx (s : State) (l : Lantern) (k' : Nat) :
    State.ctx ((State.withLant s l)) k' = State.ctx (s) k' := (rfl)
@[simp] theorem withLant_src (s : State) (l : Lantern) (k' : Nat) :
    State.src ((State.withLant s l)) k' = State.src (s) k' := (rfl)
@[simp] theorem withLant_stack (s : State) (l : Lantern) (k' : Nat) :
    State.stack ((State.withLant s l)) k' = State.stack (s) k' := (rfl)
@[simp] theorem withLant_port (s : State) (l : Lantern) (k' : Nat) :
    State.port ((State.withLant s l)) k' = State.port (s) k' := (rfl)
@[simp] theorem withLant_domState (s : State) (l : Lantern) (k' : Nat) :
    domState ((State.withLant s l)) k' = domState (s) k' := (rfl)
@[simp] theorem withLant_domOn (s : State) (l : Lantern) (k' : Nat) :
    domOn ((State.withLant s l)) k' = domOn (s) k' := (rfl)
@[simp] theorem withLant_lant (s : State) (l : Lantern) :
    (State.withLant s l).lant = l := (rfl)

/-! `State.withTrust` -/

@[simp] theorem withTrust_regs (s : State) (t : Trust) :
    (State.withTrust s t).regs = s.regs := (rfl)
@[simp] theorem withTrust_sched (s : State) (t : Trust) :
    (State.withTrust s t).sched = s.sched := (rfl)
@[simp] theorem withTrust_fns (s : State) (t : Trust) :
    (State.withTrust s t).fns = s.fns := (rfl)
@[simp] theorem withTrust_sqs (s : State) (t : Trust) :
    (State.withTrust s t).sqs = s.sqs := (rfl)
@[simp] theorem withTrust_cqs (s : State) (t : Trust) :
    (State.withTrust s t).cqs = s.cqs := (rfl)
@[simp] theorem withTrust_prog (s : State) (t : Trust) :
    (State.withTrust s t).prog = s.prog := (rfl)
@[simp] theorem withTrust_recov (s : State) (t : Trust) :
    (State.withTrust s t).recov = s.recov := (rfl)
@[simp] theorem withTrust_cores (s : State) (t : Trust) :
    (State.withTrust s t).cores = s.cores := (rfl)
@[simp] theorem withTrust_mem (s : State) (t : Trust) :
    (State.withTrust s t).mem = s.mem := (rfl)
@[simp] theorem withTrust_mail (s : State) (t : Trust) :
    (State.withTrust s t).mail = s.mail := (rfl)
@[simp] theorem withTrust_intc (s : State) (t : Trust) :
    (State.withTrust s t).intc = s.intc := (rfl)
@[simp] theorem withTrust_lant (s : State) (t : Trust) :
    (State.withTrust s t).lant = s.lant := (rfl)
@[simp] theorem withTrust_meter (s : State) (t : Trust) :
    (State.withTrust s t).meter = s.meter := (rfl)
@[simp] theorem withTrust_ports (s : State) (t : Trust) :
    (State.withTrust s t).ports = s.ports := (rfl)
@[simp] theorem withTrust_camp (s : State) (t : Trust) :
    (State.withTrust s t).camp = s.camp := (rfl)
@[simp] theorem withTrust_power (s : State) (t : Trust) :
    (State.withTrust s t).power = s.power := (rfl)
@[simp] theorem withTrust_out (s : State) (t : Trust) :
    (State.withTrust s t).out = s.out := (rfl)
@[simp] theorem withTrust_busData (s : State) (t : Trust) :
    (State.withTrust s t).busData = s.busData := (rfl)
@[simp] theorem withTrust_free (s : State) (t : Trust) :
    (State.withTrust s t).free = s.free := (rfl)
@[simp] theorem withTrust_pending (s : State) (t : Trust) :
    (State.withTrust s t).pending = s.pending := (rfl)
@[simp] theorem withTrust_rg (s : State) (t : Trust) (d : RegD) (i j p : Nat) :
    rg ((State.withTrust s t)) d i j p = rg (s) d i j p := (rfl)
@[simp] theorem withTrust_rf (s : State) (t : Trust) (d : RegD) (f : Nat × Nat) (i j p : Nat) :
    rf ((State.withTrust s t)) d f i j p = rf (s) d f i j p := (rfl)
@[simp] theorem withTrust_rb (s : State) (t : Trust) (d : RegD) (f : Nat × Nat) (i j p : Nat) :
    rb ((State.withTrust s t)) d f i j p = rb (s) d f i j p := (rfl)
@[simp] theorem withTrust_core (s : State) (t : Trust) (k' : Nat) :
    State.core ((State.withTrust s t)) k' = State.core (s) k' := (rfl)
@[simp] theorem withTrust_fn (s : State) (t : Trust) (f' : Nat) :
    State.fn ((State.withTrust s t)) f' = State.fn (s) f' := (rfl)
@[simp] theorem withTrust_sq (s : State) (t : Trust) (f' k' : Nat) :
    State.sq ((State.withTrust s t)) f' k' = State.sq (s) f' k' := (rfl)
@[simp] theorem withTrust_cq (s : State) (t : Trust) (f' k' : Nat) :
    State.cq ((State.withTrust s t)) f' k' = State.cq (s) f' k' := (rfl)
@[simp] theorem withTrust_ctx (s : State) (t : Trust) (k' : Nat) :
    State.ctx ((State.withTrust s t)) k' = State.ctx (s) k' := (rfl)
@[simp] theorem withTrust_src (s : State) (t : Trust) (k' : Nat) :
    State.src ((State.withTrust s t)) k' = State.src (s) k' := (rfl)
@[simp] theorem withTrust_stack (s : State) (t : Trust) (k' : Nat) :
    State.stack ((State.withTrust s t)) k' = State.stack (s) k' := (rfl)
@[simp] theorem withTrust_port (s : State) (t : Trust) (k' : Nat) :
    State.port ((State.withTrust s t)) k' = State.port (s) k' := (rfl)
@[simp] theorem withTrust_domState (s : State) (t : Trust) (k' : Nat) :
    domState ((State.withTrust s t)) k' = domState (s) k' := (rfl)
@[simp] theorem withTrust_domOn (s : State) (t : Trust) (k' : Nat) :
    domOn ((State.withTrust s t)) k' = domOn (s) k' := (rfl)
@[simp] theorem withTrust_trust (s : State) (t : Trust) :
    (State.withTrust s t).trust = t := (rfl)

/-! `State.withMem` -/

@[simp] theorem withMem_regs (s : State) (m : Mem) :
    (State.withMem s m).regs = s.regs := (rfl)
@[simp] theorem withMem_sched (s : State) (m : Mem) :
    (State.withMem s m).sched = s.sched := (rfl)
@[simp] theorem withMem_fns (s : State) (m : Mem) :
    (State.withMem s m).fns = s.fns := (rfl)
@[simp] theorem withMem_sqs (s : State) (m : Mem) :
    (State.withMem s m).sqs = s.sqs := (rfl)
@[simp] theorem withMem_cqs (s : State) (m : Mem) :
    (State.withMem s m).cqs = s.cqs := (rfl)
@[simp] theorem withMem_prog (s : State) (m : Mem) :
    (State.withMem s m).prog = s.prog := (rfl)
@[simp] theorem withMem_recov (s : State) (m : Mem) :
    (State.withMem s m).recov = s.recov := (rfl)
@[simp] theorem withMem_cores (s : State) (m : Mem) :
    (State.withMem s m).cores = s.cores := (rfl)
@[simp] theorem withMem_mail (s : State) (m : Mem) :
    (State.withMem s m).mail = s.mail := (rfl)
@[simp] theorem withMem_intc (s : State) (m : Mem) :
    (State.withMem s m).intc = s.intc := (rfl)
@[simp] theorem withMem_lant (s : State) (m : Mem) :
    (State.withMem s m).lant = s.lant := (rfl)
@[simp] theorem withMem_meter (s : State) (m : Mem) :
    (State.withMem s m).meter = s.meter := (rfl)
@[simp] theorem withMem_ports (s : State) (m : Mem) :
    (State.withMem s m).ports = s.ports := (rfl)
@[simp] theorem withMem_camp (s : State) (m : Mem) :
    (State.withMem s m).camp = s.camp := (rfl)
@[simp] theorem withMem_trust (s : State) (m : Mem) :
    (State.withMem s m).trust = s.trust := (rfl)
@[simp] theorem withMem_power (s : State) (m : Mem) :
    (State.withMem s m).power = s.power := (rfl)
@[simp] theorem withMem_out (s : State) (m : Mem) :
    (State.withMem s m).out = s.out := (rfl)
@[simp] theorem withMem_busData (s : State) (m : Mem) :
    (State.withMem s m).busData = s.busData := (rfl)
@[simp] theorem withMem_free (s : State) (m : Mem) :
    (State.withMem s m).free = s.free := (rfl)
@[simp] theorem withMem_pending (s : State) (m : Mem) :
    (State.withMem s m).pending = s.pending := (rfl)
@[simp] theorem withMem_rg (s : State) (m : Mem) (d : RegD) (i j p : Nat) :
    rg ((State.withMem s m)) d i j p = rg (s) d i j p := (rfl)
@[simp] theorem withMem_rf (s : State) (m : Mem) (d : RegD) (f : Nat × Nat) (i j p : Nat) :
    rf ((State.withMem s m)) d f i j p = rf (s) d f i j p := (rfl)
@[simp] theorem withMem_rb (s : State) (m : Mem) (d : RegD) (f : Nat × Nat) (i j p : Nat) :
    rb ((State.withMem s m)) d f i j p = rb (s) d f i j p := (rfl)
@[simp] theorem withMem_core (s : State) (m : Mem) (k' : Nat) :
    State.core ((State.withMem s m)) k' = State.core (s) k' := (rfl)
@[simp] theorem withMem_fn (s : State) (m : Mem) (f' : Nat) :
    State.fn ((State.withMem s m)) f' = State.fn (s) f' := (rfl)
@[simp] theorem withMem_sq (s : State) (m : Mem) (f' k' : Nat) :
    State.sq ((State.withMem s m)) f' k' = State.sq (s) f' k' := (rfl)
@[simp] theorem withMem_cq (s : State) (m : Mem) (f' k' : Nat) :
    State.cq ((State.withMem s m)) f' k' = State.cq (s) f' k' := (rfl)
@[simp] theorem withMem_ctx (s : State) (m : Mem) (k' : Nat) :
    State.ctx ((State.withMem s m)) k' = State.ctx (s) k' := (rfl)
@[simp] theorem withMem_src (s : State) (m : Mem) (k' : Nat) :
    State.src ((State.withMem s m)) k' = State.src (s) k' := (rfl)
@[simp] theorem withMem_stack (s : State) (m : Mem) (k' : Nat) :
    State.stack ((State.withMem s m)) k' = State.stack (s) k' := (rfl)
@[simp] theorem withMem_port (s : State) (m : Mem) (k' : Nat) :
    State.port ((State.withMem s m)) k' = State.port (s) k' := (rfl)
@[simp] theorem withMem_domState (s : State) (m : Mem) (k' : Nat) :
    domState ((State.withMem s m)) k' = domState (s) k' := (rfl)
@[simp] theorem withMem_domOn (s : State) (m : Mem) (k' : Nat) :
    domOn ((State.withMem s m)) k' = domOn (s) k' := (rfl)
@[simp] theorem withMem_mem (s : State) (m : Mem) :
    (State.withMem s m).mem = m := (rfl)

/-! `State.withCamp` -/

@[simp] theorem withCamp_regs (s : State) (c : Camp) :
    (State.withCamp s c).regs = s.regs := (rfl)
@[simp] theorem withCamp_sched (s : State) (c : Camp) :
    (State.withCamp s c).sched = s.sched := (rfl)
@[simp] theorem withCamp_fns (s : State) (c : Camp) :
    (State.withCamp s c).fns = s.fns := (rfl)
@[simp] theorem withCamp_sqs (s : State) (c : Camp) :
    (State.withCamp s c).sqs = s.sqs := (rfl)
@[simp] theorem withCamp_cqs (s : State) (c : Camp) :
    (State.withCamp s c).cqs = s.cqs := (rfl)
@[simp] theorem withCamp_prog (s : State) (c : Camp) :
    (State.withCamp s c).prog = s.prog := (rfl)
@[simp] theorem withCamp_recov (s : State) (c : Camp) :
    (State.withCamp s c).recov = s.recov := (rfl)
@[simp] theorem withCamp_cores (s : State) (c : Camp) :
    (State.withCamp s c).cores = s.cores := (rfl)
@[simp] theorem withCamp_mem (s : State) (c : Camp) :
    (State.withCamp s c).mem = s.mem := (rfl)
@[simp] theorem withCamp_mail (s : State) (c : Camp) :
    (State.withCamp s c).mail = s.mail := (rfl)
@[simp] theorem withCamp_intc (s : State) (c : Camp) :
    (State.withCamp s c).intc = s.intc := (rfl)
@[simp] theorem withCamp_lant (s : State) (c : Camp) :
    (State.withCamp s c).lant = s.lant := (rfl)
@[simp] theorem withCamp_meter (s : State) (c : Camp) :
    (State.withCamp s c).meter = s.meter := (rfl)
@[simp] theorem withCamp_ports (s : State) (c : Camp) :
    (State.withCamp s c).ports = s.ports := (rfl)
@[simp] theorem withCamp_trust (s : State) (c : Camp) :
    (State.withCamp s c).trust = s.trust := (rfl)
@[simp] theorem withCamp_power (s : State) (c : Camp) :
    (State.withCamp s c).power = s.power := (rfl)
@[simp] theorem withCamp_out (s : State) (c : Camp) :
    (State.withCamp s c).out = s.out := (rfl)
@[simp] theorem withCamp_busData (s : State) (c : Camp) :
    (State.withCamp s c).busData = s.busData := (rfl)
@[simp] theorem withCamp_free (s : State) (c : Camp) :
    (State.withCamp s c).free = s.free := (rfl)
@[simp] theorem withCamp_pending (s : State) (c : Camp) :
    (State.withCamp s c).pending = s.pending := (rfl)
@[simp] theorem withCamp_rg (s : State) (c : Camp) (d : RegD) (i j p : Nat) :
    rg ((State.withCamp s c)) d i j p = rg (s) d i j p := (rfl)
@[simp] theorem withCamp_rf (s : State) (c : Camp) (d : RegD) (f : Nat × Nat) (i j p : Nat) :
    rf ((State.withCamp s c)) d f i j p = rf (s) d f i j p := (rfl)
@[simp] theorem withCamp_rb (s : State) (c : Camp) (d : RegD) (f : Nat × Nat) (i j p : Nat) :
    rb ((State.withCamp s c)) d f i j p = rb (s) d f i j p := (rfl)
@[simp] theorem withCamp_core (s : State) (c : Camp) (k' : Nat) :
    State.core ((State.withCamp s c)) k' = State.core (s) k' := (rfl)
@[simp] theorem withCamp_fn (s : State) (c : Camp) (f' : Nat) :
    State.fn ((State.withCamp s c)) f' = State.fn (s) f' := (rfl)
@[simp] theorem withCamp_sq (s : State) (c : Camp) (f' k' : Nat) :
    State.sq ((State.withCamp s c)) f' k' = State.sq (s) f' k' := (rfl)
@[simp] theorem withCamp_cq (s : State) (c : Camp) (f' k' : Nat) :
    State.cq ((State.withCamp s c)) f' k' = State.cq (s) f' k' := (rfl)
@[simp] theorem withCamp_ctx (s : State) (c : Camp) (k' : Nat) :
    State.ctx ((State.withCamp s c)) k' = State.ctx (s) k' := (rfl)
@[simp] theorem withCamp_src (s : State) (c : Camp) (k' : Nat) :
    State.src ((State.withCamp s c)) k' = State.src (s) k' := (rfl)
@[simp] theorem withCamp_stack (s : State) (c : Camp) (k' : Nat) :
    State.stack ((State.withCamp s c)) k' = State.stack (s) k' := (rfl)
@[simp] theorem withCamp_port (s : State) (c : Camp) (k' : Nat) :
    State.port ((State.withCamp s c)) k' = State.port (s) k' := (rfl)
@[simp] theorem withCamp_domState (s : State) (c : Camp) (k' : Nat) :
    domState ((State.withCamp s c)) k' = domState (s) k' := (rfl)
@[simp] theorem withCamp_domOn (s : State) (c : Camp) (k' : Nat) :
    domOn ((State.withCamp s c)) k' = domOn (s) k' := (rfl)
@[simp] theorem withCamp_camp (s : State) (c : Camp) :
    (State.withCamp s c).camp = c := (rfl)

/-! `State.withPower` -/

@[simp] theorem withPower_regs (s : State) (p : Power) :
    (State.withPower s p).regs = s.regs := (rfl)
@[simp] theorem withPower_sched (s : State) (p : Power) :
    (State.withPower s p).sched = s.sched := (rfl)
@[simp] theorem withPower_fns (s : State) (p : Power) :
    (State.withPower s p).fns = s.fns := (rfl)
@[simp] theorem withPower_sqs (s : State) (p : Power) :
    (State.withPower s p).sqs = s.sqs := (rfl)
@[simp] theorem withPower_cqs (s : State) (p : Power) :
    (State.withPower s p).cqs = s.cqs := (rfl)
@[simp] theorem withPower_prog (s : State) (p : Power) :
    (State.withPower s p).prog = s.prog := (rfl)
@[simp] theorem withPower_recov (s : State) (p : Power) :
    (State.withPower s p).recov = s.recov := (rfl)
@[simp] theorem withPower_cores (s : State) (p : Power) :
    (State.withPower s p).cores = s.cores := (rfl)
@[simp] theorem withPower_mem (s : State) (p : Power) :
    (State.withPower s p).mem = s.mem := (rfl)
@[simp] theorem withPower_mail (s : State) (p : Power) :
    (State.withPower s p).mail = s.mail := (rfl)
@[simp] theorem withPower_intc (s : State) (p : Power) :
    (State.withPower s p).intc = s.intc := (rfl)
@[simp] theorem withPower_lant (s : State) (p : Power) :
    (State.withPower s p).lant = s.lant := (rfl)
@[simp] theorem withPower_meter (s : State) (p : Power) :
    (State.withPower s p).meter = s.meter := (rfl)
@[simp] theorem withPower_ports (s : State) (p : Power) :
    (State.withPower s p).ports = s.ports := (rfl)
@[simp] theorem withPower_camp (s : State) (p : Power) :
    (State.withPower s p).camp = s.camp := (rfl)
@[simp] theorem withPower_trust (s : State) (p : Power) :
    (State.withPower s p).trust = s.trust := (rfl)
@[simp] theorem withPower_out (s : State) (p : Power) :
    (State.withPower s p).out = s.out := (rfl)
@[simp] theorem withPower_busData (s : State) (p : Power) :
    (State.withPower s p).busData = s.busData := (rfl)
@[simp] theorem withPower_free (s : State) (p : Power) :
    (State.withPower s p).free = s.free := (rfl)
@[simp] theorem withPower_pending (s : State) (p : Power) :
    (State.withPower s p).pending = s.pending := (rfl)
@[simp] theorem withPower_rg (s : State) (p : Power) (d : RegD) (i j p' : Nat) :
    rg ((State.withPower s p)) d i j p' = rg (s) d i j p' := (rfl)
@[simp] theorem withPower_rf (s : State) (p : Power) (d : RegD) (f : Nat × Nat) (i j p' : Nat) :
    rf ((State.withPower s p)) d f i j p' = rf (s) d f i j p' := (rfl)
@[simp] theorem withPower_rb (s : State) (p : Power) (d : RegD) (f : Nat × Nat) (i j p' : Nat) :
    rb ((State.withPower s p)) d f i j p' = rb (s) d f i j p' := (rfl)
@[simp] theorem withPower_core (s : State) (p : Power) (k' : Nat) :
    State.core ((State.withPower s p)) k' = State.core (s) k' := (rfl)
@[simp] theorem withPower_fn (s : State) (p : Power) (f' : Nat) :
    State.fn ((State.withPower s p)) f' = State.fn (s) f' := (rfl)
@[simp] theorem withPower_sq (s : State) (p : Power) (f' k' : Nat) :
    State.sq ((State.withPower s p)) f' k' = State.sq (s) f' k' := (rfl)
@[simp] theorem withPower_cq (s : State) (p : Power) (f' k' : Nat) :
    State.cq ((State.withPower s p)) f' k' = State.cq (s) f' k' := (rfl)
@[simp] theorem withPower_ctx (s : State) (p : Power) (k' : Nat) :
    State.ctx ((State.withPower s p)) k' = State.ctx (s) k' := (rfl)
@[simp] theorem withPower_src (s : State) (p : Power) (k' : Nat) :
    State.src ((State.withPower s p)) k' = State.src (s) k' := (rfl)
@[simp] theorem withPower_stack (s : State) (p : Power) (k' : Nat) :
    State.stack ((State.withPower s p)) k' = State.stack (s) k' := (rfl)
@[simp] theorem withPower_port (s : State) (p : Power) (k' : Nat) :
    State.port ((State.withPower s p)) k' = State.port (s) k' := (rfl)
@[simp] theorem withPower_power (s : State) (p : Power) :
    (State.withPower s p).power = p := (rfl)

/-! `State.withRecov` -/

@[simp] theorem withRecov_regs (s : State) (r : Recov) :
    (State.withRecov s r).regs = s.regs := (rfl)
@[simp] theorem withRecov_sched (s : State) (r : Recov) :
    (State.withRecov s r).sched = s.sched := (rfl)
@[simp] theorem withRecov_fns (s : State) (r : Recov) :
    (State.withRecov s r).fns = s.fns := (rfl)
@[simp] theorem withRecov_sqs (s : State) (r : Recov) :
    (State.withRecov s r).sqs = s.sqs := (rfl)
@[simp] theorem withRecov_cqs (s : State) (r : Recov) :
    (State.withRecov s r).cqs = s.cqs := (rfl)
@[simp] theorem withRecov_prog (s : State) (r : Recov) :
    (State.withRecov s r).prog = s.prog := (rfl)
@[simp] theorem withRecov_cores (s : State) (r : Recov) :
    (State.withRecov s r).cores = s.cores := (rfl)
@[simp] theorem withRecov_mem (s : State) (r : Recov) :
    (State.withRecov s r).mem = s.mem := (rfl)
@[simp] theorem withRecov_mail (s : State) (r : Recov) :
    (State.withRecov s r).mail = s.mail := (rfl)
@[simp] theorem withRecov_intc (s : State) (r : Recov) :
    (State.withRecov s r).intc = s.intc := (rfl)
@[simp] theorem withRecov_lant (s : State) (r : Recov) :
    (State.withRecov s r).lant = s.lant := (rfl)
@[simp] theorem withRecov_meter (s : State) (r : Recov) :
    (State.withRecov s r).meter = s.meter := (rfl)
@[simp] theorem withRecov_ports (s : State) (r : Recov) :
    (State.withRecov s r).ports = s.ports := (rfl)
@[simp] theorem withRecov_camp (s : State) (r : Recov) :
    (State.withRecov s r).camp = s.camp := (rfl)
@[simp] theorem withRecov_trust (s : State) (r : Recov) :
    (State.withRecov s r).trust = s.trust := (rfl)
@[simp] theorem withRecov_power (s : State) (r : Recov) :
    (State.withRecov s r).power = s.power := (rfl)
@[simp] theorem withRecov_out (s : State) (r : Recov) :
    (State.withRecov s r).out = s.out := (rfl)
@[simp] theorem withRecov_busData (s : State) (r : Recov) :
    (State.withRecov s r).busData = s.busData := (rfl)
@[simp] theorem withRecov_free (s : State) (r : Recov) :
    (State.withRecov s r).free = s.free := (rfl)
@[simp] theorem withRecov_pending (s : State) (r : Recov) :
    (State.withRecov s r).pending = s.pending := (rfl)
@[simp] theorem withRecov_rg (s : State) (r : Recov) (d : RegD) (i j p : Nat) :
    rg ((State.withRecov s r)) d i j p = rg (s) d i j p := (rfl)
@[simp] theorem withRecov_rf (s : State) (r : Recov) (d : RegD) (f : Nat × Nat) (i j p : Nat) :
    rf ((State.withRecov s r)) d f i j p = rf (s) d f i j p := (rfl)
@[simp] theorem withRecov_rb (s : State) (r : Recov) (d : RegD) (f : Nat × Nat) (i j p : Nat) :
    rb ((State.withRecov s r)) d f i j p = rb (s) d f i j p := (rfl)
@[simp] theorem withRecov_core (s : State) (r : Recov) (k' : Nat) :
    State.core ((State.withRecov s r)) k' = State.core (s) k' := (rfl)
@[simp] theorem withRecov_fn (s : State) (r : Recov) (f' : Nat) :
    State.fn ((State.withRecov s r)) f' = State.fn (s) f' := (rfl)
@[simp] theorem withRecov_sq (s : State) (r : Recov) (f' k' : Nat) :
    State.sq ((State.withRecov s r)) f' k' = State.sq (s) f' k' := (rfl)
@[simp] theorem withRecov_cq (s : State) (r : Recov) (f' k' : Nat) :
    State.cq ((State.withRecov s r)) f' k' = State.cq (s) f' k' := (rfl)
@[simp] theorem withRecov_ctx (s : State) (r : Recov) (k' : Nat) :
    State.ctx ((State.withRecov s r)) k' = State.ctx (s) k' := (rfl)
@[simp] theorem withRecov_src (s : State) (r : Recov) (k' : Nat) :
    State.src ((State.withRecov s r)) k' = State.src (s) k' := (rfl)
@[simp] theorem withRecov_stack (s : State) (r : Recov) (k' : Nat) :
    State.stack ((State.withRecov s r)) k' = State.stack (s) k' := (rfl)
@[simp] theorem withRecov_port (s : State) (r : Recov) (k' : Nat) :
    State.port ((State.withRecov s r)) k' = State.port (s) k' := (rfl)
@[simp] theorem withRecov_domState (s : State) (r : Recov) (k' : Nat) :
    domState ((State.withRecov s r)) k' = domState (s) k' := (rfl)
@[simp] theorem withRecov_domOn (s : State) (r : Recov) (k' : Nat) :
    domOn ((State.withRecov s r)) k' = domOn (s) k' := (rfl)
@[simp] theorem withRecov_recov (s : State) (r : Recov) :
    (State.withRecov s r).recov = r := (rfl)

/-! `State.withProg` -/

@[simp] theorem withProg_regs (s : State) (p : Prog) :
    (State.withProg s p).regs = s.regs := (rfl)
@[simp] theorem withProg_sched (s : State) (p : Prog) :
    (State.withProg s p).sched = s.sched := (rfl)
@[simp] theorem withProg_fns (s : State) (p : Prog) :
    (State.withProg s p).fns = s.fns := (rfl)
@[simp] theorem withProg_sqs (s : State) (p : Prog) :
    (State.withProg s p).sqs = s.sqs := (rfl)
@[simp] theorem withProg_cqs (s : State) (p : Prog) :
    (State.withProg s p).cqs = s.cqs := (rfl)
@[simp] theorem withProg_recov (s : State) (p : Prog) :
    (State.withProg s p).recov = s.recov := (rfl)
@[simp] theorem withProg_cores (s : State) (p : Prog) :
    (State.withProg s p).cores = s.cores := (rfl)
@[simp] theorem withProg_mem (s : State) (p : Prog) :
    (State.withProg s p).mem = s.mem := (rfl)
@[simp] theorem withProg_mail (s : State) (p : Prog) :
    (State.withProg s p).mail = s.mail := (rfl)
@[simp] theorem withProg_intc (s : State) (p : Prog) :
    (State.withProg s p).intc = s.intc := (rfl)
@[simp] theorem withProg_lant (s : State) (p : Prog) :
    (State.withProg s p).lant = s.lant := (rfl)
@[simp] theorem withProg_meter (s : State) (p : Prog) :
    (State.withProg s p).meter = s.meter := (rfl)
@[simp] theorem withProg_ports (s : State) (p : Prog) :
    (State.withProg s p).ports = s.ports := (rfl)
@[simp] theorem withProg_camp (s : State) (p : Prog) :
    (State.withProg s p).camp = s.camp := (rfl)
@[simp] theorem withProg_trust (s : State) (p : Prog) :
    (State.withProg s p).trust = s.trust := (rfl)
@[simp] theorem withProg_power (s : State) (p : Prog) :
    (State.withProg s p).power = s.power := (rfl)
@[simp] theorem withProg_out (s : State) (p : Prog) :
    (State.withProg s p).out = s.out := (rfl)
@[simp] theorem withProg_busData (s : State) (p : Prog) :
    (State.withProg s p).busData = s.busData := (rfl)
@[simp] theorem withProg_free (s : State) (p : Prog) :
    (State.withProg s p).free = s.free := (rfl)
@[simp] theorem withProg_pending (s : State) (p : Prog) :
    (State.withProg s p).pending = s.pending := (rfl)
@[simp] theorem withProg_rg (s : State) (p : Prog) (d : RegD) (i j p' : Nat) :
    rg ((State.withProg s p)) d i j p' = rg (s) d i j p' := (rfl)
@[simp] theorem withProg_rf (s : State) (p : Prog) (d : RegD) (f : Nat × Nat) (i j p' : Nat) :
    rf ((State.withProg s p)) d f i j p' = rf (s) d f i j p' := (rfl)
@[simp] theorem withProg_rb (s : State) (p : Prog) (d : RegD) (f : Nat × Nat) (i j p' : Nat) :
    rb ((State.withProg s p)) d f i j p' = rb (s) d f i j p' := (rfl)
@[simp] theorem withProg_core (s : State) (p : Prog) (k' : Nat) :
    State.core ((State.withProg s p)) k' = State.core (s) k' := (rfl)
@[simp] theorem withProg_fn (s : State) (p : Prog) (f' : Nat) :
    State.fn ((State.withProg s p)) f' = State.fn (s) f' := (rfl)
@[simp] theorem withProg_sq (s : State) (p : Prog) (f' k' : Nat) :
    State.sq ((State.withProg s p)) f' k' = State.sq (s) f' k' := (rfl)
@[simp] theorem withProg_cq (s : State) (p : Prog) (f' k' : Nat) :
    State.cq ((State.withProg s p)) f' k' = State.cq (s) f' k' := (rfl)
@[simp] theorem withProg_src (s : State) (p : Prog) (k' : Nat) :
    State.src ((State.withProg s p)) k' = State.src (s) k' := (rfl)
@[simp] theorem withProg_stack (s : State) (p : Prog) (k' : Nat) :
    State.stack ((State.withProg s p)) k' = State.stack (s) k' := (rfl)
@[simp] theorem withProg_port (s : State) (p : Prog) (k' : Nat) :
    State.port ((State.withProg s p)) k' = State.port (s) k' := (rfl)
@[simp] theorem withProg_domState (s : State) (p : Prog) (k' : Nat) :
    domState ((State.withProg s p)) k' = domState (s) k' := (rfl)
@[simp] theorem withProg_domOn (s : State) (p : Prog) (k' : Nat) :
    domOn ((State.withProg s p)) k' = domOn (s) k' := (rfl)
@[simp] theorem withProg_prog (s : State) (p : Prog) :
    (State.withProg s p).prog = p := (rfl)

/-! `updSq` -/

@[simp] theorem updSq_regs (s : State) (fn : Nat) (slot : Nat) (f : SQ → SQ) :
    (updSq s fn slot f).regs = s.regs := (rfl)
@[simp] theorem updSq_sched (s : State) (fn : Nat) (slot : Nat) (f : SQ → SQ) :
    (updSq s fn slot f).sched = s.sched := (rfl)
@[simp] theorem updSq_fns (s : State) (fn : Nat) (slot : Nat) (f : SQ → SQ) :
    (updSq s fn slot f).fns = s.fns := (rfl)
@[simp] theorem updSq_cqs (s : State) (fn : Nat) (slot : Nat) (f : SQ → SQ) :
    (updSq s fn slot f).cqs = s.cqs := (rfl)
@[simp] theorem updSq_prog (s : State) (fn : Nat) (slot : Nat) (f : SQ → SQ) :
    (updSq s fn slot f).prog = s.prog := (rfl)
@[simp] theorem updSq_recov (s : State) (fn : Nat) (slot : Nat) (f : SQ → SQ) :
    (updSq s fn slot f).recov = s.recov := (rfl)
@[simp] theorem updSq_cores (s : State) (fn : Nat) (slot : Nat) (f : SQ → SQ) :
    (updSq s fn slot f).cores = s.cores := (rfl)
@[simp] theorem updSq_mem (s : State) (fn : Nat) (slot : Nat) (f : SQ → SQ) :
    (updSq s fn slot f).mem = s.mem := (rfl)
@[simp] theorem updSq_mail (s : State) (fn : Nat) (slot : Nat) (f : SQ → SQ) :
    (updSq s fn slot f).mail = s.mail := (rfl)
@[simp] theorem updSq_intc (s : State) (fn : Nat) (slot : Nat) (f : SQ → SQ) :
    (updSq s fn slot f).intc = s.intc := (rfl)
@[simp] theorem updSq_lant (s : State) (fn : Nat) (slot : Nat) (f : SQ → SQ) :
    (updSq s fn slot f).lant = s.lant := (rfl)
@[simp] theorem updSq_meter (s : State) (fn : Nat) (slot : Nat) (f : SQ → SQ) :
    (updSq s fn slot f).meter = s.meter := (rfl)
@[simp] theorem updSq_ports (s : State) (fn : Nat) (slot : Nat) (f : SQ → SQ) :
    (updSq s fn slot f).ports = s.ports := (rfl)
@[simp] theorem updSq_camp (s : State) (fn : Nat) (slot : Nat) (f : SQ → SQ) :
    (updSq s fn slot f).camp = s.camp := (rfl)
@[simp] theorem updSq_trust (s : State) (fn : Nat) (slot : Nat) (f : SQ → SQ) :
    (updSq s fn slot f).trust = s.trust := (rfl)
@[simp] theorem updSq_power (s : State) (fn : Nat) (slot : Nat) (f : SQ → SQ) :
    (updSq s fn slot f).power = s.power := (rfl)
@[simp] theorem updSq_out (s : State) (fn : Nat) (slot : Nat) (f : SQ → SQ) :
    (updSq s fn slot f).out = s.out := (rfl)
@[simp] theorem updSq_busData (s : State) (fn : Nat) (slot : Nat) (f : SQ → SQ) :
    (updSq s fn slot f).busData = s.busData := (rfl)
@[simp] theorem updSq_free (s : State) (fn : Nat) (slot : Nat) (f : SQ → SQ) :
    (updSq s fn slot f).free = s.free := (rfl)
@[simp] theorem updSq_pending (s : State) (fn : Nat) (slot : Nat) (f : SQ → SQ) :
    (updSq s fn slot f).pending = s.pending := (rfl)
@[simp] theorem updSq_rg (s : State) (fn : Nat) (slot : Nat) (f : SQ → SQ) (d : RegD) (i j p : Nat) :
    rg ((updSq s fn slot f)) d i j p = rg (s) d i j p := (rfl)
@[simp] theorem updSq_rf (s : State) (fn : Nat) (slot : Nat) (f : SQ → SQ) (d : RegD) (f' : Nat × Nat) (i j p : Nat) :
    rf ((updSq s fn slot f)) d f' i j p = rf (s) d f' i j p := (rfl)
@[simp] theorem updSq_rb (s : State) (fn : Nat) (slot : Nat) (f : SQ → SQ) (d : RegD) (f' : Nat × Nat) (i j p : Nat) :
    rb ((updSq s fn slot f)) d f' i j p = rb (s) d f' i j p := (rfl)
@[simp] theorem updSq_core (s : State) (fn : Nat) (slot : Nat) (f : SQ → SQ) (k' : Nat) :
    State.core ((updSq s fn slot f)) k' = State.core (s) k' := (rfl)
@[simp] theorem updSq_fn (s : State) (fn : Nat) (slot : Nat) (f : SQ → SQ) (f' : Nat) :
    State.fn ((updSq s fn slot f)) f' = State.fn (s) f' := (rfl)
@[simp] theorem updSq_cq (s : State) (fn : Nat) (slot : Nat) (f : SQ → SQ) (f' k' : Nat) :
    State.cq ((updSq s fn slot f)) f' k' = State.cq (s) f' k' := (rfl)
@[simp] theorem updSq_ctx (s : State) (fn : Nat) (slot : Nat) (f : SQ → SQ) (k' : Nat) :
    State.ctx ((updSq s fn slot f)) k' = State.ctx (s) k' := (rfl)
@[simp] theorem updSq_src (s : State) (fn : Nat) (slot : Nat) (f : SQ → SQ) (k' : Nat) :
    State.src ((updSq s fn slot f)) k' = State.src (s) k' := (rfl)
@[simp] theorem updSq_stack (s : State) (fn : Nat) (slot : Nat) (f : SQ → SQ) (k' : Nat) :
    State.stack ((updSq s fn slot f)) k' = State.stack (s) k' := (rfl)
@[simp] theorem updSq_port (s : State) (fn : Nat) (slot : Nat) (f : SQ → SQ) (k' : Nat) :
    State.port ((updSq s fn slot f)) k' = State.port (s) k' := (rfl)
@[simp] theorem updSq_domState (s : State) (fn : Nat) (slot : Nat) (f : SQ → SQ) (k' : Nat) :
    domState ((updSq s fn slot f)) k' = domState (s) k' := (rfl)
@[simp] theorem updSq_domOn (s : State) (fn : Nat) (slot : Nat) (f : SQ → SQ) (k' : Nat) :
    domOn ((updSq s fn slot f)) k' = domOn (s) k' := (rfl)

/-! `updCq` -/

@[simp] theorem updCq_regs (s : State) (fn : Nat) (slot : Nat) (f : CQ → CQ) :
    (updCq s fn slot f).regs = s.regs := (rfl)
@[simp] theorem updCq_sched (s : State) (fn : Nat) (slot : Nat) (f : CQ → CQ) :
    (updCq s fn slot f).sched = s.sched := (rfl)
@[simp] theorem updCq_fns (s : State) (fn : Nat) (slot : Nat) (f : CQ → CQ) :
    (updCq s fn slot f).fns = s.fns := (rfl)
@[simp] theorem updCq_sqs (s : State) (fn : Nat) (slot : Nat) (f : CQ → CQ) :
    (updCq s fn slot f).sqs = s.sqs := (rfl)
@[simp] theorem updCq_prog (s : State) (fn : Nat) (slot : Nat) (f : CQ → CQ) :
    (updCq s fn slot f).prog = s.prog := (rfl)
@[simp] theorem updCq_recov (s : State) (fn : Nat) (slot : Nat) (f : CQ → CQ) :
    (updCq s fn slot f).recov = s.recov := (rfl)
@[simp] theorem updCq_cores (s : State) (fn : Nat) (slot : Nat) (f : CQ → CQ) :
    (updCq s fn slot f).cores = s.cores := (rfl)
@[simp] theorem updCq_mem (s : State) (fn : Nat) (slot : Nat) (f : CQ → CQ) :
    (updCq s fn slot f).mem = s.mem := (rfl)
@[simp] theorem updCq_mail (s : State) (fn : Nat) (slot : Nat) (f : CQ → CQ) :
    (updCq s fn slot f).mail = s.mail := (rfl)
@[simp] theorem updCq_intc (s : State) (fn : Nat) (slot : Nat) (f : CQ → CQ) :
    (updCq s fn slot f).intc = s.intc := (rfl)
@[simp] theorem updCq_lant (s : State) (fn : Nat) (slot : Nat) (f : CQ → CQ) :
    (updCq s fn slot f).lant = s.lant := (rfl)
@[simp] theorem updCq_meter (s : State) (fn : Nat) (slot : Nat) (f : CQ → CQ) :
    (updCq s fn slot f).meter = s.meter := (rfl)
@[simp] theorem updCq_ports (s : State) (fn : Nat) (slot : Nat) (f : CQ → CQ) :
    (updCq s fn slot f).ports = s.ports := (rfl)
@[simp] theorem updCq_camp (s : State) (fn : Nat) (slot : Nat) (f : CQ → CQ) :
    (updCq s fn slot f).camp = s.camp := (rfl)
@[simp] theorem updCq_trust (s : State) (fn : Nat) (slot : Nat) (f : CQ → CQ) :
    (updCq s fn slot f).trust = s.trust := (rfl)
@[simp] theorem updCq_power (s : State) (fn : Nat) (slot : Nat) (f : CQ → CQ) :
    (updCq s fn slot f).power = s.power := (rfl)
@[simp] theorem updCq_out (s : State) (fn : Nat) (slot : Nat) (f : CQ → CQ) :
    (updCq s fn slot f).out = s.out := (rfl)
@[simp] theorem updCq_busData (s : State) (fn : Nat) (slot : Nat) (f : CQ → CQ) :
    (updCq s fn slot f).busData = s.busData := (rfl)
@[simp] theorem updCq_free (s : State) (fn : Nat) (slot : Nat) (f : CQ → CQ) :
    (updCq s fn slot f).free = s.free := (rfl)
@[simp] theorem updCq_pending (s : State) (fn : Nat) (slot : Nat) (f : CQ → CQ) :
    (updCq s fn slot f).pending = s.pending := (rfl)
@[simp] theorem updCq_rg (s : State) (fn : Nat) (slot : Nat) (f : CQ → CQ) (d : RegD) (i j p : Nat) :
    rg ((updCq s fn slot f)) d i j p = rg (s) d i j p := (rfl)
@[simp] theorem updCq_rf (s : State) (fn : Nat) (slot : Nat) (f : CQ → CQ) (d : RegD) (f' : Nat × Nat) (i j p : Nat) :
    rf ((updCq s fn slot f)) d f' i j p = rf (s) d f' i j p := (rfl)
@[simp] theorem updCq_rb (s : State) (fn : Nat) (slot : Nat) (f : CQ → CQ) (d : RegD) (f' : Nat × Nat) (i j p : Nat) :
    rb ((updCq s fn slot f)) d f' i j p = rb (s) d f' i j p := (rfl)
@[simp] theorem updCq_core (s : State) (fn : Nat) (slot : Nat) (f : CQ → CQ) (k' : Nat) :
    State.core ((updCq s fn slot f)) k' = State.core (s) k' := (rfl)
@[simp] theorem updCq_fn (s : State) (fn : Nat) (slot : Nat) (f : CQ → CQ) (f' : Nat) :
    State.fn ((updCq s fn slot f)) f' = State.fn (s) f' := (rfl)
@[simp] theorem updCq_sq (s : State) (fn : Nat) (slot : Nat) (f : CQ → CQ) (f' k' : Nat) :
    State.sq ((updCq s fn slot f)) f' k' = State.sq (s) f' k' := (rfl)
@[simp] theorem updCq_ctx (s : State) (fn : Nat) (slot : Nat) (f : CQ → CQ) (k' : Nat) :
    State.ctx ((updCq s fn slot f)) k' = State.ctx (s) k' := (rfl)
@[simp] theorem updCq_src (s : State) (fn : Nat) (slot : Nat) (f : CQ → CQ) (k' : Nat) :
    State.src ((updCq s fn slot f)) k' = State.src (s) k' := (rfl)
@[simp] theorem updCq_stack (s : State) (fn : Nat) (slot : Nat) (f : CQ → CQ) (k' : Nat) :
    State.stack ((updCq s fn slot f)) k' = State.stack (s) k' := (rfl)
@[simp] theorem updCq_port (s : State) (fn : Nat) (slot : Nat) (f : CQ → CQ) (k' : Nat) :
    State.port ((updCq s fn slot f)) k' = State.port (s) k' := (rfl)
@[simp] theorem updCq_domState (s : State) (fn : Nat) (slot : Nat) (f : CQ → CQ) (k' : Nat) :
    domState ((updCq s fn slot f)) k' = domState (s) k' := (rfl)
@[simp] theorem updCq_domOn (s : State) (fn : Nat) (slot : Nat) (f : CQ → CQ) (k' : Nat) :
    domOn ((updCq s fn slot f)) k' = domOn (s) k' := (rfl)

/-! `updItem` -/

@[simp] theorem updItem_regs (s : State) (fn : Nat) (slot : Nat) (seq : W32) (f : Item → Item) :
    (updItem s fn slot seq f).regs = s.regs := (rfl)
@[simp] theorem updItem_sched (s : State) (fn : Nat) (slot : Nat) (seq : W32) (f : Item → Item) :
    (updItem s fn slot seq f).sched = s.sched := (rfl)
@[simp] theorem updItem_fns (s : State) (fn : Nat) (slot : Nat) (seq : W32) (f : Item → Item) :
    (updItem s fn slot seq f).fns = s.fns := (rfl)
@[simp] theorem updItem_cqs (s : State) (fn : Nat) (slot : Nat) (seq : W32) (f : Item → Item) :
    (updItem s fn slot seq f).cqs = s.cqs := (rfl)
@[simp] theorem updItem_prog (s : State) (fn : Nat) (slot : Nat) (seq : W32) (f : Item → Item) :
    (updItem s fn slot seq f).prog = s.prog := (rfl)
@[simp] theorem updItem_recov (s : State) (fn : Nat) (slot : Nat) (seq : W32) (f : Item → Item) :
    (updItem s fn slot seq f).recov = s.recov := (rfl)
@[simp] theorem updItem_cores (s : State) (fn : Nat) (slot : Nat) (seq : W32) (f : Item → Item) :
    (updItem s fn slot seq f).cores = s.cores := (rfl)
@[simp] theorem updItem_mem (s : State) (fn : Nat) (slot : Nat) (seq : W32) (f : Item → Item) :
    (updItem s fn slot seq f).mem = s.mem := (rfl)
@[simp] theorem updItem_mail (s : State) (fn : Nat) (slot : Nat) (seq : W32) (f : Item → Item) :
    (updItem s fn slot seq f).mail = s.mail := (rfl)
@[simp] theorem updItem_intc (s : State) (fn : Nat) (slot : Nat) (seq : W32) (f : Item → Item) :
    (updItem s fn slot seq f).intc = s.intc := (rfl)
@[simp] theorem updItem_lant (s : State) (fn : Nat) (slot : Nat) (seq : W32) (f : Item → Item) :
    (updItem s fn slot seq f).lant = s.lant := (rfl)
@[simp] theorem updItem_meter (s : State) (fn : Nat) (slot : Nat) (seq : W32) (f : Item → Item) :
    (updItem s fn slot seq f).meter = s.meter := (rfl)
@[simp] theorem updItem_ports (s : State) (fn : Nat) (slot : Nat) (seq : W32) (f : Item → Item) :
    (updItem s fn slot seq f).ports = s.ports := (rfl)
@[simp] theorem updItem_camp (s : State) (fn : Nat) (slot : Nat) (seq : W32) (f : Item → Item) :
    (updItem s fn slot seq f).camp = s.camp := (rfl)
@[simp] theorem updItem_trust (s : State) (fn : Nat) (slot : Nat) (seq : W32) (f : Item → Item) :
    (updItem s fn slot seq f).trust = s.trust := (rfl)
@[simp] theorem updItem_power (s : State) (fn : Nat) (slot : Nat) (seq : W32) (f : Item → Item) :
    (updItem s fn slot seq f).power = s.power := (rfl)
@[simp] theorem updItem_out (s : State) (fn : Nat) (slot : Nat) (seq : W32) (f : Item → Item) :
    (updItem s fn slot seq f).out = s.out := (rfl)
@[simp] theorem updItem_busData (s : State) (fn : Nat) (slot : Nat) (seq : W32) (f : Item → Item) :
    (updItem s fn slot seq f).busData = s.busData := (rfl)
@[simp] theorem updItem_free (s : State) (fn : Nat) (slot : Nat) (seq : W32) (f : Item → Item) :
    (updItem s fn slot seq f).free = s.free := (rfl)
@[simp] theorem updItem_pending (s : State) (fn : Nat) (slot : Nat) (seq : W32) (f : Item → Item) :
    (updItem s fn slot seq f).pending = s.pending := (rfl)
@[simp] theorem updItem_rg (s : State) (fn : Nat) (slot : Nat) (seq : W32) (f : Item → Item) (d : RegD) (i j p : Nat) :
    rg ((updItem s fn slot seq f)) d i j p = rg (s) d i j p := (rfl)
@[simp] theorem updItem_rf (s : State) (fn : Nat) (slot : Nat) (seq : W32) (f : Item → Item) (d : RegD) (f' : Nat × Nat) (i j p : Nat) :
    rf ((updItem s fn slot seq f)) d f' i j p = rf (s) d f' i j p := (rfl)
@[simp] theorem updItem_rb (s : State) (fn : Nat) (slot : Nat) (seq : W32) (f : Item → Item) (d : RegD) (f' : Nat × Nat) (i j p : Nat) :
    rb ((updItem s fn slot seq f)) d f' i j p = rb (s) d f' i j p := (rfl)
@[simp] theorem updItem_core (s : State) (fn : Nat) (slot : Nat) (seq : W32) (f : Item → Item) (k' : Nat) :
    State.core ((updItem s fn slot seq f)) k' = State.core (s) k' := (rfl)
@[simp] theorem updItem_fn (s : State) (fn : Nat) (slot : Nat) (seq : W32) (f : Item → Item) (f' : Nat) :
    State.fn ((updItem s fn slot seq f)) f' = State.fn (s) f' := (rfl)
@[simp] theorem updItem_cq (s : State) (fn : Nat) (slot : Nat) (seq : W32) (f : Item → Item) (f' k' : Nat) :
    State.cq ((updItem s fn slot seq f)) f' k' = State.cq (s) f' k' := (rfl)
@[simp] theorem updItem_ctx (s : State) (fn : Nat) (slot : Nat) (seq : W32) (f : Item → Item) (k' : Nat) :
    State.ctx ((updItem s fn slot seq f)) k' = State.ctx (s) k' := (rfl)
@[simp] theorem updItem_src (s : State) (fn : Nat) (slot : Nat) (seq : W32) (f : Item → Item) (k' : Nat) :
    State.src ((updItem s fn slot seq f)) k' = State.src (s) k' := (rfl)
@[simp] theorem updItem_stack (s : State) (fn : Nat) (slot : Nat) (seq : W32) (f : Item → Item) (k' : Nat) :
    State.stack ((updItem s fn slot seq f)) k' = State.stack (s) k' := (rfl)
@[simp] theorem updItem_port (s : State) (fn : Nat) (slot : Nat) (seq : W32) (f : Item → Item) (k' : Nat) :
    State.port ((updItem s fn slot seq f)) k' = State.port (s) k' := (rfl)
@[simp] theorem updItem_domState (s : State) (fn : Nat) (slot : Nat) (seq : W32) (f : Item → Item) (k' : Nat) :
    domState ((updItem s fn slot seq f)) k' = domState (s) k' := (rfl)
@[simp] theorem updItem_domOn (s : State) (fn : Nat) (slot : Nat) (seq : W32) (f : Item → Item) (k' : Nat) :
    domOn ((updItem s fn slot seq f)) k' = domOn (s) k' := (rfl)

/-! `stf` -/

@[simp] theorem stf_sched (s : State) (f : Nat × Nat) (v : Nat) :
    (stf s f v).sched = s.sched := (rfl)
@[simp] theorem stf_fns (s : State) (f : Nat × Nat) (v : Nat) :
    (stf s f v).fns = s.fns := (rfl)
@[simp] theorem stf_sqs (s : State) (f : Nat × Nat) (v : Nat) :
    (stf s f v).sqs = s.sqs := (rfl)
@[simp] theorem stf_cqs (s : State) (f : Nat × Nat) (v : Nat) :
    (stf s f v).cqs = s.cqs := (rfl)
@[simp] theorem stf_prog (s : State) (f : Nat × Nat) (v : Nat) :
    (stf s f v).prog = s.prog := (rfl)
@[simp] theorem stf_recov (s : State) (f : Nat × Nat) (v : Nat) :
    (stf s f v).recov = s.recov := (rfl)
@[simp] theorem stf_cores (s : State) (f : Nat × Nat) (v : Nat) :
    (stf s f v).cores = s.cores := (rfl)
@[simp] theorem stf_mem (s : State) (f : Nat × Nat) (v : Nat) :
    (stf s f v).mem = s.mem := (rfl)
@[simp] theorem stf_mail (s : State) (f : Nat × Nat) (v : Nat) :
    (stf s f v).mail = s.mail := (rfl)
@[simp] theorem stf_intc (s : State) (f : Nat × Nat) (v : Nat) :
    (stf s f v).intc = s.intc := (rfl)
@[simp] theorem stf_lant (s : State) (f : Nat × Nat) (v : Nat) :
    (stf s f v).lant = s.lant := (rfl)
@[simp] theorem stf_meter (s : State) (f : Nat × Nat) (v : Nat) :
    (stf s f v).meter = s.meter := (rfl)
@[simp] theorem stf_ports (s : State) (f : Nat × Nat) (v : Nat) :
    (stf s f v).ports = s.ports := (rfl)
@[simp] theorem stf_camp (s : State) (f : Nat × Nat) (v : Nat) :
    (stf s f v).camp = s.camp := (rfl)
@[simp] theorem stf_trust (s : State) (f : Nat × Nat) (v : Nat) :
    (stf s f v).trust = s.trust := (rfl)
@[simp] theorem stf_power (s : State) (f : Nat × Nat) (v : Nat) :
    (stf s f v).power = s.power := (rfl)
@[simp] theorem stf_out (s : State) (f : Nat × Nat) (v : Nat) :
    (stf s f v).out = s.out := (rfl)
@[simp] theorem stf_busData (s : State) (f : Nat × Nat) (v : Nat) :
    (stf s f v).busData = s.busData := (rfl)
@[simp] theorem stf_free (s : State) (f : Nat × Nat) (v : Nat) :
    (stf s f v).free = s.free := (rfl)
@[simp] theorem stf_pending (s : State) (f : Nat × Nat) (v : Nat) :
    (stf s f v).pending = s.pending := (rfl)
@[simp] theorem stf_core (s : State) (f : Nat × Nat) (v : Nat) (k' : Nat) :
    State.core ((stf s f v)) k' = State.core (s) k' := (rfl)
@[simp] theorem stf_fn (s : State) (f : Nat × Nat) (v : Nat) (f' : Nat) :
    State.fn ((stf s f v)) f' = State.fn (s) f' := (rfl)
@[simp] theorem stf_sq (s : State) (f : Nat × Nat) (v : Nat) (f' k' : Nat) :
    State.sq ((stf s f v)) f' k' = State.sq (s) f' k' := (rfl)
@[simp] theorem stf_cq (s : State) (f : Nat × Nat) (v : Nat) (f' k' : Nat) :
    State.cq ((stf s f v)) f' k' = State.cq (s) f' k' := (rfl)
@[simp] theorem stf_ctx (s : State) (f : Nat × Nat) (v : Nat) (k' : Nat) :
    State.ctx ((stf s f v)) k' = State.ctx (s) k' := (rfl)
@[simp] theorem stf_src (s : State) (f : Nat × Nat) (v : Nat) (k' : Nat) :
    State.src ((stf s f v)) k' = State.src (s) k' := (rfl)
@[simp] theorem stf_stack (s : State) (f : Nat × Nat) (v : Nat) (k' : Nat) :
    State.stack ((stf s f v)) k' = State.stack (s) k' := (rfl)
@[simp] theorem stf_port (s : State) (f : Nat × Nat) (v : Nat) (k' : Nat) :
    State.port ((stf s f v)) k' = State.port (s) k' := (rfl)
@[simp] theorem stf_domState (s : State) (f : Nat × Nat) (v : Nat) (k' : Nat) :
    domState ((stf s f v)) k' = domState (s) k' := (rfl)
@[simp] theorem stf_domOn (s : State) (f : Nat × Nat) (v : Nat) (k' : Nat) :
    domOn ((stf s f v)) k' = domOn (s) k' := (rfl)

/-! `State.setMbox` -/

@[simp] theorem setMbox_regs (s : State) (t : Bool) (n : Nat) (b : Mbox) :
    (State.setMbox s t n b).regs = s.regs := by cases t <;> rfl
@[simp] theorem setMbox_sched (s : State) (t : Bool) (n : Nat) (b : Mbox) :
    (State.setMbox s t n b).sched = s.sched := by cases t <;> rfl
@[simp] theorem setMbox_fns (s : State) (t : Bool) (n : Nat) (b : Mbox) :
    (State.setMbox s t n b).fns = s.fns := by cases t <;> rfl
@[simp] theorem setMbox_sqs (s : State) (t : Bool) (n : Nat) (b : Mbox) :
    (State.setMbox s t n b).sqs = s.sqs := by cases t <;> rfl
@[simp] theorem setMbox_cqs (s : State) (t : Bool) (n : Nat) (b : Mbox) :
    (State.setMbox s t n b).cqs = s.cqs := by cases t <;> rfl
@[simp] theorem setMbox_prog (s : State) (t : Bool) (n : Nat) (b : Mbox) :
    (State.setMbox s t n b).prog = s.prog := by cases t <;> rfl
@[simp] theorem setMbox_recov (s : State) (t : Bool) (n : Nat) (b : Mbox) :
    (State.setMbox s t n b).recov = s.recov := by cases t <;> rfl
@[simp] theorem setMbox_cores (s : State) (t : Bool) (n : Nat) (b : Mbox) :
    (State.setMbox s t n b).cores = s.cores := by cases t <;> rfl
@[simp] theorem setMbox_mem (s : State) (t : Bool) (n : Nat) (b : Mbox) :
    (State.setMbox s t n b).mem = s.mem := by cases t <;> rfl
@[simp] theorem setMbox_intc (s : State) (t : Bool) (n : Nat) (b : Mbox) :
    (State.setMbox s t n b).intc = s.intc := by cases t <;> rfl
@[simp] theorem setMbox_lant (s : State) (t : Bool) (n : Nat) (b : Mbox) :
    (State.setMbox s t n b).lant = s.lant := by cases t <;> rfl
@[simp] theorem setMbox_meter (s : State) (t : Bool) (n : Nat) (b : Mbox) :
    (State.setMbox s t n b).meter = s.meter := by cases t <;> rfl
@[simp] theorem setMbox_ports (s : State) (t : Bool) (n : Nat) (b : Mbox) :
    (State.setMbox s t n b).ports = s.ports := by cases t <;> rfl
@[simp] theorem setMbox_camp (s : State) (t : Bool) (n : Nat) (b : Mbox) :
    (State.setMbox s t n b).camp = s.camp := by cases t <;> rfl
@[simp] theorem setMbox_trust (s : State) (t : Bool) (n : Nat) (b : Mbox) :
    (State.setMbox s t n b).trust = s.trust := by cases t <;> rfl
@[simp] theorem setMbox_power (s : State) (t : Bool) (n : Nat) (b : Mbox) :
    (State.setMbox s t n b).power = s.power := by cases t <;> rfl
@[simp] theorem setMbox_out (s : State) (t : Bool) (n : Nat) (b : Mbox) :
    (State.setMbox s t n b).out = s.out := by cases t <;> rfl
@[simp] theorem setMbox_busData (s : State) (t : Bool) (n : Nat) (b : Mbox) :
    (State.setMbox s t n b).busData = s.busData := by cases t <;> rfl
@[simp] theorem setMbox_free (s : State) (t : Bool) (n : Nat) (b : Mbox) :
    (State.setMbox s t n b).free = s.free := by cases t <;> rfl
@[simp] theorem setMbox_pending (s : State) (t : Bool) (n : Nat) (b : Mbox) :
    (State.setMbox s t n b).pending = s.pending := by cases t <;> rfl
@[simp] theorem setMbox_rg (s : State) (t : Bool) (n : Nat) (b : Mbox) (d : RegD) (i j p : Nat) :
    rg ((State.setMbox s t n b)) d i j p = rg (s) d i j p := by cases t <;> rfl
@[simp] theorem setMbox_rf (s : State) (t : Bool) (n : Nat) (b : Mbox) (d : RegD) (f : Nat × Nat) (i j p : Nat) :
    rf ((State.setMbox s t n b)) d f i j p = rf (s) d f i j p := by cases t <;> rfl
@[simp] theorem setMbox_rb (s : State) (t : Bool) (n : Nat) (b : Mbox) (d : RegD) (f : Nat × Nat) (i j p : Nat) :
    rb ((State.setMbox s t n b)) d f i j p = rb (s) d f i j p := by cases t <;> rfl
@[simp] theorem setMbox_core (s : State) (t : Bool) (n : Nat) (b : Mbox) (k' : Nat) :
    State.core ((State.setMbox s t n b)) k' = State.core (s) k' := by cases t <;> rfl
@[simp] theorem setMbox_fn (s : State) (t : Bool) (n : Nat) (b : Mbox) (f' : Nat) :
    State.fn ((State.setMbox s t n b)) f' = State.fn (s) f' := by cases t <;> rfl
@[simp] theorem setMbox_sq (s : State) (t : Bool) (n : Nat) (b : Mbox) (f' k' : Nat) :
    State.sq ((State.setMbox s t n b)) f' k' = State.sq (s) f' k' := by cases t <;> rfl
@[simp] theorem setMbox_cq (s : State) (t : Bool) (n : Nat) (b : Mbox) (f' k' : Nat) :
    State.cq ((State.setMbox s t n b)) f' k' = State.cq (s) f' k' := by cases t <;> rfl
@[simp] theorem setMbox_ctx (s : State) (t : Bool) (n : Nat) (b : Mbox) (k' : Nat) :
    State.ctx ((State.setMbox s t n b)) k' = State.ctx (s) k' := by cases t <;> rfl
@[simp] theorem setMbox_src (s : State) (t : Bool) (n : Nat) (b : Mbox) (k' : Nat) :
    State.src ((State.setMbox s t n b)) k' = State.src (s) k' := by cases t <;> rfl
@[simp] theorem setMbox_stack (s : State) (t : Bool) (n : Nat) (b : Mbox) (k' : Nat) :
    State.stack ((State.setMbox s t n b)) k' = State.stack (s) k' := by cases t <;> rfl
@[simp] theorem setMbox_port (s : State) (t : Bool) (n : Nat) (b : Mbox) (k' : Nat) :
    State.port ((State.setMbox s t n b)) k' = State.port (s) k' := by cases t <;> rfl
@[simp] theorem setMbox_domState (s : State) (t : Bool) (n : Nat) (b : Mbox) (k' : Nat) :
    domState ((State.setMbox s t n b)) k' = domState (s) k' := by cases t <;> rfl
@[simp] theorem setMbox_domOn (s : State) (t : Bool) (n : Nat) (b : Mbox) (k' : Nat) :
    domOn ((State.setMbox s t n b)) k' = domOn (s) k' := by cases t <;> rfl

/-! `State.setLane` -/

@[simp] theorem setLane_regs (s : State) (l : Nat) (x : Lane) :
    (State.setLane s l x).regs = s.regs := (rfl)
@[simp] theorem setLane_sched (s : State) (l : Nat) (x : Lane) :
    (State.setLane s l x).sched = s.sched := (rfl)
@[simp] theorem setLane_fns (s : State) (l : Nat) (x : Lane) :
    (State.setLane s l x).fns = s.fns := (rfl)
@[simp] theorem setLane_sqs (s : State) (l : Nat) (x : Lane) :
    (State.setLane s l x).sqs = s.sqs := (rfl)
@[simp] theorem setLane_cqs (s : State) (l : Nat) (x : Lane) :
    (State.setLane s l x).cqs = s.cqs := (rfl)
@[simp] theorem setLane_prog (s : State) (l : Nat) (x : Lane) :
    (State.setLane s l x).prog = s.prog := (rfl)
@[simp] theorem setLane_recov (s : State) (l : Nat) (x : Lane) :
    (State.setLane s l x).recov = s.recov := (rfl)
@[simp] theorem setLane_cores (s : State) (l : Nat) (x : Lane) :
    (State.setLane s l x).cores = s.cores := (rfl)
@[simp] theorem setLane_mem (s : State) (l : Nat) (x : Lane) :
    (State.setLane s l x).mem = s.mem := (rfl)
@[simp] theorem setLane_mail (s : State) (l : Nat) (x : Lane) :
    (State.setLane s l x).mail = s.mail := (rfl)
@[simp] theorem setLane_intc (s : State) (l : Nat) (x : Lane) :
    (State.setLane s l x).intc = s.intc := (rfl)
@[simp] theorem setLane_lant (s : State) (l : Nat) (x : Lane) :
    (State.setLane s l x).lant = s.lant := (rfl)
@[simp] theorem setLane_meter (s : State) (l : Nat) (x : Lane) :
    (State.setLane s l x).meter = s.meter := (rfl)
@[simp] theorem setLane_camp (s : State) (l : Nat) (x : Lane) :
    (State.setLane s l x).camp = s.camp := (rfl)
@[simp] theorem setLane_trust (s : State) (l : Nat) (x : Lane) :
    (State.setLane s l x).trust = s.trust := (rfl)
@[simp] theorem setLane_power (s : State) (l : Nat) (x : Lane) :
    (State.setLane s l x).power = s.power := (rfl)
@[simp] theorem setLane_out (s : State) (l : Nat) (x : Lane) :
    (State.setLane s l x).out = s.out := (rfl)
@[simp] theorem setLane_busData (s : State) (l : Nat) (x : Lane) :
    (State.setLane s l x).busData = s.busData := (rfl)
@[simp] theorem setLane_free (s : State) (l : Nat) (x : Lane) :
    (State.setLane s l x).free = s.free := (rfl)
@[simp] theorem setLane_pending (s : State) (l : Nat) (x : Lane) :
    (State.setLane s l x).pending = s.pending := (rfl)
@[simp] theorem setLane_rg (s : State) (l : Nat) (x : Lane) (d : RegD) (i j p : Nat) :
    rg ((State.setLane s l x)) d i j p = rg (s) d i j p := (rfl)
@[simp] theorem setLane_rf (s : State) (l : Nat) (x : Lane) (d : RegD) (f : Nat × Nat) (i j p : Nat) :
    rf ((State.setLane s l x)) d f i j p = rf (s) d f i j p := (rfl)
@[simp] theorem setLane_rb (s : State) (l : Nat) (x : Lane) (d : RegD) (f : Nat × Nat) (i j p : Nat) :
    rb ((State.setLane s l x)) d f i j p = rb (s) d f i j p := (rfl)
@[simp] theorem setLane_core (s : State) (l : Nat) (x : Lane) (k' : Nat) :
    State.core ((State.setLane s l x)) k' = State.core (s) k' := (rfl)
@[simp] theorem setLane_fn (s : State) (l : Nat) (x : Lane) (f' : Nat) :
    State.fn ((State.setLane s l x)) f' = State.fn (s) f' := (rfl)
@[simp] theorem setLane_sq (s : State) (l : Nat) (x : Lane) (f' k' : Nat) :
    State.sq ((State.setLane s l x)) f' k' = State.sq (s) f' k' := (rfl)
@[simp] theorem setLane_cq (s : State) (l : Nat) (x : Lane) (f' k' : Nat) :
    State.cq ((State.setLane s l x)) f' k' = State.cq (s) f' k' := (rfl)
@[simp] theorem setLane_ctx (s : State) (l : Nat) (x : Lane) (k' : Nat) :
    State.ctx ((State.setLane s l x)) k' = State.ctx (s) k' := (rfl)
@[simp] theorem setLane_src (s : State) (l : Nat) (x : Lane) (k' : Nat) :
    State.src ((State.setLane s l x)) k' = State.src (s) k' := (rfl)
@[simp] theorem setLane_stack (s : State) (l : Nat) (x : Lane) (k' : Nat) :
    State.stack ((State.setLane s l x)) k' = State.stack (s) k' := (rfl)
@[simp] theorem setLane_domState (s : State) (l : Nat) (x : Lane) (k' : Nat) :
    domState ((State.setLane s l x)) k' = domState (s) k' := (rfl)
@[simp] theorem setLane_domOn (s : State) (l : Nat) (x : Lane) (k' : Nat) :
    domOn ((State.setLane s l x)) k' = domOn (s) k' := (rfl)

/-! `State.setFieldPort` -/

@[simp] theorem setFieldPort_regs (s : State) (q : Nat) (f : Field) :
    (State.setFieldPort s q f).regs = s.regs := (rfl)
@[simp] theorem setFieldPort_sched (s : State) (q : Nat) (f : Field) :
    (State.setFieldPort s q f).sched = s.sched := (rfl)
@[simp] theorem setFieldPort_fns (s : State) (q : Nat) (f : Field) :
    (State.setFieldPort s q f).fns = s.fns := (rfl)
@[simp] theorem setFieldPort_sqs (s : State) (q : Nat) (f : Field) :
    (State.setFieldPort s q f).sqs = s.sqs := (rfl)
@[simp] theorem setFieldPort_cqs (s : State) (q : Nat) (f : Field) :
    (State.setFieldPort s q f).cqs = s.cqs := (rfl)
@[simp] theorem setFieldPort_prog (s : State) (q : Nat) (f : Field) :
    (State.setFieldPort s q f).prog = s.prog := (rfl)
@[simp] theorem setFieldPort_recov (s : State) (q : Nat) (f : Field) :
    (State.setFieldPort s q f).recov = s.recov := (rfl)
@[simp] theorem setFieldPort_cores (s : State) (q : Nat) (f : Field) :
    (State.setFieldPort s q f).cores = s.cores := (rfl)
@[simp] theorem setFieldPort_mem (s : State) (q : Nat) (f : Field) :
    (State.setFieldPort s q f).mem = s.mem := (rfl)
@[simp] theorem setFieldPort_mail (s : State) (q : Nat) (f : Field) :
    (State.setFieldPort s q f).mail = s.mail := (rfl)
@[simp] theorem setFieldPort_intc (s : State) (q : Nat) (f : Field) :
    (State.setFieldPort s q f).intc = s.intc := (rfl)
@[simp] theorem setFieldPort_lant (s : State) (q : Nat) (f : Field) :
    (State.setFieldPort s q f).lant = s.lant := (rfl)
@[simp] theorem setFieldPort_meter (s : State) (q : Nat) (f : Field) :
    (State.setFieldPort s q f).meter = s.meter := (rfl)
@[simp] theorem setFieldPort_camp (s : State) (q : Nat) (f : Field) :
    (State.setFieldPort s q f).camp = s.camp := (rfl)
@[simp] theorem setFieldPort_trust (s : State) (q : Nat) (f : Field) :
    (State.setFieldPort s q f).trust = s.trust := (rfl)
@[simp] theorem setFieldPort_power (s : State) (q : Nat) (f : Field) :
    (State.setFieldPort s q f).power = s.power := (rfl)
@[simp] theorem setFieldPort_out (s : State) (q : Nat) (f : Field) :
    (State.setFieldPort s q f).out = s.out := (rfl)
@[simp] theorem setFieldPort_busData (s : State) (q : Nat) (f : Field) :
    (State.setFieldPort s q f).busData = s.busData := (rfl)
@[simp] theorem setFieldPort_free (s : State) (q : Nat) (f : Field) :
    (State.setFieldPort s q f).free = s.free := (rfl)
@[simp] theorem setFieldPort_pending (s : State) (q : Nat) (f : Field) :
    (State.setFieldPort s q f).pending = s.pending := (rfl)
@[simp] theorem setFieldPort_rg (s : State) (q : Nat) (f : Field) (d : RegD) (i j p : Nat) :
    rg ((State.setFieldPort s q f)) d i j p = rg (s) d i j p := (rfl)
@[simp] theorem setFieldPort_rf (s : State) (q : Nat) (f : Field) (d : RegD) (f' : Nat × Nat) (i j p : Nat) :
    rf ((State.setFieldPort s q f)) d f' i j p = rf (s) d f' i j p := (rfl)
@[simp] theorem setFieldPort_rb (s : State) (q : Nat) (f : Field) (d : RegD) (f' : Nat × Nat) (i j p : Nat) :
    rb ((State.setFieldPort s q f)) d f' i j p = rb (s) d f' i j p := (rfl)
@[simp] theorem setFieldPort_core (s : State) (q : Nat) (f : Field) (k' : Nat) :
    State.core ((State.setFieldPort s q f)) k' = State.core (s) k' := (rfl)
@[simp] theorem setFieldPort_fn (s : State) (q : Nat) (f : Field) (f' : Nat) :
    State.fn ((State.setFieldPort s q f)) f' = State.fn (s) f' := (rfl)
@[simp] theorem setFieldPort_sq (s : State) (q : Nat) (f : Field) (f' k' : Nat) :
    State.sq ((State.setFieldPort s q f)) f' k' = State.sq (s) f' k' := (rfl)
@[simp] theorem setFieldPort_cq (s : State) (q : Nat) (f : Field) (f' k' : Nat) :
    State.cq ((State.setFieldPort s q f)) f' k' = State.cq (s) f' k' := (rfl)
@[simp] theorem setFieldPort_ctx (s : State) (q : Nat) (f : Field) (k' : Nat) :
    State.ctx ((State.setFieldPort s q f)) k' = State.ctx (s) k' := (rfl)
@[simp] theorem setFieldPort_src (s : State) (q : Nat) (f : Field) (k' : Nat) :
    State.src ((State.setFieldPort s q f)) k' = State.src (s) k' := (rfl)
@[simp] theorem setFieldPort_stack (s : State) (q : Nat) (f : Field) (k' : Nat) :
    State.stack ((State.setFieldPort s q f)) k' = State.stack (s) k' := (rfl)
@[simp] theorem setFieldPort_domState (s : State) (q : Nat) (f : Field) (k' : Nat) :
    domState ((State.setFieldPort s q f)) k' = domState (s) k' := (rfl)
@[simp] theorem setFieldPort_domOn (s : State) (q : Nat) (f : Field) (k' : Nat) :
    domOn ((State.setFieldPort s q f)) k' = domOn (s) k' := (rfl)

/-! Read after write -/

@[simp] theorem core_setCore (s : State) (k : Nat) (c : Core) : (s.setCore k c).core k = c := Tbl.get_set_self ..
theorem core_setCore_ne (s : State) {k j : Nat} (c : Core) (h : j ≠ k) : (s.setCore k c).core j = s.core j := Tbl.get_set_ne _ _ _ h
@[simp] theorem fn_setFn (s : State) (f : Nat) (x : Fn) : (s.setFn f x).fn f = x := Tbl.get_set_self ..
theorem fn_setFn_ne (s : State) {f g : Nat} (x : Fn) (h : g ≠ f) : (s.setFn f x).fn g = s.fn g := Tbl.get_set_ne _ _ _ h
@[simp] theorem sq_setSq (s : State) (f n : Nat) (q : SQ) : (s.setSq f n q).sq f n = q := Tbl.get_set_self ..
@[simp] theorem cq_setCq (s : State) (f n : Nat) (q : CQ) : (s.setCq f n q).cq f n = q := Tbl.get_set_self ..
@[simp] theorem ctx_setCtx (s : State) (c : Nat) (x : Ctx) : (s.setCtx c x).ctx c = x := Tbl.get_set_self ..
theorem ctx_setCtx_ne (s : State) {c d : Nat} (x : Ctx) (h : d ≠ c) : (s.setCtx c x).ctx d = s.ctx d := Tbl.get_set_ne _ _ _ h
@[simp] theorem src_setSrc (s : State) (n : Nat) (x : Src) : (s.setSrc n x).src n = x := Tbl.get_set_self ..
theorem src_setSrc_ne (s : State) {n m : Nat} (x : Src) (h : m ≠ n) : (s.setSrc n x).src m = s.src m := Tbl.get_set_ne _ _ _ h
@[simp] theorem stack_setStack (s : State) (k : Nat) (l : List (Nat × Nat × Bool)) : (s.setStack k l).stack k = l :=
  Tbl.get_set_self ..
@[simp] theorem port_setPort (s : State) (p : Nat) (x : Port) : (s.setPort p x).port p = x := Tbl.get_set_self ..

/-- A register reads what was last written to it, cut to its width. -/
theorem rg_wr (s : State) (d : RegD) (v i j p : Nat) (h : d.width ≤ 64) : rg (wr s d v i j p) d i j p = v % 2 ^ d.width := by
  unfold rg wr
  rw [Tbl.get_set_self, BitVec.toNat_ofNat]
  exact Nat.mod_eq_of_lt (Nat.lt_of_lt_of_le (Nat.mod_lt _ (Nat.two_pow_pos _)) (Nat.pow_le_pow_right (by decide) h))

/-- A write to another key leaves a register alone. -/
theorem rg_wr_ne (s : State) (d e : RegD) (v i j p i' j' p' : Nat) (h : regKey e i' j' p' ≠ regKey d i j p) :
    rg (wr s d v i j p) e i' j' p' = rg s e i' j' p' := by
  unfold rg wr
  rw [Tbl.get_set_default _ _ _ _ h]

end Sys2Proof.Machine
end

