-- ==== Sys2Proof/Laws/Fields.lean ====
section
/-! SUPPORT. What a read of a register field gives after a write of a field (00 R8-R13). -/
namespace Sys2Proof.Machine

/-- Bits of a number after a field is given a value. -/
theorem testBit_fset (v x hi lo i : Nat) (h : lo ≤ hi) :
    (fset v (hi, lo) x).testBit i = if i < lo then v.testBit i else if i ≤ hi then x.testBit (i - lo) else v.testBit i := by
  unfold fset fwidth
  simp only
  have e : hi + 1 = lo + (hi + 1 - lo) := by omega
  have h1 : v % 2 ^ lo + x % 2 ^ (hi + 1 - lo) * 2 ^ lo + v / 2 ^ (hi + 1) * 2 ^ (hi + 1)
      = 2 ^ (hi + 1) * (v / 2 ^ (hi + 1)) + (2 ^ lo * (x % 2 ^ (hi + 1 - lo)) + v % 2 ^ lo) := by
    rw [Nat.mul_comm (2 ^ lo), Nat.mul_comm (2 ^ (hi + 1))]; omega
  have hv : v % 2 ^ lo < 2 ^ lo := Nat.mod_lt _ (Nat.two_pow_pos _)
  have hx : x % 2 ^ (hi + 1 - lo) < 2 ^ (hi + 1 - lo) := Nat.mod_lt _ (Nat.two_pow_pos _)
  have h2 : 2 ^ lo * (x % 2 ^ (hi + 1 - lo)) + v % 2 ^ lo < 2 ^ (hi + 1) := by
    rw [show (2 : Nat) ^ (hi + 1) = 2 ^ lo * 2 ^ (hi + 1 - lo) by rw [← Nat.pow_add, ← e]]
    calc 2 ^ lo * (x % 2 ^ (hi + 1 - lo)) + v % 2 ^ lo < 2 ^ lo * (x % 2 ^ (hi + 1 - lo)) + 2 ^ lo := by omega
      _ = 2 ^ lo * (x % 2 ^ (hi + 1 - lo) + 1) := by rw [Nat.mul_add, Nat.mul_one]
      _ ≤ 2 ^ lo * 2 ^ (hi + 1 - lo) := Nat.mul_le_mul_left _ hx
  rw [h1, Nat.testBit_two_pow_mul_add _ h2, Nat.testBit_two_pow_mul_add _ hv]
  simp only [Nat.testBit_div_two_pow, Nat.testBit_mod_two_pow]
  by_cases a : i < lo
  · simp [a, show i < hi + 1 by omega]
  · by_cases b : i ≤ hi
    · simp [a, b, show i < hi + 1 by omega, show i - lo < hi + 1 - lo by omega]
    · simp [a, b, show ¬ i < hi + 1 by omega, show i - (hi + 1) + (hi + 1) = i by omega]

theorem testBit_fget (v hi lo i : Nat) : (fget v (hi, lo)).testBit i = (decide (i < hi + 1 - lo) && v.testBit (i + lo)) := by
  unfold fget fwidth
  simp only [Nat.testBit_mod_two_pow, Nat.testBit_div_two_pow, Nat.add_comm]

/-- A field reads back what was put there. -/
theorem fget_fset (v x hi lo : Nat) (h : lo ≤ hi) : fget (fset v (hi, lo) x) (hi, lo) = x % 2 ^ (hi + 1 - lo) := by
  apply Nat.eq_of_testBit_eq
  intro i
  rw [testBit_fget, testBit_fset _ _ _ _ _ h, Nat.testBit_mod_two_pow]
  by_cases a : i < hi + 1 - lo
  · simp [a, show ¬ i + lo < lo by omega, show i + lo ≤ hi by omega]
  · simp [a]

/-- Other fields stay. -/
theorem fget_fset_ne (v x hi lo hi' lo' : Nat) (h : lo ≤ hi) (d : hi' < lo ∨ hi < lo') :
    fget (fset v (hi, lo) x) (hi', lo') = fget v (hi', lo') := by
  apply Nat.eq_of_testBit_eq
  intro i
  rw [testBit_fget, testBit_fget, testBit_fset _ _ _ _ _ h]
  by_cases a : i < hi' + 1 - lo'
  · rcases d with d | d
    · simp [a, show i + lo' < lo by omega]
    · simp [a, show ¬ i + lo' < lo by omega, show ¬ i + lo' ≤ hi by omega]
  · simp [a]

theorem fget_mod (v w hi lo : Nat) (h : hi < w) : fget (v % 2 ^ w) (hi, lo) = fget v (hi, lo) := by
  apply Nat.eq_of_testBit_eq
  intro i
  rw [testBit_fget, testBit_fget, Nat.testBit_mod_two_pow]
  by_cases a : i < hi + 1 - lo
  · simp [a, show i + lo < w by omega]
  · simp [a]

/-- A field of a register reads back what was put there; `h` holds by `decide` for every field of the spec. -/
theorem rf_wf (s : State) (d : RegD) (f : Nat × Nat) (x i j p : Nat) (h : f.2 ≤ f.1 ∧ f.1 < d.width ∧ d.width ≤ 64) :
    rf (wf s d f x i j p) d f i j p = x % 2 ^ (f.1 + 1 - f.2) := by
  obtain ⟨hi, lo⟩ := f
  unfold rf wf
  rw [rg_wr _ _ _ _ _ _ h.2.2, fget_mod _ _ _ _ h.2.1, fget_fset _ _ _ _ h.1]

theorem rf_wf_field (s : State) (d : RegD) (f g : Nat × Nat) (x i j p : Nat)
    (h : f.2 ≤ f.1 ∧ f.1 < d.width ∧ g.1 < d.width ∧ d.width ≤ 64 ∧ (g.1 < f.2 ∨ f.1 < g.2)) :
    rf (wf s d f x i j p) d g i j p = rf s d g i j p := by
  obtain ⟨hi, lo⟩ := f
  obtain ⟨hi', lo'⟩ := g
  unfold rf wf
  rw [rg_wr _ _ _ _ _ _ h.2.2.2.1, fget_mod _ _ _ _ h.2.2.1, fget_fset_ne _ _ _ _ _ _ h.1 h.2.2.2.2]

theorem rg_wf_ne (s : State) (d e : RegD) (f : Nat × Nat) (x i j p i' j' p' : Nat) (h : regKey e i' j' p' ≠ regKey d i j p) :
    rg (wf s d f x i j p) e i' j' p' = rg s e i' j' p' := rg_wr_ne _ _ _ _ _ _ _ _ _ _ h

theorem rf_wf_ne (s : State) (d e : RegD) (f g : Nat × Nat) (x i j p i' j' p' : Nat) (h : regKey e i' j' p' ≠ regKey d i j p) :
    rf (wf s d f x i j p) e g i' j' p' = rf s e g i' j' p' := by
  unfold rf; rw [rg_wf_ne _ _ _ _ _ _ _ _ _ _ _ h]

theorem rf_wr_ne (s : State) (d e : RegD) (v : Nat) (g : Nat × Nat) (i j p i' j' p' : Nat) (h : regKey e i' j' p' ≠ regKey d i j p) :
    rf (wr s d v i j p) e g i' j' p' = rf s e g i' j' p' := by
  unfold rf; rw [rg_wr_ne _ _ _ _ _ _ _ _ _ _ h]

end Sys2Proof.Machine
end

