-- ==== Sys2Proof/Laws/Frames.lean ====
section
/-! SUPPORT. Frames: what each operation of the machine leaves alone, one lemma for each function on states. `erase L` forgets the parts
of the state that `L` marks; a function that changes only marked parts keeps `erase L`. -/
namespace Sys2Proof.Machine
set_option Elab.async false

/-- Forget the parts of a state that `L` marks. -/
def erase (L : Part → Bool) (s : State) : State :=
  {
    regs := if L .regs then [] else s.regs,
    sched := if L .sched then Sched.reset else s.sched,
    fns := if L .fns then [] else s.fns,
    sqs := if L .sqs then [] else s.sqs,
    cqs := if L .cqs then [] else s.cqs,
    prog := if L .prog then Prog.reset else s.prog,
    recov := if L .recov then Recov.reset else s.recov,
    cores := if L .cores then [] else s.cores,
    mem := if L .mem then Mem.reset else s.mem,
    mail := if L .mail then Mail.reset else s.mail,
    intc := if L .intc then Intc.reset else s.intc,
    lant := if L .lant then Lantern.reset else s.lant,
    meter := if L .meter then Meter.reset else s.meter,
    ports := if L .ports then Ports.reset else s.ports,
    camp := if L .camp then Camp.reset else s.camp,
    trust := if L .trust then Trust.reset else s.trust,
    power := if L .power then Power.reset else s.power,
    out := if L .out then [] else s.out,
    busData := if L .busData then 0 else s.busData,
    free := if L .free then 0 else s.free,
    pending := if L .pending then [] else s.pending }

theorem erase_foldl {α : Type} {L : Part → Bool} {f : State → α → State} (h : ∀ s a, erase L (f s a) = erase L s) (l : List α)
    (s : State) : erase L (l.foldl f s) = erase L s := by
  induction l generalizing s with
  | nil => rfl
  | cons a l ih => rw [List.foldl_cons, ih, h]

theorem erase_regs {L : Part → Bool} (h : L .regs = true) (u : State) (x) : erase L { u with regs := x } = erase L u := by
  simp [erase, h]

theorem erase_sched {L : Part → Bool} (h : L .sched = true) (u : State) (x) : erase L { u with sched := x } = erase L u := by
  simp [erase, h]

theorem erase_fns {L : Part → Bool} (h : L .fns = true) (u : State) (x) : erase L { u with fns := x } = erase L u := by
  simp [erase, h]

theorem erase_sqs {L : Part → Bool} (h : L .sqs = true) (u : State) (x) : erase L { u with sqs := x } = erase L u := by
  simp [erase, h]

theorem erase_cqs {L : Part → Bool} (h : L .cqs = true) (u : State) (x) : erase L { u with cqs := x } = erase L u := by
  simp [erase, h]

theorem erase_prog {L : Part → Bool} (h : L .prog = true) (u : State) (x) : erase L { u with prog := x } = erase L u := by
  simp [erase, h]

theorem erase_recov {L : Part → Bool} (h : L .recov = true) (u : State) (x) : erase L { u with recov := x } = erase L u := by
  simp [erase, h]

theorem erase_cores {L : Part → Bool} (h : L .cores = true) (u : State) (x) : erase L { u with cores := x } = erase L u := by
  simp [erase, h]

theorem erase_mem {L : Part → Bool} (h : L .mem = true) (u : State) (x) : erase L { u with mem := x } = erase L u := by
  simp [erase, h]

theorem erase_mail {L : Part → Bool} (h : L .mail = true) (u : State) (x) : erase L { u with mail := x } = erase L u := by
  simp [erase, h]

theorem erase_intc {L : Part → Bool} (h : L .intc = true) (u : State) (x) : erase L { u with intc := x } = erase L u := by
  simp [erase, h]

theorem erase_lant {L : Part → Bool} (h : L .lant = true) (u : State) (x) : erase L { u with lant := x } = erase L u := by
  simp [erase, h]

theorem erase_meter {L : Part → Bool} (h : L .meter = true) (u : State) (x) : erase L { u with meter := x } = erase L u := by
  simp [erase, h]

theorem erase_ports {L : Part → Bool} (h : L .ports = true) (u : State) (x) : erase L { u with ports := x } = erase L u := by
  simp [erase, h]

theorem erase_camp {L : Part → Bool} (h : L .camp = true) (u : State) (x) : erase L { u with camp := x } = erase L u := by
  simp [erase, h]

theorem erase_trust {L : Part → Bool} (h : L .trust = true) (u : State) (x) : erase L { u with trust := x } = erase L u := by
  simp [erase, h]

theorem erase_power {L : Part → Bool} (h : L .power = true) (u : State) (x) : erase L { u with power := x } = erase L u := by
  simp [erase, h]

theorem erase_out {L : Part → Bool} (h : L .out = true) (u : State) (x) : erase L { u with out := x } = erase L u := by
  simp [erase, h]

theorem erase_busData {L : Part → Bool} (h : L .busData = true) (u : State) (x) : erase L { u with busData := x } = erase L u := by
  simp [erase, h]

theorem erase_free {L : Part → Bool} (h : L .free = true) (u : State) (x) : erase L { u with free := x } = erase L u := by
  simp [erase, h]

theorem erase_pending {L : Part → Bool} (h : L .pending = true) (u : State) (x) : erase L { u with pending := x } = erase L u := by
  simp [erase, h]

theorem erase_prog_trust {L : Part → Bool} (h_prog : L .prog = true) (h_trust : L .trust = true) (u : State) (x_prog x_trust) : erase L { u with prog := x_prog, trust := x_trust } = erase L u := by
  simp [erase, h_prog, h_trust]

theorem erase_trust_free {L : Part → Bool} (h_trust : L .trust = true) (h_free : L .free = true) (u : State) (x_trust x_free) : erase L { u with trust := x_trust, free := x_free } = erase L u := by
  simp [erase, h_trust, h_free]

theorem erase_cond {L : Part → Bool} {c : Prop} [Decidable c] {a b u : State} (ha : erase L a = erase L u) (hb : erase L b = erase L u) :
    erase L (if c then a else b) = erase L u := by split <;> assumption

theorem erase_eq_iff {L : Part → Bool} {s t : State} : erase L t = erase L s ↔ ∀ p, L p = false → same p s t := by
  constructor
  · intro h p hp
    unfold erase at h
    injection h
    cases p <;> simp_all [same]
  · intro h
    have k : ∀ (p : Part) {α : Type} (f : State → α) (d : α), (L p = false → f t = f s) →
        (if L p = true then d else f t) = if L p = true then d else f s := by
      intro p α f d g
      split
      · rfl
      · next hn => exact g (by simpa using hn)
    unfold erase
    rw [k .regs State.regs _ (h .regs), k .sched State.sched _ (h .sched), k .fns State.fns _ (h .fns), k .sqs State.sqs _ (h .sqs), k .cqs State.cqs _ (h .cqs), k .prog State.prog _ (h .prog), k .recov State.recov _ (h .recov),
      k .cores State.cores _ (h .cores), k .mem State.mem _ (h .mem), k .mail State.mail _ (h .mail), k .intc State.intc _ (h .intc), k .lant State.lant _ (h .lant), k .meter State.meter _ (h .meter), k .ports State.ports _ (h .ports),
      k .camp State.camp _ (h .camp), k .trust State.trust _ (h .trust), k .power State.power _ (h .power), k .out State.out _ (h .out), k .busData State.busData _ (h .busData), k .free State.free _ (h .free), k .pending State.pending _ (h .pending)]

theorem erase_of_fst {α : Type} {L : Part → Bool} {p : State × α} {t : State} {r : α} (h : p = (t, r)) : erase L t = erase L p.1 := by
  rw [h]

theorem erase_of_snd {α : Type} {L : Part → Bool} {p : α × State} {t : State} {r : α} (h : p = (r, t)) : erase L t = erase L p.2 := by
  rw [h]

theorem erase_of_snd_snd {α β : Type} {L : Part → Bool} {p : α × β × State} {t : State} {r : α} {q : β} (h : p = (r, q, t)) :
    erase L t = erase L p.2.2 := by rw [h]



theorem keeps_State_sameCycle {L : Part → Bool} (h_pending : L .pending = true) : ∀ cs s, erase L (State.sameCycle cs s) = erase L s := by
  intro cs s
  unfold State.sameCycle
  try dsimp only
  all_goals with_reducible refine (erase_pending h_pending _ _).trans ?_
  all_goals with_reducible rfl

theorem keeps_State_setCore {L : Part → Bool} (h_cores : L .cores = true) : ∀ s k c, erase L (State.setCore s k c) = erase L s := by
  intro s k c
  unfold State.setCore
  try dsimp only
  all_goals with_reducible refine (erase_cores h_cores _ _).trans ?_
  all_goals with_reducible rfl

theorem keeps_State_setCq {L : Part → Bool} (h_cqs : L .cqs = true) : ∀ s fn slot q, erase L (State.setCq s fn slot q) = erase L s := by
  intro s fn slot q
  unfold State.setCq
  try dsimp only
  all_goals with_reducible refine (erase_cqs h_cqs _ _).trans ?_
  all_goals with_reducible rfl

theorem keeps_State_setCtx {L : Part → Bool} (h_prog : L .prog = true) : ∀ s c x, erase L (State.setCtx s c x) = erase L s := by
  intro s c x
  unfold State.setCtx
  try dsimp only
  all_goals with_reducible refine (erase_prog h_prog _ _).trans ?_
  all_goals with_reducible rfl

theorem keeps_State_setFieldPort {L : Part → Bool} (h_ports : L .ports = true) : ∀ s q f, erase L (State.setFieldPort s q f) = erase L s := by
  intro s q f
  unfold State.setFieldPort
  try dsimp only
  all_goals with_reducible refine (erase_ports h_ports _ _).trans ?_
  all_goals with_reducible rfl

theorem keeps_State_setFn {L : Part → Bool} (h_fns : L .fns = true) : ∀ s f x, erase L (State.setFn s f x) = erase L s := by
  intro s f x
  unfold State.setFn
  try dsimp only
  all_goals with_reducible refine (erase_fns h_fns _ _).trans ?_
  all_goals with_reducible rfl

theorem keeps_State_setLane {L : Part → Bool} (h_ports : L .ports = true) : ∀ s l x, erase L (State.setLane s l x) = erase L s := by
  intro s l x
  unfold State.setLane
  try dsimp only
  all_goals with_reducible refine (erase_ports h_ports _ _).trans ?_
  all_goals with_reducible rfl

theorem keeps_State_setMbox {L : Part → Bool} (h_mail : L .mail = true) : ∀ s t n b, erase L (State.setMbox s t n b) = erase L s := by
  intro s t n b
  unfold State.setMbox
  try dsimp only
  repeat' (first
    | with_reducible refine erase_cond ?_ ?_)
  all_goals with_reducible refine (erase_mail h_mail _ _).trans ?_
  all_goals with_reducible rfl

theorem keeps_State_setPort {L : Part → Bool} (h_ports : L .ports = true) : ∀ s p x, erase L (State.setPort s p x) = erase L s := by
  intro s p x
  unfold State.setPort
  try dsimp only
  all_goals with_reducible refine (erase_ports h_ports _ _).trans ?_
  all_goals with_reducible rfl

theorem keeps_State_setSq {L : Part → Bool} (h_sqs : L .sqs = true) : ∀ s fn slot q, erase L (State.setSq s fn slot q) = erase L s := by
  intro s fn slot q
  unfold State.setSq
  try dsimp only
  all_goals with_reducible refine (erase_sqs h_sqs _ _).trans ?_
  all_goals with_reducible rfl

theorem keeps_State_setSrc {L : Part → Bool} (h_intc : L .intc = true) : ∀ s n x, erase L (State.setSrc s n x) = erase L s := by
  intro s n x
  unfold State.setSrc
  try dsimp only
  all_goals with_reducible refine (erase_intc h_intc _ _).trans ?_
  all_goals with_reducible rfl

theorem keeps_State_setStack {L : Part → Bool} (h_intc : L .intc = true) : ∀ s k l, erase L (State.setStack s k l) = erase L s := by
  intro s k l
  unfold State.setStack
  try dsimp only
  all_goals with_reducible refine (erase_intc h_intc _ _).trans ?_
  all_goals with_reducible rfl

theorem keeps_State_withCamp {L : Part → Bool} (h_camp : L .camp = true) : ∀ s c, erase L (State.withCamp s c) = erase L s := by
  intro s c
  unfold State.withCamp
  try dsimp only
  all_goals with_reducible refine (erase_camp h_camp _ _).trans ?_
  all_goals with_reducible rfl

theorem keeps_State_withFetchWord {L : Part → Bool} (h_pending : L .pending = true) : ∀ s nbits w, erase L (State.withFetchWord s nbits w) = erase L s := by
  intro s nbits w
  unfold State.withFetchWord
  try dsimp only
  repeat' (first
    | with_reducible rfl
    | split)
  all_goals with_reducible refine (erase_pending h_pending _ _).trans ?_
  all_goals with_reducible rfl

theorem keeps_State_withLant {L : Part → Bool} (h_lant : L .lant = true) : ∀ s l, erase L (State.withLant s l) = erase L s := by
  intro s l
  unfold State.withLant
  try dsimp only
  all_goals with_reducible refine (erase_lant h_lant _ _).trans ?_
  all_goals with_reducible rfl

theorem keeps_State_withMem {L : Part → Bool} (h_mem : L .mem = true) : ∀ s m, erase L (State.withMem s m) = erase L s := by
  intro s m
  unfold State.withMem
  try dsimp only
  all_goals with_reducible refine (erase_mem h_mem _ _).trans ?_
  all_goals with_reducible rfl

theorem keeps_State_withMeter {L : Part → Bool} (h_meter : L .meter = true) : ∀ s m, erase L (State.withMeter s m) = erase L s := by
  intro s m
  unfold State.withMeter
  try dsimp only
  all_goals with_reducible refine (erase_meter h_meter _ _).trans ?_
  all_goals with_reducible rfl

theorem keeps_State_withPower {L : Part → Bool} (h_power : L .power = true) : ∀ s p, erase L (State.withPower s p) = erase L s := by
  intro s p
  unfold State.withPower
  try dsimp only
  all_goals with_reducible refine (erase_power h_power _ _).trans ?_
  all_goals with_reducible rfl

theorem keeps_State_withProg {L : Part → Bool} (h_prog : L .prog = true) : ∀ s p, erase L (State.withProg s p) = erase L s := by
  intro s p
  unfold State.withProg
  try dsimp only
  all_goals with_reducible refine (erase_prog h_prog _ _).trans ?_
  all_goals with_reducible rfl

theorem keeps_State_withRecov {L : Part → Bool} (h_recov : L .recov = true) : ∀ s r, erase L (State.withRecov s r) = erase L s := by
  intro s r
  unfold State.withRecov
  try dsimp only
  all_goals with_reducible refine (erase_recov h_recov _ _).trans ?_
  all_goals with_reducible rfl

theorem keeps_State_withSched {L : Part → Bool} (h_sched : L .sched = true) : ∀ s c, erase L (State.withSched s c) = erase L s := by
  intro s c
  unfold State.withSched
  try dsimp only
  all_goals with_reducible refine (erase_sched h_sched _ _).trans ?_
  all_goals with_reducible rfl

theorem keeps_State_withTrust {L : Part → Bool} (h_trust : L .trust = true) : ∀ s t, erase L (State.withTrust s t) = erase L s := by
  intro s t
  unfold State.withTrust
  try dsimp only
  all_goals with_reducible refine (erase_trust h_trust _ _).trans ?_
  all_goals with_reducible rfl

theorem keeps_emit {L : Part → Bool} (h_out : L .out = true) : ∀ s o, erase L (emit s o) = erase L s := by
  intro s o
  unfold emit
  try dsimp only
  all_goals with_reducible refine (erase_out h_out _ _).trans ?_
  all_goals with_reducible rfl

theorem keeps_abandon {L : Part → Bool} (h_out : L .out = true) : ∀ s c, erase L (abandon s c) = erase L s := by
  intro s c
  unfold abandon
  try dsimp only
  repeat' (first
    | with_reducible rfl
    | with_reducible refine (keeps_emit h_out _ _).trans ?_
    | with_reducible refine erase_cond ?_ ?_)

theorem keeps_setTest {L : Part → Bool} (h_mem : L .mem = true) : ∀ s p t, erase L (setTest s p t) = erase L s := by
  intro s p t
  unfold setTest
  try dsimp only
  repeat' (first
    | with_reducible rfl
    | with_reducible refine (keeps_State_withMem h_mem _ _).trans ?_)

theorem keeps_abortTest {L : Part → Bool} (h_mem : L .mem = true) : ∀ s p, erase L (abortTest s p) = erase L s := by
  intro s p
  unfold abortTest
  try dsimp only
  repeat' (first
    | with_reducible rfl
    | with_reducible refine (keeps_setTest h_mem _ _ _).trans ?_
    | with_reducible refine erase_cond ?_ ?_)

theorem keeps_wr {L : Part → Bool} (h_regs : L .regs = true) : ∀ s d v i j p, erase L (wr s d v i j p) = erase L s := by
  intro s d v i j p
  unfold wr
  try dsimp only
  all_goals with_reducible refine (erase_regs h_regs _ _).trans ?_
  all_goals with_reducible rfl

theorem keeps_wf {L : Part → Bool} (h_regs : L .regs = true) : ∀ s d f x i j p, erase L (wf s d f x i j p) = erase L s := by
  intro s d f x i j p
  unfold wf
  try dsimp only
  repeat' (first
    | with_reducible rfl
    | with_reducible refine (keeps_wr h_regs _ _ _ _ _ _).trans ?_)

theorem keeps_flagAccess {L : Part → Bool} (h_regs : L .regs = true) : ∀ k s, erase L (flagAccess k s) = erase L s := by
  intro k s
  unfold flagAccess
  try dsimp only
  repeat' (first
    | with_reducible rfl
    | with_reducible refine (keeps_wf h_regs _ _ _ _ _ _ _).trans ?_
    | split)

theorem keeps_denyCountS {L : Part → Bool} (h_regs : L .regs = true) (h_mem : L .mem = true) (h_busData : L .busData = true) : ∀ s, erase L (denyCountS s) = erase L s := by
  intro s
  unfold denyCountS
  try dsimp only
  all_goals with_reducible refine (erase_busData h_busData _ _).trans ?_
  all_goals repeat' (first
    | with_reducible rfl
    | with_reducible refine (keeps_wr h_regs _ _ _ _ _ _).trans ?_
    | with_reducible refine (keeps_State_withMem h_mem _ _).trans ?_)

theorem keeps_claimS {L : Part → Bool} (h_intc : L .intc = true) (h_busData : L .busData = true) : ∀ s k n fast, erase L (claimS s k n fast) = erase L s := by
  intro s k n fast
  unfold claimS
  try dsimp only
  repeat' (first
    | split)
  all_goals with_reducible refine (erase_busData h_busData _ _).trans ?_
  all_goals repeat' (first
    | with_reducible rfl
    | with_reducible refine (keeps_State_setStack h_intc _ _ _).trans ?_
    | with_reducible refine (keeps_State_setSrc h_intc _ _ _).trans ?_)

theorem keeps_icClaimS {L : Part → Bool} (h_intc : L .intc = true) (h_busData : L .busData = true) : ∀ k s, erase L (icClaimS k s) = erase L s := by
  intro k s
  unfold icClaimS
  try dsimp only
  repeat' (first
    | with_reducible rfl
    | with_reducible refine (keeps_claimS h_intc h_busData _ _ _ _).trans ?_
    | with_reducible refine erase_cond ?_ ?_
    | split)
  all_goals with_reducible refine (erase_busData h_busData _ _).trans ?_
  all_goals with_reducible rfl

theorem keeps_fnNoticeStatusS {L : Part → Bool} (h_regs : L .regs = true) (h_busData : L .busData = true) : ∀ fn s, erase L (fnNoticeStatusS fn s) = erase L s := by
  intro fn s
  unfold fnNoticeStatusS
  try dsimp only
  repeat' (first
    | with_reducible refine erase_cond ?_ ?_
    | split)
  all_goals with_reducible refine (erase_busData h_busData _ _).trans ?_
  all_goals repeat' (first
    | with_reducible rfl
    | with_reducible refine (keeps_wr h_regs _ _ _ _ _ _).trans ?_)

theorem keeps_icFclaimS {L : Part → Bool} (h_intc : L .intc = true) (h_busData : L .busData = true) : ∀ k s, erase L (icFclaimS k s) = erase L s := by
  intro k s
  unfold icFclaimS
  try dsimp only
  repeat' (first
    | with_reducible rfl
    | with_reducible refine (keeps_claimS h_intc h_busData _ _ _ _).trans ?_
    | with_reducible refine erase_cond ?_ ?_
    | split)
  all_goals with_reducible refine (erase_busData h_busData _ _).trans ?_
  all_goals with_reducible rfl

theorem keeps_regReadS {L : Part → Bool} (h_regs : L .regs = true) (h_mem : L .mem = true) (h_intc : L .intc = true) (h_busData : L .busData = true) : ∀ d i j p s, erase L (regReadS d i j p s).2 = erase L s := by
  intro d i j p s
  unfold regReadS
  try dsimp only
  repeat' (first
    | with_reducible rfl
    | with_reducible refine (keeps_denyCountS h_regs h_mem h_busData _).trans ?_
    | with_reducible refine (keeps_wr h_regs _ _ _ _ _ _).trans ?_
    | with_reducible refine (keeps_icClaimS h_intc h_busData _ _).trans ?_
    | with_reducible refine (keeps_fnNoticeStatusS h_regs h_busData _ _).trans ?_
    | with_reducible refine (keeps_icFclaimS h_intc h_busData _ _).trans ?_
    | with_reducible refine erase_cond ?_ ?_
    | split)

theorem keeps_accessRead {L : Part → Bool} (h_regs : L .regs = true) (h_mem : L .mem = true) (h_intc : L .intc = true) (h_busData : L .busData = true) : ∀ bar off size s, erase L (accessRead bar off size s).2 = erase L s := by
  intro bar off size s
  unfold accessRead
  try dsimp only
  repeat' (first
    | with_reducible rfl
    | with_reducible refine (keeps_flagAccess h_regs _ _).trans ?_
    | with_reducible refine (keeps_regReadS h_regs h_mem h_intc h_busData _ _ _ _ _).trans ?_
    | split)

theorem keeps_stf {L : Part → Bool} (h_regs : L .regs = true) : ∀ s f v, erase L (stf s f v) = erase L s := by
  intro s f v
  unfold stf
  try dsimp only
  repeat' (first
    | with_reducible rfl
    | with_reducible refine (keeps_wf h_regs _ _ _ _ _ _ _).trans ?_)

theorem keeps_setBank {L : Part → Bool} (h_sched : L .sched = true) : ∀ s b x, erase L (setBank s b x) = erase L s := by
  intro s b x
  unfold setBank
  try dsimp only
  repeat' (first
    | with_reducible rfl
    | with_reducible refine (keeps_State_withSched h_sched _ _).trans ?_)

theorem keeps_armSwap {L : Part → Bool} (h_regs : L .regs = true) (h_sched : L .sched = true) : ∀ s b, erase L (armSwap s b) = erase L s := by
  intro s b
  unfold armSwap
  try dsimp only
  repeat' (first
    | with_reducible rfl
    | with_reducible refine (keeps_stf h_regs _ _ _).trans ?_
    | with_reducible refine (keeps_State_withSched h_sched _ _).trans ?_
    | with_reducible refine erase_cond ?_ ?_)

theorem keeps_unchecked {L : Part → Bool} (h_regs : L .regs = true) (h_sched : L .sched = true) : ∀ s b, erase L (unchecked s b) = erase L s := by
  intro s b
  unfold unchecked
  try dsimp only
  repeat' (first
    | with_reducible rfl
    | with_reducible refine (keeps_stf h_regs _ _ _).trans ?_
    | with_reducible refine (keeps_State_withSched h_sched _ _).trans ?_
    | with_reducible refine erase_cond ?_ ?_
    | split)

theorem keeps_endCheck {L : Part → Bool} (h_regs : L .regs = true) (h_sched : L .sched = true) : ∀ s b arm i, erase L (endCheck s b arm i) = erase L s := by
  intro s b arm i
  unfold endCheck
  try dsimp only
  repeat' (first
    | with_reducible rfl
    | with_reducible refine (keeps_stf h_regs _ _ _).trans ?_
    | with_reducible refine (keeps_armSwap h_regs h_sched _ _).trans ?_
    | with_reducible refine (keeps_wr h_regs _ _ _ _ _ _).trans ?_
    | with_reducible refine (keeps_State_withSched h_sched _ _).trans ?_
    | with_reducible refine (keeps_unchecked h_regs h_sched _ _).trans ?_
    | with_reducible refine erase_cond ?_ ?_)

theorem keeps_bankWriteS {L : Part → Bool} (h_regs : L .regs = true) (h_sched : L .sched = true) : ∀ b off n v s, erase L (bankWriteS b off n v s) = erase L s := by
  intro b off n v s
  unfold bankWriteS
  try dsimp only
  repeat' (first
    | with_reducible rfl
    | with_reducible refine (keeps_stf h_regs _ _ _).trans ?_
    | with_reducible refine (keeps_setBank h_sched _ _ _).trans ?_
    | with_reducible refine (keeps_endCheck h_regs h_sched _ _ _ _).trans ?_
    | with_reducible refine (keeps_unchecked h_regs h_sched _ _).trans ?_
    | with_reducible refine erase_cond ?_ ?_
    | split)

theorem keeps_raise {L : Part → Bool} (h_intc : L .intc = true) : ∀ s n, erase L (raise s n) = erase L s := by
  intro s n
  unfold raise
  try dsimp only
  repeat' (first
    | with_reducible rfl
    | with_reducible refine (keeps_State_setSrc h_intc _ _ _).trans ?_
    | with_reducible refine erase_cond ?_ ?_)

theorem keeps_icCompleteS {L : Part → Bool} (h_regs : L .regs = true) (h_intc : L .intc = true) : ∀ k v fast s, erase L (icCompleteS k v fast s) = erase L s := by
  intro k v fast s
  unfold icCompleteS
  try dsimp only
  repeat' (first
    | with_reducible rfl
    | with_reducible refine (keeps_State_setStack h_intc _ _ _).trans ?_
    | with_reducible refine (keeps_State_setSrc h_intc _ _ _).trans ?_
    | with_reducible refine (keeps_wf h_regs _ _ _ _ _ _ _).trans ?_
    | with_reducible refine (keeps_raise h_intc _ _).trans ?_
    | with_reducible refine erase_cond ?_ ?_
    | split)

theorem keeps_mbRetPopS {L : Part → Bool} (h_mail : L .mail = true) : ∀ a s, erase L (mbRetPopS a s) = erase L s := by
  intro a s
  unfold mbRetPopS
  try dsimp only
  all_goals with_reducible refine (erase_mail h_mail _ _).trans ?_
  all_goals with_reducible rfl

theorem keeps_icRaiseS {L : Part → Bool} (h_intc : L .intc = true) : ∀ v s, erase L (icRaiseS v s) = erase L s := by
  intro v s
  unfold icRaiseS
  try dsimp only
  repeat' (first
    | with_reducible rfl
    | with_reducible refine (keeps_raise h_intc _ _).trans ?_
    | with_reducible refine erase_cond ?_ ?_)

theorem keeps_emitMsix {L : Part → Bool} (h_fns : L .fns = true) (h_out : L .out = true) : ∀ s fn v, erase L (emitMsix s fn v) = erase L s := by
  intro s fn v
  unfold emitMsix
  try dsimp only
  repeat' (first
    | with_reducible rfl
    | with_reducible refine (keeps_emit h_out _ _).trans ?_
    | with_reducible refine (keeps_State_setFn h_fns _ _ _).trans ?_)

theorem keeps_setPba {L : Part → Bool} (h_fns : L .fns = true) : ∀ s fn v, erase L (setPba s fn v) = erase L s := by
  intro s fn v
  unfold setPba
  try dsimp only
  repeat' (first
    | with_reducible rfl
    | with_reducible refine (keeps_State_setFn h_fns _ _ _).trans ?_)

theorem keeps_routeMsix {L : Part → Bool} (h_fns : L .fns = true) (h_ports : L .ports = true) (h_out : L .out = true) : ∀ s fn v, erase L (routeMsix s fn v) = erase L s := by
  intro s fn v
  unfold routeMsix
  try dsimp only
  repeat' (first
    | with_reducible rfl
    | with_reducible refine (keeps_State_setPort h_ports _ _ _).trans ?_
    | with_reducible refine (keeps_emitMsix h_fns h_out _ _ _).trans ?_
    | with_reducible refine (keeps_setPba h_fns _ _ _).trans ?_
    | with_reducible refine (keeps_emit h_out _ _).trans ?_
    | with_reducible refine erase_cond ?_ ?_)

theorem keeps_sendMsix {L : Part → Bool} (h_fns : L .fns = true) (h_ports : L .ports = true) (h_out : L .out = true) : ∀ s fn v, erase L (sendMsix s fn v) = erase L s := by
  intro s fn v
  unfold sendMsix
  try dsimp only
  repeat' (first
    | with_reducible rfl
    | with_reducible refine (keeps_State_setFn h_fns _ _ _).trans ?_
    | with_reducible refine (keeps_routeMsix h_fns h_ports h_out _ _ _).trans ?_)

theorem keeps_mailVector {L : Part → Bool} (h_fns : L .fns = true) (h_mail : L .mail = true) (h_ports : L .ports = true) (h_out : L .out = true) : ∀ s fn v what, erase L (mailVector s fn v what) = erase L s := by
  intro s fn v what
  unfold mailVector
  try dsimp only
  repeat' (first
    | with_reducible rfl
    | with_reducible refine (keeps_sendMsix h_fns h_ports h_out _ _ _).trans ?_
    | with_reducible refine erase_cond ?_ ?_)
  all_goals with_reducible refine (erase_mail h_mail _ _).trans ?_
  all_goals with_reducible rfl

theorem keeps_mgmtVector {L : Part → Bool} (h_fns : L .fns = true) (h_mail : L .mail = true) (h_ports : L .ports = true) (h_out : L .out = true) : ∀ s what, erase L (mgmtVector s what) = erase L s := by
  intro s what
  unfold mgmtVector
  try dsimp only
  repeat' (first
    | with_reducible rfl
    | with_reducible refine (keeps_mailVector h_fns h_mail h_ports h_out _ _ _ _).trans ?_
    | with_reducible refine erase_cond ?_ ?_)

theorem keeps_arrive {L : Part → Bool} (h_fns : L .fns = true) (h_mail : L .mail = true) (h_intc : L .intc = true) (h_ports : L .ports = true) (h_out : L .out = true) : ∀ s t n, erase L (arrive s t n) = erase L s := by
  intro s t n
  unfold arrive
  try dsimp only
  repeat' (first
    | with_reducible rfl
    | with_reducible refine (keeps_mailVector h_fns h_mail h_ports h_out _ _ _ _).trans ?_
    | with_reducible refine (keeps_mgmtVector h_fns h_mail h_ports h_out _ _).trans ?_
    | with_reducible refine (keeps_raise h_intc _ _).trans ?_
    | with_reducible refine (erase_foldl (fun _ _ => ?_) _ _).trans ?_
    | with_reducible refine erase_cond ?_ ?_)

theorem keeps_satAdd {L : Part → Bool} (h_regs : L .regs = true) : ∀ s d f n i j, erase L (satAdd s d f n i j) = erase L s := by
  intro s d f n i j
  unfold satAdd
  try dsimp only
  repeat' (first
    | with_reducible rfl
    | with_reducible refine (keeps_wf h_regs _ _ _ _ _ _ _).trans ?_)

theorem keeps_guyPush {L : Part → Bool} (h_regs : L .regs = true) (h_ports : L .ports = true) : ∀ s g d t0, erase L (guyPush s g d t0) = erase L s := by
  intro s g d t0
  unfold guyPush
  try dsimp only
  repeat' (first
    | with_reducible refine (keeps_wf h_regs _ _ _ _ _ _ _).trans ?_)
  all_goals with_reducible refine (erase_ports h_ports _ _).trans ?_
  all_goals with_reducible rfl

theorem keeps_guyWord {L : Part → Bool} (h_regs : L .regs = true) (h_ports : L .ports = true) : ∀ s g d res, erase L (guyWord s g d res) = erase L s := by
  intro s g d res
  unfold guyWord
  try dsimp only
  repeat' (first
    | with_reducible rfl
    | with_reducible refine (keeps_satAdd h_regs _ _ _ _ _ _).trans ?_
    | with_reducible refine (keeps_guyPush h_regs h_ports _ _ _ _).trans ?_
    | with_reducible refine (keeps_wf h_regs _ _ _ _ _ _ _).trans ?_
    | split)

theorem keeps_guyWords {L : Part → Bool} (h_regs : L .regs = true) (h_ports : L .ports = true) : ∀ s g d n, erase L (guyWords s g d n) = erase L s := by
  intro s g d n
  unfold guyWords
  try dsimp only
  repeat' (first
    | with_reducible rfl
    | with_reducible refine (keeps_guyWord h_regs h_ports _ _ _ _).trans ?_
    | with_reducible refine (erase_foldl (fun _ _ => ?_) _ _).trans ?_)

theorem keeps_guyFlit {L : Part → Bool} (h_regs : L .regs = true) (h_ports : L .ports = true) : ∀ s d, erase L (guyFlit s d) = erase L s := by
  intro s d
  unfold guyFlit
  try dsimp only
  repeat' (first
    | with_reducible rfl
    | with_reducible refine (keeps_guyWords h_regs h_ports _ _ _ _).trans ?_)

theorem keeps_sendFlit {L : Part → Bool} (h_regs : L .regs = true) (h_ports : L .ports = true) (h_camp : L .camp = true) (h_out : L .out = true) : ∀ s ms, erase L (sendFlit s ms) = erase L s := by
  intro s ms
  unfold sendFlit
  try dsimp only
  repeat' (first
    | with_reducible rfl
    | with_reducible refine (keeps_guyFlit h_regs h_ports _ _).trans ?_
    | with_reducible refine (keeps_State_withCamp h_camp _ _).trans ?_
    | with_reducible refine (keeps_emit h_out _ _).trans ?_
    | with_reducible refine (erase_foldl (fun _ _ => ?_) _ _).trans ?_)

theorem keeps_sendMsg {L : Part → Bool} (h_regs : L .regs = true) (h_ports : L .ports = true) (h_camp : L .camp = true) (h_out : L .out = true) : ∀ s m, erase L (sendMsg s m) = erase L s := by
  intro s m
  unfold sendMsg
  try dsimp only
  repeat' (first
    | with_reducible rfl
    | with_reducible refine (keeps_State_withCamp h_camp _ _).trans ?_
    | with_reducible refine (keeps_sendFlit h_regs h_ports h_camp h_out _ _).trans ?_
    | with_reducible refine erase_cond ?_ ?_)

theorem keeps_campSend {L : Part → Bool} (h_regs : L .regs = true) (h_ports : L .ports = true) (h_camp : L .camp = true) (h_out : L .out = true) : ∀ s type arg body, erase L (campSend s type arg body) = erase L s := by
  intro s type arg body
  unfold campSend
  try dsimp only
  repeat' (first
    | with_reducible rfl
    | with_reducible refine (keeps_State_withCamp h_camp _ _).trans ?_
    | with_reducible refine (keeps_sendMsg h_regs h_ports h_camp h_out _ _).trans ?_
    | with_reducible refine erase_cond ?_ ?_)

theorem keeps_postStore {L : Part → Bool} (h_regs : L .regs = true) (h_fns : L .fns = true) (h_mail : L .mail = true) (h_intc : L .intc = true) (h_ports : L .ports = true) (h_camp : L .camp = true) (h_out : L .out = true) : ∀ s a t n notice, erase L (postStore s a t n notice) = erase L s := by
  intro s a t n notice
  unfold postStore
  try dsimp only
  repeat' (first
    | with_reducible rfl
    | with_reducible refine (keeps_arrive h_fns h_mail h_intc h_ports h_out _ _ _).trans ?_
    | with_reducible refine (keeps_State_setMbox h_mail _ _ _ _).trans ?_
    | with_reducible refine (keeps_campSend h_regs h_ports h_camp h_out _ _ _ _).trans ?_
    | with_reducible refine erase_cond ?_ ?_)

theorem keeps_mbPostS {L : Part → Bool} (h_regs : L .regs = true) (h_fns : L .fns = true) (h_mail : L .mail = true) (h_intc : L .intc = true) (h_ports : L .ports = true) (h_camp : L .camp = true) (h_out : L .out = true) : ∀ a v s, erase L (mbPostS a v s) = erase L s := by
  intro a v s
  unfold mbPostS
  try dsimp only
  repeat' (first
    | with_reducible rfl
    | with_reducible refine (keeps_wr h_regs _ _ _ _ _ _).trans ?_
    | with_reducible refine (keeps_postStore h_regs h_fns h_mail h_intc h_ports h_camp h_out _ _ _ _ _).trans ?_
    | with_reducible refine erase_cond ?_ ?_)

theorem keeps_retSignal {L : Part → Bool} (h_fns : L .fns = true) (h_mail : L .mail = true) (h_intc : L .intc = true) (h_ports : L .ports = true) (h_out : L .out = true) : ∀ s a, erase L (retSignal s a) = erase L s := by
  intro s a
  unfold retSignal
  try dsimp only
  repeat' (first
    | with_reducible rfl
    | with_reducible refine (keeps_mgmtVector h_fns h_mail h_ports h_out _ _).trans ?_
    | with_reducible refine (keeps_raise h_intc _ _).trans ?_
    | with_reducible refine erase_cond ?_ ?_)

theorem keeps_returnNotice {L : Part → Bool} (h_fns : L .fns = true) (h_mail : L .mail = true) (h_intc : L .intc = true) (h_ports : L .ports = true) (h_out : L .out = true) : ∀ s t n aborted, erase L (returnNotice s t n aborted) = erase L s := by
  intro s t n aborted
  unfold returnNotice
  try dsimp only
  repeat' (first
    | with_reducible rfl
    | with_reducible refine (keeps_State_setMbox h_mail _ _ _ _).trans ?_
    | with_reducible refine (keeps_retSignal h_fns h_mail h_intc h_ports h_out _ _).trans ?_
    | with_reducible refine erase_cond ?_ ?_
    | split)
  all_goals with_reducible refine (erase_mail h_mail _ _).trans ?_
  all_goals repeat' (first
    | with_reducible rfl
    | with_reducible refine (keeps_State_setMbox h_mail _ _ _ _).trans ?_)

theorem keeps_emptyBox {L : Part → Bool} (h_regs : L .regs = true) (h_fns : L .fns = true) (h_mail : L .mail = true) (h_intc : L .intc = true) (h_ports : L .ports = true) (h_camp : L .camp = true) (h_out : L .out = true) : ∀ s t n aborted, erase L (emptyBox s t n aborted) = erase L s := by
  intro s t n aborted
  unfold emptyBox
  try dsimp only
  repeat' (first
    | with_reducible rfl
    | with_reducible refine (keeps_returnNotice h_fns h_mail h_intc h_ports h_out _ _ _ _).trans ?_
    | with_reducible refine (keeps_State_setMbox h_mail _ _ _ _).trans ?_
    | with_reducible refine (keeps_campSend h_regs h_ports h_camp h_out _ _ _ _).trans ?_
    | with_reducible refine erase_cond ?_ ?_)

theorem keeps_mbRxEmptyS {L : Part → Bool} (h_regs : L .regs = true) (h_fns : L .fns = true) (h_mail : L .mail = true) (h_intc : L .intc = true) (h_ports : L .ports = true) (h_camp : L .camp = true) (h_out : L .out = true) : ∀ a v s, erase L (mbRxEmptyS a v s) = erase L s := by
  intro a v s
  unfold mbRxEmptyS
  try dsimp only
  repeat' (first
    | with_reducible rfl
    | with_reducible refine (keeps_emptyBox h_regs h_fns h_mail h_intc h_ports h_camp h_out _ _ _ _).trans ?_
    | with_reducible refine erase_cond ?_ ?_)

theorem keeps_plainWrite {L : Part → Bool} (h_regs : L .regs = true) : ∀ d i j p v s, erase L (plainWrite d i j p v s) = erase L s := by
  intro d i j p v s
  unfold plainWrite
  try dsimp only
  repeat' (first
    | with_reducible rfl
    | with_reducible refine (keeps_wr h_regs _ _ _ _ _ _).trans ?_)

theorem keeps_setWords {L : Part → Bool} (h_regs : L .regs = true) : ∀ s d a v, erase L (setWords s d a v) = erase L s := by
  intro s d a v
  unfold setWords
  try dsimp only
  repeat' (first
    | with_reducible rfl
    | with_reducible refine (keeps_wr h_regs _ _ _ _ _ _).trans ?_
    | with_reducible refine (erase_foldl (fun _ _ => ?_) _ _).trans ?_)

theorem keeps_mbRxSelectS {L : Part → Bool} (h_regs : L .regs = true) : ∀ a v s, erase L (mbRxSelectS a v s) = erase L s := by
  intro a v s
  unfold mbRxSelectS
  try dsimp only
  repeat' (first
    | with_reducible rfl
    | with_reducible refine (keeps_wr h_regs _ _ _ _ _ _).trans ?_
    | with_reducible refine (keeps_setWords h_regs _ _ _ _).trans ?_
    | with_reducible refine erase_cond ?_ ?_)

theorem keeps_agentWrite {L : Part → Bool} (h_regs : L .regs = true) (h_fns : L .fns = true) (h_mail : L .mail = true) (h_intc : L .intc = true) (h_ports : L .ports = true) (h_camp : L .camp = true) (h_out : L .out = true) : ∀ d i a v s, erase L (agentWrite d i a v s) = erase L s := by
  intro d i a v s
  unfold agentWrite
  try dsimp only
  repeat' (first
    | with_reducible rfl
    | with_reducible refine (keeps_icCompleteS h_regs h_intc _ _ _ _).trans ?_
    | with_reducible refine (keeps_mbRetPopS h_mail _ _).trans ?_
    | with_reducible refine (keeps_icRaiseS h_intc _ _).trans ?_
    | with_reducible refine (keeps_mbPostS h_regs h_fns h_mail h_intc h_ports h_camp h_out _ _ _).trans ?_
    | with_reducible refine (keeps_mbRxEmptyS h_regs h_fns h_mail h_intc h_ports h_camp h_out _ _ _).trans ?_
    | with_reducible refine (keeps_plainWrite h_regs _ _ _ _ _ _).trans ?_
    | with_reducible refine (keeps_mbRxSelectS h_regs _ _ _).trans ?_
    | with_reducible refine erase_cond ?_ ?_)

theorem keeps_assignResult {L : Part → Bool} (h_regs : L .regs = true) : ∀ s r, erase L (assignResult s r) = erase L s := by
  intro s r
  unfold assignResult
  try dsimp only
  repeat' (first
    | with_reducible rfl
    | with_reducible refine (keeps_wr h_regs _ _ _ _ _ _).trans ?_)

theorem keeps_putBlock {L : Part → Bool} (h_recov : L .recov = true) : ∀ a b s e, erase L (putBlock a b s e) = erase L s := by
  intro a b s e
  unfold putBlock
  try dsimp only
  repeat' (first
    | with_reducible rfl
    | with_reducible refine (keeps_State_withRecov h_recov _ _).trans ?_)

theorem keeps_putChanged {L : Part → Bool} (h_regs : L .regs = true) (h_recov : L .recov = true) (h_ports : L .ports = true) (h_camp : L .camp = true) (h_out : L .out = true) : ∀ s e, erase L (putChanged s e) = erase L s := by
  intro s e
  unfold putChanged
  try dsimp only
  repeat' (first
    | with_reducible rfl
    | with_reducible refine (keeps_putBlock h_recov _ _ _ _).trans ?_
    | with_reducible refine (keeps_campSend h_regs h_ports h_camp h_out _ _ _ _).trans ?_
    | with_reducible refine (erase_foldl (fun _ _ => ?_) _ _).trans ?_
    | with_reducible refine erase_cond ?_ ?_)

theorem keeps_writeFnRec {L : Part → Bool} (h_regs : L .regs = true) (h_recov : L .recov = true) (h_ports : L .ports = true) (h_camp : L .camp = true) (h_out : L .out = true) : ∀ s fn, erase L (writeFnRec s fn) = erase L s := by
  intro s fn
  unfold writeFnRec
  try dsimp only
  repeat' (first
    | with_reducible rfl
    | with_reducible refine (keeps_putChanged h_regs h_recov h_ports h_camp h_out _ _).trans ?_)

theorem keeps_assignIdentS {L : Part → Bool} (h_regs : L .regs = true) (h_fns : L .fns = true) (h_recov : L .recov = true) (h_ports : L .ports = true) (h_camp : L .camp = true) (h_out : L .out = true) : ∀ v s, erase L (assignIdentS v s) = erase L s := by
  intro v s
  unfold assignIdentS
  try dsimp only
  repeat' (first
    | with_reducible rfl
    | with_reducible refine (keeps_assignResult h_regs _ _).trans ?_
    | with_reducible refine (keeps_State_setFn h_fns _ _ _).trans ?_
    | with_reducible refine (keeps_writeFnRec h_regs h_recov h_ports h_camp h_out _ _).trans ?_
    | with_reducible refine erase_cond ?_ ?_)

theorem keeps_fnNoticeEmptyS {L : Part → Bool} (h_regs : L .regs = true) (h_fns : L .fns = true) (h_mail : L .mail = true) (h_intc : L .intc = true) (h_ports : L .ports = true) (h_camp : L .camp = true) (h_out : L .out = true) : ∀ fn v s, erase L (fnNoticeEmptyS fn v s) = erase L s := by
  intro fn v s
  unfold fnNoticeEmptyS
  try dsimp only
  repeat' (first
    | with_reducible rfl
    | with_reducible refine (keeps_emptyBox h_regs h_fns h_mail h_intc h_ports h_camp h_out _ _ _ _).trans ?_
    | with_reducible refine erase_cond ?_ ?_)

theorem keeps_updSq {L : Part → Bool} (h_sqs : L .sqs = true) : ∀ s fn slot f, erase L (updSq s fn slot f) = erase L s := by
  intro s fn slot f
  unfold updSq
  try dsimp only
  repeat' (first
    | with_reducible rfl
    | with_reducible refine (keeps_State_setSq h_sqs _ _ _ _).trans ?_)

theorem keeps_putRecord {L : Part → Bool} (h_regs : L .regs = true) (h_recov : L .recov = true) (h_ports : L .ports = true) (h_camp : L .camp = true) (h_out : L .out = true) : ∀ s a b block v, erase L (putRecord s a b block v) = erase L s := by
  intro s a b block v
  unfold putRecord
  try dsimp only
  repeat' (first
    | with_reducible rfl
    | with_reducible refine (keeps_putBlock h_recov _ _ _ _).trans ?_
    | with_reducible refine (keeps_campSend h_regs h_ports h_camp h_out _ _ _ _).trans ?_
    | with_reducible refine (erase_foldl (fun _ _ => ?_) _ _).trans ?_
    | with_reducible refine erase_cond ?_ ?_)

theorem keeps_writeSqRec {L : Part → Bool} (h_regs : L .regs = true) (h_recov : L .recov = true) (h_ports : L .ports = true) (h_camp : L .camp = true) (h_out : L .out = true) : ∀ s fn slot, erase L (writeSqRec s fn slot) = erase L s := by
  intro s fn slot
  unfold writeSqRec
  try dsimp only
  repeat' (first
    | with_reducible rfl
    | with_reducible refine (keeps_putRecord h_regs h_recov h_ports h_camp h_out _ _ _ _ _).trans ?_)

theorem keeps_setSqState {L : Part → Bool} (h_regs : L .regs = true) (h_sqs : L .sqs = true) (h_recov : L .recov = true) (h_ports : L .ports = true) (h_camp : L .camp = true) (h_out : L .out = true) : ∀ s fn slot st, erase L (setSqState s fn slot st) = erase L s := by
  intro s fn slot st
  unfold setSqState
  try dsimp only
  repeat' (first
    | with_reducible rfl
    | with_reducible refine (keeps_writeSqRec h_regs h_recov h_ports h_camp h_out _ _ _).trans ?_
    | with_reducible refine (keeps_updSq h_sqs _ _ _ _).trans ?_)

theorem keeps_undrain {L : Part → Bool} (h_mem : L .mem = true) : ∀ s k, erase L (undrain s k) = erase L s := by
  intro s k
  unfold undrain
  try dsimp only
  repeat' (first
    | with_reducible rfl
    | with_reducible refine (keeps_State_withMem h_mem _ _).trans ?_)

theorem keeps_sqError {L : Part → Bool} (h_regs : L .regs = true) (h_sqs : L .sqs = true) (h_recov : L .recov = true) (h_mem : L .mem = true) (h_ports : L .ports = true) (h_camp : L .camp = true) (h_out : L .out = true) : ∀ s fn slot cause, erase L (sqError s fn slot cause) = erase L s := by
  intro s fn slot cause
  unfold sqError
  try dsimp only
  repeat' (first
    | with_reducible rfl
    | with_reducible refine (keeps_updSq h_sqs _ _ _ _).trans ?_
    | with_reducible refine (keeps_setSqState h_regs h_sqs h_recov h_ports h_camp h_out _ _ _ _).trans ?_
    | with_reducible refine (keeps_undrain h_mem _ _).trans ?_
    | with_reducible refine erase_cond ?_ ?_)

theorem keeps_deny {L : Part → Bool} (h_regs : L .regs = true) (h_mem : L .mem = true) : ∀ s m kind t, erase L (deny s m kind t) = erase L s := by
  intro s m kind t
  unfold deny
  try dsimp only
  repeat' (first
    | with_reducible rfl
    | with_reducible refine (keeps_wr h_regs _ _ _ _ _ _).trans ?_
    | with_reducible refine (keeps_satAdd h_regs _ _ _ _ _ _).trans ?_
    | with_reducible refine (keeps_State_withMem h_mem _ _).trans ?_
    | with_reducible refine erase_cond ?_ ?_)

theorem keeps_hostDenied {L : Part → Bool} (h_regs : L .regs = true) (h_mem : L .mem = true) {s m k a n d}
    (h : hostDenied s m k a n = some d) : erase L d = erase L s := by
  unfold hostDenied at h
  cases e : firstDenied s m k (.host a) n with
  | none => rw [e] at h; cases h
  | some t =>
    rw [e] at h
    cases h
    exact keeps_deny h_regs h_mem _ _ _ _

theorem keeps_startRound {L : Part → Bool} (h_regs : L .regs = true) (h_sqs : L .sqs = true) (h_recov : L .recov = true) (h_mem : L .mem = true) (h_ports : L .ports = true) (h_camp : L .camp = true) (h_out : L .out = true) : ∀ s fn slot, erase L (startRound s fn slot) = erase L s := by
  intro s fn slot
  unfold startRound
  try dsimp only
  repeat' (first
    | with_reducible rfl
    | with_reducible refine (keeps_sqError h_regs h_sqs h_recov h_mem h_ports h_camp h_out _ _ _ _).trans ?_
    | with_reducible refine (keeps_updSq h_sqs _ _ _ _).trans ?_
    | with_reducible refine (keeps_emit h_out _ _).trans ?_
    | with_reducible refine (keeps_hostDenied h_regs h_mem (by assumption)).trans ?_
    | with_reducible refine erase_cond ?_ ?_
    | split)

theorem keeps_sqDoorbellS {L : Part → Bool} (h_regs : L .regs = true) (h_sqs : L .sqs = true) (h_recov : L .recov = true) (h_mem : L .mem = true) (h_ports : L .ports = true) (h_camp : L .camp = true) (h_out : L .out = true) : ∀ fn slot s, erase L (sqDoorbellS fn slot s) = erase L s := by
  intro fn slot s
  unfold sqDoorbellS
  try dsimp only
  repeat' (first
    | with_reducible rfl
    | with_reducible refine (keeps_startRound h_regs h_sqs h_recov h_mem h_ports h_camp h_out _ _ _).trans ?_
    | with_reducible refine erase_cond ?_ ?_)

theorem keeps_updCq {L : Part → Bool} (h_cqs : L .cqs = true) : ∀ s fn slot f, erase L (updCq s fn slot f) = erase L s := by
  intro s fn slot f
  unfold updCq
  try dsimp only
  repeat' (first
    | with_reducible rfl
    | with_reducible refine (keeps_State_setCq h_cqs _ _ _ _).trans ?_)

theorem keeps_cqSent {L : Part → Bool} (h_cqs : L .cqs = true) : ∀ s fn v, erase L (cqSent s fn v) = erase L s := by
  intro s fn v
  unfold cqSent
  try dsimp only
  repeat' (first
    | with_reducible rfl
    | with_reducible refine (keeps_updCq h_cqs _ _ _ _).trans ?_
    | with_reducible refine (erase_foldl (fun _ _ => ?_) _ _).trans ?_)

theorem keeps_trySend {L : Part → Bool} (h_regs : L .regs = true) (h_fns : L .fns = true) (h_cqs : L .cqs = true) (h_mem : L .mem = true) (h_ports : L .ports = true) (h_out : L .out = true) : ∀ s fn v, erase L (trySend s fn v) = erase L s := by
  intro s fn v
  unfold trySend
  try dsimp only
  repeat' (first
    | with_reducible rfl
    | with_reducible refine (keeps_cqSent h_cqs _ _ _).trans ?_
    | with_reducible refine (keeps_setPba h_fns _ _ _).trans ?_
    | with_reducible refine (keeps_routeMsix h_fns h_ports h_out _ _ _).trans ?_
    | with_reducible refine (keeps_hostDenied h_regs h_mem (by assumption)).trans ?_
    | with_reducible refine erase_cond ?_ ?_
    | split)

theorem keeps_sendPending {L : Part → Bool} (h_regs : L .regs = true) (h_fns : L .fns = true) (h_cqs : L .cqs = true) (h_mem : L .mem = true) (h_ports : L .ports = true) (h_out : L .out = true) : ∀ s fn, erase L (sendPending s fn) = erase L s := by
  intro s fn
  unfold sendPending
  try dsimp only
  repeat' (first
    | with_reducible rfl
    | with_reducible refine (keeps_trySend h_regs h_fns h_cqs h_mem h_ports h_out _ _ _).trans ?_
    | with_reducible refine (erase_foldl (fun _ _ => ?_) _ _).trans ?_
    | with_reducible refine erase_cond ?_ ?_)

theorem keeps_unmaskS {L : Part → Bool} (h_regs : L .regs = true) (h_fns : L .fns = true) (h_cqs : L .cqs = true) (h_recov : L .recov = true) (h_mem : L .mem = true) (h_ports : L .ports = true) (h_camp : L .camp = true) (h_out : L .out = true) : ∀ fn vec s, erase L (unmaskS fn vec s) = erase L s := by
  intro fn vec s
  unfold unmaskS
  try dsimp only
  repeat' (first
    | with_reducible rfl
    | with_reducible refine (keeps_sendPending h_regs h_fns h_cqs h_mem h_ports h_out _ _).trans ?_
    | with_reducible refine (keeps_State_setFn h_fns _ _ _).trans ?_
    | with_reducible refine (keeps_writeFnRec h_regs h_recov h_ports h_camp h_out _ _).trans ?_
    | split)

theorem keeps_msixWrite {L : Part → Bool} (h_regs : L .regs = true) (h_fns : L .fns = true) (h_cqs : L .cqs = true) (h_recov : L .recov = true) (h_mem : L .mem = true) (h_ports : L .ports = true) (h_camp : L .camp = true) (h_out : L .out = true) : ∀ fn i n v s, erase L (msixWrite fn i n v s) = erase L s := by
  intro fn i n v s
  unfold msixWrite
  try dsimp only
  repeat' (first
    | with_reducible rfl
    | with_reducible refine (keeps_unmaskS h_regs h_fns h_cqs h_recov h_mem h_ports h_camp h_out _ _ _).trans ?_
    | with_reducible refine (keeps_State_setFn h_fns _ _ _).trans ?_
    | with_reducible refine (keeps_writeFnRec h_regs h_recov h_ports h_camp h_out _ _).trans ?_
    | with_reducible refine erase_cond ?_ ?_)

theorem keeps_setDom {L : Part → Bool} (h_power : L .power = true) : ∀ s f x d, erase L (setDom s f x d) = erase L s := by
  intro s f x d
  unfold setDom
  try dsimp only
  all_goals with_reducible refine (erase_power h_power _ _).trans ?_
  all_goals with_reducible rfl

theorem keeps_startExit {L : Part → Bool} (h_power : L .power = true) : ∀ s d, erase L (startExit s d) = erase L s := by
  intro s d
  unfold startExit
  try dsimp only
  repeat' (first
    | with_reducible rfl
    | with_reducible refine (keeps_setDom h_power _ _ _ _).trans ?_
    | with_reducible refine erase_cond ?_ ?_)
  all_goals with_reducible refine (erase_power h_power _ _).trans ?_
  all_goals repeat' (first
    | with_reducible rfl
    | with_reducible refine (keeps_setDom h_power _ _ _ _).trans ?_)

theorem keeps_wakeDomain {L : Part → Bool} (h_power : L .power = true) : ∀ s d, erase L (wakeDomain s d) = erase L s := by
  intro s d
  unfold wakeDomain
  try dsimp only
  repeat' (first
    | with_reducible rfl
    | with_reducible refine erase_cond ?_ ?_)
  all_goals with_reducible refine (erase_power h_power _ _).trans ?_
  all_goals repeat' (first
    | with_reducible rfl
    | with_reducible refine (keeps_startExit h_power _ _).trans ?_)

theorem keeps_ddrTouch {L : Part → Bool} (h_power : L .power = true) : ∀ s ch, erase L (ddrTouch s ch) = erase L s := by
  intro s ch
  unfold ddrTouch
  try dsimp only
  repeat' (first
    | with_reducible rfl
    | with_reducible refine (keeps_wakeDomain h_power _ _).trans ?_)

theorem keeps_updItem {L : Part → Bool} (h_sqs : L .sqs = true) : ∀ s fn slot seq f, erase L (updItem s fn slot seq f) = erase L s := by
  intro s fn slot seq f
  unfold updItem
  try dsimp only
  repeat' (first
    | with_reducible rfl
    | with_reducible refine (keeps_updSq h_sqs _ _ _ _).trans ?_)

theorem keeps_writeCqRec {L : Part → Bool} (h_regs : L .regs = true) (h_recov : L .recov = true) (h_ports : L .ports = true) (h_camp : L .camp = true) (h_out : L .out = true) : ∀ s fn slot tail, erase L (writeCqRec s fn slot tail) = erase L s := by
  intro s fn slot tail
  unfold writeCqRec
  try dsimp only
  repeat' (first
    | with_reducible rfl
    | with_reducible refine (keeps_putRecord h_regs h_recov h_ports h_camp h_out _ _ _ _ _).trans ?_)

theorem keeps_countRecovery {L : Part → Bool} (h_regs : L .regs = true) : ∀ s status, erase L (countRecovery s status) = erase L s := by
  intro s status
  unfold countRecovery
  try dsimp only
  repeat' (first
    | with_reducible rfl
    | with_reducible refine (keeps_satAdd h_regs _ _ _ _ _ _).trans ?_
    | with_reducible refine erase_cond ?_ ?_)

theorem keeps_sendPme {L : Part → Bool} (h_fns : L .fns = true) (h_out : L .out = true) : ∀ s fn, erase L (sendPme s fn) = erase L s := by
  intro s fn
  unfold sendPme
  try dsimp only
  repeat' (first
    | with_reducible rfl
    | with_reducible refine (keeps_emit h_out _ _).trans ?_
    | with_reducible refine (keeps_State_setFn h_fns _ _ _).trans ?_
    | with_reducible refine erase_cond ?_ ?_)

theorem keeps_queuePost {L : Part → Bool} (h_fns : L .fns = true) (h_cqs : L .cqs = true) (h_prog : L .prog = true) (h_out : L .out = true) : ∀ s fn c p, erase L (queuePost s fn c p) = erase L s := by
  intro s fn c p
  unfold queuePost
  try dsimp only
  repeat' (first
    | with_reducible refine (keeps_sendPme h_fns h_out _ _).trans ?_
    | with_reducible refine (keeps_updCq h_cqs _ _ _ _).trans ?_
    | with_reducible refine erase_cond ?_ ?_)
  all_goals with_reducible refine (erase_prog h_prog _ _).trans ?_
  all_goals with_reducible rfl

theorem keeps_decideItem {L : Part → Bool} (h_regs : L .regs = true) (h_fns : L .fns = true) (h_sqs : L .sqs = true) (h_cqs : L .cqs = true) (h_prog : L .prog = true) (h_recov : L .recov = true) (h_ports : L .ports = true) (h_camp : L .camp = true) (h_out : L .out = true) : ∀ s fn slot seq e, erase L (decideItem s fn slot seq e) = erase L s := by
  intro s fn slot seq e
  unfold decideItem
  try dsimp only
  repeat' (first
    | with_reducible rfl
    | with_reducible refine (keeps_updItem h_sqs _ _ _ _ _).trans ?_
    | with_reducible refine (keeps_writeCqRec h_regs h_recov h_ports h_camp h_out _ _ _ _).trans ?_
    | with_reducible refine (keeps_putRecord h_regs h_recov h_ports h_camp h_out _ _ _ _ _).trans ?_
    | with_reducible refine (keeps_updCq h_cqs _ _ _ _).trans ?_
    | with_reducible refine (keeps_countRecovery h_regs _ _).trans ?_
    | with_reducible refine (keeps_queuePost h_fns h_cqs h_prog h_out _ _ _ _).trans ?_
    | with_reducible refine erase_cond ?_ ?_
    | split)

theorem keeps_freeProg {L : Part → Bool} (h_regs : L .regs = true) (h_recov : L .recov = true) (h_ports : L .ports = true) (h_camp : L .camp = true) (h_out : L .out = true) : ∀ s c, erase L (freeProg s c) = erase L s := by
  intro s c
  unfold freeProg
  try dsimp only
  repeat' (first
    | with_reducible rfl
    | with_reducible refine (keeps_putRecord h_regs h_recov h_ports h_camp h_out _ _ _ _ _).trans ?_)

theorem keeps_writeProg {L : Part → Bool} (h_regs : L .regs = true) (h_recov : L .recov = true) (h_ports : L .ports = true) (h_camp : L .camp = true) (h_out : L .out = true) : ∀ s c state ordinal moved, erase L (writeProg s c state ordinal moved) = erase L s := by
  intro s c state ordinal moved
  unfold writeProg
  try dsimp only
  repeat' (first
    | with_reducible rfl
    | with_reducible refine (keeps_freeProg h_regs h_recov h_ports h_camp h_out _ _).trans ?_
    | with_reducible refine (keeps_putRecord h_regs h_recov h_ports h_camp h_out _ _ _ _ _).trans ?_
    | with_reducible refine erase_cond ?_ ?_
    | split)

theorem keeps_countEnding {L : Part → Bool} (h_regs : L .regs = true) : ∀ s p status, erase L (countEnding s p status) = erase L s := by
  intro s p status
  unfold countEnding
  try dsimp only
  repeat' (first
    | with_reducible rfl
    | with_reducible refine (keeps_satAdd h_regs _ _ _ _ _ _).trans ?_
    | with_reducible refine erase_cond ?_ ?_)

theorem keeps_endProgram {L : Part → Bool} (h_regs : L .regs = true) (h_fns : L .fns = true) (h_sqs : L .sqs = true) (h_cqs : L .cqs = true) (h_prog : L .prog = true) (h_recov : L .recov = true) (h_mem : L .mem = true) (h_ports : L .ports = true) (h_camp : L .camp = true) (h_out : L .out = true) : ∀ c status fail residual part s, erase L (endProgram c status fail residual part s) = erase L s := by
  intro c status fail residual part s
  unfold endProgram
  try dsimp only
  repeat' (first
    | with_reducible rfl
    | with_reducible refine (keeps_decideItem h_regs h_fns h_sqs h_cqs h_prog h_recov h_ports h_camp h_out _ _ _ _ _).trans ?_
    | with_reducible refine (keeps_State_setCtx h_prog _ _ _).trans ?_
    | with_reducible refine (keeps_undrain h_mem _ _).trans ?_
    | with_reducible refine (keeps_writeProg h_regs h_recov h_ports h_camp h_out _ _ _ _ _).trans ?_
    | with_reducible refine (keeps_countEnding h_regs _ _ _).trans ?_)

theorem keeps_hold {L : Part → Bool} (h_prog : L .prog = true) : ∀ c s, erase L (hold c s) = erase L s := by
  intro c s
  unfold hold
  try dsimp only
  repeat' (first
    | with_reducible rfl
    | with_reducible refine (keeps_State_setCtx h_prog _ _ _).trans ?_
    | with_reducible refine erase_cond ?_ ?_)

theorem keeps_fetchHosted {L : Part → Bool} (h_regs : L .regs = true) (h_fns : L .fns = true) (h_sqs : L .sqs = true) (h_cqs : L .cqs = true) (h_prog : L .prog = true) (h_recov : L .recov = true) (h_mem : L .mem = true) (h_ports : L .ports = true) (h_camp : L .camp = true) (h_power : L .power = true) (h_out : L .out = true) : ∀ c pos s, erase L (fetchHosted c pos s) = erase L s := by
  intro c pos s
  unfold fetchHosted
  try dsimp only
  repeat' (first
    | with_reducible rfl
    | with_reducible refine (keeps_ddrTouch h_power _ _).trans ?_
    | with_reducible refine (keeps_endProgram h_regs h_fns h_sqs h_cqs h_prog h_recov h_mem h_ports h_camp h_out _ _ _ _ _ _).trans ?_
    | with_reducible refine (keeps_deny h_regs h_mem _ _ _ _).trans ?_
    | with_reducible refine (keeps_State_setCtx h_prog _ _ _).trans ?_
    | with_reducible refine (keeps_hold h_prog _ _).trans ?_
    | with_reducible refine (keeps_emit h_out _ _).trans ?_
    | with_reducible refine erase_cond ?_ ?_
    | split)

theorem keeps_fetchMore {L : Part → Bool} (h_regs : L .regs = true) (h_fns : L .fns = true) (h_sqs : L .sqs = true) (h_cqs : L .cqs = true) (h_prog : L .prog = true) (h_recov : L .recov = true) (h_mem : L .mem = true) (h_ports : L .ports = true) (h_camp : L .camp = true) (h_power : L .power = true) (h_out : L .out = true) : ∀ c s, erase L (fetchMore c s) = erase L s := by
  intro c s
  unfold fetchMore
  try dsimp only
  repeat' (first
    | with_reducible rfl
    | with_reducible refine (keeps_fetchHosted h_regs h_fns h_sqs h_cqs h_prog h_recov h_mem h_ports h_camp h_power h_out _ _ _).trans ?_
    | with_reducible refine erase_cond ?_ ?_
    | split)

theorem keeps_resumeOne {L : Part → Bool} (h_regs : L .regs = true) (h_fns : L .fns = true) (h_sqs : L .sqs = true) (h_cqs : L .cqs = true) (h_prog : L .prog = true) (h_recov : L .recov = true) (h_mem : L .mem = true) (h_ports : L .ports = true) (h_camp : L .camp = true) (h_power : L .power = true) (h_out : L .out = true) : ∀ s c, erase L (resumeOne s c) = erase L s := by
  intro s c
  unfold resumeOne
  try dsimp only
  repeat' (first
    | with_reducible rfl
    | with_reducible refine (keeps_fetchMore h_regs h_fns h_sqs h_cqs h_prog h_recov h_mem h_ports h_camp h_power h_out _ _).trans ?_
    | with_reducible refine (keeps_State_setCtx h_prog _ _ _).trans ?_
    | with_reducible refine erase_cond ?_ ?_
    | split)

theorem keeps_sqResumeS {L : Part → Bool} (h_regs : L .regs = true) (h_fns : L .fns = true) (h_sqs : L .sqs = true) (h_cqs : L .cqs = true) (h_prog : L .prog = true) (h_recov : L .recov = true) (h_mem : L .mem = true) (h_ports : L .ports = true) (h_camp : L .camp = true) (h_power : L .power = true) (h_out : L .out = true) : ∀ fn slot s, erase L (sqResumeS fn slot s) = erase L s := by
  intro fn slot s
  unfold sqResumeS
  try dsimp only
  repeat' (first
    | with_reducible rfl
    | with_reducible refine (keeps_resumeOne h_regs h_fns h_sqs h_cqs h_prog h_recov h_mem h_ports h_camp h_power h_out _ _).trans ?_
    | with_reducible refine (erase_foldl (fun _ _ => ?_) _ _).trans ?_
    | with_reducible refine erase_cond ?_ ?_)

theorem keeps_assignLeaseS {L : Part → Bool} (h_regs : L .regs = true) (h_sqs : L .sqs = true) (h_recov : L .recov = true) (h_ports : L .ports = true) (h_camp : L .camp = true) (h_out : L .out = true) : ∀ v s, erase L (assignLeaseS v s) = erase L s := by
  intro v s
  unfold assignLeaseS
  try dsimp only
  repeat' (first
    | with_reducible rfl
    | with_reducible refine (keeps_writeSqRec h_regs h_recov h_ports h_camp h_out _ _ _).trans ?_
    | with_reducible refine (keeps_updSq h_sqs _ _ _ _).trans ?_
    | with_reducible refine (keeps_assignResult h_regs _ _).trans ?_
    | with_reducible refine erase_cond ?_ ?_)

theorem keeps_cqDoorbellS {L : Part → Bool} (h_cqs : L .cqs = true) : ∀ fn slot v s, erase L (cqDoorbellS fn slot v s) = erase L s := by
  intro fn slot v s
  unfold cqDoorbellS
  try dsimp only
  repeat' (first
    | with_reducible rfl
    | with_reducible refine (keeps_updCq h_cqs _ _ _ _).trans ?_
    | with_reducible refine erase_cond ?_ ?_)

theorem keeps_assignQueueS {L : Part → Bool} (h_regs : L .regs = true) (h_sqs : L .sqs = true) (h_cqs : L .cqs = true) (h_recov : L .recov = true) (h_ports : L .ports = true) (h_camp : L .camp = true) (h_out : L .out = true) : ∀ v s, erase L (assignQueueS v s) = erase L s := by
  intro v s
  unfold assignQueueS
  try dsimp only
  repeat' (first
    | with_reducible rfl
    | with_reducible refine (keeps_writeSqRec h_regs h_recov h_ports h_camp h_out _ _ _).trans ?_
    | with_reducible refine (keeps_updSq h_sqs _ _ _ _).trans ?_
    | with_reducible refine (keeps_assignResult h_regs _ _).trans ?_
    | with_reducible refine (keeps_writeCqRec h_regs h_recov h_ports h_camp h_out _ _ _ _).trans ?_
    | with_reducible refine (keeps_updCq h_cqs _ _ _ _).trans ?_
    | with_reducible refine erase_cond ?_ ?_)

theorem keeps_setCqState {L : Part → Bool} (h_regs : L .regs = true) (h_cqs : L .cqs = true) (h_recov : L .recov = true) (h_ports : L .ports = true) (h_camp : L .camp = true) (h_out : L .out = true) : ∀ s fn slot st, erase L (setCqState s fn slot st) = erase L s := by
  intro s fn slot st
  unfold setCqState
  try dsimp only
  repeat' (first
    | with_reducible rfl
    | with_reducible refine (keeps_writeCqRec h_regs h_recov h_ports h_camp h_out _ _ _ _).trans ?_
    | with_reducible refine (keeps_updCq h_cqs _ _ _ _).trans ?_)

theorem keeps_cqDrained {L : Part → Bool} (h_regs : L .regs = true) (h_cqs : L .cqs = true) (h_recov : L .recov = true) (h_ports : L .ports = true) (h_camp : L .camp = true) (h_out : L .out = true) : ∀ s fn slot, erase L (cqDrained s fn slot) = erase L s := by
  intro s fn slot
  unfold cqDrained
  try dsimp only
  repeat' (first
    | with_reducible rfl
    | with_reducible refine (keeps_setCqState h_regs h_cqs h_recov h_ports h_camp h_out _ _ _ _).trans ?_
    | with_reducible refine erase_cond ?_ ?_)

theorem keeps_cqDisableS {L : Part → Bool} (h_regs : L .regs = true) (h_cqs : L .cqs = true) (h_recov : L .recov = true) (h_ports : L .ports = true) (h_camp : L .camp = true) (h_out : L .out = true) : ∀ fn slot v s, erase L (cqDisableS fn slot v s) = erase L s := by
  intro fn slot v s
  unfold cqDisableS
  try dsimp only
  repeat' (first
    | with_reducible rfl
    | with_reducible refine (keeps_setCqState h_regs h_cqs h_recov h_ports h_camp h_out _ _ _ _).trans ?_
    | with_reducible refine (keeps_cqDrained h_regs h_cqs h_recov h_ports h_camp h_out _ _ _).trans ?_
    | with_reducible refine (keeps_updCq h_cqs _ _ _ _).trans ?_
    | with_reducible refine erase_cond ?_ ?_)

theorem keeps_cqEnableS {L : Part → Bool} (h_regs : L .regs = true) (h_cqs : L .cqs = true) (h_recov : L .recov = true) (h_ports : L .ports = true) (h_camp : L .camp = true) (h_out : L .out = true) : ∀ fn slot v s, erase L (cqEnableS fn slot v s) = erase L s := by
  intro fn slot v s
  unfold cqEnableS
  try dsimp only
  repeat' (first
    | with_reducible rfl
    | with_reducible refine (keeps_setCqState h_regs h_cqs h_recov h_ports h_camp h_out _ _ _ _).trans ?_
    | with_reducible refine (keeps_updCq h_cqs _ _ _ _).trans ?_
    | with_reducible refine erase_cond ?_ ?_)

theorem keeps_cqCfgS {L : Part → Bool} (h_regs : L .regs = true) (h_fns : L .fns = true) (h_cqs : L .cqs = true) (h_recov : L .recov = true) (h_mem : L .mem = true) (h_ports : L .ports = true) (h_camp : L .camp = true) (h_out : L .out = true) : ∀ fn slot v s, erase L (cqCfgS fn slot v s) = erase L s := by
  intro fn slot v s
  unfold cqCfgS
  try dsimp only
  repeat' (first
    | with_reducible rfl
    | with_reducible refine (keeps_cqDisableS h_regs h_cqs h_recov h_ports h_camp h_out _ _ _ _).trans ?_
    | with_reducible refine (keeps_sendPending h_regs h_fns h_cqs h_mem h_ports h_out _ _).trans ?_
    | with_reducible refine (keeps_cqEnableS h_regs h_cqs h_recov h_ports h_camp h_out _ _ _ _).trans ?_
    | with_reducible refine (keeps_updCq h_cqs _ _ _ _).trans ?_
    | with_reducible refine erase_cond ?_ ?_)

theorem keeps_cqRegS {L : Part → Bool} (h_regs : L .regs = true) (h_fns : L .fns = true) (h_cqs : L .cqs = true) (h_recov : L .recov = true) (h_mem : L .mem = true) (h_ports : L .ports = true) (h_camp : L .camp = true) (h_out : L .out = true) : ∀ fn slot o v s, erase L (cqRegS fn slot o v s) = erase L s := by
  intro fn slot o v s
  unfold cqRegS
  try dsimp only
  repeat' (first
    | with_reducible rfl
    | with_reducible refine (keeps_cqCfgS h_regs h_fns h_cqs h_recov h_mem h_ports h_camp h_out _ _ _ _).trans ?_
    | with_reducible refine (keeps_State_setCq h_cqs _ _ _ _).trans ?_
    | with_reducible refine erase_cond ?_ ?_)

theorem keeps_clearJournal {L : Part → Bool} (h_regs : L .regs = true) (h_recov : L .recov = true) (h_ports : L .ports = true) (h_camp : L .camp = true) (h_out : L .out = true) : ∀ s q, erase L (clearJournal s q) = erase L s := by
  intro s q
  unfold clearJournal
  try dsimp only
  repeat' (first
    | with_reducible rfl
    | with_reducible refine (keeps_putRecord h_regs h_recov h_ports h_camp h_out _ _ _ _ _).trans ?_
    | with_reducible refine (erase_foldl (fun _ _ => ?_) _ _).trans ?_)

theorem keeps_sqDrained {L : Part → Bool} (h_regs : L .regs = true) (h_sqs : L .sqs = true) (h_recov : L .recov = true) (h_ports : L .ports = true) (h_camp : L .camp = true) (h_out : L .out = true) : ∀ s fn slot, erase L (sqDrained s fn slot) = erase L s := by
  intro s fn slot
  unfold sqDrained
  try dsimp only
  repeat' (first
    | with_reducible rfl
    | with_reducible refine (keeps_updSq h_sqs _ _ _ _).trans ?_
    | with_reducible refine (keeps_setSqState h_regs h_sqs h_recov h_ports h_camp h_out _ _ _ _).trans ?_
    | with_reducible refine (keeps_clearJournal h_regs h_recov h_ports h_camp h_out _ _).trans ?_
    | with_reducible refine erase_cond ?_ ?_)

theorem keeps_queueCall {L : Part → Bool} (h_prog : L .prog = true) (h_cores : L .cores = true) : ∀ c s, erase L (queueCall c s) = erase L s := by
  intro c s
  unfold queueCall
  try dsimp only
  repeat' (first
    | with_reducible rfl
    | with_reducible refine (keeps_State_setCtx h_prog _ _ _).trans ?_
    | with_reducible refine (keeps_State_setCore h_cores _ _ _).trans ?_
    | split)

theorem keeps_retryCalls {L : Part → Bool} (h_prog : L .prog = true) (h_cores : L .cores = true) : ∀ p s, erase L (retryCalls p s) = erase L s := by
  intro p s
  unfold retryCalls
  try dsimp only
  repeat' (first
    | with_reducible rfl
    | with_reducible refine (keeps_queueCall h_prog h_cores _ _).trans ?_
    | with_reducible refine (erase_foldl (fun _ _ => ?_) _ _).trans ?_
    | with_reducible refine erase_cond ?_ ?_)

theorem keeps_dropCalls {L : Part → Bool} (h_cores : L .cores = true) : ∀ s c, erase L (dropCalls s c) = erase L s := by
  intro s c
  unfold dropCalls
  try dsimp only
  repeat' (first
    | with_reducible rfl
    | with_reducible refine (keeps_State_setCore h_cores _ _ _).trans ?_
    | with_reducible refine (erase_foldl (fun _ _ => ?_) _ _).trans ?_)

theorem keeps_dropCall {L : Part → Bool} (h_prog : L .prog = true) (h_cores : L .cores = true) : ∀ s c, erase L (dropCall s c) = erase L s := by
  intro s c
  unfold dropCall
  try dsimp only
  repeat' (first
    | with_reducible rfl
    | with_reducible refine (keeps_retryCalls h_prog h_cores _ _).trans ?_
    | with_reducible refine (keeps_dropCalls h_cores _ _).trans ?_
    | with_reducible refine (keeps_State_setCtx h_prog _ _ _).trans ?_)

theorem keeps_endByReset {L : Part → Bool} (h_regs : L .regs = true) (h_fns : L .fns = true) (h_sqs : L .sqs = true) (h_cqs : L .cqs = true) (h_prog : L .prog = true) (h_recov : L .recov = true) (h_cores : L .cores = true) (h_mem : L .mem = true) (h_ports : L .ports = true) (h_camp : L .camp = true) (h_out : L .out = true) : ∀ fn slot s i, erase L (endByReset fn slot s i) = erase L s := by
  intro fn slot s i
  unfold endByReset
  try dsimp only
  repeat' (first
    | with_reducible rfl
    | with_reducible refine (keeps_decideItem h_regs h_fns h_sqs h_cqs h_prog h_recov h_ports h_camp h_out _ _ _ _ _).trans ?_
    | with_reducible refine (keeps_State_setCtx h_prog _ _ _).trans ?_
    | with_reducible refine (keeps_undrain h_mem _ _).trans ?_
    | with_reducible refine (keeps_abandon h_out _ _).trans ?_
    | with_reducible refine (keeps_dropCall h_prog h_cores _ _).trans ?_
    | split)

theorem keeps_queueResetS {L : Part → Bool} (h_regs : L .regs = true) (h_fns : L .fns = true) (h_sqs : L .sqs = true) (h_cqs : L .cqs = true) (h_prog : L .prog = true) (h_recov : L .recov = true) (h_cores : L .cores = true) (h_mem : L .mem = true) (h_ports : L .ports = true) (h_camp : L .camp = true) (h_out : L .out = true) : ∀ fn slot s, erase L (queueResetS fn slot s) = erase L s := by
  intro fn slot s
  unfold queueResetS
  try dsimp only
  repeat' (first
    | with_reducible rfl
    | with_reducible refine (keeps_updSq h_sqs _ _ _ _).trans ?_
    | with_reducible refine (keeps_setSqState h_regs h_sqs h_recov h_ports h_camp h_out _ _ _ _).trans ?_
    | with_reducible refine (keeps_undrain h_mem _ _).trans ?_
    | with_reducible refine (keeps_sqDrained h_regs h_sqs h_recov h_ports h_camp h_out _ _ _).trans ?_
    | with_reducible refine (keeps_endByReset h_regs h_fns h_sqs h_cqs h_prog h_recov h_cores h_mem h_ports h_camp h_out _ _ _ _).trans ?_
    | with_reducible refine (erase_foldl (fun _ _ => ?_) _ _).trans ?_
    | with_reducible refine erase_cond ?_ ?_)

theorem keeps_indexPart {L : Part → Bool} (h_regs : L .regs = true) (h_sqs : L .sqs = true) (h_recov : L .recov = true) (h_mem : L .mem = true) (h_ports : L .ports = true) (h_camp : L .camp = true) (h_out : L .out = true) : ∀ fn slot s p, erase L (indexPart fn slot s p) = erase L s := by
  intro fn slot s p
  unfold indexPart
  try dsimp only
  repeat' (first
    | with_reducible rfl
    | with_reducible refine (keeps_sqError h_regs h_sqs h_recov h_mem h_ports h_camp h_out _ _ _ _).trans ?_
    | with_reducible refine (keeps_emit h_out _ _).trans ?_
    | with_reducible refine (keeps_hostDenied h_regs h_mem (by assumption)).trans ?_
    | split)

theorem keeps_flushIndex {L : Part → Bool} (h_regs : L .regs = true) (h_sqs : L .sqs = true) (h_recov : L .recov = true) (h_mem : L .mem = true) (h_ports : L .ports = true) (h_camp : L .camp = true) (h_out : L .out = true) : ∀ s fn slot, erase L (flushIndex s fn slot) = erase L s := by
  intro s fn slot
  unfold flushIndex
  try dsimp only
  repeat' (first
    | with_reducible rfl
    | with_reducible refine (keeps_indexPart h_regs h_sqs h_recov h_mem h_ports h_camp h_out _ _ _ _).trans ?_
    | with_reducible refine (keeps_updSq h_sqs _ _ _ _).trans ?_
    | with_reducible refine (erase_foldl (fun _ _ => ?_) _ _).trans ?_
    | with_reducible refine erase_cond ?_ ?_)

theorem keeps_oweIndex {L : Part → Bool} (h_regs : L .regs = true) (h_sqs : L .sqs = true) (h_recov : L .recov = true) (h_mem : L .mem = true) (h_ports : L .ports = true) (h_camp : L .camp = true) (h_out : L .out = true) : ∀ s fn slot mask, erase L (oweIndex s fn slot mask) = erase L s := by
  intro s fn slot mask
  unfold oweIndex
  try dsimp only
  repeat' (first
    | with_reducible rfl
    | with_reducible refine (keeps_updSq h_sqs _ _ _ _).trans ?_
    | with_reducible refine (keeps_flushIndex h_regs h_sqs h_recov h_mem h_ports h_camp h_out _ _ _).trans ?_)

theorem keeps_sqEnableS {L : Part → Bool} (h_regs : L .regs = true) (h_sqs : L .sqs = true) (h_recov : L .recov = true) (h_mem : L .mem = true) (h_ports : L .ports = true) (h_camp : L .camp = true) (h_out : L .out = true) : ∀ fn slot v s, erase L (sqEnableS fn slot v s) = erase L s := by
  intro fn slot v s
  unfold sqEnableS
  try dsimp only
  repeat' (first
    | with_reducible rfl
    | with_reducible refine (keeps_updSq h_sqs _ _ _ _).trans ?_
    | with_reducible refine (keeps_setSqState h_regs h_sqs h_recov h_ports h_camp h_out _ _ _ _).trans ?_
    | with_reducible refine (keeps_startRound h_regs h_sqs h_recov h_mem h_ports h_camp h_out _ _ _).trans ?_
    | with_reducible refine (keeps_oweIndex h_regs h_sqs h_recov h_mem h_ports h_camp h_out _ _ _ _).trans ?_
    | with_reducible refine erase_cond ?_ ?_)

theorem keeps_sqDisableS {L : Part → Bool} (h_regs : L .regs = true) (h_sqs : L .sqs = true) (h_recov : L .recov = true) (h_mem : L .mem = true) (h_ports : L .ports = true) (h_camp : L .camp = true) (h_out : L .out = true) : ∀ fn slot s, erase L (sqDisableS fn slot s) = erase L s := by
  intro fn slot s
  unfold sqDisableS
  try dsimp only
  repeat' (first
    | with_reducible rfl
    | with_reducible refine (keeps_updSq h_sqs _ _ _ _).trans ?_
    | with_reducible refine (keeps_setSqState h_regs h_sqs h_recov h_ports h_camp h_out _ _ _ _).trans ?_
    | with_reducible refine (keeps_undrain h_mem _ _).trans ?_
    | with_reducible refine (keeps_sqDrained h_regs h_sqs h_recov h_ports h_camp h_out _ _ _).trans ?_)

theorem keeps_sqCfgS {L : Part → Bool} (h_regs : L .regs = true) (h_sqs : L .sqs = true) (h_recov : L .recov = true) (h_mem : L .mem = true) (h_ports : L .ports = true) (h_camp : L .camp = true) (h_out : L .out = true) : ∀ fn slot v s, erase L (sqCfgS fn slot v s) = erase L s := by
  intro fn slot v s
  unfold sqCfgS
  try dsimp only
  repeat' (first
    | with_reducible rfl
    | with_reducible refine (keeps_sqEnableS h_regs h_sqs h_recov h_mem h_ports h_camp h_out _ _ _ _).trans ?_
    | with_reducible refine (keeps_updSq h_sqs _ _ _ _).trans ?_
    | with_reducible refine (keeps_sqDisableS h_regs h_sqs h_recov h_mem h_ports h_camp h_out _ _ _).trans ?_
    | with_reducible refine erase_cond ?_ ?_)

theorem keeps_sqRegS {L : Part → Bool} (h_regs : L .regs = true) (h_fns : L .fns = true) (h_sqs : L .sqs = true) (h_cqs : L .cqs = true) (h_prog : L .prog = true) (h_recov : L .recov = true) (h_cores : L .cores = true) (h_mem : L .mem = true) (h_ports : L .ports = true) (h_camp : L .camp = true) (h_out : L .out = true) : ∀ fn slot o v s, erase L (sqRegS fn slot o v s) = erase L s := by
  intro fn slot o v s
  unfold sqRegS
  try dsimp only
  repeat' (first
    | with_reducible rfl
    | with_reducible refine (keeps_queueResetS h_regs h_fns h_sqs h_cqs h_prog h_recov h_cores h_mem h_ports h_camp h_out _ _ _).trans ?_
    | with_reducible refine (keeps_sqCfgS h_regs h_sqs h_recov h_mem h_ports h_camp h_out _ _ _ _).trans ?_
    | with_reducible refine (keeps_State_setSq h_sqs _ _ _ _).trans ?_
    | with_reducible refine erase_cond ?_ ?_)

theorem keeps_queueRegS {L : Part → Bool} (h_regs : L .regs = true) (h_fns : L .fns = true) (h_sqs : L .sqs = true) (h_cqs : L .cqs = true) (h_prog : L .prog = true) (h_recov : L .recov = true) (h_cores : L .cores = true) (h_mem : L .mem = true) (h_ports : L .ports = true) (h_camp : L .camp = true) (h_out : L .out = true) : ∀ fn off v s, erase L (queueRegS fn off v s) = erase L s := by
  intro fn off v s
  unfold queueRegS
  try dsimp only
  repeat' (first
    | with_reducible rfl
    | with_reducible refine (keeps_cqRegS h_regs h_fns h_cqs h_recov h_mem h_ports h_camp h_out _ _ _ _ _).trans ?_
    | with_reducible refine (keeps_sqRegS h_regs h_fns h_sqs h_cqs h_prog h_recov h_cores h_mem h_ports h_camp h_out _ _ _ _ _).trans ?_
    | with_reducible refine erase_cond ?_ ?_)

theorem keeps_queueWrite {L : Part → Bool} (h_regs : L .regs = true) (h_fns : L .fns = true) (h_sqs : L .sqs = true) (h_cqs : L .cqs = true) (h_prog : L .prog = true) (h_recov : L .recov = true) (h_cores : L .cores = true) (h_mem : L .mem = true) (h_ports : L .ports = true) (h_camp : L .camp = true) (h_out : L .out = true) : ∀ fn off v s, erase L (queueWrite fn off v s) = erase L s := by
  intro fn off v s
  unfold queueWrite
  try dsimp only
  repeat' (first
    | with_reducible rfl
    | with_reducible refine (keeps_State_withRecov h_recov _ _).trans ?_
    | with_reducible refine (keeps_queueRegS h_regs h_fns h_sqs h_cqs h_prog h_recov h_cores h_mem h_ports h_camp h_out _ _ _ _).trans ?_
    | with_reducible refine erase_cond ?_ ?_)

theorem keeps_fnWrite {L : Part → Bool} (h_regs : L .regs = true) (h_fns : L .fns = true) (h_sqs : L .sqs = true) (h_cqs : L .cqs = true) (h_prog : L .prog = true) (h_recov : L .recov = true) (h_cores : L .cores = true) (h_mem : L .mem = true) (h_mail : L .mail = true) (h_intc : L .intc = true) (h_ports : L .ports = true) (h_camp : L .camp = true) (h_power : L .power = true) (h_out : L .out = true) : ∀ d i fn size v s, erase L (fnWrite d i fn size v s) = erase L s := by
  intro d i fn size v s
  unfold fnWrite
  try dsimp only
  repeat' (first
    | with_reducible rfl
    | with_reducible refine (keeps_assignIdentS h_regs h_fns h_recov h_ports h_camp h_out _ _).trans ?_
    | with_reducible refine (keeps_fnNoticeEmptyS h_regs h_fns h_mail h_intc h_ports h_camp h_out _ _ _).trans ?_
    | with_reducible refine (keeps_sqDoorbellS h_regs h_sqs h_recov h_mem h_ports h_camp h_out _ _ _).trans ?_
    | with_reducible refine (keeps_msixWrite h_regs h_fns h_cqs h_recov h_mem h_ports h_camp h_out _ _ _ _ _).trans ?_
    | with_reducible refine (keeps_sqResumeS h_regs h_fns h_sqs h_cqs h_prog h_recov h_mem h_ports h_camp h_power h_out _ _ _).trans ?_
    | with_reducible refine (keeps_assignLeaseS h_regs h_sqs h_recov h_ports h_camp h_out _ _).trans ?_
    | with_reducible refine (keeps_cqDoorbellS h_cqs _ _ _ _).trans ?_
    | with_reducible refine (keeps_assignQueueS h_regs h_sqs h_cqs h_recov h_ports h_camp h_out _ _).trans ?_
    | with_reducible refine (keeps_plainWrite h_regs _ _ _ _ _ _).trans ?_
    | with_reducible refine (keeps_queueWrite h_regs h_fns h_sqs h_cqs h_prog h_recov h_cores h_mem h_ports h_camp h_out _ _ _ _).trans ?_
    | with_reducible refine erase_cond ?_ ?_)

theorem keeps_swRw {L : Part → Bool} (h_regs : L .regs = true) : ∀ s d v i j p, erase L (swRw s d v i j p) = erase L s := by
  intro s d v i j p
  unfold swRw
  try dsimp only
  repeat' (first
    | with_reducible rfl
    | with_reducible refine (keeps_wr h_regs _ _ _ _ _ _).trans ?_)

theorem keeps_windowLoS {L : Part → Bool} (h_regs : L .regs = true) : ∀ m w v s, erase L (windowLoS m w v s) = erase L s := by
  intro m w v s
  unfold windowLoS
  try dsimp only
  repeat' (first
    | with_reducible rfl
    | with_reducible refine (keeps_swRw h_regs _ _ _ _ _ _).trans ?_)

theorem keeps_readSelectS {L : Part → Bool} (h_regs : L .regs = true) (h_recov : L .recov = true) : ∀ v s, erase L (readSelectS v s) = erase L s := by
  intro v s
  unfold readSelectS
  try dsimp only
  repeat' (first
    | with_reducible rfl
    | with_reducible refine (keeps_State_withRecov h_recov _ _).trans ?_
    | with_reducible refine (keeps_wf h_regs _ _ _ _ _ _ _).trans ?_
    | with_reducible refine (keeps_swRw h_regs _ _ _ _ _ _).trans ?_)

theorem keeps_ctxSelectS {L : Part → Bool} (h_regs : L .regs = true) : ∀ p v s, erase L (ctxSelectS p v s) = erase L s := by
  intro p v s
  unfold ctxSelectS
  try dsimp only
  repeat' (first
    | with_reducible rfl
    | with_reducible refine (keeps_wr h_regs _ _ _ _ _ _).trans ?_)

theorem keeps_lantSnapS {L : Part → Bool} (h_regs : L .regs = true) : ∀ v s, erase L (lantSnapS v s) = erase L s := by
  intro v s
  unfold lantSnapS
  try dsimp only
  repeat' (first
    | with_reducible rfl
    | with_reducible refine (keeps_wr h_regs _ _ _ _ _ _).trans ?_
    | with_reducible refine erase_cond ?_ ?_)

theorem keeps_schedCtrlS {L : Part → Bool} (h_regs : L .regs = true) (h_sched : L .sched = true) : ∀ v s, erase L (schedCtrlS v s) = erase L s := by
  intro v s
  unfold schedCtrlS
  try dsimp only
  repeat' (first
    | with_reducible rfl
    | with_reducible refine (keeps_stf h_regs _ _ _).trans ?_
    | with_reducible refine (keeps_armSwap h_regs h_sched _ _).trans ?_
    | with_reducible refine (keeps_wf h_regs _ _ _ _ _ _ _).trans ?_
    | with_reducible refine (keeps_State_withSched h_sched _ _).trans ?_
    | with_reducible refine erase_cond ?_ ?_)

theorem keeps_logBegin {L : Part → Bool} (h_trust : L .trust = true) : ∀ s kind arg, erase L (logBegin s kind arg) = erase L s := by
  intro s kind arg
  unfold logBegin
  try dsimp only
  repeat' (first
    | with_reducible rfl
    | with_reducible refine (keeps_State_withTrust h_trust _ _).trans ?_)

theorem keeps_commitBegin {L : Part → Bool} (h_lant : L .lant = true) (h_trust : L .trust = true) : ∀ s, erase L (commitBegin s) = erase L s := by
  intro s
  unfold commitBegin
  try dsimp only
  repeat' (first
    | with_reducible rfl
    | with_reducible refine (keeps_logBegin h_trust _ _ _).trans ?_
    | with_reducible refine (keeps_State_withLant h_lant _ _).trans ?_)

theorem keeps_calCommitS {L : Part → Bool} (h_regs : L .regs = true) (h_lant : L .lant = true) (h_trust : L .trust = true) : ∀ v s, erase L (calCommitS v s) = erase L s := by
  intro v s
  unfold calCommitS
  try dsimp only
  repeat' (first
    | with_reducible rfl
    | with_reducible refine (keeps_State_withTrust h_trust _ _).trans ?_
    | with_reducible refine (keeps_commitBegin h_lant h_trust _).trans ?_
    | with_reducible refine (keeps_wf h_regs _ _ _ _ _ _ _).trans ?_
    | with_reducible refine erase_cond ?_ ?_)

theorem keeps_takeFree {L : Part → Bool} (h_free : L .free = true) : ∀ s, erase L (takeFree s).2 = erase L s := by
  intro s
  unfold takeFree
  try dsimp only
  all_goals with_reducible refine (erase_free h_free _ _).trans ?_
  all_goals with_reducible rfl

theorem keeps_genStart {L : Part → Bool} (h_out : L .out = true) (h_free : L .free = true) : ∀ s l, erase L (genStart s l) = erase L s := by
  intro s l
  unfold genStart
  try dsimp only
  repeat' (first
    | with_reducible rfl
    | with_reducible refine (keeps_takeFree h_free _).trans ?_
    | with_reducible refine (keeps_emit h_out _ _).trans ?_
    | with_reducible refine erase_cond ?_ ?_)

theorem keeps_genWrite {L : Part → Bool} (h_out : L .out = true) (h_free : L .free = true) : ∀ old l s, erase L (genWrite old l s) = erase L s := by
  intro old l s
  unfold genWrite
  try dsimp only
  repeat' (first
    | with_reducible rfl
    | with_reducible refine (keeps_genStart h_out h_free _ _).trans ?_
    | with_reducible refine erase_cond ?_ ?_)

theorem keeps_prbsWrite {L : Part → Bool} (h_regs : L .regs = true) (h_ports : L .ports = true) (h_out : L .out = true) (h_free : L .free = true) : ∀ l v bits errs s, erase L (prbsWrite l v bits errs s) = erase L s := by
  intro l v bits errs s
  unfold prbsWrite
  try dsimp only
  repeat' (first
    | with_reducible rfl
    | with_reducible refine (keeps_State_setLane h_ports _ _ _).trans ?_
    | with_reducible refine (keeps_wr h_regs _ _ _ _ _ _).trans ?_
    | with_reducible refine (keeps_genWrite h_out h_free _ _ _).trans ?_
    | with_reducible refine (keeps_wf h_regs _ _ _ _ _ _ _).trans ?_
    | with_reducible refine (keeps_emit h_out _ _).trans ?_
    | with_reducible refine (keeps_swRw h_regs _ _ _ _ _ _).trans ?_
    | with_reducible refine erase_cond ?_ ?_)

theorem keeps_bgtWrite {L : Part → Bool} (h_regs : L .regs = true) (h_mem : L .mem = true) : ∀ p v s, erase L (bgtWrite p v s) = erase L s := by
  intro p v s
  unfold bgtWrite
  try dsimp only
  repeat' (first
    | with_reducible rfl
    | with_reducible refine (keeps_wf h_regs _ _ _ _ _ _ _).trans ?_
    | with_reducible refine (keeps_abortTest h_mem _ _).trans ?_
    | with_reducible refine erase_cond ?_ ?_)

theorem keeps_icSrcStateWrite {L : Part → Bool} (h_intc : L .intc = true) : ∀ n v s, erase L (icSrcStateWrite n v s) = erase L s := by
  intro n v s
  unfold icSrcStateWrite
  try dsimp only
  repeat' (first
    | with_reducible rfl
    | with_reducible refine (keeps_State_setSrc h_intc _ _ _).trans ?_
    | with_reducible refine erase_cond ?_ ?_)

theorem keeps_lantStep {L : Part → Bool} (h_regs : L .regs = true) (h_intc : L .intc = true) (h_lant : L .lant = true) : ∀ s x, erase L (lantStep s x) = erase L s := by
  intro s x
  unfold lantStep
  try dsimp only
  repeat' (first
    | with_reducible rfl
    | with_reducible refine (keeps_wf h_regs _ _ _ _ _ _ _).trans ?_
    | with_reducible refine (keeps_raise h_intc _ _).trans ?_
    | with_reducible refine (keeps_State_withLant h_lant _ _).trans ?_)

theorem keeps_setIdle {L : Part → Bool} (h_regs : L .regs = true) : ∀ s ns, erase L (setIdle s ns) = erase L s := by
  intro s ns
  unfold setIdle
  try dsimp only
  repeat' (first
    | with_reducible rfl
    | with_reducible refine (keeps_wr h_regs _ _ _ _ _ _).trans ?_)

theorem keeps_setOnceS {L : Part → Bool} (h_regs : L .regs = true) (h_intc : L .intc = true) (h_lant : L .lant = true) : ∀ v s, erase L (setOnceS v s) = erase L s := by
  intro v s
  unfold setOnceS
  try dsimp only
  repeat' (first
    | with_reducible rfl
    | with_reducible refine (keeps_lantStep h_regs h_intc h_lant _ _).trans ?_
    | with_reducible refine (keeps_setIdle h_regs _ _).trans ?_
    | with_reducible refine (keeps_State_withLant h_lant _ _).trans ?_
    | with_reducible refine erase_cond ?_ ?_)

theorem keeps_setCancelS {L : Part → Bool} (h_regs : L .regs = true) (h_lant : L .lant = true) : ∀ v s, erase L (setCancelS v s) = erase L s := by
  intro v s
  unfold setCancelS
  try dsimp only
  repeat' (first
    | with_reducible rfl
    | with_reducible refine (keeps_setIdle h_regs _ _).trans ?_
    | with_reducible refine (keeps_State_withLant h_lant _ _).trans ?_)

theorem keeps_addNsS {L : Part → Bool} (h_regs : L .regs = true) (h_intc : L .intc = true) (h_lant : L .lant = true) : ∀ v s, erase L (addNsS v s) = erase L s := by
  intro v s
  unfold addNsS
  try dsimp only
  repeat' (first
    | with_reducible rfl
    | with_reducible refine (keeps_lantStep h_regs h_intc h_lant _ _).trans ?_
    | with_reducible refine (keeps_setIdle h_regs _ _).trans ?_
    | with_reducible refine (keeps_State_withLant h_lant _ _).trans ?_)

theorem keeps_setEdgeS {L : Part → Bool} (h_regs : L .regs = true) (h_lant : L .lant = true) : ∀ v s, erase L (setEdgeS v s) = erase L s := by
  intro v s
  unfold setEdgeS
  try dsimp only
  repeat' (first
    | with_reducible rfl
    | with_reducible refine (keeps_wr h_regs _ _ _ _ _ _).trans ?_
    | with_reducible refine (keeps_State_withLant h_lant _ _).trans ?_)

theorem keeps_lantSetCtrl {L : Part → Bool} (h_regs : L .regs = true) (h_intc : L .intc = true) (h_lant : L .lant = true) : ∀ v s, erase L (lantSetCtrl v s) = erase L s := by
  intro v s
  unfold lantSetCtrl
  try dsimp only
  repeat' (first
    | with_reducible rfl
    | with_reducible refine (keeps_setOnceS h_regs h_intc h_lant _ _).trans ?_
    | with_reducible refine (keeps_setCancelS h_regs h_lant _ _).trans ?_
    | with_reducible refine (keeps_addNsS h_regs h_intc h_lant _ _).trans ?_
    | with_reducible refine (keeps_setEdgeS h_regs h_lant _ _).trans ?_
    | split)

theorem keeps_flashResult {L : Part → Bool} (h_regs : L .regs = true) : ∀ s r, erase L (flashResult s r) = erase L s := by
  intro s r
  unfold flashResult
  try dsimp only
  repeat' (first
    | with_reducible rfl
    | with_reducible refine (keeps_wf h_regs _ _ _ _ _ _ _).trans ?_)

theorem keeps_setGood {L : Part → Bool} (h_regs : L .regs = true) : ∀ s b v, erase L (setGood s b v) = erase L s := by
  intro s b v
  unfold setGood
  try dsimp only
  repeat' (first
    | with_reducible rfl
    | with_reducible refine (keeps_wf h_regs _ _ _ _ _ _ _).trans ?_)

theorem keeps_flashStartS {L : Part → Bool} (h_regs : L .regs = true) (h_trust : L .trust = true) : ∀ op v s, erase L (flashStartS op v s) = erase L s := by
  intro op v s
  unfold flashStartS
  try dsimp only
  repeat' (first
    | with_reducible rfl
    | with_reducible refine (keeps_State_withTrust h_trust _ _).trans ?_
    | with_reducible refine (keeps_flashResult h_regs _ _).trans ?_
    | with_reducible refine (keeps_setGood h_regs _ _ _).trans ?_
    | with_reducible refine (keeps_swRw h_regs _ _ _ _ _ _).trans ?_
    | with_reducible refine erase_cond ?_ ?_)

theorem keeps_flashCtrlS {L : Part → Bool} (h_regs : L .regs = true) (h_trust : L .trust = true) : ∀ v s, erase L (flashCtrlS v s) = erase L s := by
  intro v s
  unfold flashCtrlS
  try dsimp only
  repeat' (first
    | with_reducible rfl
    | with_reducible refine (keeps_flashStartS h_regs h_trust _ _ _).trans ?_
    | with_reducible refine (keeps_swRw h_regs _ _ _ _ _ _).trans ?_
    | with_reducible refine erase_cond ?_ ?_)

theorem keeps_haltS {L : Part → Bool} (h_cores : L .cores = true) : ∀ k s, erase L (haltS k s) = erase L s := by
  intro k s
  unfold haltS
  try dsimp only
  repeat' (first
    | with_reducible rfl
    | with_reducible refine (keeps_State_setCore h_cores _ _ _).trans ?_
    | with_reducible refine erase_cond ?_ ?_)

theorem keeps_resumeS {L : Part → Bool} (h_prog : L .prog = true) (h_cores : L .cores = true) : ∀ k s, erase L (resumeS k s) = erase L s := by
  intro k s
  unfold resumeS
  try dsimp only
  repeat' (first
    | with_reducible rfl
    | with_reducible refine (keeps_retryCalls h_prog h_cores _ _).trans ?_
    | with_reducible refine (keeps_State_setCore h_cores _ _ _).trans ?_
    | with_reducible refine erase_cond ?_ ?_)

theorem keeps_icCoreReset {L : Part → Bool} (h_intc : L .intc = true) : ∀ s k, erase L (icCoreReset s k) = erase L s := by
  intro s k
  unfold icCoreReset
  try dsimp only
  all_goals with_reducible refine (erase_intc h_intc _ _).trans ?_
  all_goals with_reducible rfl

theorem keeps_receiverReset {L : Part → Bool} (h_regs : L .regs = true) (h_fns : L .fns = true) (h_mail : L .mail = true) (h_intc : L .intc = true) (h_ports : L .ports = true) (h_camp : L .camp = true) (h_out : L .out = true) : ∀ s t n, erase L (receiverReset s t n) = erase L s := by
  intro s t n
  unfold receiverReset
  try dsimp only
  repeat' (first
    | with_reducible rfl
    | with_reducible refine (keeps_emptyBox h_regs h_fns h_mail h_intc h_ports h_camp h_out _ _ _ _).trans ?_
    | with_reducible refine erase_cond ?_ ?_)

theorem keeps_receiverPart {L : Part → Bool} (h_regs : L .regs = true) (h_fns : L .fns = true) (h_mail : L .mail = true) (h_intc : L .intc = true) (h_ports : L .ports = true) (h_camp : L .camp = true) (h_out : L .out = true) : ∀ s a, erase L (receiverPart s a) = erase L s := by
  intro s a
  unfold receiverPart
  try dsimp only
  repeat' (first
    | with_reducible rfl
    | with_reducible refine (keeps_icCoreReset h_intc _ _).trans ?_
    | with_reducible refine (keeps_receiverReset h_regs h_fns h_mail h_intc h_ports h_camp h_out _ _ _).trans ?_
    | with_reducible refine (erase_foldl (fun _ _ => ?_) _ _).trans ?_
    | with_reducible refine erase_cond ?_ ?_)

theorem keeps_genStep {L : Part → Bool} (h_regs : L .regs = true) : ∀ s a, erase L (genStep s a) = erase L s := by
  intro s a
  unfold genStep
  try dsimp only
  repeat' (first
    | with_reducible rfl
    | with_reducible refine (keeps_wf h_regs _ _ _ _ _ _ _).trans ?_)

theorem keeps_senderReset {L : Part → Bool} (h_regs : L .regs = true) (h_mail : L .mail = true) : ∀ s a, erase L (senderReset s a) = erase L s := by
  intro s a
  unfold senderReset
  try dsimp only
  all_goals with_reducible refine (erase_mail h_mail _ _).trans ?_
  all_goals repeat' (first
    | with_reducible rfl
    | with_reducible refine (keeps_genStep h_regs _ _).trans ?_)

theorem keeps_agentsReset {L : Part → Bool} (h_regs : L .regs = true) (h_fns : L .fns = true) (h_mail : L .mail = true) (h_intc : L .intc = true) (h_ports : L .ports = true) (h_camp : L .camp = true) (h_out : L .out = true) : ∀ s as, erase L (agentsReset s as) = erase L s := by
  intro s as
  unfold agentsReset
  try dsimp only
  repeat' (first
    | with_reducible rfl
    | with_reducible refine (keeps_receiverPart h_regs h_fns h_mail h_intc h_ports h_camp h_out _ _).trans ?_
    | with_reducible refine (keeps_senderReset h_regs h_mail _ _).trans ?_
    | with_reducible refine (erase_foldl (fun _ _ => ?_) _ _).trans ?_)

theorem keeps_agentReset {L : Part → Bool} (h_regs : L .regs = true) (h_fns : L .fns = true) (h_mail : L .mail = true) (h_intc : L .intc = true) (h_ports : L .ports = true) (h_camp : L .camp = true) (h_out : L .out = true) : ∀ s a, erase L (agentReset s a) = erase L s := by
  intro s a
  unfold agentReset
  try dsimp only
  repeat' (first
    | with_reducible rfl
    | with_reducible refine (keeps_agentsReset h_regs h_fns h_mail h_intc h_ports h_camp h_out _ _).trans ?_)

theorem keeps_loadCore {L : Part → Bool} (h_cores : L .cores = true) : ∀ s k, erase L (loadCore s k) = erase L s := by
  intro s k
  unfold loadCore
  try dsimp only
  repeat' (first
    | with_reducible rfl
    | with_reducible refine (keeps_State_setCore h_cores _ _ _).trans ?_)

theorem keeps_resetCore {L : Part → Bool} (h_regs : L .regs = true) (h_fns : L .fns = true) (h_cores : L .cores = true) (h_mail : L .mail = true) (h_intc : L .intc = true) (h_ports : L .ports = true) (h_camp : L .camp = true) (h_out : L .out = true) : ∀ s k, erase L (resetCore s k) = erase L s := by
  intro s k
  unfold resetCore
  try dsimp only
  repeat' (first
    | with_reducible rfl
    | with_reducible refine (keeps_agentReset h_regs h_fns h_mail h_intc h_ports h_camp h_out _ _).trans ?_
    | with_reducible refine (keeps_loadCore h_cores _ _).trans ?_)

theorem keeps_coreResetS {L : Part → Bool} (h_regs : L .regs = true) (h_fns : L .fns = true) (h_prog : L .prog = true) (h_cores : L .cores = true) (h_mail : L .mail = true) (h_intc : L .intc = true) (h_ports : L .ports = true) (h_camp : L .camp = true) (h_out : L .out = true) : ∀ k s, erase L (coreResetS k s) = erase L s := by
  intro k s
  unfold coreResetS
  try dsimp only
  repeat' (first
    | with_reducible rfl
    | with_reducible refine (keeps_retryCalls h_prog h_cores _ _).trans ?_
    | with_reducible refine (keeps_State_setCore h_cores _ _ _).trans ?_
    | with_reducible refine (keeps_resetCore h_regs h_fns h_cores h_mail h_intc h_ports h_camp h_out _ _).trans ?_
    | with_reducible refine erase_cond ?_ ?_)

theorem keeps_isqCtrlS {L : Part → Bool} (h_regs : L .regs = true) (h_fns : L .fns = true) (h_prog : L .prog = true) (h_cores : L .cores = true) (h_mail : L .mail = true) (h_intc : L .intc = true) (h_ports : L .ports = true) (h_camp : L .camp = true) (h_out : L .out = true) : ∀ k v s, erase L (isqCtrlS k v s) = erase L s := by
  intro k v s
  unfold isqCtrlS
  try dsimp only
  repeat' (first
    | with_reducible rfl
    | with_reducible refine (keeps_haltS h_cores _ _).trans ?_
    | with_reducible refine (keeps_resumeS h_prog h_cores _ _).trans ?_
    | with_reducible refine (keeps_coreResetS h_regs h_fns h_prog h_cores h_mail h_intc h_ports h_camp h_out _ _).trans ?_
    | with_reducible refine erase_cond ?_ ?_)

theorem keeps_setExpired {L : Part → Bool} (h_lant : L .lant = true) : ∀ s, erase L (setExpired s) = erase L s := by
  intro s
  unfold setExpired
  try dsimp only
  repeat' (first
    | with_reducible rfl
    | with_reducible refine (keeps_State_withLant h_lant _ _).trans ?_)

theorem keeps_freeRate {L : Part → Bool} (h_regs : L .regs = true) (h_free : L .free = true) : ∀ s, erase L (freeRate s) = erase L s := by
  intro s
  unfold freeRate
  try dsimp only
  repeat' (first
    | with_reducible rfl
    | with_reducible refine (keeps_wf h_regs _ _ _ _ _ _ _).trans ?_
    | with_reducible refine (keeps_takeFree h_free _).trans ?_)

theorem keeps_freezeRate {L : Part → Bool} (h_regs : L .regs = true) (h_free : L .free = true) : ∀ s, erase L (freezeRate s) = erase L s := by
  intro s
  unfold freezeRate
  try dsimp only
  repeat' (first
    | with_reducible rfl
    | with_reducible refine (keeps_wf h_regs _ _ _ _ _ _ _).trans ?_
    | with_reducible refine (keeps_freeRate h_regs h_free _).trans ?_
    | with_reducible refine erase_cond ?_ ?_)

theorem keeps_enterHoldover {L : Part → Bool} (h_regs : L .regs = true) (h_lant : L .lant = true) (h_free : L .free = true) : ∀ s, erase L (enterHoldover s) = erase L s := by
  intro s
  unfold enterHoldover
  try dsimp only
  repeat' (first
    | with_reducible rfl
    | with_reducible refine (keeps_setExpired h_lant _).trans ?_
    | with_reducible refine (keeps_State_withLant h_lant _ _).trans ?_
    | with_reducible refine (keeps_freezeRate h_regs h_free _).trans ?_
    | with_reducible refine erase_cond ?_ ?_)

theorem keeps_reselect {L : Part → Bool} (h_regs : L .regs = true) (h_lant : L .lant = true) (h_free : L .free = true) : ∀ s, erase L (reselect s) = erase L s := by
  intro s
  unfold reselect
  try dsimp only
  repeat' (first
    | with_reducible rfl
    | with_reducible refine (keeps_enterHoldover h_regs h_lant h_free _).trans ?_
    | with_reducible refine (keeps_State_withLant h_lant _ _).trans ?_
    | with_reducible refine erase_cond ?_ ?_)

theorem keeps_recheck {L : Part → Bool} (h_regs : L .regs = true) (h_lant : L .lant = true) (h_free : L .free = true) : ∀ s, erase L (recheck s) = erase L s := by
  intro s
  unfold recheck
  try dsimp only
  repeat' (first
    | with_reducible rfl
    | with_reducible refine (keeps_reselect h_regs h_lant h_free _).trans ?_
    | with_reducible refine erase_cond ?_ ?_)

theorem keeps_ploetShow {L : Part → Bool} (h_regs : L .regs = true) (h_free : L .free = true) : ∀ up x4 s, erase L (ploetShow up x4 s) = erase L s := by
  intro up x4 s
  unfold ploetShow
  try dsimp only
  repeat' (first
    | with_reducible rfl
    | with_reducible refine (keeps_wf h_regs _ _ _ _ _ _ _).trans ?_
    | with_reducible refine (keeps_takeFree h_free _).trans ?_
    | with_reducible refine (erase_foldl (fun _ _ => ?_) _ _).trans ?_)

theorem keeps_ploetDown {L : Part → Bool} (h_regs : L .regs = true) (h_fns : L .fns = true) (h_mail : L .mail = true) (h_intc : L .intc = true) (h_lant : L .lant = true) (h_ports : L .ports = true) (h_camp : L .camp = true) (h_out : L .out = true) (h_free : L .free = true) : ∀ s, erase L (ploetDown s) = erase L s := by
  intro s
  unfold ploetDown
  try dsimp only
  repeat' (first
    | with_reducible rfl
    | with_reducible refine (keeps_returnNotice h_fns h_mail h_intc h_ports h_out _ _ _ _).trans ?_
    | with_reducible refine (keeps_State_withCamp h_camp _ _).trans ?_
    | with_reducible refine (keeps_State_setMbox h_mail _ _ _ _).trans ?_
    | with_reducible refine (keeps_recheck h_regs h_lant h_free _).trans ?_
    | with_reducible refine (keeps_ploetShow h_regs h_free _ _ _).trans ?_
    | with_reducible refine erase_cond ?_ ?_)

theorem keeps_fnConfigReset {L : Part → Bool} (h_regs : L .regs = true) (h_fns : L .fns = true) (h_recov : L .recov = true) (h_ports : L .ports = true) (h_camp : L .camp = true) (h_out : L .out = true) : ∀ s fn, erase L (fnConfigReset s fn) = erase L s := by
  intro s fn
  unfold fnConfigReset
  try dsimp only
  repeat' (first
    | with_reducible rfl
    | with_reducible refine (keeps_State_setFn h_fns _ _ _).trans ?_
    | with_reducible refine (keeps_writeFnRec h_regs h_recov h_ports h_camp h_out _ _).trans ?_)

theorem keeps_fnLinkReset {L : Part → Bool} (h_regs : L .regs = true) (h_fns : L .fns = true) (h_recov : L .recov = true) (h_ports : L .ports = true) (h_camp : L .camp = true) (h_out : L .out = true) : ∀ s fn, erase L (fnLinkReset s fn) = erase L s := by
  intro s fn
  unfold fnLinkReset
  try dsimp only
  repeat' (first
    | with_reducible rfl
    | with_reducible refine (keeps_fnConfigReset h_regs h_fns h_recov h_ports h_camp h_out _ _).trans ?_
    | with_reducible refine (keeps_State_setFn h_fns _ _ _).trans ?_
    | with_reducible refine erase_cond ?_ ?_)

theorem keeps_quadShow {L : Part → Bool} (h_regs : L .regs = true) (h_free : L .free = true) : ∀ up port rate width s q, erase L (quadShow up port rate width s q) = erase L s := by
  intro up port rate width s q
  unfold quadShow
  try dsimp only
  repeat' (first
    | with_reducible rfl
    | with_reducible refine (keeps_wf h_regs _ _ _ _ _ _ _).trans ?_
    | with_reducible refine (keeps_takeFree h_free _).trans ?_
    | with_reducible refine erase_cond ?_ ?_)

theorem keeps_showPort {L : Part → Bool} (h_regs : L .regs = true) (h_free : L .free = true) : ∀ s up port rate width, erase L (showPort s up port rate width) = erase L s := by
  intro s up port rate width
  unfold showPort
  try dsimp only
  repeat' (first
    | with_reducible rfl
    | with_reducible refine (keeps_quadShow h_regs h_free _ _ _ _ _ _).trans ?_
    | with_reducible refine (erase_foldl (fun _ _ => ?_) _ _).trans ?_)

theorem keeps_portDown {L : Part → Bool} (h_regs : L .regs = true) (h_ports : L .ports = true) (h_free : L .free = true) : ∀ s port fault, erase L (portDown s port fault) = erase L s := by
  intro s port fault
  unfold portDown
  try dsimp only
  repeat' (first
    | with_reducible rfl
    | with_reducible refine (keeps_State_setPort h_ports _ _ _).trans ?_
    | with_reducible refine (keeps_wf h_regs _ _ _ _ _ _ _).trans ?_
    | with_reducible refine (keeps_showPort h_regs h_free _ _ _ _ _).trans ?_
    | with_reducible refine erase_cond ?_ ?_)

theorem keeps_endpointDown {L : Part → Bool} (h_regs : L .regs = true) (h_fns : L .fns = true) (h_recov : L .recov = true) (h_mail : L .mail = true) (h_intc : L .intc = true) (h_ports : L .ports = true) (h_camp : L .camp = true) (h_out : L .out = true) (h_free : L .free = true) : ∀ s port fault, erase L (endpointDown s port fault) = erase L s := by
  intro s port fault
  unfold endpointDown
  try dsimp only
  repeat' (first
    | with_reducible rfl
    | with_reducible refine (keeps_fnLinkReset h_regs h_fns h_recov h_ports h_camp h_out _ _).trans ?_
    | with_reducible refine (keeps_agentReset h_regs h_fns h_mail h_intc h_ports h_camp h_out _ _).trans ?_
    | with_reducible refine (keeps_setPba h_fns _ _ _).trans ?_
    | with_reducible refine (keeps_portDown h_regs h_ports h_free _ _ _).trans ?_
    | with_reducible refine (erase_foldl (fun _ _ => ?_) _ _).trans ?_
    | with_reducible refine erase_cond ?_ ?_)

theorem keeps_stepFail {L : Part → Bool} (h_regs : L .regs = true) (h_fns : L .fns = true) (h_sqs : L .sqs = true) (h_cqs : L .cqs = true) (h_prog : L .prog = true) (h_recov : L .recov = true) (h_mem : L .mem = true) (h_ports : L .ports = true) (h_camp : L .camp = true) (h_out : L .out = true) : ∀ c status moved s, erase L (stepFail c status moved s) = erase L s := by
  intro c status moved s
  unfold stepFail
  try dsimp only
  repeat' (first
    | with_reducible rfl
    | with_reducible refine (keeps_endProgram h_regs h_fns h_sqs h_cqs h_prog h_recov h_mem h_ports h_camp h_out _ _ _ _ _ _).trans ?_)

theorem keeps_endPortSteps {L : Part → Bool} (h_regs : L .regs = true) (h_fns : L .fns = true) (h_sqs : L .sqs = true) (h_cqs : L .cqs = true) (h_prog : L .prog = true) (h_recov : L .recov = true) (h_mem : L .mem = true) (h_ports : L .ports = true) (h_camp : L .camp = true) (h_out : L .out = true) : ∀ s port, erase L (endPortSteps s port) = erase L s := by
  intro s port
  unfold endPortSteps
  try dsimp only
  repeat' (first
    | with_reducible rfl
    | with_reducible refine (keeps_stepFail h_regs h_fns h_sqs h_cqs h_prog h_recov h_mem h_ports h_camp h_out _ _ _ _).trans ?_
    | with_reducible refine (erase_foldl (fun _ _ => ?_) _ _).trans ?_)

theorem keeps_rootDown {L : Part → Bool} (h_regs : L .regs = true) (h_fns : L .fns = true) (h_sqs : L .sqs = true) (h_cqs : L .cqs = true) (h_prog : L .prog = true) (h_recov : L .recov = true) (h_mem : L .mem = true) (h_ports : L .ports = true) (h_camp : L .camp = true) (h_out : L .out = true) (h_free : L .free = true) : ∀ s port fault, erase L (rootDown s port fault) = erase L s := by
  intro s port fault
  unfold rootDown
  try dsimp only
  repeat' (first
    | with_reducible rfl
    | with_reducible refine (keeps_endPortSteps h_regs h_fns h_sqs h_cqs h_prog h_recov h_mem h_ports h_camp h_out _ _).trans ?_
    | with_reducible refine (keeps_portDown h_regs h_ports h_free _ _ _).trans ?_)

theorem keeps_testDown {L : Part → Bool} (h_regs : L .regs = true) (h_fns : L .fns = true) (h_sqs : L .sqs = true) (h_cqs : L .cqs = true) (h_prog : L .prog = true) (h_recov : L .recov = true) (h_mem : L .mem = true) (h_mail : L .mail = true) (h_intc : L .intc = true) (h_ports : L .ports = true) (h_camp : L .camp = true) (h_out : L .out = true) (h_free : L .free = true) : ∀ s port, erase L (testDown s port) = erase L s := by
  intro s port
  unfold testDown
  try dsimp only
  repeat' (first
    | with_reducible rfl
    | with_reducible refine (keeps_endpointDown h_regs h_fns h_recov h_mail h_intc h_ports h_camp h_out h_free _ _ _).trans ?_
    | with_reducible refine (keeps_rootDown h_regs h_fns h_sqs h_cqs h_prog h_recov h_mem h_ports h_camp h_out h_free _ _ _).trans ?_
    | with_reducible refine erase_cond ?_ ?_)

theorem keeps_quadTestS {L : Part → Bool} (h_regs : L .regs = true) (h_fns : L .fns = true) (h_sqs : L .sqs = true) (h_cqs : L .cqs = true) (h_prog : L .prog = true) (h_recov : L .recov = true) (h_mem : L .mem = true) (h_mail : L .mail = true) (h_intc : L .intc = true) (h_lant : L .lant = true) (h_ports : L .ports = true) (h_camp : L .camp = true) (h_out : L .out = true) (h_free : L .free = true) : ∀ q v s, erase L (quadTestS q v s) = erase L s := by
  intro q v s
  unfold quadTestS
  try dsimp only
  repeat' (first
    | with_reducible rfl
    | with_reducible refine (keeps_ploetDown h_regs h_fns h_mail h_intc h_lant h_ports h_camp h_out h_free _).trans ?_
    | with_reducible refine (keeps_genStart h_out h_free _ _).trans ?_
    | with_reducible refine (keeps_wf h_regs _ _ _ _ _ _ _).trans ?_
    | with_reducible refine (keeps_testDown h_regs h_fns h_sqs h_cqs h_prog h_recov h_mem h_mail h_intc h_ports h_camp h_out h_free _ _).trans ?_
    | with_reducible refine (keeps_swRw h_regs _ _ _ _ _ _).trans ?_
    | with_reducible refine (erase_foldl (fun _ _ => ?_) _ _).trans ?_
    | with_reducible refine erase_cond ?_ ?_)

theorem keeps_drainS {L : Part → Bool} (h_regs : L .regs = true) (h_mem : L .mem = true) : ∀ v s, erase L (drainS v s) = erase L s := by
  intro v s
  unfold drainS
  try dsimp only
  repeat' (first
    | with_reducible rfl
    | with_reducible refine (keeps_State_withMem h_mem _ _).trans ?_
    | with_reducible refine (keeps_wf h_regs _ _ _ _ _ _ _).trans ?_
    | with_reducible refine erase_cond ?_ ?_)

theorem keeps_patStartS {L : Part → Bool} (h_regs : L .regs = true) : ∀ ch v s, erase L (patStartS ch v s) = erase L s := by
  intro ch v s
  unfold patStartS
  try dsimp only
  repeat' (first
    | with_reducible rfl
    | with_reducible refine (keeps_wr h_regs _ _ _ _ _ _).trans ?_
    | with_reducible refine (keeps_wf h_regs _ _ _ _ _ _ _).trans ?_
    | with_reducible refine (keeps_swRw h_regs _ _ _ _ _ _).trans ?_
    | with_reducible refine (erase_foldl (fun _ _ => ?_) _ _).trans ?_
    | with_reducible refine erase_cond ?_ ?_)

theorem keeps_ddrWrite {L : Part → Bool} (h_mem : L .mem = true) : ∀ s a bs, erase L (ddrWrite s a bs) = erase L s := by
  intro s a bs
  unfold ddrWrite
  try dsimp only
  all_goals with_reducible refine (erase_mem h_mem _ _).trans ?_
  all_goals with_reducible rfl

theorem keeps_ddrWr {L : Part → Bool} (h_mem : L .mem = true) : ∀ s a bs, erase L (ddrWr s a bs) = erase L s := by
  intro s a bs
  unfold ddrWr
  try dsimp only
  repeat' (first
    | with_reducible rfl
    | with_reducible refine (keeps_ddrWrite h_mem _ _ _).trans ?_
    | with_reducible refine (keeps_State_withMem h_mem _ _).trans ?_)

theorem keeps_patWrite {L : Part → Bool} (h_mem : L .mem = true) (h_free : L .free = true) : ∀ whole ch s, erase L (patWrite whole ch s) = erase L s := by
  intro whole ch s
  unfold patWrite
  try dsimp only
  repeat' (first
    | split)
  all_goals with_reducible refine (erase_free h_free _ _).trans ?_
  all_goals repeat' (first
    | with_reducible rfl
    | with_reducible refine (keeps_ddrWr h_mem _ _ _).trans ?_
    | with_reducible refine (erase_foldl (fun _ _ => ?_) _ _).trans ?_)

theorem keeps_patStopS {L : Part → Bool} (h_regs : L .regs = true) (h_mem : L .mem = true) (h_free : L .free = true) : ∀ ch v s, erase L (patStopS ch v s) = erase L s := by
  intro ch v s
  unfold patStopS
  try dsimp only
  repeat' (first
    | with_reducible rfl
    | with_reducible refine (keeps_wr h_regs _ _ _ _ _ _).trans ?_
    | with_reducible refine (keeps_patWrite h_mem h_free _ _ _).trans ?_
    | with_reducible refine (keeps_wf h_regs _ _ _ _ _ _ _).trans ?_
    | with_reducible refine (keeps_takeFree h_free _).trans ?_
    | with_reducible refine (keeps_swRw h_regs _ _ _ _ _ _).trans ?_
    | with_reducible refine (erase_foldl (fun _ _ => ?_) _ _).trans ?_
    | with_reducible refine erase_cond ?_ ?_)

theorem keeps_patCtrlS {L : Part → Bool} (h_regs : L .regs = true) (h_mem : L .mem = true) (h_free : L .free = true) : ∀ ch v s, erase L (patCtrlS ch v s) = erase L s := by
  intro ch v s
  unfold patCtrlS
  try dsimp only
  repeat' (first
    | with_reducible rfl
    | with_reducible refine (keeps_patStartS h_regs _ _ _).trans ?_
    | with_reducible refine (keeps_patStopS h_regs h_mem h_free _ _ _).trans ?_
    | with_reducible refine erase_cond ?_ ?_)

theorem keeps_setKeySlot {L : Part → Bool} (h_trust : L .trust = true) : ∀ s k x, erase L (setKeySlot s k x) = erase L s := by
  intro s k x
  unfold setKeySlot
  try dsimp only
  repeat' (first
    | with_reducible rfl
    | with_reducible refine (keeps_State_withTrust h_trust _ _).trans ?_)

theorem keeps_otpResult {L : Part → Bool} (h_regs : L .regs = true) : ∀ s r, erase L (otpResult s r) = erase L s := by
  intro s r
  unfold otpResult
  try dsimp only
  repeat' (first
    | with_reducible rfl
    | with_reducible refine (keeps_wf h_regs _ _ _ _ _ _ _).trans ?_)

theorem keeps_otpCmdS {L : Part → Bool} (h_regs : L .regs = true) (h_trust : L .trust = true) : ∀ op v s, erase L (otpCmdS op v s) = erase L s := by
  intro op v s
  unfold otpCmdS
  try dsimp only
  repeat' (first
    | with_reducible rfl
    | with_reducible refine (keeps_logBegin h_trust _ _ _).trans ?_
    | with_reducible refine (keeps_State_withTrust h_trust _ _).trans ?_
    | with_reducible refine (keeps_setKeySlot h_trust _ _ _).trans ?_
    | with_reducible refine (keeps_otpResult h_regs _ _).trans ?_
    | with_reducible refine erase_cond ?_ ?_)

theorem keeps_pitchAskS {L : Part → Bool} (h_power : L .power = true) : ∀ v s, erase L (pitchAskS v s) = erase L s := by
  intro v s
  unfold pitchAskS
  try dsimp only
  repeat' (first
    | with_reducible rfl
    | with_reducible refine (keeps_State_withPower h_power _ _).trans ?_)

theorem keeps_mgmtExamine {L : Part → Bool} (h_ports : L .ports = true) : ∀ s, erase L (mgmtExamine s) = erase L s := by
  intro s
  unfold mgmtExamine
  try dsimp only
  all_goals with_reducible refine (erase_ports h_ports _ _).trans ?_
  all_goals with_reducible rfl

theorem keeps_tnmClearS {L : Part → Bool} (h_regs : L .regs = true) (h_fns : L .fns = true) (h_mail : L .mail = true) (h_intc : L .intc = true) (h_ports : L .ports = true) (h_camp : L .camp = true) (h_out : L .out = true) : ∀ v s, erase L (tnmClearS v s) = erase L s := by
  intro v s
  unfold tnmClearS
  try dsimp only
  repeat' (first
    | with_reducible rfl
    | with_reducible refine (keeps_receiverReset h_regs h_fns h_mail h_intc h_ports h_camp h_out _ _ _).trans ?_)

theorem keeps_freeBytes {L : Part → Bool} (h_free : L .free = true) : ∀ a0 a1, erase L (freeBytes a0 a1).2 = erase L a1 := by
  intro a0 a1
  revert a1
  induction a0 with
  | zero =>
    intro a1
    unfold freeBytes
    try dsimp only
  | succ n ih =>
    intro a1
    unfold freeBytes
    try dsimp only
    repeat' (first
      | with_reducible rfl
      | with_reducible refine (keeps_takeFree h_free _).trans ?_
      | with_reducible refine (ih _).trans ?_)

theorem keeps_makeReport {L : Part → Bool} (h_free : L .free = true) : ∀ kind s, erase L (makeReport kind s).2 = erase L s := by
  intro kind s
  unfold makeReport
  try dsimp only
  repeat' (first
    | with_reducible rfl
    | with_reducible refine (keeps_freeBytes h_free _ _).trans ?_
    | split)

theorem keeps_attestS {L : Part → Bool} (h_regs : L .regs = true) (h_trust : L .trust = true) (h_free : L .free = true) : ∀ v s, erase L (attestS v s) = erase L s := by
  intro v s
  unfold attestS
  try dsimp only
  repeat' (first
    | with_reducible rfl
    | with_reducible refine (keeps_State_withTrust h_trust _ _).trans ?_
    | with_reducible refine (keeps_wf h_regs _ _ _ _ _ _ _).trans ?_
    | with_reducible refine (keeps_makeReport h_free _ _).trans ?_
    | with_reducible refine erase_cond ?_ ?_)

theorem keeps_setResult {L : Part → Bool} (h_power : L .power = true) : ∀ s d r, erase L (setResult s d r) = erase L s := by
  intro s d r
  unfold setResult
  try dsimp only
  repeat' (first
    | with_reducible rfl
    | with_reducible refine (keeps_setDom h_power _ _ _ _).trans ?_)

theorem keeps_onRequestS {L : Part → Bool} (h_power : L .power = true) : ∀ d v s, erase L (onRequestS d v s) = erase L s := by
  intro d v s
  unfold onRequestS
  try dsimp only
  repeat' (first
    | with_reducible rfl
    | with_reducible refine (keeps_setResult h_power _ _ _).trans ?_
    | with_reducible refine (keeps_setDom h_power _ _ _ _).trans ?_
    | with_reducible refine (keeps_startExit h_power _ _).trans ?_
    | with_reducible refine erase_cond ?_ ?_)

theorem keeps_leaseCfgS {L : Part → Bool} (h_sched : L .sched = true) : ∀ n v s, erase L (leaseCfgS n v s) = erase L s := by
  intro n v s
  unfold leaseCfgS
  try dsimp only
  repeat' (first
    | with_reducible rfl
    | with_reducible refine (keeps_State_withSched h_sched _ _).trans ?_
    | with_reducible refine erase_cond ?_ ?_)

theorem keeps_icSrcCfgWrite {L : Part → Bool} (h_regs : L .regs = true) (h_intc : L .intc = true) : ∀ n v s, erase L (icSrcCfgWrite n v s) = erase L s := by
  intro n v s
  unfold icSrcCfgWrite
  try dsimp only
  repeat' (first
    | with_reducible rfl
    | with_reducible refine (keeps_wr h_regs _ _ _ _ _ _).trans ?_
    | with_reducible refine (keeps_State_setSrc h_intc _ _ _).trans ?_
    | with_reducible refine erase_cond ?_ ?_)

theorem keeps_askWarm {L : Part → Bool} (h_power : L .power = true) : ∀ s, erase L (askWarm s) = erase L s := by
  intro s
  unfold askWarm
  try dsimp only
  repeat' (first
    | with_reducible rfl
    | with_reducible refine (keeps_State_withPower h_power _ _).trans ?_
    | with_reducible refine erase_cond ?_ ?_)

theorem keeps_otpArmS {L : Part → Bool} (h_trust : L .trust = true) : ∀ v s, erase L (otpArmS v s) = erase L s := by
  intro v s
  unfold otpArmS
  try dsimp only
  repeat' (first
    | with_reducible rfl
    | with_reducible refine (keeps_State_withTrust h_trust _ _).trans ?_)

theorem keeps_ringCfgWrite {L : Part → Bool} (h_regs : L .regs = true) : ∀ v s, erase L (ringCfgWrite v s) = erase L s := by
  intro v s
  unfold ringCfgWrite
  try dsimp only
  repeat' (first
    | with_reducible rfl
    | with_reducible refine (keeps_wf h_regs _ _ _ _ _ _ _).trans ?_
    | with_reducible refine (keeps_swRw h_regs _ _ _ _ _ _).trans ?_
    | with_reducible refine erase_cond ?_ ?_)

theorem keeps_tryEnter {L : Part → Bool} (h_mem : L .mem = true) (h_power : L .power = true) : ∀ s d, erase L (tryEnter s d) = erase L s := by
  intro s d
  unfold tryEnter
  try dsimp only
  repeat' (first
    | with_reducible rfl
    | with_reducible refine (keeps_setResult h_power _ _ _).trans ?_
    | with_reducible refine (keeps_setDom h_power _ _ _ _).trans ?_
    | with_reducible refine (keeps_abortTest h_mem _ _).trans ?_
    | with_reducible refine erase_cond ?_ ?_)

theorem keeps_setQueued {L : Part → Bool} (h_power : L .power = true) : ∀ s d x, erase L (setQueued s d x) = erase L s := by
  intro s d x
  unfold setQueued
  try dsimp only
  repeat' (first
    | with_reducible rfl
    | with_reducible refine (keeps_State_withPower h_power _ _).trans ?_)

theorem keeps_bivouacS {L : Part → Bool} (h_mem : L .mem = true) (h_power : L .power = true) : ∀ d v s, erase L (bivouacS d v s) = erase L s := by
  intro d v s
  unfold bivouacS
  try dsimp only
  repeat' (first
    | with_reducible rfl
    | with_reducible refine (keeps_setResult h_power _ _ _).trans ?_
    | with_reducible refine (keeps_tryEnter h_mem h_power _ _).trans ?_
    | with_reducible refine (keeps_setDom h_power _ _ _ _).trans ?_
    | with_reducible refine (keeps_setQueued h_power _ _ _).trans ?_
    | with_reducible refine erase_cond ?_ ?_)

theorem keeps_liveSelectS {L : Part → Bool} (h_regs : L .regs = true) : ∀ v s, erase L (liveSelectS v s) = erase L s := by
  intro v s
  unfold liveSelectS
  try dsimp only
  repeat' (first
    | with_reducible rfl
    | with_reducible refine (keeps_wr h_regs _ _ _ _ _ _).trans ?_
    | with_reducible refine (erase_foldl (fun _ _ => ?_) _ _).trans ?_)

theorem keeps_windowHiS {L : Part → Bool} (h_regs : L .regs = true) (h_mem : L .mem = true) : ∀ m w v s, erase L (windowHiS m w v s) = erase L s := by
  intro m w v s
  unfold windowHiS
  try dsimp only
  repeat' (first
    | with_reducible rfl
    | with_reducible refine (keeps_State_withMem h_mem _ _).trans ?_
    | with_reducible refine (keeps_swRw h_regs _ _ _ _ _ _).trans ?_)

theorem keeps_enterFenced {L : Part → Bool} (h_regs : L .regs = true) (h_fns : L .fns = true) (h_recov : L .recov = true) (h_mail : L .mail = true) (h_intc : L .intc = true) (h_ports : L .ports = true) (h_camp : L .camp = true) (h_out : L .out = true) (h_free : L .free = true) : ∀ s, erase L (enterFenced s) = erase L s := by
  intro s
  unfold enterFenced
  try dsimp only
  repeat' (first
    | with_reducible rfl
    | with_reducible refine (keeps_State_withCamp h_camp _ _).trans ?_
    | with_reducible refine (keeps_endpointDown h_regs h_fns h_recov h_mail h_intc h_ports h_camp h_out h_free _ _ _).trans ?_
    | with_reducible refine (keeps_portDown h_regs h_ports h_free _ _ _).trans ?_
    | with_reducible refine (erase_foldl (fun _ _ => ?_) _ _).trans ?_
    | with_reducible refine erase_cond ?_ ?_)

theorem keeps_sendRecord {L : Part → Bool} (h_regs : L .regs = true) (h_ports : L .ports = true) (h_camp : L .camp = true) (h_out : L .out = true) : ∀ n s k, erase L (sendRecord n s k) = erase L s := by
  intro n s k
  unfold sendRecord
  try dsimp only
  repeat' (first
    | with_reducible rfl
    | with_reducible refine (keeps_campSend h_regs h_ports h_camp h_out _ _ _ _).trans ?_)

theorem keeps_startResync {L : Part → Bool} (h_regs : L .regs = true) (h_ports : L .ports = true) (h_camp : L .camp = true) (h_out : L .out = true) : ∀ s, erase L (startResync s) = erase L s := by
  intro s
  unfold startResync
  try dsimp only
  repeat' (first
    | with_reducible rfl
    | with_reducible refine (keeps_State_withCamp h_camp _ _).trans ?_
    | with_reducible refine (keeps_campSend h_regs h_ports h_camp h_out _ _ _ _).trans ?_
    | with_reducible refine (keeps_sendRecord h_regs h_ports h_camp h_out _ _ _).trans ?_
    | with_reducible refine (erase_foldl (fun _ _ => ?_) _ _).trans ?_)

theorem keeps_campCmdS {L : Part → Bool} (h_regs : L .regs = true) (h_fns : L .fns = true) (h_recov : L .recov = true) (h_mail : L .mail = true) (h_intc : L .intc = true) (h_ports : L .ports = true) (h_camp : L .camp = true) (h_out : L .out = true) (h_free : L .free = true) : ∀ v s, erase L (campCmdS v s) = erase L s := by
  intro v s
  unfold campCmdS
  try dsimp only
  repeat' (first
    | with_reducible rfl
    | with_reducible refine (keeps_enterFenced h_regs h_fns h_recov h_mail h_intc h_ports h_camp h_out h_free _).trans ?_
    | with_reducible refine (keeps_startResync h_regs h_ports h_camp h_out _).trans ?_
    | with_reducible refine erase_cond ?_ ?_)

theorem keeps_lantCfgWrite {L : Part → Bool} (h_regs : L .regs = true) (h_lant : L .lant = true) : ∀ v s, erase L (lantCfgWrite v s) = erase L s := by
  intro v s
  unfold lantCfgWrite
  try dsimp only
  repeat' (first
    | with_reducible rfl
    | with_reducible refine (keeps_setExpired h_lant _).trans ?_
    | with_reducible refine (keeps_swRw h_regs _ _ _ _ _ _).trans ?_)

theorem keeps_consumerS {L : Part → Bool} (h_regs : L .regs = true) : ∀ v s, erase L (consumerS v s) = erase L s := by
  intro v s
  unfold consumerS
  try dsimp only
  repeat' (first
    | with_reducible rfl
    | with_reducible refine (keeps_wr h_regs _ _ _ _ _ _).trans ?_
    | with_reducible refine erase_cond ?_ ?_)

theorem keeps_mgmtWrite {L : Part → Bool} (h_regs : L .regs = true) (h_sched : L .sched = true) (h_fns : L .fns = true) (h_sqs : L .sqs = true) (h_cqs : L .cqs = true) (h_prog : L .prog = true) (h_recov : L .recov = true) (h_cores : L .cores = true) (h_mem : L .mem = true) (h_mail : L .mail = true) (h_intc : L .intc = true) (h_lant : L .lant = true) (h_ports : L .ports = true) (h_camp : L .camp = true) (h_trust : L .trust = true) (h_power : L .power = true) (h_out : L .out = true) (h_free : L .free = true) : ∀ d i j v s, erase L (mgmtWrite d i j v s) = erase L s := by
  intro d i j v s
  unfold mgmtWrite
  try dsimp only
  repeat' (first
    | with_reducible rfl
    | with_reducible refine (keeps_windowLoS h_regs _ _ _ _).trans ?_
    | with_reducible refine (keeps_readSelectS h_regs h_recov _ _).trans ?_
    | with_reducible refine (keeps_ctxSelectS h_regs _ _ _).trans ?_
    | with_reducible refine (keeps_wf h_regs _ _ _ _ _ _ _).trans ?_
    | with_reducible refine (keeps_lantSnapS h_regs _ _).trans ?_
    | with_reducible refine (keeps_schedCtrlS h_regs h_sched _ _).trans ?_
    | with_reducible refine (keeps_calCommitS h_regs h_lant h_trust _ _).trans ?_
    | with_reducible refine (keeps_prbsWrite h_regs h_ports h_out h_free _ _ _ _ _).trans ?_
    | with_reducible refine (keeps_bgtWrite h_regs h_mem _ _ _).trans ?_
    | with_reducible refine (keeps_icSrcStateWrite h_intc _ _ _).trans ?_
    | with_reducible refine (keeps_lantSetCtrl h_regs h_intc h_lant _ _).trans ?_
    | with_reducible refine (keeps_flashCtrlS h_regs h_trust _ _).trans ?_
    | with_reducible refine (keeps_isqCtrlS h_regs h_fns h_prog h_cores h_mail h_intc h_ports h_camp h_out _ _ _).trans ?_
    | with_reducible refine (keeps_quadTestS h_regs h_fns h_sqs h_cqs h_prog h_recov h_mem h_mail h_intc h_lant h_ports h_camp h_out h_free _ _ _).trans ?_
    | with_reducible refine (keeps_drainS h_regs h_mem _ _).trans ?_
    | with_reducible refine (keeps_patCtrlS h_regs h_mem h_free _ _ _).trans ?_
    | with_reducible refine (keeps_otpCmdS h_regs h_trust _ _ _).trans ?_
    | with_reducible refine (keeps_pitchAskS h_power _ _).trans ?_
    | with_reducible refine (keeps_mgmtExamine h_ports _).trans ?_
    | with_reducible refine (keeps_tnmClearS h_regs h_fns h_mail h_intc h_ports h_camp h_out _ _).trans ?_
    | with_reducible refine (keeps_attestS h_regs h_trust h_free _ _).trans ?_
    | with_reducible refine (keeps_onRequestS h_power _ _ _).trans ?_
    | with_reducible refine (keeps_leaseCfgS h_sched _ _ _).trans ?_
    | with_reducible refine (keeps_icSrcCfgWrite h_regs h_intc _ _ _).trans ?_
    | with_reducible refine (keeps_askWarm h_power _).trans ?_
    | with_reducible refine (keeps_otpArmS h_trust _ _).trans ?_
    | with_reducible refine (keeps_plainWrite h_regs _ _ _ _ _ _).trans ?_
    | with_reducible refine (keeps_ringCfgWrite h_regs _ _).trans ?_
    | with_reducible refine (keeps_bivouacS h_mem h_power _ _ _).trans ?_
    | with_reducible refine (keeps_liveSelectS h_regs _ _).trans ?_
    | with_reducible refine (keeps_windowHiS h_regs h_mem _ _ _ _).trans ?_
    | with_reducible refine (keeps_campCmdS h_regs h_fns h_recov h_mail h_intc h_ports h_camp h_out h_free _ _).trans ?_
    | with_reducible refine (keeps_lantCfgWrite h_regs h_lant _ _).trans ?_
    | with_reducible refine (keeps_consumerS h_regs _ _).trans ?_
    | with_reducible refine (keeps_swRw h_regs _ _ _ _ _ _).trans ?_
    | with_reducible refine erase_cond ?_ ?_)

theorem keeps_regWriteS {L : Part → Bool} (h_regs : L .regs = true) (h_sched : L .sched = true) (h_fns : L .fns = true) (h_sqs : L .sqs = true) (h_cqs : L .cqs = true) (h_prog : L .prog = true) (h_recov : L .recov = true) (h_cores : L .cores = true) (h_mem : L .mem = true) (h_mail : L .mail = true) (h_intc : L .intc = true) (h_lant : L .lant = true) (h_ports : L .ports = true) (h_camp : L .camp = true) (h_trust : L .trust = true) (h_power : L .power = true) (h_out : L .out = true) (h_free : L .free = true) : ∀ d i j p size v s, erase L (regWriteS d i j p size v s) = erase L s := by
  intro d i j p size v s
  unfold regWriteS
  try dsimp only
  repeat' (first
    | with_reducible rfl
    | with_reducible refine (keeps_agentWrite h_regs h_fns h_mail h_intc h_ports h_camp h_out _ _ _ _ _).trans ?_
    | with_reducible refine (keeps_fnWrite h_regs h_fns h_sqs h_cqs h_prog h_recov h_cores h_mem h_mail h_intc h_ports h_camp h_power h_out _ _ _ _ _ _).trans ?_
    | with_reducible refine (keeps_mgmtWrite h_regs h_sched h_fns h_sqs h_cqs h_prog h_recov h_cores h_mem h_mail h_intc h_lant h_ports h_camp h_trust h_power h_out h_free _ _ _ _ _).trans ?_
    | split)

theorem keeps_accessWrite {L : Part → Bool} (h_regs : L .regs = true) (h_sched : L .sched = true) (h_fns : L .fns = true) (h_sqs : L .sqs = true) (h_cqs : L .cqs = true) (h_prog : L .prog = true) (h_recov : L .recov = true) (h_cores : L .cores = true) (h_mem : L .mem = true) (h_mail : L .mail = true) (h_intc : L .intc = true) (h_lant : L .lant = true) (h_ports : L .ports = true) (h_camp : L .camp = true) (h_trust : L .trust = true) (h_power : L .power = true) (h_out : L .out = true) (h_free : L .free = true) : ∀ bar off size v s, erase L (accessWrite bar off size v s) = erase L s := by
  intro bar off size v s
  unfold accessWrite
  try dsimp only
  repeat' (first
    | with_reducible rfl
    | with_reducible refine (keeps_flagAccess h_regs _ _).trans ?_
    | with_reducible refine (keeps_bankWriteS h_regs h_sched _ _ _ _ _).trans ?_
    | with_reducible refine (keeps_regWriteS h_regs h_sched h_fns h_sqs h_cqs h_prog h_recov h_cores h_mem h_mail h_intc h_lant h_ports h_camp h_trust h_power h_out h_free _ _ _ _ _ _ _).trans ?_
    | split)

theorem keeps_drainTx {L : Part → Bool} (h_regs : L .regs = true) (h_ports : L .ports = true) (h_camp : L .camp = true) (h_out : L .out = true) : ∀ s, erase L (drainTx s) = erase L s := by
  intro s
  unfold drainTx
  try dsimp only
  repeat' (first
    | with_reducible rfl
    | with_reducible refine (keeps_State_withCamp h_camp _ _).trans ?_
    | with_reducible refine (keeps_sendFlit h_regs h_ports h_camp h_out _ _).trans ?_
    | with_reducible refine (erase_foldl (fun _ _ => ?_) _ _).trans ?_)

theorem keeps_ackThrough {L : Part → Bool} (h_regs : L .regs = true) (h_ports : L .ports = true) (h_camp : L .camp = true) (h_out : L .out = true) : ∀ s a, erase L (ackThrough s a) = erase L s := by
  intro s a
  unfold ackThrough
  try dsimp only
  repeat' (first
    | with_reducible rfl
    | with_reducible refine (keeps_State_withCamp h_camp _ _).trans ?_
    | with_reducible refine (keeps_drainTx h_regs h_ports h_camp h_out _).trans ?_
    | split)

theorem keeps_pitchFaultS {L : Part → Bool} (h_regs : L .regs = true) (h_power : L .power = true) : ∀ p s, erase L (pitchFaultS p s) = erase L s := by
  intro p s
  unfold pitchFaultS
  try dsimp only
  repeat' (first
    | with_reducible rfl
    | with_reducible refine (keeps_wf h_regs _ _ _ _ _ _ _).trans ?_
    | with_reducible refine erase_cond ?_ ?_)
  all_goals with_reducible refine (erase_power h_power _ _).trans ?_
  all_goals repeat' (first
    | with_reducible rfl
    | with_reducible refine (keeps_wf h_regs _ _ _ _ _ _ _).trans ?_)

theorem keeps_spCount {L : Part → Bool} (h_regs : L .regs = true) : ∀ s p w, erase L (spCount s p w) = erase L s := by
  intro s p w
  unfold spCount
  try dsimp only
  repeat' (first
    | with_reducible rfl
    | with_reducible refine (keeps_satAdd h_regs _ _ _ _ _ _).trans ?_
    | with_reducible refine (keeps_wf h_regs _ _ _ _ _ _ _).trans ?_)

theorem keeps_spNote {L : Part → Bool} (h_regs : L .regs = true) : ∀ s p off n, erase L (spNote s p off n) = erase L s := by
  intro s p off n
  unfold spNote
  try dsimp only
  repeat' (first
    | with_reducible rfl
    | with_reducible refine (keeps_spCount h_regs _ _ _).trans ?_
    | with_reducible refine (erase_foldl (fun _ _ => ?_) _ _).trans ?_
    | with_reducible refine erase_cond ?_ ?_)

theorem keeps_windowRead {L : Part → Bool} (h_regs : L .regs = true) (h_cores : L .cores = true) (h_intc : L .intc = true) (h_power : L .power = true) : ∀ s k o n, erase L (windowRead s k o n).2 = erase L s := by
  intro s k o n
  unfold windowRead
  try dsimp only
  repeat' (first
    | with_reducible rfl
    | with_reducible refine (keeps_pitchFaultS h_regs h_power _ _).trans ?_
    | with_reducible refine (keeps_State_setCore h_cores _ _ _).trans ?_
    | with_reducible refine (keeps_spNote h_regs _ _ _ _).trans ?_
    | with_reducible refine (keeps_raise h_intc _ _).trans ?_
    | with_reducible refine erase_cond ?_ ?_
    | split)

theorem keeps_regCross {L : Part → Bool} (h_regs : L .regs = true) (h_ports : L .ports = true) : ∀ s bar off d gl, erase L (regCross s bar off d gl).1 = erase L s := by
  intro s bar off d gl
  unfold regCross
  try dsimp only
  repeat' (first
    | with_reducible rfl
    | with_reducible refine (keeps_guyWord h_regs h_ports _ _ _ _).trans ?_
    | split)

theorem keeps_ddrCount {L : Part → Bool} (h_regs : L .regs = true) : ∀ s l, erase L (ddrCount s l) = erase L s := by
  intro s l
  unfold ddrCount
  try dsimp only
  repeat' (first
    | with_reducible rfl
    | with_reducible refine (keeps_satAdd h_regs _ _ _ _ _ _).trans ?_
    | with_reducible refine (keeps_wf h_regs _ _ _ _ _ _ _).trans ?_
    | with_reducible refine erase_cond ?_ ?_)

theorem keeps_ddrNote {L : Part → Bool} (h_regs : L .regs = true) : ∀ s a n, erase L (ddrNote s a n) = erase L s := by
  intro s a n
  unfold ddrNote
  try dsimp only
  repeat' (first
    | with_reducible rfl
    | with_reducible refine (keeps_ddrCount h_regs _ _).trans ?_
    | with_reducible refine (erase_foldl (fun _ _ => ?_) _ _).trans ?_
    | with_reducible refine erase_cond ?_ ?_)

theorem keeps_acsRead {L : Part → Bool} (h_regs : L .regs = true) (h_cores : L .cores = true) (h_mem : L .mem = true) (h_intc : L .intc = true) (h_ports : L .ports = true) (h_power : L .power = true) (h_busData : L .busData = true) : ∀ s k q, erase L (acsRead s k q).2 = erase L s := by
  intro s k q
  unfold acsRead
  try dsimp only
  repeat' (first
    | with_reducible rfl
    | with_reducible refine (keeps_windowRead h_regs h_cores h_intc h_power _ _ _ _).trans ?_
    | with_reducible refine (keeps_regReadS h_regs h_mem h_intc h_busData _ _ _ _ _).trans ?_
    | with_reducible refine (keeps_accessRead h_regs h_mem h_intc h_busData _ _ _ _).trans ?_
    | with_reducible refine (keeps_regCross h_regs h_ports _ _ _ _ _).trans ?_
    | with_reducible refine (keeps_ddrNote h_regs _ _ _).trans ?_
    | split)

theorem keeps_coreRegWrite {L : Part → Bool} (h_cores : L .cores = true) : ∀ s k o v, erase L (coreRegWrite s k o v) = erase L s := by
  intro s k o v
  unfold coreRegWrite
  try dsimp only
  repeat' (first
    | with_reducible rfl
    | with_reducible refine (keeps_State_setCore h_cores _ _ _).trans ?_
    | with_reducible refine erase_cond ?_ ?_)

theorem keeps_refreshReads {L : Part → Bool} (h_sched : L .sched = true) : ∀ s c w, erase L (refreshReads s c w) = erase L s := by
  intro s c w
  unfold refreshReads
  try dsimp only
  repeat' (first
    | with_reducible rfl
    | with_reducible refine (keeps_State_withSched h_sched _ _).trans ?_)

theorem keeps_setShadow {L : Part → Bool} (h_mem : L .mem = true) : ∀ s p i x, erase L (setShadow s p i x) = erase L s := by
  intro s p i x
  unfold setShadow
  try dsimp only
  repeat' (first
    | with_reducible rfl
    | with_reducible refine (keeps_State_withMem h_mem _ _).trans ?_)

theorem keeps_spWrite {L : Part → Bool} (h_mem : L .mem = true) : ∀ s p off bs, erase L (spWrite s p off bs) = erase L s := by
  intro s p off bs
  unfold spWrite
  try dsimp only
  all_goals with_reducible refine (erase_mem h_mem _ _).trans ?_
  all_goals with_reducible rfl

theorem keeps_spStore {L : Part → Bool} (h_mem : L .mem = true) : ∀ s p w v check bad, erase L (spStore s p w v check bad) = erase L s := by
  intro s p w v check bad
  unfold spStore
  try dsimp only
  repeat' (first
    | with_reducible rfl
    | with_reducible refine (keeps_spWrite h_mem _ _ _ _).trans ?_
    | with_reducible refine (keeps_State_withMem h_mem _ _).trans ?_)

theorem keeps_spPut {L : Part → Bool} (h_mem : L .mem = true) : ∀ s p w v, erase L (spPut s p w v) = erase L s := by
  intro s p w v
  unfold spPut
  try dsimp only
  repeat' (first
    | with_reducible rfl
    | with_reducible refine (keeps_setShadow h_mem _ _ _ _).trans ?_
    | with_reducible refine (keeps_spStore h_mem _ _ _ _ _ _).trans ?_
    | split)

theorem keeps_spWrMask {L : Part → Bool} (h_regs : L .regs = true) (h_mem : L .mem = true) : ∀ s p w mask d, erase L (spWrMask s p w mask d) = erase L s := by
  intro s p w mask d
  unfold spWrMask
  try dsimp only
  repeat' (first
    | with_reducible rfl
    | with_reducible refine (keeps_spCount h_regs _ _ _).trans ?_
    | with_reducible refine (keeps_spPut h_mem _ _ _ _).trans ?_
    | with_reducible refine erase_cond ?_ ?_)

theorem keeps_spUndo {L : Part → Bool} (h_mem : L .mem = true) : ∀ s q, erase L (spUndo s q) = erase L s := by
  intro s q
  unfold spUndo
  try dsimp only
  repeat' (first
    | with_reducible rfl
    | with_reducible refine (keeps_setShadow h_mem _ _ _ _).trans ?_
    | with_reducible refine (keeps_spStore h_mem _ _ _ _ _ _).trans ?_
    | split)

theorem keeps_portWrite {L : Part → Bool} (h_regs : L .regs = true) (h_sched : L .sched = true) (h_mem : L .mem = true) : ∀ s c p w port mask d, erase L (portWrite s c p w port mask d) = erase L s := by
  intro s c p w port mask d
  unfold portWrite
  try dsimp only
  repeat' (first
    | with_reducible rfl
    | with_reducible refine (keeps_refreshReads h_sched _ _ _).trans ?_
    | with_reducible refine (keeps_spWrMask h_regs h_mem _ _ _ _ _).trans ?_
    | with_reducible refine (keeps_satAdd h_regs _ _ _ _ _ _).trans ?_
    | with_reducible refine (keeps_spUndo h_mem _ _).trans ?_
    | with_reducible refine (keeps_State_withSched h_sched _ _).trans ?_
    | with_reducible refine erase_cond ?_ ?_
    | split)

theorem keeps_acsWrite {L : Part → Bool} (h_regs : L .regs = true) (h_sched : L .sched = true) (h_fns : L .fns = true) (h_sqs : L .sqs = true) (h_cqs : L .cqs = true) (h_prog : L .prog = true) (h_recov : L .recov = true) (h_cores : L .cores = true) (h_mem : L .mem = true) (h_mail : L .mail = true) (h_intc : L .intc = true) (h_lant : L .lant = true) (h_ports : L .ports = true) (h_camp : L .camp = true) (h_trust : L .trust = true) (h_power : L .power = true) (h_out : L .out = true) (h_free : L .free = true) : ∀ s k q v, erase L (acsWrite s k q v) = erase L s := by
  intro s k q v
  unfold acsWrite
  try dsimp only
  repeat' (first
    | with_reducible rfl
    | with_reducible refine (keeps_ddrWr h_mem _ _ _).trans ?_
    | with_reducible refine (keeps_accessWrite h_regs h_sched h_fns h_sqs h_cqs h_prog h_recov h_cores h_mem h_mail h_intc h_lant h_ports h_camp h_trust h_power h_out h_free _ _ _ _ _).trans ?_
    | with_reducible refine (keeps_coreRegWrite h_cores _ _ _ _).trans ?_
    | with_reducible refine (keeps_regWriteS h_regs h_sched h_fns h_sqs h_cqs h_prog h_recov h_cores h_mem h_mail h_intc h_lant h_ports h_camp h_trust h_power h_out h_free _ _ _ _ _ _ _).trans ?_
    | with_reducible refine (keeps_regCross h_regs h_ports _ _ _ _ _).trans ?_
    | with_reducible refine (keeps_State_setCore h_cores _ _ _).trans ?_
    | with_reducible refine (keeps_portWrite h_regs h_sched h_mem _ _ _ _ _ _ _).trans ?_
    | with_reducible refine (keeps_ddrNote h_regs _ _ _).trans ?_
    | with_reducible refine erase_cond ?_ ?_
    | split)

theorem keeps_trimBacklog {L : Part → Bool} (h_regs : L .regs = true) (h_meter : L .meter = true) : ∀ s, erase L (trimBacklog s) = erase L s := by
  intro s
  unfold trimBacklog
  try dsimp only
  repeat' (first
    | with_reducible rfl
    | with_reducible refine (keeps_State_withMeter h_meter _ _).trans ?_
    | with_reducible refine (keeps_wf h_regs _ _ _ _ _ _ _).trans ?_
    | with_reducible refine erase_cond ?_ ?_)

theorem keeps_addBlock {L : Part → Bool} (h_regs : L .regs = true) (h_intc : L .intc = true) (h_meter : L .meter = true) (h_trust : L .trust = true) : ∀ s c flags, erase L (addBlock s c flags) = erase L s := by
  intro s c flags
  unfold addBlock
  try dsimp only
  repeat' (first
    | with_reducible rfl
    | with_reducible refine (keeps_wr h_regs _ _ _ _ _ _).trans ?_
    | with_reducible refine (keeps_State_withTrust h_trust _ _).trans ?_
    | with_reducible refine (keeps_State_withMeter h_meter _ _).trans ?_
    | with_reducible refine (keeps_wf h_regs _ _ _ _ _ _ _).trans ?_
    | with_reducible refine (keeps_raise h_intc _ _).trans ?_
    | with_reducible refine (keeps_trimBacklog h_regs h_meter _).trans ?_
    | with_reducible refine erase_cond ?_ ?_)

theorem keeps_addFlight {L : Part → Bool} (h_sched : L .sched = true) : ∀ s c x, erase L (addFlight s c x) = erase L s := by
  intro s c x
  unfold addFlight
  try dsimp only
  repeat' (first
    | with_reducible rfl
    | with_reducible refine (keeps_State_withSched h_sched _ _).trans ?_)

theorem keeps_endRound {L : Part → Bool} (h_regs : L .regs = true) (h_sqs : L .sqs = true) (h_recov : L .recov = true) (h_mem : L .mem = true) (h_ports : L .ports = true) (h_camp : L .camp = true) (h_out : L .out = true) : ∀ s fn slot stopped, erase L (endRound s fn slot stopped) = erase L s := by
  intro s fn slot stopped
  unfold endRound
  try dsimp only
  repeat' (first
    | with_reducible rfl
    | with_reducible refine (keeps_updSq h_sqs _ _ _ _).trans ?_
    | with_reducible refine (keeps_undrain h_mem _ _).trans ?_
    | with_reducible refine (keeps_startRound h_regs h_sqs h_recov h_mem h_ports h_camp h_out _ _ _).trans ?_
    | with_reducible refine erase_cond ?_ ?_)

theorem keeps_pauseRound {L : Part → Bool} (h_regs : L .regs = true) (h_sqs : L .sqs = true) (h_recov : L .recov = true) (h_mem : L .mem = true) (h_ports : L .ports = true) (h_camp : L .camp = true) (h_out : L .out = true) : ∀ s fn slot why, erase L (pauseRound s fn slot why) = erase L s := by
  intro s fn slot why
  unfold pauseRound
  try dsimp only
  repeat' (first
    | with_reducible rfl
    | with_reducible refine (keeps_updSq h_sqs _ _ _ _).trans ?_
    | with_reducible refine (keeps_endRound h_regs h_sqs h_recov h_mem h_ports h_camp h_out _ _ _ _).trans ?_)

theorem keeps_writeAccepted {L : Part → Bool} (h_regs : L .regs = true) (h_recov : L .recov = true) (h_ports : L .ports = true) (h_camp : L .camp = true) (h_out : L .out = true) : ∀ s fn slot i a b, erase L (writeAccepted s fn slot i a b) = erase L s := by
  intro s fn slot i a b
  unfold writeAccepted
  try dsimp only
  repeat' (first
    | with_reducible rfl
    | with_reducible refine (keeps_putRecord h_regs h_recov h_ports h_camp h_out _ _ _ _ _).trans ?_)

theorem keeps_admitEntry {L : Part → Bool} (h_regs : L .regs = true) (h_sqs : L .sqs = true) (h_cqs : L .cqs = true) (h_recov : L .recov = true) (h_mem : L .mem = true) (h_ports : L .ports = true) (h_camp : L .camp = true) (h_out : L .out = true) : ∀ s fn slot units, erase L (admitEntry s fn slot units) = erase L s := by
  intro s fn slot units
  unfold admitEntry
  try dsimp only
  repeat' (first
    | with_reducible rfl
    | with_reducible refine (keeps_pauseRound h_regs h_sqs h_recov h_mem h_ports h_camp h_out _ _ _ _).trans ?_
    | with_reducible refine (keeps_writeAccepted h_regs h_recov h_ports h_camp h_out _ _ _ _ _ _).trans ?_
    | with_reducible refine (keeps_updSq h_sqs _ _ _ _).trans ?_
    | with_reducible refine (keeps_sqError h_regs h_sqs h_recov h_mem h_ports h_camp h_out _ _ _ _).trans ?_
    | with_reducible refine (keeps_updCq h_cqs _ _ _ _).trans ?_
    | with_reducible refine erase_cond ?_ ?_
    | split)

theorem keeps_advanceConsumed {L : Part → Bool} (h_regs : L .regs = true) (h_sqs : L .sqs = true) (h_recov : L .recov = true) (h_mem : L .mem = true) (h_ports : L .ports = true) (h_camp : L .camp = true) (h_out : L .out = true) : ∀ s fn slot, erase L (advanceConsumed s fn slot) = erase L s := by
  intro s fn slot
  unfold advanceConsumed
  try dsimp only
  repeat' (first
    | with_reducible rfl
    | with_reducible refine (keeps_writeSqRec h_regs h_recov h_ports h_camp h_out _ _ _).trans ?_
    | with_reducible refine (keeps_updSq h_sqs _ _ _ _).trans ?_
    | with_reducible refine (keeps_sqDrained h_regs h_sqs h_recov h_ports h_camp h_out _ _ _).trans ?_
    | with_reducible refine (keeps_oweIndex h_regs h_sqs h_recov h_mem h_ports h_camp h_out _ _ _ _).trans ?_
    | split)

theorem keeps_againWaiting {L : Part → Bool} (h_sqs : L .sqs = true) : ∀ p lost s, erase L (againWaiting p lost s) = erase L s := by
  intro p lost s
  unfold againWaiting
  try dsimp only
  all_goals with_reducible refine (erase_sqs h_sqs _ _).trans ?_
  all_goals with_reducible rfl

theorem keeps_mgmtOnly {L : Part → Bool} {s t : State} (h : erase L t = erase L s) : erase L (mgmtOnly s t) = erase L s :=
  erase_cond h rfl

theorem keeps_agentOnly {L : Part → Bool} {s t : State} {a : Nat} (h : erase L t = erase L s) : erase L (agentOnly s a t) = erase L s :=
  erase_cond (keeps_mgmtOnly h) h

theorem keeps_applyHeld {L : Part → Bool} (h_regs : L .regs = true) (h_fns : L .fns = true) (h_sqs : L .sqs = true) (h_cqs : L .cqs = true) (h_prog : L .prog = true) (h_recov : L .recov = true) (h_cores : L .cores = true) (h_mem : L .mem = true) (h_ports : L .ports = true) (h_camp : L .camp = true) (h_out : L .out = true) : ∀ s, erase L (applyHeld s) = erase L s := by
  intro s
  unfold applyHeld
  try dsimp only
  repeat' (first
    | with_reducible rfl
    | with_reducible refine (keeps_State_withRecov h_recov _ _).trans ?_
    | with_reducible refine (keeps_queueRegS h_regs h_fns h_sqs h_cqs h_prog h_recov h_cores h_mem h_ports h_camp h_out _ _ _ _).trans ?_
    | with_reducible refine (erase_foldl (fun _ _ => ?_) _ _).trans ?_)

theorem keeps_applyLeases {L : Part → Bool} (h_regs : L .regs = true) (h_sched : L .sched = true) : ∀ s, erase L (applyLeases s) = erase L s := by
  intro s
  unfold applyLeases
  try dsimp only
  repeat' (first
    | with_reducible rfl
    | with_reducible refine (keeps_wr h_regs _ _ _ _ _ _).trans ?_
    | with_reducible refine (keeps_State_withSched h_sched _ _).trans ?_
    | with_reducible refine (erase_foldl (fun _ _ => ?_) _ _).trans ?_)

theorem keeps_applyReg {L : Part → Bool} (h_regs : L .regs = true) (h_mem : L .mem = true) (h_intc : L .intc = true) : ∀ s r, erase L (applyReg s r) = erase L s := by
  intro s r
  unfold applyReg
  try dsimp only
  repeat' (first
    | with_reducible rfl
    | with_reducible refine (keeps_wr h_regs _ _ _ _ _ _).trans ?_
    | with_reducible refine (keeps_windowHiS h_regs h_mem _ _ _ _).trans ?_
    | with_reducible refine (keeps_icSrcCfgWrite h_regs h_intc _ _ _).trans ?_
    | with_reducible refine erase_cond ?_ ?_
    | split)

theorem keeps_physFns {L : Part → Bool} (h_trust : L .trust = true) : ∀ s, erase L (physFns s) = erase L s := by
  intro s
  unfold physFns
  try dsimp only
  repeat' (first
    | with_reducible rfl
    | with_reducible refine (keeps_State_withTrust h_trust _ _).trans ?_)

theorem keeps_mapRow {L : Part → Bool} (h_regs : L .regs = true) (h_mem : L .mem = true) : ∀ s p bank row, erase L (mapRow s p bank row) = erase L s := by
  intro s p bank row
  unfold mapRow
  try dsimp only
  repeat' (first
    | with_reducible rfl
    | with_reducible refine (keeps_State_withMem h_mem _ _).trans ?_
    | with_reducible refine (keeps_wf h_regs _ _ _ _ _ _ _).trans ?_
    | with_reducible refine erase_cond ?_ ?_)

theorem keeps_applySettings {L : Part → Bool} (h_regs : L .regs = true) (h_sched : L .sched = true) (h_mem : L .mem = true)
    (h_intc : L .intc = true) (h_ports : L .ports = true) (h_trust : L .trust = true) : ∀ a0 a1, erase L (applySettings a0 a1) = erase L a1 := by
  intro rs s
  unfold applySettings
  dsimp only
  refine (erase_foldl (fun _ _ => keeps_mapRow h_regs h_mem _ _ _ _) _ _).trans ?_
  refine (keeps_physFns h_trust _).trans ?_
  refine (erase_foldl (fun _ _ => keeps_applyReg h_regs h_mem h_intc _ _) _ _).trans ?_
  refine (keeps_State_withSched h_sched _ _).trans ?_
  simp [erase, h_ports, h_trust]

theorem keeps_campFault {L : Part → Bool} (h_regs : L .regs = true) : ∀ s f, erase L (campFault s f) = erase L s := by
  intro s f
  unfold campFault
  try dsimp only
  repeat' (first
    | with_reducible rfl
    | with_reducible refine (keeps_wf h_regs _ _ _ _ _ _ _).trans ?_)

theorem keeps_arbCheck {L : Part → Bool} (h_regs : L .regs = true) (h_fns : L .fns = true) (h_recov : L .recov = true) (h_mail : L .mail = true) (h_intc : L .intc = true) (h_ports : L .ports = true) (h_camp : L .camp = true) (h_out : L .out = true) (h_free : L .free = true) : ∀ hb s, erase L (arbCheck hb s) = erase L s := by
  intro hb s
  unfold arbCheck
  try dsimp only
  repeat' (first
    | with_reducible rfl
    | with_reducible refine (keeps_enterFenced h_regs h_fns h_recov h_mail h_intc h_ports h_camp h_out h_free _).trans ?_
    | with_reducible refine (keeps_campFault h_regs _ _).trans ?_
    | with_reducible refine erase_cond ?_ ?_)

theorem keeps_arbInS {L : Part → Bool} (h_regs : L .regs = true) (h_fns : L .fns = true) (h_recov : L .recov = true) (h_mail : L .mail = true) (h_intc : L .intc = true) (h_ports : L .ports = true) (h_camp : L .camp = true) (h_out : L .out = true) (h_free : L .free = true) : ∀ level s, erase L (arbInS level s) = erase L s := by
  intro level s
  unfold arbInS
  try dsimp only
  repeat' (first
    | with_reducible rfl
    | with_reducible refine (keeps_State_withCamp h_camp _ _).trans ?_
    | with_reducible refine (keeps_arbCheck h_regs h_fns h_recov h_mail h_intc h_ports h_camp h_out h_free _ _).trans ?_)

theorem keeps_armExpiryS {L : Part → Bool} (h_trust : L .trust = true) : ∀ s, erase L (armExpiryS s) = erase L s := by
  intro s
  unfold armExpiryS
  try dsimp only
  repeat' (first
    | with_reducible rfl
    | with_reducible refine (keeps_State_withTrust h_trust _ _).trans ?_
    | with_reducible refine erase_cond ?_ ?_)

theorem keeps_guyPort {L : Part → Bool} (h_regs : L .regs = true) (h_ports : L .ports = true) : ∀ s port d, erase L (guyPort s port d) = erase L s := by
  intro s port d
  unfold guyPort
  try dsimp only
  repeat' (first
    | with_reducible rfl
    | with_reducible refine (keeps_guyWord h_regs h_ports _ _ _ _).trans ?_
    | split)

theorem keeps_arrived {L : Part → Bool} (h_regs : L .regs = true) (h_ports : L .ports = true) : ∀ s off gl, erase L (arrived s off gl) = erase L s := by
  intro s off gl
  unfold arrived
  try dsimp only
  repeat' (first
    | with_reducible rfl
    | with_reducible refine (keeps_regCross h_regs h_ports _ _ _ _ _).trans ?_
    | with_reducible refine (keeps_guyPort h_regs h_ports _ _ _).trans ?_)

theorem keeps_askSource {L : Part → Bool} (h_out : L .out = true) : ∀ c s, erase L (askSource c s) = erase L s := by
  intro c s
  unfold askSource
  try dsimp only
  repeat' (first
    | with_reducible rfl
    | with_reducible refine (keeps_emit h_out _ _).trans ?_
    | with_reducible refine (erase_foldl (fun _ _ => ?_) _ _).trans ?_
    | split)

theorem keeps_mCount {L : Part → Bool} (h_meter : L .meter = true) : ∀ s unit t f, erase L (mCount s unit t f) = erase L s := by
  intro s unit t f
  unfold mCount
  try dsimp only
  repeat' (first
    | with_reducible rfl
    | with_reducible refine (keeps_State_withMeter h_meter _ _).trans ?_)

theorem keeps_mMiss {L : Part → Bool} (h_regs : L .regs = true) (h_meter : L .meter = true) : ∀ s unit l, erase L (mMiss s unit l) = erase L s := by
  intro s unit l
  unfold mMiss
  try dsimp only
  repeat' (first
    | with_reducible rfl
    | with_reducible refine (keeps_wf h_regs _ _ _ _ _ _ _).trans ?_
    | with_reducible refine (keeps_mCount h_meter _ _ _ _).trans ?_
    | with_reducible refine erase_cond ?_ ?_)

theorem keeps_settleMisses {L : Part → Bool} (h_regs : L .regs = true) (h_sched : L .sched = true) (h_meter : L .meter = true) : ∀ s upto, erase L (settleMisses s upto) = erase L s := by
  intro s upto
  unfold settleMisses
  try dsimp only
  repeat' (first
    | with_reducible rfl
    | with_reducible refine (keeps_mMiss h_regs h_meter _ _ _).trans ?_
    | with_reducible refine (keeps_State_withSched h_sched _ _).trans ?_
    | with_reducible refine (erase_foldl (fun _ _ => ?_) _ _).trans ?_)

theorem keeps_unbindFrom {L : Part → Bool} (h_sched : L .sched = true) : ∀ s c, erase L (unbindFrom s c) = erase L s := by
  intro s c
  unfold unbindFrom
  try dsimp only
  repeat' (first
    | with_reducible rfl
    | with_reducible refine (keeps_State_withSched h_sched _ _).trans ?_)

theorem keeps_contractFault {L : Part → Bool} (h_regs : L .regs = true) (h_sched : L .sched = true) (h_mem : L .mem = true) : ∀ s cause kind inst leaseA leaseB, erase L (contractFault s cause kind inst leaseA leaseB) = erase L s := by
  intro s cause kind inst leaseA leaseB
  unfold contractFault
  try dsimp only
  repeat' (first
    | with_reducible rfl
    | with_reducible refine (keeps_stf h_regs _ _ _).trans ?_
    | with_reducible refine (keeps_wr h_regs _ _ _ _ _ _).trans ?_
    | with_reducible refine (keeps_wf h_regs _ _ _ _ _ _ _).trans ?_
    | with_reducible refine (keeps_unbindFrom h_sched _ _).trans ?_
    | with_reducible refine (keeps_abortTest h_mem _ _).trans ?_
    | with_reducible refine (erase_foldl (fun _ _ => ?_) _ _).trans ?_
    | with_reducible refine erase_cond ?_ ?_)

theorem keeps_dropFlight {L : Part → Bool} (h_sched : L .sched = true) : ∀ s x, erase L (dropFlight s x) = erase L s := by
  intro s x
  unfold dropFlight
  try dsimp only
  repeat' (first
    | with_reducible rfl
    | with_reducible refine (keeps_State_withSched h_sched _ _).trans ?_)

theorem keeps_landMoves {L : Part → Bool} (h_regs : L .regs = true) (h_sched : L .sched = true) (h_mem : L .mem = true) : ∀ s c, erase L (landMoves s c) = erase L s := by
  intro s c
  unfold landMoves
  try dsimp only
  repeat' (first
    | with_reducible rfl
    | with_reducible refine (keeps_portWrite h_regs h_sched h_mem _ _ _ _ _ _ _).trans ?_
    | with_reducible refine (keeps_dropFlight h_sched _ _).trans ?_
    | with_reducible refine (erase_foldl (fun _ _ => ?_) _ _).trans ?_)

theorem keeps_settleAt {L : Part → Bool} (h_regs : L .regs = true) (h_sched : L .sched = true) (h_mem : L .mem = true) (h_meter : L .meter = true) : ∀ s c, erase L (settleAt s c) = erase L s := by
  intro s c
  unfold settleAt
  try dsimp only
  repeat' (first
    | with_reducible rfl
    | with_reducible refine (keeps_settleMisses h_regs h_sched h_meter _ _).trans ?_
    | with_reducible refine (keeps_landMoves h_regs h_sched h_mem _ _).trans ?_
    | with_reducible refine (keeps_State_withSched h_sched _ _).trans ?_)

theorem keeps_runEvent {L : Part → Bool} (h_regs : L .regs = true) (h_sched : L .sched = true) (h_mem : L .mem = true) (h_meter : L .meter = true) (h_free : L .free = true) : ∀ s e, erase L (runEvent s e) = erase L s := by
  intro s e
  unfold runEvent
  try dsimp only
  repeat' (first
    | with_reducible rfl
    | with_reducible refine (keeps_settleMisses h_regs h_sched h_meter _ _).trans ?_
    | with_reducible refine (keeps_contractFault h_regs h_sched h_mem _ _ _ _ _ _).trans ?_
    | with_reducible refine (keeps_settleAt h_regs h_sched h_mem h_meter _ _).trans ?_
    | with_reducible refine (keeps_takeFree h_free _).trans ?_
    | with_reducible refine erase_cond ?_ ?_)

theorem keeps_passTo {L : Part → Bool} (h_regs : L .regs = true) (h_sched : L .sched = true) (h_mem : L .mem = true) (h_meter : L .meter = true) (h_free : L .free = true) : ∀ s c, erase L (passTo s c) = erase L s := by
  intro s c
  unfold passTo
  try dsimp only
  repeat' (first
    | with_reducible rfl
    | with_reducible refine (keeps_runEvent h_regs h_sched h_mem h_meter h_free _ _).trans ?_
    | with_reducible refine (keeps_settleAt h_regs h_sched h_mem h_meter _ _).trans ?_
    | split)

theorem keeps_atCycle {L : Part → Bool} (h_regs : L .regs = true) (h_sched : L .sched = true) (h_mem : L .mem = true)
    (h_meter : L .meter = true) (h_free : L .free = true)
    {f : State → State} (hf : ∀ s, erase L (f s) = erase L s) : ∀ c s, erase L (atCycle c s f) = erase L s := by
  intro c s
  unfold atCycle
  refine erase_cond ?_ rfl
  exact (hf _).trans (keeps_passTo h_regs h_sched h_mem h_meter h_free _ _)

theorem keeps_recordReject {L : Part → Bool} (h_regs : L .regs = true) : ∀ s b a2, erase L (recordReject s b a2) = erase L s := by
  intro s b a2
  unfold recordReject
  try dsimp only
  repeat' (first
    | with_reducible rfl
    | with_reducible refine (keeps_wr h_regs _ _ _ _ _ _).trans ?_
    | with_reducible refine (keeps_wf h_regs _ _ _ _ _ _ _).trans ?_
    | split)

theorem keeps_backgroundS {L : Part → Bool} (h_regs : L .regs = true) : ∀ s, erase L (backgroundS s) = erase L s := by
  intro s
  unfold backgroundS
  try dsimp only
  repeat' (first
    | with_reducible rfl
    | with_reducible refine (keeps_wf h_regs _ _ _ _ _ _ _).trans ?_
    | with_reducible refine (keeps_recordReject h_regs _ _ _).trans ?_
    | with_reducible refine (keeps_setGood h_regs _ _ _).trans ?_
    | with_reducible refine erase_cond ?_ ?_)

theorem keeps_spoilRecord {L : Part → Bool} (h_recov : L .recov = true) (h_camp : L .camp = true) : ∀ s l, erase L (spoilRecord s l) = erase L s := by
  intro s l
  unfold spoilRecord
  try dsimp only
  repeat' (first
    | with_reducible rfl
    | with_reducible refine erase_cond ?_ ?_
    | split)
  all_goals (first | with_reducible refine (erase_camp h_camp _ _).trans ?_ | with_reducible refine (erase_recov h_recov _ _).trans ?_)
  all_goals with_reducible rfl

theorem keeps_badLine {L : Part → Bool} (h_recov : L .recov = true) (h_mem : L .mem = true) (h_camp : L .camp = true) : ∀ s l, erase L (badLine s l) = erase L s := by
  intro s l
  unfold badLine
  try dsimp only
  repeat' (first
    | with_reducible rfl
    | with_reducible refine (keeps_State_withMem h_mem _ _).trans ?_
    | with_reducible refine (keeps_spoilRecord h_recov h_camp _ _).trans ?_)

theorem keeps_holdDeliveries {L : Part → Bool} (h_sched : L .sched = true) : ∀ s b, erase L (holdDeliveries s b) = erase L s := by
  intro s b
  unfold holdDeliveries
  try dsimp only
  repeat' (first
    | with_reducible rfl
    | with_reducible refine (keeps_State_withSched h_sched _ _).trans ?_)

theorem keeps_swapTo {L : Part → Bool} (h_regs : L .regs = true) (h_sched : L .sched = true) (h_meter : L .meter = true) : ∀ s b late, erase L (swapTo s b late) = erase L s := by
  intro s b late
  unfold swapTo
  try dsimp only
  repeat' (first
    | with_reducible rfl
    | with_reducible refine (keeps_holdDeliveries h_sched _ _).trans ?_
    | with_reducible refine (keeps_stf h_regs _ _ _).trans ?_
    | with_reducible refine (keeps_wr h_regs _ _ _ _ _ _).trans ?_
    | with_reducible refine (keeps_State_withMeter h_meter _ _).trans ?_
    | with_reducible refine (keeps_wf h_regs _ _ _ _ _ _ _).trans ?_
    | with_reducible refine (keeps_unbindFrom h_sched _ _).trans ?_
    | with_reducible refine (keeps_State_withSched h_sched _ _).trans ?_)

theorem keeps_readLists {L : Part → Bool} (h_regs : L .regs = true) (h_sched : L .sched = true) (h_mem : L .mem = true) (h_free : L .free = true) : ∀ s, erase L (readLists s) = erase L s := by
  intro s
  unfold readLists
  try dsimp only
  repeat' (first
    | with_reducible rfl
    | with_reducible refine (keeps_contractFault h_regs h_sched h_mem _ _ _ _ _ _).trans ?_
    | with_reducible refine (keeps_wf h_regs _ _ _ _ _ _ _).trans ?_
    | with_reducible refine (keeps_takeFree h_free _).trans ?_
    | with_reducible refine erase_cond ?_ ?_
    | split)

theorem keeps_bankSwapS {L : Part → Bool} (h_regs : L .regs = true) (h_sched : L .sched = true) (h_mem : L .mem = true) (h_meter : L .meter = true) (h_free : L .free = true) : ∀ s, erase L (bankSwapS s) = erase L s := by
  intro s
  unfold bankSwapS
  try dsimp only
  repeat' (first
    | with_reducible rfl
    | with_reducible refine (keeps_swapTo h_regs h_sched h_meter _ _ _).trans ?_
    | with_reducible refine (keeps_readLists h_regs h_sched h_mem h_free _).trans ?_
    | with_reducible refine erase_cond ?_ ?_
    | split)

theorem keeps_beginStep {L : Part → Bool} (h_prog : L .prog = true) (h_meter : L .meter = true) : ∀ c l s, erase L (beginStep c l s) = erase L s := by
  intro c l s
  unfold beginStep
  try dsimp only
  repeat' (first
    | with_reducible rfl
    | with_reducible refine (keeps_State_setCtx h_prog _ _ _).trans ?_
    | with_reducible refine (keeps_mCount h_meter _ _ _ _).trans ?_)

theorem keeps_bindCtx {L : Part → Bool} (h_regs : L .regs = true) (h_fns : L .fns = true) (h_sqs : L .sqs = true) (h_cqs : L .cqs = true) (h_prog : L .prog = true) (h_recov : L .recov = true) (h_mem : L .mem = true) (h_ports : L .ports = true) (h_camp : L .camp = true) (h_power : L .power = true) (h_out : L .out = true) : ∀ s fn slot i c, erase L (bindCtx s fn slot i c) = erase L s := by
  intro s fn slot i c
  unfold bindCtx
  try dsimp only
  repeat' (first
    | with_reducible rfl
    | with_reducible refine (keeps_fetchMore h_regs h_fns h_sqs h_cqs h_prog h_recov h_mem h_ports h_camp h_power h_out _ _).trans ?_
    | with_reducible refine (keeps_updItem h_sqs _ _ _ _ _).trans ?_
    | with_reducible refine (keeps_State_setCtx h_prog _ _ _).trans ?_
    | with_reducible refine (keeps_writeProg h_regs h_recov h_ports h_camp h_out _ _ _ _ _).trans ?_)

theorem keeps_bmeClearS {L : Part → Bool} (h_fns : L .fns = true) : ∀ fn s, erase L (bmeClearS fn s) = erase L s := by
  intro fn s
  unfold bmeClearS
  try dsimp only
  repeat' (first
    | with_reducible rfl
    | with_reducible refine (keeps_State_setFn h_fns _ _ _).trans ?_)

theorem keeps_cqInterrupt {L : Part → Bool} (h_regs : L .regs = true) (h_fns : L .fns = true) (h_cqs : L .cqs = true) (h_mem : L .mem = true) (h_ports : L .ports = true) (h_out : L .out = true) : ∀ s fn slot, erase L (cqInterrupt s fn slot) = erase L s := by
  intro s fn slot
  unfold cqInterrupt
  try dsimp only
  repeat' (first
    | with_reducible rfl
    | with_reducible refine (keeps_trySend h_regs h_fns h_cqs h_mem h_ports h_out _ _ _).trans ?_
    | with_reducible refine (keeps_updCq h_cqs _ _ _ _).trans ?_)

theorem keeps_moderate {L : Part → Bool} (h_regs : L .regs = true) (h_fns : L .fns = true) (h_cqs : L .cqs = true) (h_mem : L .mem = true) (h_ports : L .ports = true) (h_out : L .out = true) : ∀ s fn slot n imm, erase L (moderate s fn slot n imm) = erase L s := by
  intro s fn slot n imm
  unfold moderate
  try dsimp only
  repeat' (first
    | with_reducible rfl
    | with_reducible refine (keeps_updCq h_cqs _ _ _ _).trans ?_
    | with_reducible refine (keeps_cqInterrupt h_regs h_fns h_cqs h_mem h_ports h_out _ _ _).trans ?_
    | with_reducible refine erase_cond ?_ ?_)

theorem keeps_timerS {L : Part → Bool} (h_regs : L .regs = true) (h_fns : L .fns = true) (h_cqs : L .cqs = true) (h_mem : L .mem = true) (h_ports : L .ports = true) (h_out : L .out = true) : ∀ fn slot s, erase L (timerS fn slot s) = erase L s := by
  intro fn slot s
  unfold timerS
  try dsimp only
  repeat' (first
    | with_reducible rfl
    | with_reducible refine (keeps_cqInterrupt h_regs h_fns h_cqs h_mem h_ports h_out _ _ _).trans ?_
    | with_reducible refine erase_cond ?_ ?_
    | split)

theorem keeps_freeEnded {L : Part → Bool} (h_regs : L .regs = true) (h_recov : L .recov = true) (h_ports : L .ports = true) (h_camp : L .camp = true) (h_out : L .out = true) : ∀ s q i, erase L (freeEnded s q i) = erase L s := by
  intro s q i
  unfold freeEnded
  try dsimp only
  repeat' (first
    | with_reducible rfl
    | with_reducible refine (keeps_freeProg h_regs h_recov h_ports h_camp h_out _ _).trans ?_
    | with_reducible refine (erase_foldl (fun _ _ => ?_) _ _).trans ?_
    | with_reducible refine erase_cond ?_ ?_)

theorem keeps_postOne {L : Part → Bool} (h_regs : L .regs = true) (h_sqs : L .sqs = true) (h_cqs : L .cqs = true) (h_recov : L .recov = true) (h_mem : L .mem = true) (h_meter : L .meter = true) (h_ports : L .ports = true) (h_camp : L .camp = true) (h_out : L .out = true) : ∀ s fn slot p, erase L (postOne s fn slot p) = erase L s := by
  intro s fn slot p
  unfold postOne
  try dsimp only
  repeat' (first
    | with_reducible rfl
    | with_reducible refine (keeps_freeEnded h_regs h_recov h_ports h_camp h_out _ _ _).trans ?_
    | with_reducible refine (keeps_advanceConsumed h_regs h_sqs h_recov h_mem h_ports h_camp h_out _ _ _).trans ?_
    | with_reducible refine (keeps_cqDrained h_regs h_cqs h_recov h_ports h_camp h_out _ _ _).trans ?_
    | with_reducible refine (keeps_updItem h_sqs _ _ _ _ _).trans ?_
    | with_reducible refine (keeps_sqError h_regs h_sqs h_recov h_mem h_ports h_camp h_out _ _ _ _).trans ?_
    | with_reducible refine (keeps_startRound h_regs h_sqs h_recov h_mem h_ports h_camp h_out _ _ _).trans ?_
    | with_reducible refine (keeps_updCq h_cqs _ _ _ _).trans ?_
    | with_reducible refine (keeps_mCount h_meter _ _ _ _).trans ?_
    | with_reducible refine (keeps_emit h_out _ _).trans ?_
    | with_reducible refine (keeps_hostDenied h_regs h_mem (by assumption)).trans ?_
    | with_reducible refine erase_cond ?_ ?_
    | split)

theorem keeps_postHeld {L : Part → Bool} (h_regs : L .regs = true) (h_sqs : L .sqs = true) (h_cqs : L .cqs = true) (h_recov : L .recov = true) (h_mem : L .mem = true) (h_meter : L .meter = true) (h_ports : L .ports = true) (h_camp : L .camp = true) (h_out : L .out = true) : ∀ fn a1 a2, erase L (postHeld fn a1 a2).1 = erase L a2 := by
  intro fn a1 a2
  revert fn a2
  induction a1 with
  | zero =>
    intro fn a2
    unfold postHeld
    try dsimp only
  | succ n ih =>
    intro fn a2
    unfold postHeld
    try dsimp only
    repeat' (first
      | with_reducible rfl
      | with_reducible refine (keeps_postOne h_regs h_sqs h_cqs h_recov h_mem h_meter h_ports h_camp h_out _ _ _ _).trans ?_
      | with_reducible refine (ih _ _).trans ?_
      | split)

theorem keeps_mailRelease {L : Part → Bool} (h_fns : L .fns = true) (h_mail : L .mail = true) (h_ports : L .ports = true) (h_out : L .out = true) : ∀ s fn, erase L (mailRelease s fn) = erase L s := by
  intro s fn
  unfold mailRelease
  try dsimp only
  repeat' (first
    | with_reducible rfl
    | with_reducible refine (keeps_sendMsix h_fns h_ports h_out _ _ _).trans ?_
    | with_reducible refine (erase_foldl (fun _ _ => ?_) _ _).trans ?_)
  all_goals with_reducible refine (erase_mail h_mail _ _).trans ?_
  all_goals with_reducible rfl

theorem keeps_releaseQueues {L : Part → Bool} (h_regs : L .regs = true) (h_fns : L .fns = true) (h_sqs : L .sqs = true) (h_cqs : L .cqs = true) (h_recov : L .recov = true) (h_mem : L .mem = true) (h_mail : L .mail = true) (h_meter : L .meter = true) (h_ports : L .ports = true) (h_camp : L .camp = true) (h_out : L .out = true) : ∀ s fn, erase L (releaseQueues s fn) = erase L s := by
  intro s fn
  unfold releaseQueues
  try dsimp only
  repeat' (first
    | with_reducible rfl
    | with_reducible refine (keeps_moderate h_regs h_fns h_cqs h_mem h_ports h_out _ _ _ _ _).trans ?_
    | with_reducible refine (keeps_timerS h_regs h_fns h_cqs h_mem h_ports h_out _ _ _).trans ?_
    | with_reducible refine (keeps_flushIndex h_regs h_sqs h_recov h_mem h_ports h_camp h_out _ _ _).trans ?_
    | with_reducible refine (keeps_postHeld h_regs h_sqs h_cqs h_recov h_mem h_meter h_ports h_camp h_out _ _ _).trans ?_
    | with_reducible refine (keeps_sendPending h_regs h_fns h_cqs h_mem h_ports h_out _ _).trans ?_
    | with_reducible refine (keeps_startRound h_regs h_sqs h_recov h_mem h_ports h_camp h_out _ _ _).trans ?_
    | with_reducible refine (keeps_mailRelease h_fns h_mail h_ports h_out _ _).trans ?_
    | with_reducible refine (erase_foldl (fun _ _ => ?_) _ _).trans ?_
    | with_reducible refine erase_cond ?_ ?_)

theorem keeps_noteS {L : Part → Bool} (h_regs : L .regs = true) (h_fns : L .fns = true) (h_mail : L .mail = true) (h_intc : L .intc = true) (h_ports : L .ports = true) (h_camp : L .camp = true) (h_out : L .out = true) : ∀ s p t m ptr len, erase L (noteS s p t m ptr len) = erase L s := by
  intro s p t m ptr len
  unfold noteS
  try dsimp only
  repeat' (first
    | with_reducible rfl
    | with_reducible refine (keeps_postStore h_regs h_fns h_mail h_intc h_ports h_camp h_out _ _ _ _ _).trans ?_
    | with_reducible refine (keeps_satAdd h_regs _ _ _ _ _ _).trans ?_
    | with_reducible refine erase_cond ?_ ?_)

theorem keeps_stepNotices {L : Part → Bool} (h_regs : L .regs = true) (h_fns : L .fns = true) (h_mail : L .mail = true) (h_intc : L .intc = true) (h_ports : L .ports = true) (h_camp : L .camp = true) (h_out : L .out = true) : ∀ c x s, erase L (stepNotices c x s) = erase L s := by
  intro c x s
  unfold stepNotices
  try dsimp only
  repeat' (first
    | with_reducible rfl
    | with_reducible refine (keeps_noteS h_regs h_fns h_mail h_intc h_ports h_camp h_out _ _ _ _ _ _).trans ?_
    | with_reducible refine (erase_foldl (fun _ _ => ?_) _ _).trans ?_
    | with_reducible refine erase_cond ?_ ?_)

theorem keeps_stepContinue {L : Part → Bool} (h_regs : L .regs = true) (h_fns : L .fns = true) (h_sqs : L .sqs = true) (h_cqs : L .cqs = true) (h_prog : L .prog = true) (h_recov : L .recov = true) (h_mem : L .mem = true) (h_mail : L .mail = true) (h_intc : L .intc = true) (h_ports : L .ports = true) (h_camp : L .camp = true) (h_power : L .power = true) (h_out : L .out = true) : ∀ c s, erase L (stepContinue c s) = erase L s := by
  intro c s
  unfold stepContinue
  try dsimp only
  repeat' (first
    | with_reducible rfl
    | with_reducible refine (keeps_stepNotices h_regs h_fns h_mail h_intc h_ports h_camp h_out _ _ _).trans ?_
    | with_reducible refine (keeps_fetchMore h_regs h_fns h_sqs h_cqs h_prog h_recov h_mem h_ports h_camp h_power h_out _ _).trans ?_
    | with_reducible refine (keeps_endProgram h_regs h_fns h_sqs h_cqs h_prog h_recov h_mem h_ports h_camp h_out _ _ _ _ _ _).trans ?_
    | with_reducible refine (keeps_State_setCtx h_prog _ _ _).trans ?_
    | with_reducible refine erase_cond ?_ ?_)

theorem keeps_stepEnd {L : Part → Bool} (h_regs : L .regs = true) (h_fns : L .fns = true) (h_sqs : L .sqs = true) (h_cqs : L .cqs = true) (h_prog : L .prog = true) (h_recov : L .recov = true) (h_mem : L .mem = true) (h_mail : L .mail = true) (h_intc : L .intc = true) (h_ports : L .ports = true) (h_camp : L .camp = true) (h_power : L .power = true) (h_out : L .out = true) : ∀ c next cond time res s, erase L (stepEnd c next cond time res s) = erase L s := by
  intro c next cond time res s
  unfold stepEnd
  try dsimp only
  repeat' (first
    | with_reducible rfl
    | with_reducible refine (keeps_State_setCtx h_prog _ _ _).trans ?_
    | with_reducible refine (keeps_undrain h_mem _ _).trans ?_
    | with_reducible refine (keeps_writeProg h_regs h_recov h_ports h_camp h_out _ _ _ _ _).trans ?_
    | with_reducible refine (keeps_stepContinue h_regs h_fns h_sqs h_cqs h_prog h_recov h_mem h_mail h_intc h_ports h_camp h_power h_out _ _).trans ?_
    | with_reducible refine erase_cond ?_ ?_)

theorem keeps_endOrFence {L : Part → Bool} (h_regs : L .regs = true) (h_fns : L .fns = true) (h_sqs : L .sqs = true) (h_cqs : L .cqs = true) (h_prog : L .prog = true) (h_recov : L .recov = true) (h_mem : L .mem = true) (h_mail : L .mail = true) (h_intc : L .intc = true) (h_ports : L .ports = true) (h_camp : L .camp = true) (h_power : L .power = true) (h_out : L .out = true) : ∀ c time res s, erase L (endOrFence c time res s) = erase L s := by
  intro c time res s
  unfold endOrFence
  try dsimp only
  repeat' (first
    | with_reducible rfl
    | with_reducible refine (keeps_stepEnd h_regs h_fns h_sqs h_cqs h_prog h_recov h_mem h_mail h_intc h_ports h_camp h_power h_out _ _ _ _ _ _).trans ?_
    | with_reducible refine (keeps_State_setCtx h_prog _ _ _).trans ?_
    | with_reducible refine (keeps_emit h_out _ _).trans ?_
    | with_reducible refine erase_cond ?_ ?_
    | split)

theorem keeps_measureEnd {L : Part → Bool} (h_regs : L .regs = true) (h_fns : L .fns = true) (h_sqs : L .sqs = true) (h_cqs : L .cqs = true) (h_prog : L .prog = true) (h_recov : L .recov = true) (h_mem : L .mem = true) (h_mail : L .mail = true) (h_intc : L .intc = true) (h_ports : L .ports = true) (h_camp : L .camp = true) (h_power : L .power = true) (h_out : L .out = true) : ∀ c time s, erase L (measureEnd c time s) = erase L s := by
  intro c time s
  unfold measureEnd
  try dsimp only
  repeat' (first
    | with_reducible rfl
    | with_reducible refine (keeps_endOrFence h_regs h_fns h_sqs h_cqs h_prog h_recov h_mem h_mail h_intc h_ports h_camp h_power h_out _ _ _ _).trans ?_)

theorem keeps_feed {L : Part → Bool} (h_regs : L .regs = true) (h_meter : L .meter = true) : ∀ v s f, erase L (feed v s f) = erase L s := by
  intro v s f
  unfold feed
  try dsimp only
  repeat' (first
    | with_reducible rfl
    | with_reducible refine (keeps_State_withMeter h_meter _ _).trans ?_
    | with_reducible refine (keeps_wf h_regs _ _ _ _ _ _ _).trans ?_)

theorem keeps_spWrWord {L : Part → Bool} (h_regs : L .regs = true) (h_mem : L .mem = true) : ∀ s p w o bs, erase L (spWrWord s p w o bs) = erase L s := by
  intro s p w o bs
  unfold spWrWord
  try dsimp only
  repeat' (first
    | with_reducible rfl
    | with_reducible refine (keeps_spCount h_regs _ _ _).trans ?_
    | with_reducible refine (keeps_spPut h_mem _ _ _ _).trans ?_
    | with_reducible refine erase_cond ?_ ?_)

theorem keeps_spWr {L : Part → Bool} (h_regs : L .regs = true) (h_mem : L .mem = true) : ∀ s p off bs, erase L (spWr s p off bs) = erase L s := by
  intro s p off bs
  unfold spWr
  try dsimp only
  repeat' (first
    | with_reducible rfl
    | with_reducible refine (keeps_spWrWord h_regs h_mem _ _ _ _ _).trans ?_
    | with_reducible refine (erase_foldl (fun _ _ => ?_) _ _).trans ?_)

theorem keeps_memWrite {L : Part → Bool} (h_regs : L .regs = true) (h_mem : L .mem = true) (h_power : L .power = true) (h_out : L .out = true) :
    ∀ fn m l bs k s, erase L (memWrite fn m l bs k s).1 = erase L s := by
  intro fn m l
  induction l with
  | nil => intro bs k s; rfl
  | cons u us ih =>
    intro bs k s
    obtain ⟨t, n⟩ := u
    cases t with
    | none => exact ih _ _ _
    | some t =>
      unfold memWrite
      dsimp only
      repeat' (first
        | with_reducible rfl
        | refine (ih _ _ _).trans ?_
        | with_reducible refine (keeps_ddrNote h_regs _ _ _).trans ?_
        | with_reducible refine (keeps_ddrWr h_mem _ _ _).trans ?_
        | with_reducible refine (keeps_ddrTouch h_power _ _).trans ?_
        | with_reducible refine (keeps_deny h_regs h_mem _ _ _ _).trans ?_
        | with_reducible refine (keeps_spWr h_regs h_mem _ _ _ _).trans ?_
        | with_reducible refine (keeps_emit h_out _ _).trans ?_
        | split)

theorem keeps_fieldFail {L : Part → Bool} (h_regs : L .regs = true) (h_fns : L .fns = true) (h_sqs : L .sqs = true) (h_cqs : L .cqs = true) (h_prog : L .prog = true) (h_recov : L .recov = true) (h_mem : L .mem = true) (h_ports : L .ports = true) (h_camp : L .camp = true) (h_out : L .out = true) : ∀ c st s, erase L (fieldFail c st s) = erase L s := by
  intro c st s
  unfold fieldFail
  try dsimp only
  repeat' (first
    | with_reducible rfl
    | with_reducible refine (keeps_State_setCtx h_prog _ _ _).trans ?_
    | with_reducible refine (keeps_stepFail h_regs h_fns h_sqs h_cqs h_prog h_recov h_mem h_ports h_camp h_out _ _ _ _).trans ?_
    | with_reducible refine (keeps_wf h_regs _ _ _ _ _ _ _).trans ?_
    | with_reducible refine erase_cond ?_ ?_)

theorem keeps_checkpoint {L : Part → Bool} (h_regs : L .regs = true) (h_recov : L .recov = true) (h_ports : L .ports = true) (h_camp : L .camp = true) (h_out : L .out = true) : ∀ c s, erase L (checkpoint c s) = erase L s := by
  intro c s
  unfold checkpoint
  try dsimp only
  repeat' (first
    | with_reducible rfl
    | with_reducible refine (keeps_writeProg h_regs h_recov h_ports h_camp h_out _ _ _ _ _).trans ?_)

theorem keeps_sampleRecordS {L : Part → Bool} (h_regs : L .regs = true) (h_fns : L .fns = true) (h_sqs : L .sqs = true) (h_cqs : L .cqs = true) (h_prog : L .prog = true) (h_recov : L .recov = true) (h_mem : L .mem = true) (h_mail : L .mail = true) (h_intc : L .intc = true) (h_meter : L .meter = true) (h_ports : L .ports = true) (h_camp : L .camp = true) (h_power : L .power = true) (h_out : L .out = true) : ∀ c code status edge s, erase L (sampleRecordS c code status edge s) = erase L s := by
  intro c code status edge s
  unfold sampleRecordS
  try dsimp only
  repeat' (first
    | with_reducible rfl
    | with_reducible refine (keeps_measureEnd h_regs h_fns h_sqs h_cqs h_prog h_recov h_mem h_mail h_intc h_ports h_camp h_power h_out _ _ _).trans ?_
    | with_reducible refine (keeps_feed h_regs h_meter _ _ _).trans ?_
    | with_reducible refine (keeps_memWrite h_regs h_mem h_power h_out _ _ _ _ _ _).trans ?_
    | with_reducible refine (keeps_State_setCtx h_prog _ _ _).trans ?_
    | with_reducible refine (keeps_stepFail h_regs h_fns h_sqs h_cqs h_prog h_recov h_mem h_ports h_camp h_out _ _ _ _).trans ?_
    | with_reducible refine (keeps_fieldFail h_regs h_fns h_sqs h_cqs h_prog h_recov h_mem h_ports h_camp h_out _ _ _).trans ?_
    | with_reducible refine (keeps_checkpoint h_regs h_recov h_ports h_camp h_out _ _).trans ?_
    | with_reducible refine (keeps_hold h_prog _ _).trans ?_
    | with_reducible refine (erase_foldl (fun _ _ => ?_) _ _).trans ?_
    | with_reducible refine erase_cond ?_ ?_)

theorem keeps_memRead {L : Part → Bool} (h_regs : L .regs = true) (h_mem : L .mem = true) (h_power : L .power = true) : ∀ m r a2 a3 a4 a5, erase L (memRead m r a2 a3 a4 a5).1 = erase L a5 := by
  intro m r a2 a3 a4 a5
  revert m r a3 a4 a5
  induction a2 with
  | nil =>
    intro m r a3 a4 a5
    unfold memRead
    try dsimp only
  | cons hd tl ih =>
    intro m r a3 a4 a5
    unfold memRead
    try dsimp only
    repeat' (first
      | with_reducible rfl
      | with_reducible refine (keeps_ddrTouch h_power _ _).trans ?_
      | with_reducible refine (keeps_deny h_regs h_mem _ _ _ _).trans ?_
      | with_reducible refine (keeps_ddrNote h_regs _ _ _).trans ?_
      | with_reducible refine (keeps_spNote h_regs _ _ _ _).trans ?_
      | with_reducible refine (ih _ _ _ _ _).trans ?_
      | split)

theorem keeps_readWord {L : Part → Bool} (h_regs : L .regs = true) (h_fns : L .fns = true) (h_sqs : L .sqs = true) (h_cqs : L .cqs = true) (h_prog : L .prog = true) (h_recov : L .recov = true) (h_mem : L .mem = true) (h_ports : L .ports = true) (h_camp : L .camp = true) (h_power : L .power = true) (h_out : L .out = true) : ∀ c s, erase L (readWord c s) = erase L s := by
  intro c s
  unfold readWord
  try dsimp only
  repeat' (first
    | with_reducible rfl
    | with_reducible refine (keeps_deny h_regs h_mem _ _ _ _).trans ?_
    | with_reducible refine (keeps_State_setCtx h_prog _ _ _).trans ?_
    | with_reducible refine (keeps_memRead h_regs h_mem h_power _ _ _ _ _ _).trans ?_
    | with_reducible refine (keeps_stepFail h_regs h_fns h_sqs h_cqs h_prog h_recov h_mem h_ports h_camp h_out _ _ _ _).trans ?_
    | with_reducible refine (keeps_hold h_prog _ _).trans ?_
    | with_reducible refine (keeps_emit h_out _ _).trans ?_
    | with_reducible refine erase_cond ?_ ?_
    | split)

theorem keeps_writeStepRecord {L : Part → Bool} (h_regs : L .regs = true) (h_fns : L .fns = true) (h_sqs : L .sqs = true) (h_cqs : L .cqs = true) (h_prog : L .prog = true) (h_recov : L .recov = true) (h_mem : L .mem = true) (h_mail : L .mail = true) (h_intc : L .intc = true) (h_ports : L .ports = true) (h_camp : L .camp = true) (h_power : L .power = true) (h_out : L .out = true) : ∀ c bs s, erase L (writeStepRecord c bs s) = erase L s := by
  intro c bs s
  unfold writeStepRecord
  try dsimp only
  repeat' (first
    | with_reducible rfl
    | with_reducible refine (keeps_memWrite h_regs h_mem h_power h_out _ _ _ _ _ _).trans ?_
    | with_reducible refine (keeps_State_setCtx h_prog _ _ _).trans ?_
    | with_reducible refine (keeps_endOrFence h_regs h_fns h_sqs h_cqs h_prog h_recov h_mem h_mail h_intc h_ports h_camp h_power h_out _ _ _ _).trans ?_
    | with_reducible refine (keeps_stepFail h_regs h_fns h_sqs h_cqs h_prog h_recov h_mem h_ports h_camp h_out _ _ _ _).trans ?_
    | with_reducible refine erase_cond ?_ ?_)

theorem keeps_plainEnd {L : Part → Bool} (h_regs : L .regs = true) (h_fns : L .fns = true) (h_sqs : L .sqs = true) (h_cqs : L .cqs = true) (h_prog : L .prog = true) (h_recov : L .recov = true) (h_mem : L .mem = true) (h_mail : L .mail = true) (h_intc : L .intc = true) (h_ports : L .ports = true) (h_camp : L .camp = true) (h_power : L .power = true) (h_out : L .out = true) : ∀ c s, erase L (plainEnd c s) = erase L s := by
  intro c s
  unfold plainEnd
  try dsimp only
  repeat' (first
    | with_reducible rfl
    | with_reducible refine (keeps_stepEnd h_regs h_fns h_sqs h_cqs h_prog h_recov h_mem h_mail h_intc h_ports h_camp h_power h_out _ _ _ _ _ _).trans ?_)

theorem keeps_waitEnd {L : Part → Bool} (h_regs : L .regs = true) (h_fns : L .fns = true) (h_sqs : L .sqs = true) (h_cqs : L .cqs = true) (h_prog : L .prog = true) (h_recov : L .recov = true) (h_mem : L .mem = true) (h_mail : L .mail = true) (h_intc : L .intc = true) (h_ports : L .ports = true) (h_camp : L .camp = true) (h_power : L .power = true) (h_out : L .out = true) : ∀ c s, erase L (waitEnd c s) = erase L s := by
  intro c s
  unfold waitEnd
  try dsimp only
  repeat' (first
    | with_reducible rfl
    | with_reducible refine (keeps_writeStepRecord h_regs h_fns h_sqs h_cqs h_prog h_recov h_mem h_mail h_intc h_ports h_camp h_power h_out _ _ _).trans ?_
    | with_reducible refine (keeps_plainEnd h_regs h_fns h_sqs h_cqs h_prog h_recov h_mem h_mail h_intc h_ports h_camp h_power h_out _ _).trans ?_
    | with_reducible refine (keeps_hold h_prog _ _).trans ?_
    | with_reducible refine erase_cond ?_ ?_
    | split)

theorem keeps_staged {L : Part → Bool} (h_regs : L .regs = true) (h_mem : L .mem = true) : ∀ c n bs s, erase L (staged c n bs s).1 = erase L s := by
  intro c n
  induction n with
  | zero => intro bs s; rfl
  | succ n ih =>
    intro bs s
    unfold staged
    dsimp only
    split
    · rfl
    · exact (ih _ _).trans ((keeps_spNote h_regs _ _ _ _).trans (keeps_spWr h_regs h_mem _ _ _ _))

theorem keeps_stage {L : Part → Bool} (h_regs : L .regs = true) (h_mem : L .mem = true) : ∀ c bs s, erase L (stage c bs s).1 = erase L s := by
  intro c bs s
  unfold stage
  try dsimp only
  repeat' (first
    | with_reducible rfl
    | with_reducible refine (keeps_staged h_regs h_mem _ _ _ _).trans ?_)

theorem keeps_readPart {L : Part → Bool} (h_regs : L .regs = true) (h_mem : L .mem = true) (h_power : L .power = true) : ∀ c n res s, erase L (readPart c n res s).1 = erase L s := by
  intro c n res s
  unfold readPart
  try dsimp only
  repeat' (first
    | with_reducible rfl
    | with_reducible refine (keeps_memRead h_regs h_mem h_power _ _ _ _ _ _).trans ?_
    | with_reducible refine (keeps_stage h_regs h_mem _ _ _).trans ?_
    | split)

theorem keeps_writePart {L : Part → Bool} (h_regs : L .regs = true) (h_prog : L .prog = true) (h_mem : L .mem = true) (h_meter : L .meter = true) (h_power : L .power = true) (h_out : L .out = true) : ∀ c bs s, erase L (writePart c bs s).1 = erase L s := by
  intro c bs s
  unfold writePart
  try dsimp only
  repeat' (first
    | with_reducible rfl
    | with_reducible refine (keeps_memWrite h_regs h_mem h_power h_out _ _ _ _ _ _).trans ?_
    | with_reducible refine (keeps_State_setCtx h_prog _ _ _).trans ?_
    | with_reducible refine (keeps_mCount h_meter _ _ _ _).trans ?_)

theorem keeps_transferEnd {L : Part → Bool} (h_regs : L .regs = true) (h_fns : L .fns = true) (h_sqs : L .sqs = true) (h_cqs : L .cqs = true) (h_prog : L .prog = true) (h_recov : L .recov = true) (h_mem : L .mem = true) (h_mail : L .mail = true) (h_intc : L .intc = true) (h_ports : L .ports = true) (h_camp : L .camp = true) (h_power : L .power = true) (h_out : L .out = true) : ∀ c time differs s, erase L (transferEnd c time differs s) = erase L s := by
  intro c time differs s
  unfold transferEnd
  try dsimp only
  repeat' (first
    | with_reducible rfl
    | with_reducible refine (keeps_endOrFence h_regs h_fns h_sqs h_cqs h_prog h_recov h_mem h_mail h_intc h_ports h_camp h_power h_out _ _ _ _).trans ?_
    | with_reducible refine (keeps_stepFail h_regs h_fns h_sqs h_cqs h_prog h_recov h_mem h_ports h_camp h_out _ _ _ _).trans ?_
    | with_reducible refine erase_cond ?_ ?_)

theorem keeps_moveDone {L : Part → Bool} (h_regs : L .regs = true) (h_fns : L .fns = true) (h_sqs : L .sqs = true) (h_cqs : L .cqs = true) (h_prog : L .prog = true) (h_recov : L .recov = true) (h_mem : L .mem = true) (h_mail : L .mail = true) (h_intc : L .intc = true) (h_meter : L .meter = true) (h_ports : L .ports = true) (h_camp : L .camp = true) (h_power : L .power = true) (h_out : L .out = true) (h_free : L .free = true) : ∀ c res s, erase L (moveDone c res s) = erase L s := by
  intro c res s
  unfold moveDone
  try dsimp only
  repeat' (first
    | with_reducible rfl
    | with_reducible refine (keeps_readPart h_regs h_mem h_power _ _ _ _).trans ?_
    | with_reducible refine (keeps_freeBytes h_free _ _).trans ?_
    | with_reducible refine (keeps_writePart h_regs h_prog h_mem h_meter h_power h_out _ _ _).trans ?_
    | with_reducible refine (keeps_stepFail h_regs h_fns h_sqs h_cqs h_prog h_recov h_mem h_ports h_camp h_out _ _ _ _).trans ?_
    | with_reducible refine (keeps_checkpoint h_regs h_recov h_ports h_camp h_out _ _).trans ?_
    | with_reducible refine (keeps_emit h_out _ _).trans ?_
    | with_reducible refine (keeps_transferEnd h_regs h_fns h_sqs h_cqs h_prog h_recov h_mem h_mail h_intc h_ports h_camp h_power h_out _ _ _ _).trans ?_
    | with_reducible refine erase_cond ?_ ?_
    | split)

theorem keeps_sentPart {L : Part → Bool} (h_prog : L .prog = true) (h_meter : L .meter = true) : ∀ c n s, erase L (sentPart c n s) = erase L s := by
  intro c n s
  unfold sentPart
  try dsimp only
  repeat' (first
    | with_reducible rfl
    | with_reducible refine (keeps_State_setCtx h_prog _ _ _).trans ?_
    | with_reducible refine (keeps_mCount h_meter _ _ _ _).trans ?_)

theorem keeps_inPart {L : Part → Bool} (h_regs : L .regs = true) (h_prog : L .prog = true) (h_mem : L .mem = true) (h_meter : L .meter = true) (h_power : L .power = true) (h_out : L .out = true) : ∀ c bs s, erase L (inPart c bs s).1 = erase L s := by
  intro c bs s
  unfold inPart
  try dsimp only
  repeat' (first
    | with_reducible rfl
    | with_reducible refine (keeps_writePart h_regs h_prog h_mem h_meter h_power h_out _ _ _).trans ?_
    | with_reducible refine (keeps_stage h_regs h_mem _ _ _).trans ?_
    | split)

theorem keeps_nvmeDone {L : Part → Bool} (h_regs : L .regs = true) (h_fns : L .fns = true) (h_sqs : L .sqs = true) (h_cqs : L .cqs = true) (h_prog : L .prog = true) (h_recov : L .recov = true) (h_mem : L .mem = true) (h_mail : L .mail = true) (h_intc : L .intc = true) (h_meter : L .meter = true) (h_ports : L .ports = true) (h_camp : L .camp = true) (h_power : L .power = true) (h_out : L .out = true) (h_free : L .free = true) : ∀ c res s, erase L (nvmeDone c res s) = erase L s := by
  intro c res s
  unfold nvmeDone
  try dsimp only
  repeat' (first
    | with_reducible rfl
    | with_reducible refine (keeps_sentPart h_prog h_meter _ _ _).trans ?_
    | with_reducible refine (keeps_readPart h_regs h_mem h_power _ _ _ _).trans ?_
    | with_reducible refine (keeps_inPart h_regs h_prog h_mem h_meter h_power h_out _ _ _).trans ?_
    | with_reducible refine (keeps_State_setCtx h_prog _ _ _).trans ?_
    | with_reducible refine (keeps_endOrFence h_regs h_fns h_sqs h_cqs h_prog h_recov h_mem h_mail h_intc h_ports h_camp h_power h_out _ _ _ _).trans ?_
    | with_reducible refine (keeps_memRead h_regs h_mem h_power _ _ _ _ _ _).trans ?_
    | with_reducible refine (keeps_stepFail h_regs h_fns h_sqs h_cqs h_prog h_recov h_mem h_ports h_camp h_out _ _ _ _).trans ?_
    | with_reducible refine (keeps_checkpoint h_regs h_recov h_ports h_camp h_out _ _).trans ?_
    | with_reducible refine (keeps_takeFree h_free _).trans ?_
    | with_reducible refine (keeps_emit h_out _ _).trans ?_
    | with_reducible refine (keeps_transferEnd h_regs h_fns h_sqs h_cqs h_prog h_recov h_mem h_mail h_intc h_ports h_camp h_power h_out _ _ _ _).trans ?_
    | with_reducible refine erase_cond ?_ ?_)

theorem keeps_setRxQ {L : Part → Bool} (h_ports : L .ports = true) : ∀ s a1 q r, erase L (setRxQ s a1 q r) = erase L s := by
  intro s a1 q r
  unfold setRxQ
  try dsimp only
  all_goals with_reducible refine (erase_ports h_ports _ _).trans ?_
  all_goals with_reducible rfl

theorem keeps_macAdd {L : Part → Bool} (h_prog : L .prog = true) : ∀ s a1 i n, erase L (macAdd s a1 i n) = erase L s := by
  intro s a1 i n
  unfold macAdd
  try dsimp only
  all_goals with_reducible refine (erase_prog h_prog _ _).trans ?_
  all_goals with_reducible rfl

theorem keeps_frameSent {L : Part → Bool} (h_regs : L .regs = true) (h_fns : L .fns = true) (h_sqs : L .sqs = true) (h_cqs : L .cqs = true) (h_prog : L .prog = true) (h_recov : L .recov = true) (h_mem : L .mem = true) (h_mail : L .mail = true) (h_intc : L .intc = true) (h_meter : L .meter = true) (h_ports : L .ports = true) (h_camp : L .camp = true) (h_power : L .power = true) (h_out : L .out = true) (h_free : L .free = true) : ∀ c res s, erase L (frameSent c res s) = erase L s := by
  intro c res s
  unfold frameSent
  try dsimp only
  repeat' (first
    | with_reducible rfl
    | with_reducible refine (keeps_sentPart h_prog h_meter _ _ _).trans ?_
    | with_reducible refine (keeps_readPart h_regs h_mem h_power _ _ _ _).trans ?_
    | with_reducible refine (keeps_freeBytes h_free _ _).trans ?_
    | with_reducible refine (keeps_macAdd h_prog _ _ _ _).trans ?_
    | with_reducible refine (keeps_State_setCtx h_prog _ _ _).trans ?_
    | with_reducible refine (keeps_endOrFence h_regs h_fns h_sqs h_cqs h_prog h_recov h_mem h_mail h_intc h_ports h_camp h_power h_out _ _ _ _).trans ?_
    | with_reducible refine (keeps_stepFail h_regs h_fns h_sqs h_cqs h_prog h_recov h_mem h_ports h_camp h_out _ _ _ _).trans ?_
    | with_reducible refine (keeps_emit h_out _ _).trans ?_
    | with_reducible refine erase_cond ?_ ?_)

theorem keeps_popArrival {L : Part → Bool} (h_ports : L .ports = true) : ∀ s a1 q f, erase L (popArrival s a1 q f) = erase L s := by
  intro s a1 q f
  unfold popArrival
  try dsimp only
  all_goals with_reducible refine (erase_ports h_ports _ _).trans ?_
  all_goals with_reducible rfl

theorem keeps_frameRead {L : Part → Bool} (h_regs : L .regs = true) (h_fns : L .fns = true) (h_sqs : L .sqs = true) (h_cqs : L .cqs = true) (h_prog : L .prog = true) (h_recov : L .recov = true) (h_mem : L .mem = true) (h_mail : L .mail = true) (h_intc : L .intc = true) (h_meter : L .meter = true) (h_ports : L .ports = true) (h_camp : L .camp = true) (h_power : L .power = true) (h_out : L .out = true) : ∀ c res s, erase L (frameRead c res s) = erase L s := by
  intro c res s
  unfold frameRead
  try dsimp only
  repeat' (first
    | with_reducible rfl
    | with_reducible refine (keeps_setRxQ h_ports _ _ _ _).trans ?_
    | with_reducible refine (keeps_inPart h_regs h_prog h_mem h_meter h_power h_out _ _ _).trans ?_
    | with_reducible refine (keeps_State_setCtx h_prog _ _ _).trans ?_
    | with_reducible refine (keeps_popArrival h_ports _ _ _ _).trans ?_
    | with_reducible refine (keeps_stepFail h_regs h_fns h_sqs h_cqs h_prog h_recov h_mem h_ports h_camp h_out _ _ _ _).trans ?_
    | with_reducible refine (keeps_transferEnd h_regs h_fns h_sqs h_cqs h_prog h_recov h_mem h_mail h_intc h_ports h_camp h_power h_out _ _ _ _).trans ?_
    | with_reducible refine erase_cond ?_ ?_
    | split)

theorem keeps_etherDone {L : Part → Bool} (h_regs : L .regs = true) (h_fns : L .fns = true) (h_sqs : L .sqs = true) (h_cqs : L .cqs = true) (h_prog : L .prog = true) (h_recov : L .recov = true) (h_mem : L .mem = true) (h_mail : L .mail = true) (h_intc : L .intc = true) (h_meter : L .meter = true) (h_ports : L .ports = true) (h_camp : L .camp = true) (h_power : L .power = true) (h_out : L .out = true) (h_free : L .free = true) : ∀ c res s, erase L (etherDone c res s) = erase L s := by
  intro c res s
  unfold etherDone
  try dsimp only
  repeat' (first
    | with_reducible rfl
    | with_reducible refine (keeps_setRxQ h_ports _ _ _ _).trans ?_
    | with_reducible refine (keeps_inPart h_regs h_prog h_mem h_meter h_power h_out _ _ _).trans ?_
    | with_reducible refine (keeps_State_setCtx h_prog _ _ _).trans ?_
    | with_reducible refine (keeps_frameSent h_regs h_fns h_sqs h_cqs h_prog h_recov h_mem h_mail h_intc h_meter h_ports h_camp h_power h_out h_free _ _ _).trans ?_
    | with_reducible refine (keeps_endOrFence h_regs h_fns h_sqs h_cqs h_prog h_recov h_mem h_mail h_intc h_ports h_camp h_power h_out _ _ _ _).trans ?_
    | with_reducible refine (keeps_popArrival h_ports _ _ _ _).trans ?_
    | with_reducible refine (keeps_frameRead h_regs h_fns h_sqs h_cqs h_prog h_recov h_mem h_mail h_intc h_meter h_ports h_camp h_power h_out _ _ _).trans ?_
    | with_reducible refine (keeps_stepFail h_regs h_fns h_sqs h_cqs h_prog h_recov h_mem h_ports h_camp h_out _ _ _ _).trans ?_
    | with_reducible refine (keeps_transferEnd h_regs h_fns h_sqs h_cqs h_prog h_recov h_mem h_mail h_intc h_ports h_camp h_power h_out _ _ _ _).trans ?_
    | with_reducible refine erase_cond ?_ ?_
    | split)

theorem keeps_gpioWrite {L : Part → Bool} (h_ports : L .ports = true) : ∀ q mask v s, erase L (gpioWrite q mask v s) = erase L s := by
  intro q mask v s
  unfold gpioWrite
  try dsimp only
  repeat' (first
    | with_reducible rfl
    | with_reducible refine (keeps_State_setFieldPort h_ports _ _ _).trans ?_)

theorem keeps_fieldIn {L : Part → Bool} (h_regs : L .regs = true) (h_fns : L .fns = true) (h_sqs : L .sqs = true) (h_cqs : L .cqs = true) (h_prog : L .prog = true) (h_recov : L .recov = true) (h_mem : L .mem = true) (h_mail : L .mail = true) (h_intc : L .intc = true) (h_meter : L .meter = true) (h_ports : L .ports = true) (h_camp : L .camp = true) (h_power : L .power = true) (h_out : L .out = true) : ∀ c bs res differs s, erase L (fieldIn c bs res differs s) = erase L s := by
  intro c bs res differs s
  unfold fieldIn
  try dsimp only
  repeat' (first
    | with_reducible rfl
    | with_reducible refine (keeps_inPart h_regs h_prog h_mem h_meter h_power h_out _ _ _).trans ?_
    | with_reducible refine (keeps_stepFail h_regs h_fns h_sqs h_cqs h_prog h_recov h_mem h_ports h_camp h_out _ _ _ _).trans ?_
    | with_reducible refine (keeps_transferEnd h_regs h_fns h_sqs h_cqs h_prog h_recov h_mem h_mail h_intc h_ports h_camp h_power h_out _ _ _ _).trans ?_
    | with_reducible refine erase_cond ?_ ?_)

theorem keeps_fieldDone {L : Part → Bool} (h_regs : L .regs = true) (h_fns : L .fns = true) (h_sqs : L .sqs = true) (h_cqs : L .cqs = true) (h_prog : L .prog = true) (h_recov : L .recov = true) (h_mem : L .mem = true) (h_mail : L .mail = true) (h_intc : L .intc = true) (h_meter : L .meter = true) (h_ports : L .ports = true) (h_camp : L .camp = true) (h_power : L .power = true) (h_out : L .out = true) : ∀ c res s, erase L (fieldDone c res s) = erase L s := by
  intro c res s
  unfold fieldDone
  try dsimp only
  repeat' (first
    | with_reducible rfl
    | with_reducible refine (keeps_sentPart h_prog h_meter _ _ _).trans ?_
    | with_reducible refine (keeps_readPart h_regs h_mem h_power _ _ _ _).trans ?_
    | with_reducible refine (keeps_gpioWrite h_ports _ _ _ _).trans ?_
    | with_reducible refine (keeps_State_setCtx h_prog _ _ _).trans ?_
    | with_reducible refine (keeps_endOrFence h_regs h_fns h_sqs h_cqs h_prog h_recov h_mem h_mail h_intc h_ports h_camp h_power h_out _ _ _ _).trans ?_
    | with_reducible refine (keeps_State_setFieldPort h_ports _ _ _).trans ?_
    | with_reducible refine (keeps_stepFail h_regs h_fns h_sqs h_cqs h_prog h_recov h_mem h_ports h_camp h_out _ _ _ _).trans ?_
    | with_reducible refine (keeps_fieldFail h_regs h_fns h_sqs h_cqs h_prog h_recov h_mem h_ports h_camp h_out _ _ _).trans ?_
    | with_reducible refine (keeps_guyWord h_regs h_ports _ _ _ _).trans ?_
    | with_reducible refine (keeps_emit h_out _ _).trans ?_
    | with_reducible refine (keeps_fieldIn h_regs h_fns h_sqs h_cqs h_prog h_recov h_mem h_mail h_intc h_meter h_ports h_camp h_power h_out _ _ _ _ _).trans ?_
    | with_reducible refine erase_cond ?_ ?_)

theorem keeps_stepCompleteS {L : Part → Bool} (h_regs : L .regs = true) (h_fns : L .fns = true) (h_sqs : L .sqs = true) (h_cqs : L .cqs = true) (h_prog : L .prog = true) (h_recov : L .recov = true) (h_mem : L .mem = true) (h_mail : L .mail = true) (h_intc : L .intc = true) (h_meter : L .meter = true) (h_ports : L .ports = true) (h_camp : L .camp = true) (h_power : L .power = true) (h_out : L .out = true) (h_free : L .free = true) : ∀ c res s, erase L (stepCompleteS c res s) = erase L s := by
  intro c res s
  unfold stepCompleteS
  try dsimp only
  repeat' (first
    | with_reducible rfl
    | with_reducible refine (keeps_State_setCtx h_prog _ _ _).trans ?_
    | with_reducible refine (keeps_moveDone h_regs h_fns h_sqs h_cqs h_prog h_recov h_mem h_mail h_intc h_meter h_ports h_camp h_power h_out h_free _ _ _).trans ?_
    | with_reducible refine (keeps_stepFail h_regs h_fns h_sqs h_cqs h_prog h_recov h_mem h_ports h_camp h_out _ _ _ _).trans ?_
    | with_reducible refine (keeps_nvmeDone h_regs h_fns h_sqs h_cqs h_prog h_recov h_mem h_mail h_intc h_meter h_ports h_camp h_power h_out h_free _ _ _).trans ?_
    | with_reducible refine (keeps_abandon h_out _ _).trans ?_
    | with_reducible refine (keeps_etherDone h_regs h_fns h_sqs h_cqs h_prog h_recov h_mem h_mail h_intc h_meter h_ports h_camp h_power h_out h_free _ _ _).trans ?_
    | with_reducible refine (keeps_hold h_prog _ _).trans ?_
    | with_reducible refine (keeps_fieldDone h_regs h_fns h_sqs h_cqs h_prog h_recov h_mem h_mail h_intc h_meter h_ports h_camp h_power h_out _ _ _).trans ?_
    | with_reducible refine erase_cond ?_ ?_
    | split)

theorem keeps_startOp {L : Part → Bool} (h_prog : L .prog = true) {op : State → State} (ho : ∀ s, erase L (op s) = erase L s) :
    ∀ c s, erase L (startOp c op s) = erase L s := by
  intro c s
  exact erase_cond (keeps_hold h_prog _ _) ((ho _).trans (keeps_State_setCtx h_prog _ _ _))

theorem keeps_wakePort {L : Part → Bool} (h_power : L .power = true) : ∀ s p, erase L (wakePort s p) = erase L s := by
  intro s p
  unfold wakePort
  try dsimp only
  repeat' (first
    | with_reducible rfl
    | with_reducible refine (keeps_wakeDomain h_power _ _).trans ?_
    | with_reducible refine erase_cond ?_ ?_)

theorem keeps_deviceOp {L : Part → Bool} (h_prog : L .prog = true) (h_power : L .power = true) (h_out : L .out = true) : ∀ c s, erase L (deviceOp c s) = erase L s := by
  intro c s
  unfold deviceOp
  try dsimp only
  repeat' (first
    | with_reducible rfl
    | with_reducible refine (keeps_wakePort h_power _ _).trans ?_
    | with_reducible refine (keeps_State_setCtx h_prog _ _ _).trans ?_
    | with_reducible refine (keeps_askSource h_out _ _).trans ?_
    | with_reducible refine (keeps_emit h_out _ _).trans ?_
    | with_reducible refine erase_cond ?_ ?_)

theorem keeps_postOp {L : Part → Bool} (h_regs : L .regs = true) (h_fns : L .fns = true) (h_sqs : L .sqs = true) (h_cqs : L .cqs = true) (h_prog : L .prog = true) (h_recov : L .recov = true) (h_mem : L .mem = true) (h_mail : L .mail = true) (h_intc : L .intc = true) (h_ports : L .ports = true) (h_camp : L .camp = true) (h_power : L .power = true) (h_out : L .out = true) : ∀ c s, erase L (postOp c s) = erase L s := by
  intro c s
  unfold postOp
  try dsimp only
  repeat' (first
    | with_reducible rfl
    | with_reducible refine (keeps_writeStepRecord h_regs h_fns h_sqs h_cqs h_prog h_recov h_mem h_mail h_intc h_ports h_camp h_power h_out _ _ _).trans ?_)

theorem keeps_stampOp {L : Part → Bool} (h_regs : L .regs = true) (h_fns : L .fns = true) (h_sqs : L .sqs = true) (h_cqs : L .cqs = true) (h_prog : L .prog = true) (h_recov : L .recov = true) (h_mem : L .mem = true) (h_mail : L .mail = true) (h_intc : L .intc = true) (h_ports : L .ports = true) (h_camp : L .camp = true) (h_power : L .power = true) (h_out : L .out = true) : ∀ c s, erase L (stampOp c s) = erase L s := by
  intro c s
  unfold stampOp
  try dsimp only
  repeat' (first
    | with_reducible rfl
    | with_reducible refine (keeps_writeStepRecord h_regs h_fns h_sqs h_cqs h_prog h_recov h_mem h_mail h_intc h_ports h_camp h_power h_out _ _ _).trans ?_)

theorem keeps_waitExpire {L : Part → Bool} (h_regs : L .regs = true) (h_fns : L .fns = true) (h_sqs : L .sqs = true) (h_cqs : L .cqs = true) (h_prog : L .prog = true) (h_recov : L .recov = true) (h_mem : L .mem = true) (h_mail : L .mail = true) (h_intc : L .intc = true) (h_ports : L .ports = true) (h_camp : L .camp = true) (h_power : L .power = true) (h_out : L .out = true) : ∀ c s, erase L (waitExpire c s) = erase L s := by
  intro c s
  unfold waitExpire
  try dsimp only
  repeat' (first
    | with_reducible rfl
    | with_reducible refine (keeps_stepEnd h_regs h_fns h_sqs h_cqs h_prog h_recov h_mem h_mail h_intc h_ports h_camp h_power h_out _ _ _ _ _ _).trans ?_
    | with_reducible refine (keeps_stepFail h_regs h_fns h_sqs h_cqs h_prog h_recov h_mem h_ports h_camp h_out _ _ _ _).trans ?_
    | with_reducible refine erase_cond ?_ ?_)

theorem keeps_waitCheckOp {L : Part → Bool} (h_regs : L .regs = true) (h_fns : L .fns = true) (h_sqs : L .sqs = true) (h_cqs : L .cqs = true) (h_prog : L .prog = true) (h_recov : L .recov = true) (h_mem : L .mem = true) (h_mail : L .mail = true) (h_intc : L .intc = true) (h_ports : L .ports = true) (h_camp : L .camp = true) (h_power : L .power = true) (h_out : L .out = true) : ∀ c word s, erase L (waitCheckOp c word s) = erase L s := by
  intro c word s
  unfold waitCheckOp
  try dsimp only
  repeat' (first
    | with_reducible rfl
    | with_reducible refine (keeps_readWord h_regs h_fns h_sqs h_cqs h_prog h_recov h_mem h_ports h_camp h_power h_out _ _).trans ?_
    | with_reducible refine (keeps_State_setCtx h_prog _ _ _).trans ?_
    | with_reducible refine (keeps_waitEnd h_regs h_fns h_sqs h_cqs h_prog h_recov h_mem h_mail h_intc h_ports h_camp h_power h_out _ _).trans ?_
    | with_reducible refine (keeps_waitExpire h_regs h_fns h_sqs h_cqs h_prog h_recov h_mem h_mail h_intc h_ports h_camp h_power h_out _ _).trans ?_
    | with_reducible refine erase_cond ?_ ?_)

theorem keeps_waitOp {L : Part → Bool} (h_regs : L .regs = true) (h_fns : L .fns = true) (h_sqs : L .sqs = true) (h_cqs : L .cqs = true) (h_prog : L .prog = true) (h_recov : L .recov = true) (h_mem : L .mem = true) (h_mail : L .mail = true) (h_intc : L .intc = true) (h_ports : L .ports = true) (h_camp : L .camp = true) (h_power : L .power = true) (h_out : L .out = true) : ∀ c s, erase L (waitOp c s) = erase L s := by
  intro c s
  unfold waitOp
  try dsimp only
  repeat' (first
    | with_reducible rfl
    | with_reducible refine (keeps_waitCheckOp h_regs h_fns h_sqs h_cqs h_prog h_recov h_mem h_mail h_intc h_ports h_camp h_power h_out _ _ _).trans ?_
    | with_reducible refine (keeps_readWord h_regs h_fns h_sqs h_cqs h_prog h_recov h_mem h_ports h_camp h_power h_out _ _).trans ?_
    | with_reducible refine (keeps_State_setCtx h_prog _ _ _).trans ?_
    | with_reducible refine (keeps_writeProg h_regs h_recov h_ports h_camp h_out _ _ _ _ _).trans ?_
    | with_reducible refine erase_cond ?_ ?_)

theorem keeps_moveOp {L : Part → Bool} (h_prog : L .prog = true) (h_out : L .out = true) : ∀ c s, erase L (moveOp c s) = erase L s := by
  intro c s
  unfold moveOp
  try dsimp only
  repeat' (first
    | with_reducible rfl
    | with_reducible refine (keeps_State_setCtx h_prog _ _ _).trans ?_
    | with_reducible refine (keeps_askSource h_out _ _).trans ?_)

theorem keeps_callOp {L : Part → Bool} (h_regs : L .regs = true) (h_prog : L .prog = true) (h_cores : L .cores = true) (h_mem : L .mem = true) : ∀ c s, erase L (callOp c s) = erase L s := by
  intro c s
  unfold callOp
  try dsimp only
  repeat' (first
    | with_reducible rfl
    | with_reducible refine (keeps_State_setCtx h_prog _ _ _).trans ?_
    | with_reducible refine (keeps_queueCall h_prog h_cores _ _).trans ?_
    | with_reducible refine (keeps_wf h_regs _ _ _ _ _ _ _).trans ?_
    | with_reducible refine (keeps_spWr h_regs h_mem _ _ _ _).trans ?_
    | with_reducible refine erase_cond ?_ ?_)

theorem keeps_ticOp {L : Part → Bool} (h_regs : L .regs = true) (h_fns : L .fns = true) (h_sqs : L .sqs = true) (h_cqs : L .cqs = true) (h_prog : L .prog = true) (h_recov : L .recov = true) (h_mem : L .mem = true) (h_mail : L .mail = true) (h_intc : L .intc = true) (h_ports : L .ports = true) (h_camp : L .camp = true) (h_power : L .power = true) (h_out : L .out = true) : ∀ c s, erase L (ticOp c s) = erase L s := by
  intro c s
  unfold ticOp
  try dsimp only
  repeat' (first
    | with_reducible rfl
    | with_reducible refine (keeps_stepEnd h_regs h_fns h_sqs h_cqs h_prog h_recov h_mem h_mail h_intc h_ports h_camp h_power h_out _ _ _ _ _ _).trans ?_
    | with_reducible refine (keeps_endProgram h_regs h_fns h_sqs h_cqs h_prog h_recov h_mem h_ports h_camp h_out _ _ _ _ _ _).trans ?_
    | split)

theorem keeps_ticCondOp {L : Part → Bool} (h_regs : L .regs = true) (h_fns : L .fns = true) (h_sqs : L .sqs = true) (h_cqs : L .cqs = true) (h_prog : L .prog = true) (h_recov : L .recov = true) (h_mem : L .mem = true) (h_mail : L .mail = true) (h_intc : L .intc = true) (h_ports : L .ports = true) (h_camp : L .camp = true) (h_power : L .power = true) (h_out : L .out = true) : ∀ c s, erase L (ticCondOp c s) = erase L s := by
  intro c s
  unfold ticCondOp
  try dsimp only
  repeat' (first
    | with_reducible rfl
    | with_reducible refine (keeps_plainEnd h_regs h_fns h_sqs h_cqs h_prog h_recov h_mem h_mail h_intc h_ports h_camp h_power h_out _ _).trans ?_
    | with_reducible refine (keeps_ticOp h_regs h_fns h_sqs h_cqs h_prog h_recov h_mem h_mail h_intc h_ports h_camp h_power h_out _ _).trans ?_
    | with_reducible refine erase_cond ?_ ?_)

theorem keeps_measureOp {L : Part → Bool} (h_regs : L .regs = true) (h_fns : L .fns = true) (h_sqs : L .sqs = true) (h_cqs : L .cqs = true) (h_prog : L .prog = true) (h_recov : L .recov = true) (h_mem : L .mem = true) (h_mail : L .mail = true) (h_intc : L .intc = true) (h_ports : L .ports = true) (h_camp : L .camp = true) (h_power : L .power = true) (h_out : L .out = true) : ∀ c s, erase L (measureOp c s) = erase L s := by
  intro c s
  unfold measureOp
  try dsimp only
  repeat' (first
    | with_reducible rfl
    | with_reducible refine (keeps_measureEnd h_regs h_fns h_sqs h_cqs h_prog h_recov h_mem h_mail h_intc h_ports h_camp h_power h_out _ _ _).trans ?_
    | with_reducible refine (keeps_wakePort h_power _ _).trans ?_
    | with_reducible refine (keeps_State_setCtx h_prog _ _ _).trans ?_
    | with_reducible refine erase_cond ?_ ?_)

theorem keeps_noteOp {L : Part → Bool} (h_regs : L .regs = true) (h_fns : L .fns = true) (h_sqs : L .sqs = true) (h_cqs : L .cqs = true) (h_prog : L .prog = true) (h_recov : L .recov = true) (h_mem : L .mem = true) (h_mail : L .mail = true) (h_intc : L .intc = true) (h_ports : L .ports = true) (h_camp : L .camp = true) (h_power : L .power = true) (h_out : L .out = true) : ∀ c s, erase L (noteOp c s) = erase L s := by
  intro c s
  unfold noteOp
  try dsimp only
  repeat' (first
    | with_reducible rfl
    | with_reducible refine (keeps_plainEnd h_regs h_fns h_sqs h_cqs h_prog h_recov h_mem h_mail h_intc h_ports h_camp h_power h_out _ _).trans ?_
    | with_reducible refine (keeps_noteS h_regs h_fns h_mail h_intc h_ports h_camp h_out _ _ _ _ _ _).trans ?_)

theorem keeps_issueStep {L : Part → Bool} (h_regs : L .regs = true) (h_fns : L .fns = true) (h_sqs : L .sqs = true) (h_cqs : L .cqs = true) (h_prog : L .prog = true) (h_recov : L .recov = true) (h_cores : L .cores = true) (h_mem : L .mem = true) (h_mail : L .mail = true) (h_intc : L .intc = true) (h_ports : L .ports = true) (h_camp : L .camp = true) (h_power : L .power = true) (h_out : L .out = true) : ∀ c s, erase L (issueStep c s) = erase L s := by
  intro c s
  unfold issueStep
  try dsimp only
  repeat' (first
    | with_reducible rfl
    | with_reducible refine (keeps_deviceOp h_prog h_power h_out _ _).trans ?_
    | with_reducible refine (keeps_postOp h_regs h_fns h_sqs h_cqs h_prog h_recov h_mem h_mail h_intc h_ports h_camp h_power h_out _ _).trans ?_
    | with_reducible refine (keeps_stampOp h_regs h_fns h_sqs h_cqs h_prog h_recov h_mem h_mail h_intc h_ports h_camp h_power h_out _ _).trans ?_
    | with_reducible refine (keeps_waitOp h_regs h_fns h_sqs h_cqs h_prog h_recov h_mem h_mail h_intc h_ports h_camp h_power h_out _ _).trans ?_
    | with_reducible refine (keeps_moveOp h_prog h_out _ _).trans ?_
    | with_reducible refine (keeps_plainEnd h_regs h_fns h_sqs h_cqs h_prog h_recov h_mem h_mail h_intc h_ports h_camp h_power h_out _ _).trans ?_
    | with_reducible refine (keeps_callOp h_regs h_prog h_cores h_mem _ _).trans ?_
    | with_reducible refine (keeps_ticCondOp h_regs h_fns h_sqs h_cqs h_prog h_recov h_mem h_mail h_intc h_ports h_camp h_power h_out _ _).trans ?_
    | with_reducible refine (keeps_measureOp h_regs h_fns h_sqs h_cqs h_prog h_recov h_mem h_mail h_intc h_ports h_camp h_power h_out _ _).trans ?_
    | with_reducible refine (keeps_noteOp h_regs h_fns h_sqs h_cqs h_prog h_recov h_mem h_mail h_intc h_ports h_camp h_power h_out _ _).trans ?_
    | with_reducible refine (keeps_ticOp h_regs h_fns h_sqs h_cqs h_prog h_recov h_mem h_mail h_intc h_ports h_camp h_power h_out _ _).trans ?_
    | split)

theorem keeps_releaseOne {L : Part → Bool} (h_regs : L .regs = true) (h_fns : L .fns = true) (h_sqs : L .sqs = true) (h_cqs : L .cqs = true) (h_prog : L .prog = true) (h_recov : L .recov = true) (h_cores : L .cores = true) (h_mem : L .mem = true) (h_mail : L .mail = true) (h_intc : L .intc = true) (h_meter : L .meter = true) (h_ports : L .ports = true) (h_camp : L .camp = true) (h_power : L .power = true) (h_out : L .out = true) (h_free : L .free = true) : ∀ c s, erase L (releaseOne c s) = erase L s := by
  intro c s
  unfold releaseOne
  try dsimp only
  repeat' (first
    | with_reducible rfl
    | with_reducible refine (keeps_fetchMore h_regs h_fns h_sqs h_cqs h_prog h_recov h_mem h_ports h_camp h_power h_out _ _).trans ?_
    | with_reducible refine (keeps_sampleRecordS h_regs h_fns h_sqs h_cqs h_prog h_recov h_mem h_mail h_intc h_meter h_ports h_camp h_power h_out _ _ _ _ _).trans ?_
    | with_reducible refine (keeps_readWord h_regs h_fns h_sqs h_cqs h_prog h_recov h_mem h_ports h_camp h_power h_out _ _).trans ?_
    | with_reducible refine (keeps_State_setCtx h_prog _ _ _).trans ?_
    | with_reducible refine (keeps_waitEnd h_regs h_fns h_sqs h_cqs h_prog h_recov h_mem h_mail h_intc h_ports h_camp h_power h_out _ _).trans ?_
    | with_reducible refine (keeps_stepCompleteS h_regs h_fns h_sqs h_cqs h_prog h_recov h_mem h_mail h_intc h_meter h_ports h_camp h_power h_out h_free _ _ _).trans ?_
    | with_reducible refine (keeps_startOp h_prog (fun _ => keeps_issueStep h_regs h_fns h_sqs h_cqs h_prog h_recov h_cores h_mem h_mail h_intc h_ports h_camp h_power h_out _ _) _ _).trans ?_
    | with_reducible refine erase_cond ?_ ?_
    | split)

theorem keeps_releaseCtxs {L : Part → Bool} (h_regs : L .regs = true) (h_fns : L .fns = true) (h_sqs : L .sqs = true) (h_cqs : L .cqs = true) (h_prog : L .prog = true) (h_recov : L .recov = true) (h_cores : L .cores = true) (h_mem : L .mem = true) (h_mail : L .mail = true) (h_intc : L .intc = true) (h_meter : L .meter = true) (h_ports : L .ports = true) (h_camp : L .camp = true) (h_power : L .power = true) (h_out : L .out = true) (h_free : L .free = true) : ∀ s fn, erase L (releaseCtxs s fn) = erase L s := by
  intro s fn
  unfold releaseCtxs
  try dsimp only
  repeat' (first
    | with_reducible rfl
    | with_reducible refine (keeps_releaseOne h_regs h_fns h_sqs h_cqs h_prog h_recov h_cores h_mem h_mail h_intc h_meter h_ports h_camp h_power h_out h_free _ _).trans ?_
    | with_reducible refine (erase_foldl (fun _ _ => ?_) _ _).trans ?_
    | with_reducible refine erase_cond ?_ ?_)

theorem keeps_releaseFn {L : Part → Bool} (h_regs : L .regs = true) (h_fns : L .fns = true) (h_sqs : L .sqs = true) (h_cqs : L .cqs = true) (h_prog : L .prog = true) (h_recov : L .recov = true) (h_cores : L .cores = true) (h_mem : L .mem = true) (h_mail : L .mail = true) (h_intc : L .intc = true) (h_meter : L .meter = true) (h_ports : L .ports = true) (h_camp : L .camp = true) (h_power : L .power = true) (h_out : L .out = true) (h_free : L .free = true) : ∀ s fn, erase L (releaseFn s fn) = erase L s := by
  intro s fn
  unfold releaseFn
  try dsimp only
  repeat' (first
    | with_reducible rfl
    | with_reducible refine (keeps_releaseQueues h_regs h_fns h_sqs h_cqs h_recov h_mem h_mail h_meter h_ports h_camp h_out _ _).trans ?_
    | with_reducible refine (keeps_releaseCtxs h_regs h_fns h_sqs h_cqs h_prog h_recov h_cores h_mem h_mail h_intc h_meter h_ports h_camp h_power h_out h_free _ _).trans ?_)

theorem keeps_bmeSetS {L : Part → Bool} (h_regs : L .regs = true) (h_fns : L .fns = true) (h_sqs : L .sqs = true) (h_cqs : L .cqs = true) (h_prog : L .prog = true) (h_recov : L .recov = true) (h_cores : L .cores = true) (h_mem : L .mem = true) (h_mail : L .mail = true) (h_intc : L .intc = true) (h_meter : L .meter = true) (h_ports : L .ports = true) (h_camp : L .camp = true) (h_power : L .power = true) (h_out : L .out = true) (h_free : L .free = true) : ∀ fn s, erase L (bmeSetS fn s) = erase L s := by
  intro fn s
  unfold bmeSetS
  try dsimp only
  repeat' (first
    | with_reducible rfl
    | with_reducible refine (keeps_releaseFn h_regs h_fns h_sqs h_cqs h_prog h_recov h_cores h_mem h_mail h_intc h_meter h_ports h_camp h_power h_out h_free _ _).trans ?_
    | with_reducible refine (keeps_State_setFn h_fns _ _ _).trans ?_
    | with_reducible refine erase_cond ?_ ?_)

theorem keeps_bootInfo {L : Part → Bool} (h_regs : L .regs = true) : ∀ kind ms b deferred s, erase L (bootInfo kind ms b deferred s) = erase L s := by
  intro kind ms b deferred s
  unfold bootInfo
  try dsimp only
  repeat' (first
    | with_reducible rfl
    | with_reducible refine (keeps_wr h_regs _ _ _ _ _ _).trans ?_)

theorem keeps_logEnd {L : Part → Bool} (h_trust : L .trust = true) : ∀ s bits, erase L (logEnd s bits) = erase L s := by
  intro s bits
  unfold logEnd
  try dsimp only
  repeat' (first
    | with_reducible rfl
    | with_reducible refine (keeps_State_withTrust h_trust _ _).trans ?_)

theorem keeps_calCommitCompleteS {L : Part → Bool} (h_regs : L .regs = true) (h_lant : L .lant = true) (h_trust : L .trust = true) : ∀ ok s, erase L (calCommitCompleteS ok s) = erase L s := by
  intro ok s
  unfold calCommitCompleteS
  try dsimp only
  repeat' (first
    | with_reducible rfl
    | with_reducible refine (keeps_logEnd h_trust _ _).trans ?_
    | with_reducible refine (keeps_wf h_regs _ _ _ _ _ _ _).trans ?_
    | with_reducible refine (keeps_State_withLant h_lant _ _).trans ?_
    | with_reducible refine erase_cond ?_ ?_)

theorem keeps_callTaken {L : Part → Bool} (h_regs : L .regs = true) (h_prog : L .prog = true) (h_cores : L .cores = true) : ∀ k s, erase L (callTaken k s) = erase L s := by
  intro k s
  unfold callTaken
  try dsimp only
  repeat' (first
    | with_reducible rfl
    | with_reducible refine (keeps_retryCalls h_prog h_cores _ _).trans ?_
    | with_reducible refine (keeps_satAdd h_regs _ _ _ _ _ _).trans ?_)

theorem keeps_callDispatchS {L : Part → Bool} (h_regs : L .regs = true) (h_prog : L .prog = true) (h_cores : L .cores = true) : ∀ k s, erase L (callDispatchS k s) = erase L s := by
  intro k s
  unfold callDispatchS
  try dsimp only
  repeat' (first
    | with_reducible rfl
    | with_reducible refine (keeps_State_setCore h_cores _ _ _).trans ?_
    | with_reducible refine (keeps_callTaken h_regs h_prog h_cores _ _).trans ?_
    | with_reducible refine erase_cond ?_ ?_
    | split)

theorem keeps_callLimitS {L : Part → Bool} (h_regs : L .regs = true) (h_fns : L .fns = true) (h_sqs : L .sqs = true) (h_cqs : L .cqs = true) (h_prog : L .prog = true) (h_recov : L .recov = true) (h_cores : L .cores = true) (h_mem : L .mem = true) (h_ports : L .ports = true) (h_camp : L .camp = true) (h_out : L .out = true) : ∀ c s, erase L (callLimitS c s) = erase L s := by
  intro c s
  unfold callLimitS
  try dsimp only
  repeat' (first
    | with_reducible rfl
    | with_reducible refine (keeps_satAdd h_regs _ _ _ _ _ _).trans ?_
    | with_reducible refine (keeps_stepFail h_regs h_fns h_sqs h_cqs h_prog h_recov h_mem h_ports h_camp h_out _ _ _ _).trans ?_
    | with_reducible refine (keeps_dropCall h_prog h_cores _ _).trans ?_
    | with_reducible refine erase_cond ?_ ?_)

theorem keeps_countUncorr {L : Part → Bool} (h_regs : L .regs = true) : ∀ k s, erase L (countUncorr k s) = erase L s := by
  intro k s
  unfold countUncorr
  try dsimp only
  repeat' (first
    | with_reducible rfl
    | with_reducible refine (keeps_satAdd h_regs _ _ _ _ _ _).trans ?_
    | with_reducible refine erase_cond ?_ ?_)

theorem keeps_entered {L : Part → Bool} (h_regs : L .regs = true) (h_cores : L .cores = true) : ∀ s k c, erase L (entered s k c) = erase L s := by
  intro s k c
  unfold entered
  try dsimp only
  repeat' (first
    | with_reducible rfl
    | with_reducible refine (keeps_State_setCore h_cores _ _ _).trans ?_
    | with_reducible refine (keeps_countUncorr h_regs _ _).trans ?_
    | with_reducible refine erase_cond ?_ ?_)

theorem keeps_callLimitTrapS {L : Part → Bool} (h_regs : L .regs = true) (h_cores : L .cores = true) : ∀ k s, erase L (callLimitTrapS k s) = erase L s := by
  intro k s
  unfold callLimitTrapS
  try dsimp only
  repeat' (first
    | with_reducible rfl
    | with_reducible refine (keeps_entered h_regs h_cores _ _ _).trans ?_
    | with_reducible refine erase_cond ?_ ?_
    | split)

theorem keeps_callResult {L : Part → Bool} (h_regs : L .regs = true) (h_fns : L .fns = true) (h_sqs : L .sqs = true) (h_cqs : L .cqs = true) (h_prog : L .prog = true) (h_recov : L .recov = true) (h_mem : L .mem = true) (h_mail : L .mail = true) (h_intc : L .intc = true) (h_ports : L .ports = true) (h_camp : L .camp = true) (h_power : L .power = true) (h_out : L .out = true) : ∀ a result s, erase L (callResult a result s) = erase L s := by
  intro a result s
  unfold callResult
  try dsimp only
  repeat' (first
    | with_reducible rfl
    | with_reducible refine (keeps_stepEnd h_regs h_fns h_sqs h_cqs h_prog h_recov h_mem h_mail h_intc h_ports h_camp h_power h_out _ _ _ _ _ _).trans ?_
    | with_reducible refine (keeps_State_setCtx h_prog _ _ _).trans ?_
    | with_reducible refine (keeps_stepFail h_regs h_fns h_sqs h_cqs h_prog h_recov h_mem h_ports h_camp h_out _ _ _ _).trans ?_
    | with_reducible refine (keeps_plainEnd h_regs h_fns h_sqs h_cqs h_prog h_recov h_mem h_mail h_intc h_ports h_camp h_power h_out _ _).trans ?_
    | with_reducible refine erase_cond ?_ ?_)

theorem keeps_campFrame {L : Part → Bool} (h_regs : L .regs = true) (h_fns : L .fns = true) (h_recov : L .recov = true) (h_mail : L .mail = true) (h_intc : L .intc = true) (h_ports : L .ports = true) (h_camp : L .camp = true) (h_out : L .out = true) (h_free : L .free = true) : ∀ s, erase L (campFrame s) = erase L s := by
  intro s
  unfold campFrame
  try dsimp only
  repeat' (first
    | with_reducible rfl
    | with_reducible refine (keeps_guyFlit h_regs h_ports _ _).trans ?_
    | with_reducible refine (keeps_State_withCamp h_camp _ _).trans ?_
    | with_reducible refine (keeps_emit h_out _ _).trans ?_
    | with_reducible refine (keeps_arbCheck h_regs h_fns h_recov h_mail h_intc h_ports h_camp h_out h_free _ _).trans ?_
    | with_reducible refine erase_cond ?_ ?_)

theorem keeps_canopyFlip {L : Part → Bool} (h_regs : L .regs = true) (h_mem : L .mem = true) : ∀ s w f, erase L (canopyFlip s w f) = erase L s := by
  intro s w f
  unfold canopyFlip
  try dsimp only
  repeat' (first
    | with_reducible rfl
    | with_reducible refine (keeps_wr h_regs _ _ _ _ _ _).trans ?_
    | with_reducible refine (keeps_State_withMem h_mem _ _).trans ?_
    | with_reducible refine (erase_foldl (fun _ _ => ?_) _ _).trans ?_
    | with_reducible refine erase_cond ?_ ?_)

theorem keeps_canopyUpset {L : Part → Bool} (h_regs : L .regs = true) (h_mem : L .mem = true) : ∀ w res s, erase L (canopyUpset w res s) = erase L s := by
  intro w res s
  unfold canopyUpset
  try dsimp only
  repeat' (first
    | with_reducible rfl
    | with_reducible refine (keeps_canopyFlip h_regs h_mem _ _ _).trans ?_
    | with_reducible refine (keeps_State_withMem h_mem _ _).trans ?_
    | split)

theorem keeps_commandAgain {L : Part → Bool} (h_regs : L .regs = true) (h_mem : L .mem = true) : ∀ host x p pos s, erase L (commandAgain host x p pos s).1 = erase L s := by
  intro host x p pos s
  unfold commandAgain
  try dsimp only
  repeat' (first
    | with_reducible rfl
    | with_reducible refine (keeps_deny h_regs h_mem _ _ _ _).trans ?_
    | split)

theorem keeps_chainAgain {L : Part → Bool} (h_regs : L .regs = true) (h_mem : L .mem = true) : ∀ host x p a3 a4 a5, erase L (chainAgain host x p a3 a4 a5).1 = erase L a5 := by
  intro host x p a3 a4 a5
  revert host x p a4 a5
  induction a3 with
  | zero =>
    intro host x p a4 a5
    unfold chainAgain
    try dsimp only
  | succ n ih =>
    intro host x p a4 a5
    unfold chainAgain
    try dsimp only
    repeat' (first
      | with_reducible rfl
      | with_reducible refine (keeps_commandAgain h_regs h_mem _ _ _ _ _).trans ?_
      | with_reducible refine (ih _ _ _ _ _).trans ?_
      | split
      | with_reducible refine (erase_of_fst (by assumption)).trans ?_)

theorem keeps_mDevice {L : Part → Bool} (h_meter : L .meter = true) : ∀ s unit, erase L (mDevice s unit) = erase L s := by
  intro s unit
  unfold mDevice
  try dsimp only
  repeat' (first
    | with_reducible rfl
    | with_reducible refine (keeps_State_withMeter h_meter _ _).trans ?_)

theorem keeps_mStake {L : Part → Bool} (h_meter : L .meter = true) : ∀ s unit l, erase L (mStake s unit l) = erase L s := by
  intro s unit l
  unfold mStake
  try dsimp only
  repeat' (first
    | with_reducible rfl
    | with_reducible refine (keeps_mDevice h_meter _ _).trans ?_
    | with_reducible refine (keeps_mCount h_meter _ _ _ _).trans ?_
    | with_reducible refine erase_cond ?_ ?_)

theorem keeps_mStep {L : Part → Bool} (h_prog : L .prog = true) : ∀ s step l, erase L (mStep s step l) = erase L s := by
  intro s step l
  unfold mStep
  try dsimp only
  repeat' (first
    | with_reducible rfl
    | with_reducible refine (keeps_State_setCtx h_prog _ _ _).trans ?_
    | with_reducible refine erase_cond ?_ ?_)

theorem keeps_mFree {L : Part → Bool} (h_meter : L .meter = true) : ∀ s unit rank t firmware, erase L (mFree s unit rank t firmware) = erase L s := by
  intro s unit rank t firmware
  unfold mFree
  try dsimp only
  repeat' (first
    | with_reducible rfl
    | with_reducible refine (keeps_mDevice h_meter _ _).trans ?_
    | with_reducible refine (keeps_mCount h_meter _ _ _ _).trans ?_
    | with_reducible refine erase_cond ?_ ?_)

theorem keeps_charge {L : Part → Bool} (h_prog : L .prog = true) (h_meter : L .meter = true) : ∀ s r kind inst stake, erase L (charge s r kind inst stake) = erase L s := by
  intro s r kind inst stake
  unfold charge
  try dsimp only
  repeat' (first
    | with_reducible rfl
    | with_reducible refine (keeps_mStake h_meter _ _ _).trans ?_
    | with_reducible refine (keeps_mStep h_prog _ _ _).trans ?_
    | with_reducible refine (keeps_mFree h_meter _ _ _ _ _).trans ?_
    | split)



theorem keeps_checkCompleteS {L : Part → Bool} (h_regs : L .regs = true) (h_sched : L .sched = true) : ∀ s, erase L (checkCompleteS s) = erase L s := by
  intro s
  unfold checkCompleteS
  try dsimp only
  repeat' (first
    | with_reducible rfl
    | with_reducible refine (keeps_endCheck h_regs h_sched _ _ _ _).trans ?_
    | split)

theorem keeps_checkStep {L : Part → Bool} (h_regs : L .regs = true) (h_fns : L .fns = true) (h_sqs : L .sqs = true) (h_cqs : L .cqs = true) (h_prog : L .prog = true) (h_recov : L .recov = true) (h_mem : L .mem = true) (h_ports : L .ports = true) (h_camp : L .camp = true) (h_out : L .out = true) {go : State → State} (ho : ∀ s, erase L (go s) = erase L s) :
    ∀ c k s, erase L (checkStep c k go s) = erase L s := by
  intro c k s
  unfold checkStep
  dsimp only
  repeat' (first
    | with_reducible rfl
    | refine (ho _).trans ?_
    | with_reducible refine (keeps_endProgram h_regs h_fns h_sqs h_cqs h_prog h_recov h_mem h_ports h_camp h_out _ _ _ _ _ _).trans ?_
    | with_reducible refine (keeps_stepFail h_regs h_fns h_sqs h_cqs h_prog h_recov h_mem h_ports h_camp h_out _ _ _ _).trans ?_
    | with_reducible refine erase_cond ?_ ?_
    | split)

theorem keeps_checkerLockS {L : Part → Bool} (h_regs : L .regs = true) : ∀ l s, erase L (checkerLockS l s) = erase L s := by
  intro l s
  unfold checkerLockS
  try dsimp only
  repeat' (first
    | with_reducible rfl
    | with_reducible refine (keeps_satAdd h_regs _ _ _ _ _ _).trans ?_
    | with_reducible refine (keeps_wf h_regs _ _ _ _ _ _ _).trans ?_
    | with_reducible refine erase_cond ?_ ?_)

theorem keeps_checkerLossS {L : Part → Bool} (h_regs : L .regs = true) : ∀ l s, erase L (checkerLossS l s) = erase L s := by
  intro l s
  unfold checkerLossS
  try dsimp only
  repeat' (first
    | with_reducible rfl
    | with_reducible refine (keeps_wf h_regs _ _ _ _ _ _ _).trans ?_
    | with_reducible refine erase_cond ?_ ?_)

theorem keeps_checkpointS {L : Part → Bool} (h_meter : L .meter = true) : ∀ s, erase L (checkpointS s) = erase L s := by
  intro s
  unfold checkpointS
  try dsimp only
  repeat' (first
    | with_reducible rfl
    | with_reducible refine (keeps_State_withMeter h_meter _ _).trans ?_
    | with_reducible refine erase_cond ?_ ?_)

theorem keeps_claim {L : Part → Bool} (h_sched : L .sched = true) : ∀ s c kind inst, erase L (claim s c kind inst) = erase L s := by
  intro s c kind inst
  unfold claim
  try dsimp only
  repeat' (first
    | with_reducible rfl
    | with_reducible refine (keeps_State_withSched h_sched _ _).trans ?_)

theorem keeps_claimPorts {L : Part → Bool} (h_sched : L .sched = true) : ∀ s c ports, erase L (claimPorts s c ports) = erase L s := by
  intro s c ports
  unfold claimPorts
  try dsimp only
  repeat' (first
    | with_reducible rfl
    | with_reducible refine (keeps_claim h_sched _ _ _ _).trans ?_
    | with_reducible refine (erase_foldl (fun _ _ => ?_) _ _).trans ?_)

theorem keeps_claimStake {L : Part → Bool} (h_sched : L .sched = true) : ∀ s e c, erase L (claimStake s e c) = erase L s := by
  intro s e c
  unfold claimStake
  try dsimp only
  repeat' (first
    | with_reducible rfl
    | with_reducible refine (keeps_claim h_sched _ _ _ _).trans ?_
    | with_reducible refine (erase_foldl (fun _ _ => ?_) _ _).trans ?_)

theorem keeps_clearScratch {L : Part → Bool} (h_mem : L .mem = true) : ∀ s p a2, erase L (clearScratch s p a2) = erase L s := by
  intro s p a2
  unfold clearScratch
  try dsimp only
  repeat' (first
    | with_reducible rfl
    | with_reducible refine (keeps_State_withMem h_mem _ _).trans ?_)

theorem keeps_clkEdges {L : Part → Bool} (h_out : L .out = true) : ∀ span s, erase L (clkEdges span s) = erase L s := by
  intro span s
  unfold clkEdges
  try dsimp only
  repeat' (first
    | with_reducible rfl
    | with_reducible refine (keeps_emit h_out _ _).trans ?_
    | with_reducible refine erase_cond ?_ ?_)

theorem keeps_markBound {L : Part → Bool} (h_meter : L .meter = true) : ∀ s, erase L (markBound s) = erase L s := by
  intro s
  unfold markBound
  try dsimp only
  repeat' (first
    | with_reducible rfl
    | with_reducible refine (keeps_State_withMeter h_meter _ _).trans ?_)

theorem keeps_openMinute {L : Part → Bool} (h_meter : L .meter = true) : ∀ s minute part gap, erase L (openMinute s minute part gap) = erase L s := by
  intro s minute part gap
  unfold openMinute
  try dsimp only
  repeat' (first
    | with_reducible rfl
    | with_reducible refine (keeps_State_withMeter h_meter _ _).trans ?_
    | with_reducible refine (keeps_markBound h_meter _).trans ?_)

theorem keeps_shareEnergy {L : Part → Bool} (h_meter : L .meter = true) : ∀ s, erase L (shareEnergy s) = erase L s := by
  intro s
  unfold shareEnergy
  try dsimp only
  repeat' (first
    | with_reducible rfl
    | with_reducible refine (keeps_State_withMeter h_meter _ _).trans ?_
    | with_reducible refine erase_cond ?_ ?_)

theorem keeps_closeMinute {L : Part → Bool} (h_regs : L .regs = true) (h_intc : L .intc = true) (h_meter : L .meter = true) (h_trust : L .trust = true) : ∀ s flags minute part gap, erase L (closeMinute s flags minute part gap) = erase L s := by
  intro s flags minute part gap
  unfold closeMinute
  try dsimp only
  repeat' (first
    | with_reducible rfl
    | with_reducible refine (keeps_openMinute h_meter _ _ _ _).trans ?_
    | with_reducible refine (keeps_shareEnergy h_meter _).trans ?_
    | with_reducible refine (keeps_addBlock h_regs h_intc h_meter h_trust _ _ _).trans ?_)

theorem keeps_setFlash {L : Part → Bool} (h_trust : L .trust = true) : ∀ s b fl, erase L (setFlash s b fl) = erase L s := by
  intro s b fl
  unfold setFlash
  try dsimp only
  repeat' (first
    | with_reducible rfl
    | with_reducible refine (keeps_State_withTrust h_trust _ _).trans ?_)

theorem keeps_setFlashBuf {L : Part → Bool} (h_regs : L .regs = true) : ∀ s bs, erase L (setFlashBuf s bs) = erase L s := by
  intro s bs
  unfold setFlashBuf
  try dsimp only
  repeat' (first
    | with_reducible rfl
    | with_reducible refine (keeps_wr h_regs _ _ _ _ _ _).trans ?_
    | with_reducible refine (erase_foldl (fun _ _ => ?_) _ _).trans ?_)

theorem keeps_flashDoneS {L : Part → Bool} (h_regs : L .regs = true) (h_trust : L .trust = true) (h_free : L .free = true) : ∀ ok s, erase L (flashDoneS ok s) = erase L s := by
  intro ok s
  unfold flashDoneS
  try dsimp only
  repeat' (first
    | with_reducible rfl
    | with_reducible refine (keeps_setFlash h_trust _ _ _).trans ?_
    | with_reducible refine (keeps_flashResult h_regs _ _).trans ?_
    | with_reducible refine (keeps_setFlashBuf h_regs _ _).trans ?_
    | with_reducible refine (keeps_recordReject h_regs _ _ _).trans ?_
    | with_reducible refine (keeps_setGood h_regs _ _ _).trans ?_
    | with_reducible refine erase_cond ?_ ?_
    | split)
  all_goals with_reducible refine (erase_trust_free h_trust h_free _ _ _).trans ?_
  all_goals with_reducible rfl

theorem keeps_endFlash {L : Part → Bool} (h_regs : L .regs = true) (h_trust : L .trust = true) (h_free : L .free = true) : ∀ s, erase L (endFlash s) = erase L s := by
  intro s
  unfold endFlash
  try dsimp only
  repeat' (first
    | with_reducible rfl
    | with_reducible refine (keeps_flashDoneS h_regs h_trust h_free _ _).trans ?_)

theorem keeps_coldBase {L : Part → Bool} (h_regs : L .regs = true) (h_sched : L .sched = true) (h_fns : L .fns = true)
    (h_sqs : L .sqs = true) (h_cqs : L .cqs = true) (h_prog : L .prog = true) (h_recov : L .recov = true)
    (h_cores : L .cores = true) (h_mem : L .mem = true) (h_mail : L .mail = true) (h_intc : L .intc = true)
    (h_lant : L .lant = true) (h_meter : L .meter = true) (h_ports : L .ports = true) (h_camp : L .camp = true)
    (h_trust : L .trust = true) (h_power : L .power = true) (h_free : L .free = true) :
    ∀ a0, erase L (coldBase a0) = erase L a0 := by
  intro s
  have e := keeps_endFlash (L := L) h_regs h_trust h_free s
  rw [erase_eq_iff] at *
  intro p hp
  have := e p hp
  cases p <;> simp_all [same, coldBase]

theorem keeps_mailClear {L : Part → Bool} (h_mail : L .mail = true) : ∀ s, erase L (mailClear s) = erase L s := by
  intro s
  unfold mailClear
  try dsimp only
  all_goals with_reducible refine (erase_mail h_mail _ _).trans ?_
  all_goals with_reducible rfl

theorem keeps_trainDdr {L : Part → Bool} (h_regs : L .regs = true) : ∀ dimms s, erase L (trainDdr dimms s) = erase L s := by
  intro dimms s
  unfold trainDdr
  try dsimp only
  repeat' (first
    | with_reducible rfl
    | with_reducible refine (keeps_wr h_regs _ _ _ _ _ _).trans ?_
    | with_reducible refine (erase_foldl (fun _ _ => ?_) _ _).trans ?_)

theorem keeps_setDomains {L : Part → Bool} (h_power : L .power = true) : ∀ s used, erase L (setDomains s used) = erase L s := by
  intro s used
  unfold setDomains
  try dsimp only
  all_goals with_reducible refine (erase_power h_power _ _).trans ?_
  all_goals with_reducible rfl

theorem keeps_noImage {L : Part → Bool} (h_regs : L .regs = true) (h_cores : L .cores = true) (h_trust : L .trust = true) (h_power : L .power = true) : ∀ kind ms s, erase L (noImage kind ms s) = erase L s := by
  intro kind ms s
  unfold noImage
  try dsimp only
  repeat' (first
    | with_reducible rfl
    | with_reducible refine (keeps_wr h_regs _ _ _ _ _ _).trans ?_
    | with_reducible refine (keeps_State_withTrust h_trust _ _).trans ?_
    | with_reducible refine (keeps_State_setCore h_cores _ _ _).trans ?_
    | with_reducible refine (keeps_wf h_regs _ _ _ _ _ _ _).trans ?_
    | with_reducible refine (keeps_setDomains h_power _ _).trans ?_
    | with_reducible refine (erase_foldl (fun _ _ => ?_) _ _).trans ?_)

theorem keeps_interrupted {L : Part → Bool} (h_free : L .free = true) : ∀ s, erase L (interrupted s).2.2.2 = erase L s := by
  intro s
  unfold interrupted
  try dsimp only
  repeat' (first
    | with_reducible rfl
    | with_reducible refine (keeps_takeFree h_free _).trans ?_)

theorem keeps_reconcileEntry {L : Part → Bool} (h_trust : L .trust = true) (h_free : L .free = true) : ∀ s i, erase L (reconcileEntry s i) = erase L s := by
  intro s i
  unfold reconcileEntry
  try dsimp only
  repeat' (first
    | with_reducible rfl
    | with_reducible refine (keeps_State_withTrust h_trust _ _).trans ?_
    | with_reducible refine (keeps_freeBytes h_free _ _).trans ?_
    | with_reducible refine (keeps_setKeySlot h_trust _ _ _).trans ?_
    | with_reducible refine (keeps_interrupted h_free _).trans ?_
    | with_reducible refine erase_cond ?_ ?_
    | split)

theorem keeps_reconcile {L : Part → Bool} (h_lant : L .lant = true) (h_trust : L .trust = true) (h_free : L .free = true) : ∀ s, erase L (reconcile s) = erase L s := by
  intro s
  unfold reconcile
  try dsimp only
  repeat' (first
    | with_reducible rfl
    | with_reducible refine (keeps_State_withTrust h_trust _ _).trans ?_
    | with_reducible refine (keeps_State_withLant h_lant _ _).trans ?_
    | with_reducible refine (keeps_reconcileEntry h_trust h_free _ _).trans ?_
    | with_reducible refine (erase_foldl (fun _ _ => ?_) _ _).trans ?_)

theorem keeps_setLocks {L : Part → Bool} (h_regs : L .regs = true) : ∀ s, erase L (setLocks s) = erase L s := by
  intro s
  unfold setLocks
  try dsimp only
  repeat' (first
    | with_reducible rfl
    | with_reducible refine (keeps_wf h_regs _ _ _ _ _ _ _).trans ?_
    | with_reducible refine (erase_foldl (fun _ _ => ?_) _ _).trans ?_)

theorem keeps_loadIsquin {L : Part → Bool} (h_regs : L .regs = true) (h_cores : L .cores = true) : ∀ fl s, erase L (loadIsquin fl s) = erase L s := by
  intro fl s
  unfold loadIsquin
  try dsimp only
  repeat' (first
    | with_reducible rfl
    | with_reducible refine (keeps_wr h_regs _ _ _ _ _ _).trans ?_
    | with_reducible refine (keeps_State_setCore h_cores _ _ _).trans ?_
    | with_reducible refine (keeps_loadCore h_cores _ _).trans ?_
    | with_reducible refine (erase_foldl (fun _ _ => ?_) _ _).trans ?_)

theorem keeps_loadDevices {L : Part → Bool} (h_prog : L .prog = true) : ∀ fl s, erase L (loadDevices fl s) = erase L s := by
  intro fl s
  unfold loadDevices
  try dsimp only
  all_goals with_reducible refine (erase_prog h_prog _ _).trans ?_
  all_goals with_reducible rfl

theorem keeps_libCopy {L : Part → Bool} (h_mem : L .mem = true) : ∀ p s, erase L (libCopy p s) = erase L s := by
  intro p s
  unfold libCopy
  try dsimp only
  repeat' (first
    | with_reducible rfl
    | with_reducible refine erase_cond ?_ ?_)
  all_goals with_reducible refine (erase_mem h_mem _ _).trans ?_
  all_goals repeat' (first
    | with_reducible rfl
    | with_reducible refine (keeps_spWrite h_mem _ _ _ _).trans ?_)

theorem keeps_loadLibrary {L : Part → Bool} (h_regs : L .regs = true) (h_prog : L .prog = true) (h_mem : L .mem = true) (h_trust : L .trust = true) : ∀ fl s, erase L (loadLibrary fl s) = erase L s := by
  intro fl s
  unfold loadLibrary
  try dsimp only
  repeat' (first
    | with_reducible rfl
    | with_reducible refine (keeps_wr h_regs _ _ _ _ _ _).trans ?_
    | with_reducible refine (keeps_libCopy h_mem _ _).trans ?_
    | with_reducible refine (erase_foldl (fun _ _ => ?_) _ _).trans ?_)
  all_goals with_reducible refine (erase_prog_trust h_prog h_trust _ _ _).trans ?_
  all_goals with_reducible rfl

theorem keeps_loadBanks {L : Part → Bool} (h_regs : L .regs = true) (h_sched : L .sched = true) (h_mem : L .mem = true) : ∀ fl s, erase L (loadBanks fl s) = erase L s := by
  intro fl s
  unfold loadBanks
  try dsimp only
  repeat' (first
    | with_reducible rfl
    | with_reducible refine (keeps_contractFault h_regs h_sched h_mem _ _ _ _ _ _).trans ?_
    | with_reducible refine (keeps_stf h_regs _ _ _).trans ?_
    | with_reducible refine (keeps_setBank h_sched _ _ _).trans ?_
    | with_reducible refine (keeps_endCheck h_regs h_sched _ _ _ _).trans ?_
    | with_reducible refine erase_cond ?_ ?_)

theorem keeps_reloadSections {L : Part → Bool} (h_regs : L .regs = true) (h_sched : L .sched = true) (h_prog : L .prog = true) (h_cores : L .cores = true) (h_mem : L .mem = true) (h_trust : L .trust = true) : ∀ fl s, erase L (reloadSections fl s) = erase L s := by
  intro fl s
  unfold reloadSections
  try dsimp only
  repeat' (first
    | with_reducible rfl
    | with_reducible refine (keeps_loadIsquin h_regs h_cores _ _).trans ?_
    | with_reducible refine (keeps_loadDevices h_prog _ _).trans ?_
    | with_reducible refine (keeps_loadLibrary h_regs h_prog h_mem h_trust _ _).trans ?_
    | with_reducible refine (keeps_loadBanks h_regs h_sched h_mem _ _).trans ?_)

theorem keeps_sendSetdasa {L : Part → Bool} (h_out : L .out = true) : ∀ rs s, erase L (sendSetdasa rs s) = erase L s := by
  intro rs s
  unfold sendSetdasa
  try dsimp only
  repeat' (first
    | with_reducible rfl
    | with_reducible refine (keeps_emit h_out _ _).trans ?_
    | with_reducible refine (erase_foldl (fun _ _ => ?_) _ _).trans ?_)

theorem keeps_writeHeader {L : Part → Bool} (h_regs : L .regs = true) (h_recov : L .recov = true) (h_ports : L .ports = true) (h_camp : L .camp = true) (h_out : L .out = true) : ∀ s, erase L (writeHeader s) = erase L s := by
  intro s
  unfold writeHeader
  try dsimp only
  repeat' (first
    | with_reducible rfl
    | with_reducible refine (keeps_putChanged h_regs h_recov h_ports h_camp h_out _ _).trans ?_)

theorem keeps_loadFresh {L : Part → Bool} (h_regs : L .regs = true) (h_sched : L .sched = true) (h_prog : L .prog = true) (h_recov : L .recov = true) (h_cores : L .cores = true) (h_mem : L .mem = true) (h_intc : L .intc = true) (h_ports : L .ports = true) (h_camp : L .camp = true) (h_trust : L .trust = true) (h_power : L .power = true) (h_out : L .out = true) : ∀ kind ms b s, erase L (loadFresh kind ms b s) = erase L s := by
  intro kind ms b s
  unfold loadFresh
  try dsimp only
  repeat' (first
    | with_reducible rfl
    | with_reducible refine (keeps_wr h_regs _ _ _ _ _ _).trans ?_
    | with_reducible refine (keeps_setLocks h_regs _).trans ?_
    | with_reducible refine (keeps_State_withTrust h_trust _ _).trans ?_
    | with_reducible refine (keeps_reloadSections h_regs h_sched h_prog h_cores h_mem h_trust _ _).trans ?_
    | with_reducible refine (keeps_State_withRecov h_recov _ _).trans ?_
    | with_reducible refine (keeps_sendSetdasa h_out _ _).trans ?_
    | with_reducible refine (keeps_applySettings h_regs h_sched h_mem h_intc h_ports h_trust _ _).trans ?_
    | with_reducible refine (keeps_wf h_regs _ _ _ _ _ _ _).trans ?_
    | with_reducible refine (keeps_bootInfo h_regs _ _ _ _ _).trans ?_
    | with_reducible refine (keeps_setDomains h_power _ _).trans ?_
    | with_reducible refine (keeps_setGood h_regs _ _ _).trans ?_
    | with_reducible refine (keeps_writeHeader h_regs h_recov h_ports h_camp h_out _).trans ?_
    | with_reducible refine (erase_foldl (fun _ _ => ?_) _ _).trans ?_
    | with_reducible refine erase_cond ?_ ?_)

theorem keeps_loadAgain {L : Part → Bool} (h_regs : L .regs = true) (h_sched : L .sched = true) (h_prog : L .prog = true) (h_cores : L .cores = true) (h_mem : L .mem = true) (h_trust : L .trust = true) (h_power : L .power = true) : ∀ kind ms b s, erase L (loadAgain kind ms b s) = erase L s := by
  intro kind ms b s
  unfold loadAgain
  try dsimp only
  repeat' (first
    | with_reducible rfl
    | with_reducible refine (keeps_State_withTrust h_trust _ _).trans ?_
    | with_reducible refine (keeps_reloadSections h_regs h_sched h_prog h_cores h_mem h_trust _ _).trans ?_
    | with_reducible refine (keeps_wf h_regs _ _ _ _ _ _ _).trans ?_
    | with_reducible refine (keeps_bootInfo h_regs _ _ _ _ _).trans ?_
    | with_reducible refine (keeps_setDomains h_power _ _).trans ?_
    | with_reducible refine (keeps_setGood h_regs _ _ _).trans ?_
    | with_reducible refine erase_cond ?_ ?_)

theorem keeps_lantMs {L : Part → Bool} (h_lant : L .lant = true) : ∀ ms s, erase L (lantMs ms s) = erase L s := by
  intro ms s
  unfold lantMs
  try dsimp only
  repeat' (first
    | with_reducible rfl
    | with_reducible refine (keeps_State_withLant h_lant _ _).trans ?_)

theorem keeps_loadStore {L : Part → Bool} (h_regs : L .regs = true) (h_sched : L .sched = true) (h_prog : L .prog = true) (h_cores : L .cores = true) (h_mem : L .mem = true) (h_trust : L .trust = true) (h_power : L .power = true) : ∀ kind ms s, erase L (loadStore kind ms s) = erase L s := by
  intro kind ms s
  unfold loadStore
  try dsimp only
  repeat' (first
    | with_reducible rfl
    | with_reducible refine (keeps_reloadSections h_regs h_sched h_prog h_cores h_mem h_trust _ _).trans ?_
    | with_reducible refine (keeps_bootInfo h_regs _ _ _ _ _).trans ?_
    | with_reducible refine (keeps_setDomains h_power _ _).trans ?_)

theorem keeps_trailhead {L : Part → Bool} (h_regs : L .regs = true) (h_sched : L .sched = true) (h_prog : L .prog = true) (h_recov : L .recov = true) (h_cores : L .cores = true) (h_mem : L .mem = true) (h_intc : L .intc = true) (h_lant : L .lant = true) (h_ports : L .ports = true) (h_camp : L .camp = true) (h_trust : L .trust = true) (h_power : L .power = true) (h_out : L .out = true) (h_free : L .free = true) : ∀ kind ms s0, erase L (trailhead kind ms s0) = erase L s0 := by
  intro kind ms s0
  unfold trailhead
  try dsimp only
  repeat' (first
    | with_reducible rfl
    | with_reducible refine (keeps_noImage h_regs h_cores h_trust h_power _ _ _).trans ?_
    | with_reducible refine (keeps_reconcile h_lant h_trust h_free _).trans ?_
    | with_reducible refine (keeps_loadFresh h_regs h_sched h_prog h_recov h_cores h_mem h_intc h_ports h_camp h_trust h_power h_out _ _ _ _).trans ?_
    | with_reducible refine (keeps_State_withTrust h_trust _ _).trans ?_
    | with_reducible refine (keeps_loadAgain h_regs h_sched h_prog h_cores h_mem h_trust h_power _ _ _ _).trans ?_
    | with_reducible refine (keeps_lantMs h_lant _ _).trans ?_
    | with_reducible refine (keeps_recordReject h_regs _ _ _).trans ?_
    | with_reducible refine (keeps_loadStore h_regs h_sched h_prog h_cores h_mem h_trust h_power _ _ _).trans ?_
    | with_reducible refine erase_cond ?_ ?_
    | split)

theorem keeps_coldResetS {L : Part → Bool} (h_regs : L .regs = true) (h_sched : L .sched = true) (h_fns : L .fns = true)
    (h_sqs : L .sqs = true) (h_cqs : L .cqs = true) (h_prog : L .prog = true) (h_recov : L .recov = true)
    (h_cores : L .cores = true) (h_mem : L .mem = true) (h_mail : L .mail = true) (h_intc : L .intc = true)
    (h_lant : L .lant = true) (h_meter : L .meter = true) (h_ports : L .ports = true) (h_camp : L .camp = true)
    (h_trust : L .trust = true) (h_power : L .power = true) (h_out : L .out = true) (h_free : L .free = true) :
    ∀ a0 a1 a2, erase L (coldResetS a0 a1 a2) = erase L a2 := by
  intro ms dimms s
  unfold coldResetS
  refine erase_cond rfl ?_
  refine (keeps_trailhead h_regs h_sched h_prog h_recov h_cores h_mem h_intc h_lant h_ports h_camp h_trust h_power h_out h_free _ _ _).trans ?_
  refine (keeps_trainDdr h_regs _ _).trans ?_
  exact (erase_mail h_mail _ _).trans
    (keeps_coldBase h_regs h_sched h_fns h_sqs h_cqs h_prog h_recov h_cores h_mem h_mail h_intc h_lant h_meter h_ports h_camp
      h_trust h_power h_free s)

theorem keeps_wakeRanger {L : Part → Bool} (h_power : L .power = true) : ∀ s, erase L (wakeRanger s) = erase L s := by
  intro s
  unfold wakeRanger
  try dsimp only
  repeat' (first
    | with_reducible rfl
    | with_reducible refine (keeps_wakeDomain h_power _ _).trans ?_
    | with_reducible refine erase_cond ?_ ?_)

theorem keeps_commit {L : Part → Bool} (h_fns : L .fns = true) (h_intc : L .intc = true) (h_ports : L .ports = true) (h_power : L .power = true) (h_out : L .out = true) : ∀ s t, erase L (commit s t) = erase L t := by
  intro s t
  unfold commit
  try dsimp only
  repeat' (first
    | with_reducible rfl
    | with_reducible refine (keeps_sendMsix h_fns h_ports h_out _ _ _).trans ?_
    | with_reducible refine (keeps_wakeRanger h_power _).trans ?_
    | with_reducible refine (keeps_raise h_intc _ _).trans ?_
    | with_reducible refine (erase_foldl (fun _ _ => ?_) _ _).trans ?_)

theorem keeps_commitThen {L : Part → Bool} (h_regs : L .regs = true) (h_prog : L .prog = true) (h_recov : L .recov = true) (h_ports : L .ports = true) (h_camp : L .camp = true) (h_out : L .out = true) {op : State → State} (ho : ∀ s, erase L (op s) = erase L s) :
    ∀ c s, erase L (commitThen c op s) = erase L s := by
  intro c s
  unfold commitThen
  dsimp only
  repeat' (first
    | with_reducible rfl
    | with_reducible refine (keeps_startOp h_prog ho _ _).trans ?_
    | with_reducible refine (keeps_State_setCtx h_prog _ _ _).trans ?_
    | with_reducible refine (keeps_writeProg h_regs h_recov h_ports h_camp h_out _ _ _ _ _).trans ?_
    | with_reducible refine erase_cond ?_ ?_
    | split)

theorem keeps_completionS {L : Part → Bool} (h_regs : L .regs = true) (h_fns : L .fns = true) (h_sqs : L .sqs = true) (h_cqs : L .cqs = true) (h_recov : L .recov = true) (h_mem : L .mem = true) (h_meter : L .meter = true) (h_ports : L .ports = true) (h_camp : L .camp = true) (h_out : L .out = true) : ∀ fn slot s, erase L (completionS fn slot s) = erase L s := by
  intro fn slot s
  unfold completionS
  try dsimp only
  repeat' (first
    | with_reducible rfl
    | with_reducible refine (keeps_moderate h_regs h_fns h_cqs h_mem h_ports h_out _ _ _ _ _).trans ?_
    | with_reducible refine (keeps_postOne h_regs h_sqs h_cqs h_recov h_mem h_meter h_ports h_camp h_out _ _ _ _).trans ?_
    | split)

theorem keeps_fenceAckS {L : Part → Bool} (h_regs : L .regs = true) (h_fns : L .fns = true) (h_sqs : L .sqs = true) (h_cqs : L .cqs = true) (h_prog : L .prog = true) (h_recov : L .recov = true) (h_mem : L .mem = true) (h_mail : L .mail = true) (h_intc : L .intc = true) (h_ports : L .ports = true) (h_camp : L .camp = true) (h_power : L .power = true) (h_out : L .out = true) : ∀ c r s, erase L (fenceAckS c r s) = erase L s := by
  intro c r s
  unfold fenceAckS
  try dsimp only
  repeat' (first
    | with_reducible rfl
    | with_reducible refine (keeps_stepEnd h_regs h_fns h_sqs h_cqs h_prog h_recov h_mem h_mail h_intc h_ports h_camp h_power h_out _ _ _ _ _ _).trans ?_
    | with_reducible refine (keeps_State_setCtx h_prog _ _ _).trans ?_
    | with_reducible refine (keeps_stepFail h_regs h_fns h_sqs h_cqs h_prog h_recov h_mem h_ports h_camp h_out _ _ _ _).trans ?_
    | with_reducible refine erase_cond ?_ ?_)

theorem keeps_completionTimeoutS {L : Part → Bool} (h_regs : L .regs = true) (h_fns : L .fns = true) (h_sqs : L .sqs = true) (h_cqs : L .cqs = true) (h_prog : L .prog = true) (h_recov : L .recov = true) (h_mem : L .mem = true) (h_mail : L .mail = true) (h_intc : L .intc = true) (h_ports : L .ports = true) (h_camp : L .camp = true) (h_power : L .power = true) (h_out : L .out = true) : ∀ c s, erase L (completionTimeoutS c s) = erase L s := by
  intro c s
  unfold completionTimeoutS
  try dsimp only
  repeat' (first
    | with_reducible rfl
    | with_reducible refine (keeps_endProgram h_regs h_fns h_sqs h_cqs h_prog h_recov h_mem h_ports h_camp h_out _ _ _ _ _ _).trans ?_
    | with_reducible refine (keeps_fenceAckS h_regs h_fns h_sqs h_cqs h_prog h_recov h_mem h_mail h_intc h_ports h_camp h_power h_out _ _ _).trans ?_
    | with_reducible refine (keeps_stepFail h_regs h_fns h_sqs h_cqs h_prog h_recov h_mem h_ports h_camp h_out _ _ _ _).trans ?_
    | with_reducible refine (keeps_undrain h_mem _ _).trans ?_
    | with_reducible refine (keeps_abandon h_out _ _).trans ?_
    | with_reducible refine erase_cond ?_ ?_)

theorem keeps_configRequestS {L : Part → Bool} (h_out : L .out = true) : ∀ fn s, erase L (configRequestS fn s) = erase L s := by
  intro fn s
  unfold configRequestS
  try dsimp only
  repeat' (first
    | with_reducible rfl
    | with_reducible refine (keeps_emit h_out _ _).trans ?_
    | with_reducible refine erase_cond ?_ ?_)

theorem keeps_copyLost {L : Part → Bool} (h_regs : L .regs = true) (h_recov : L .recov = true) (h_camp : L .camp = true) : ∀ s ch, erase L (copyLost s ch) = erase L s := by
  intro s ch
  unfold copyLost
  try dsimp only
  repeat' (first
    | with_reducible rfl
    | with_reducible refine (keeps_State_withCamp h_camp _ _).trans ?_
    | with_reducible refine (keeps_State_withRecov h_recov _ _).trans ?_
    | with_reducible refine (keeps_wf h_regs _ _ _ _ _ _ _).trans ?_
    | with_reducible refine erase_cond ?_ ?_)

theorem keeps_coreLockS {L : Part → Bool} (h_lant : L .lant = true) : ∀ s, erase L (coreLockS s) = erase L s := by
  intro s
  unfold coreLockS
  try dsimp only
  repeat' (first
    | with_reducible rfl
    | with_reducible refine (keeps_State_withLant h_lant _ _).trans ?_
    | with_reducible refine erase_cond ?_ ?_)

theorem keeps_normalEntryS {L : Part → Bool} (h_regs : L .regs = true) (h_cores : L .cores = true) : ∀ k s, erase L (normalEntryS k s) = erase L s := by
  intro k s
  unfold normalEntryS
  try dsimp only
  repeat' (first
    | with_reducible rfl
    | with_reducible refine (keeps_entered h_regs h_cores _ _ _).trans ?_
    | with_reducible refine erase_cond ?_ ?_)

theorem keeps_fastEntryS {L : Part → Bool} (h_regs : L .regs = true) (h_cores : L .cores = true) : ∀ k s, erase L (fastEntryS k s) = erase L s := by
  intro k s
  unfold fastEntryS
  try dsimp only
  repeat' (first
    | with_reducible rfl
    | with_reducible refine (keeps_entered h_regs h_cores _ _ _).trans ?_
    | with_reducible refine erase_cond ?_ ?_)

theorem keeps_coreWakeS {L : Part → Bool} (h_regs : L .regs = true) (h_cores : L .cores = true) : ∀ k s, erase L (coreWakeS k s) = erase L s := by
  intro k s
  unfold coreWakeS
  try dsimp only
  repeat' (first
    | with_reducible rfl
    | with_reducible refine (keeps_normalEntryS h_regs h_cores _ _).trans ?_
    | with_reducible refine (keeps_State_setCore h_cores _ _ _).trans ?_
    | with_reducible refine (keeps_fastEntryS h_regs h_cores _ _).trans ?_
    | with_reducible refine erase_cond ?_ ?_)

theorem keeps_cqWhen {L : Part → Bool} (h_regs : L .regs = true) (h_fns : L .fns = true) (h_sqs : L .sqs = true) (h_cqs : L .cqs = true) (h_prog : L .prog = true) (h_recov : L .recov = true) (h_cores : L .cores = true) (h_mem : L .mem = true) (h_ports : L .ports = true) (h_camp : L .camp = true) (h_out : L .out = true) : ∀ fn slot p v s, erase L (cqWhen fn slot p v s) = erase L s := by
  intro fn slot p v s
  unfold cqWhen
  try dsimp only
  repeat' (first
    | with_reducible rfl
    | with_reducible refine (keeps_queueWrite h_regs h_fns h_sqs h_cqs h_prog h_recov h_cores h_mem h_ports h_camp h_out _ _ _ _).trans ?_
    | with_reducible refine erase_cond ?_ ?_)

theorem keeps_cutMinute {L : Part → Bool} (h_regs : L .regs = true) (h_intc : L .intc = true) (h_meter : L .meter = true) (h_trust : L .trust = true) : ∀ s, erase L (cutMinute s) = erase L s := by
  intro s
  unfold cutMinute
  try dsimp only
  repeat' (first
    | with_reducible rfl
    | with_reducible refine (keeps_closeMinute h_regs h_intc h_meter h_trust _ _ _ _ _).trans ?_
    | with_reducible refine erase_cond ?_ ?_)

theorem keeps_d0ReturnS {L : Part → Bool} (h_regs : L .regs = true) (h_fns : L .fns = true) (h_sqs : L .sqs = true) (h_cqs : L .cqs = true) (h_prog : L .prog = true) (h_recov : L .recov = true) (h_cores : L .cores = true) (h_mem : L .mem = true) (h_mail : L .mail = true) (h_intc : L .intc = true) (h_meter : L .meter = true) (h_ports : L .ports = true) (h_camp : L .camp = true) (h_power : L .power = true) (h_out : L .out = true) (h_free : L .free = true) : ∀ fn s, erase L (d0ReturnS fn s) = erase L s := by
  intro fn s
  unfold d0ReturnS
  try dsimp only
  repeat' (first
    | with_reducible rfl
    | with_reducible refine (keeps_releaseFn h_regs h_fns h_sqs h_cqs h_prog h_recov h_cores h_mem h_mail h_intc h_meter h_ports h_camp h_power h_out h_free _ _).trans ?_
    | with_reducible refine (keeps_State_setFn h_fns _ _ _).trans ?_
    | with_reducible refine erase_cond ?_ ?_)

theorem keeps_d3EntryS {L : Part → Bool} (h_fns : L .fns = true) (h_out : L .out = true) : ∀ fn pmeEn s, erase L (d3EntryS fn pmeEn s) = erase L s := by
  intro fn pmeEn s
  unfold d3EntryS
  try dsimp only
  repeat' (first
    | with_reducible rfl
    | with_reducible refine (keeps_sendPme h_fns h_out _ _).trans ?_
    | with_reducible refine (keeps_State_setFn h_fns _ _ _).trans ?_
    | with_reducible refine erase_cond ?_ ?_)

theorem keeps_ddrAsk {L : Part → Bool} (h_out : L .out = true) : ∀ s l write, erase L (ddrAsk s l write) = erase L s := by
  intro s l write
  unfold ddrAsk
  try dsimp only
  repeat' (first
    | with_reducible rfl
    | with_reducible refine (keeps_emit h_out _ _).trans ?_)

theorem keeps_ddrDevices {L : Part → Bool} (h_regs : L .regs = true) : ∀ s ch devs, erase L (ddrDevices s ch devs) = erase L s := by
  intro s ch devs
  unfold ddrDevices
  try dsimp only
  repeat' (first
    | with_reducible rfl
    | with_reducible refine (keeps_satAdd h_regs _ _ _ _ _ _).trans ?_
    | with_reducible refine (erase_foldl (fun _ _ => ?_) _ _).trans ?_
    | with_reducible refine erase_cond ?_ ?_)

theorem keeps_ddrEcc {L : Part → Bool} (h_regs : L .regs = true) (h_recov : L .recov = true) (h_mem : L .mem = true) (h_camp : L .camp = true) : ∀ s l res, erase L (ddrEcc s l res) = erase L s := by
  intro s l res
  unfold ddrEcc
  try dsimp only
  repeat' (first
    | with_reducible rfl
    | with_reducible refine (keeps_ddrDevices h_regs _ _ _).trans ?_
    | with_reducible refine (keeps_satAdd h_regs _ _ _ _ _ _).trans ?_
    | with_reducible refine (keeps_badLine h_recov h_mem h_camp _ _).trans ?_
    | split)

theorem keeps_debtTickS {L : Part → Bool} (h_sched : L .sched = true) : ∀ ch s, erase L (debtTickS ch s) = erase L s := by
  intro ch s
  unfold debtTickS
  try dsimp only
  repeat' (first
    | with_reducible rfl
    | with_reducible refine (keeps_State_withSched h_sched _ _).trans ?_
    | with_reducible refine erase_cond ?_ ?_)

theorem keeps_deliverFrame {L : Part → Bool} (h_regs : L .regs = true) (h_prog : L .prog = true) (h_ports : L .ports = true) : ∀ s a1 q frame octets, erase L (deliverFrame s a1 q frame octets) = erase L s := by
  intro s a1 q frame octets
  unfold deliverFrame
  try dsimp only
  repeat' (first
    | with_reducible refine (keeps_macAdd h_prog _ _ _ _).trans ?_)
  all_goals with_reducible refine (erase_ports h_ports _ _).trans ?_
  all_goals repeat' (first
    | with_reducible rfl
    | with_reducible refine (keeps_setRxQ h_ports _ _ _ _).trans ?_
    | with_reducible refine (keeps_guyPort h_regs h_ports _ _ _).trans ?_
    | with_reducible refine (erase_foldl (fun _ _ => ?_) _ _).trans ?_)

theorem keeps_deliverS {L : Part → Bool} (h_regs : L .regs = true) (h_mem : L .mem = true) (h_intc : L .intc = true) (h_meter : L .meter = true) (h_out : L .out = true) : ∀ s, erase L (deliverS s) = erase L s := by
  intro s
  unfold deliverS
  try dsimp only
  repeat' (first
    | with_reducible rfl
    | with_reducible refine (keeps_wr h_regs _ _ _ _ _ _).trans ?_
    | with_reducible refine (keeps_deny h_regs h_mem _ _ _ _).trans ?_
    | with_reducible refine (keeps_State_withMeter h_meter _ _).trans ?_
    | with_reducible refine (keeps_wf h_regs _ _ _ _ _ _ _).trans ?_
    | with_reducible refine (keeps_emit h_out _ _).trans ?_
    | with_reducible refine (keeps_raise h_intc _ _).trans ?_
    | with_reducible refine (erase_foldl (fun _ _ => ?_) _ _).trans ?_
    | with_reducible refine erase_cond ?_ ?_
    | split)

theorem keeps_denyReq {L : Part → Bool} (h_regs : L .regs = true) (h_mem : L .mem = true) : ∀ s r a t, erase L (denyReq s r a t) = erase L s := by
  intro s r a t
  unfold denyReq
  try dsimp only
  repeat' (first
    | with_reducible rfl
    | with_reducible refine (keeps_deny h_regs h_mem _ _ _ _).trans ?_
    | with_reducible refine erase_cond ?_ ?_)

theorem keeps_destMem {L : Part → Bool} (h_regs : L .regs = true) (h_sched : L .sched = true) (h_fns : L .fns = true) (h_sqs : L .sqs = true) (h_cqs : L .cqs = true) (h_prog : L .prog = true) (h_recov : L .recov = true) (h_cores : L .cores = true) (h_mem : L .mem = true) (h_mail : L .mail = true) (h_intc : L .intc = true) (h_lant : L .lant = true) (h_ports : L .ports = true) (h_camp : L .camp = true) (h_trust : L .trust = true) (h_power : L .power = true) (h_out : L .out = true) (h_free : L .free = true) : ∀ u k m ls v, erase L (destMem u k m ls v) = erase L u := by
  intro u k m ls v
  unfold destMem
  try dsimp only
  repeat' (first
    | with_reducible rfl
    | with_reducible refine (keeps_acsWrite h_regs h_sched h_fns h_sqs h_cqs h_prog h_recov h_cores h_mem h_mail h_intc h_lant h_ports h_camp h_trust h_power h_out h_free _ _ _ _).trans ?_
    | split)

theorem keeps_suspend {L : Part → Bool} (h_regs : L .regs = true) (h_fns : L .fns = true) (h_prog : L .prog = true) (h_recov : L .recov = true) (h_mail : L .mail = true) (h_intc : L .intc = true) (h_ports : L .ports = true) (h_camp : L .camp = true) (h_out : L .out = true) : ∀ c pos cmd s, erase L (suspend c pos cmd s) = erase L s := by
  intro c pos cmd s
  unfold suspend
  try dsimp only
  repeat' (first
    | with_reducible rfl
    | with_reducible refine (keeps_State_setCtx h_prog _ _ _).trans ?_
    | with_reducible refine (keeps_writeProg h_regs h_recov h_ports h_camp h_out _ _ _ _ _).trans ?_
    | with_reducible refine (keeps_noteS h_regs h_fns h_mail h_intc h_ports h_camp h_out _ _ _ _ _ _).trans ?_
    | with_reducible refine erase_cond ?_ ?_)

theorem keeps_libraryFault {L : Part → Bool} (h_regs : L .regs = true) (h_prog : L .prog = true) (h_power : L .power = true) : ∀ p s, erase L (libraryFault p s) = erase L s := by
  intro p s
  unfold libraryFault
  try dsimp only
  repeat' (first
    | with_reducible refine (keeps_pitchFaultS h_regs h_power _ _).trans ?_)
  all_goals with_reducible refine (erase_prog h_prog _ _).trans ?_
  all_goals with_reducible rfl

theorem keeps_runStep {L : Part → Bool} (h_regs : L .regs = true) (h_fns : L .fns = true) (h_sqs : L .sqs = true)
    (h_cqs : L .cqs = true) (h_prog : L .prog = true) (h_recov : L .recov = true) (h_mem : L .mem = true) (h_mail : L .mail = true)
    (h_intc : L .intc = true) (h_meter : L .meter = true) (h_ports : L .ports = true) (h_camp : L .camp = true)
    (h_power : L .power = true) (h_out : L .out = true) {op : Nat → State → State} (ho : ∀ c s, erase L (op c s) = erase L s) :
    ∀ c code check s, erase L (runStep c code check op s) = erase L s := by
  intro c code check s
  unfold runStep
  dsimp only
  repeat' (first
    | with_reducible rfl
    | with_reducible refine (keeps_checkStep h_regs h_fns h_sqs h_cqs h_prog h_recov h_mem h_ports h_camp h_out (keeps_commitThen h_regs h_prog h_recov h_ports h_camp h_out (ho _) _) _ _ _).trans ?_
    | with_reducible refine (keeps_libraryFault h_regs h_prog h_power _ _).trans ?_
    | with_reducible refine (keeps_suspend h_regs h_fns h_prog h_recov h_mail h_intc h_ports h_camp h_out _ _ _ _).trans ?_
    | with_reducible refine (keeps_endProgram h_regs h_fns h_sqs h_cqs h_prog h_recov h_mem h_ports h_camp h_out _ _ _ _ _ _).trans ?_
    | with_reducible refine (keeps_beginStep h_prog h_meter _ _ _).trans ?_
    | with_reducible refine erase_cond ?_ ?_
    | split)

theorem keeps_deviceRow {L : Part → Bool} (h_regs : L .regs = true) (h_fns : L .fns = true) (h_sqs : L .sqs = true)
    (h_cqs : L .cqs = true) (h_prog : L .prog = true) (h_recov : L .recov = true) (h_mem : L .mem = true) (h_mail : L .mail = true)
    (h_intc : L .intc = true) (h_meter : L .meter = true) (h_ports : L .ports = true) (h_camp : L .camp = true)
    (h_power : L .power = true) (h_out : L .out = true) : ∀ a0 a1 a2, erase L (deviceRow a0 a1 a2) = erase L a2 := by
  intro code ctx s
  unfold deviceRow
  exact keeps_runStep h_regs h_fns h_sqs h_cqs h_prog h_recov h_mem h_mail h_intc h_meter h_ports h_camp h_power h_out
    (fun c s => keeps_deviceOp h_prog h_power h_out c s) _ _ _ _

theorem keeps_deviceTimeoutS {L : Part → Bool} (h_regs : L .regs = true) (h_fns : L .fns = true) (h_sqs : L .sqs = true) (h_cqs : L .cqs = true) (h_prog : L .prog = true) (h_recov : L .recov = true) (h_mem : L .mem = true) (h_ports : L .ports = true) (h_camp : L .camp = true) (h_out : L .out = true) : ∀ c s, erase L (deviceTimeoutS c s) = erase L s := by
  intro c s
  unfold deviceTimeoutS
  try dsimp only
  repeat' (first
    | with_reducible rfl
    | with_reducible refine (keeps_stepFail h_regs h_fns h_sqs h_cqs h_prog h_recov h_mem h_ports h_camp h_out _ _ _ _).trans ?_
    | with_reducible refine (keeps_abandon h_out _ _).trans ?_
    | with_reducible refine erase_cond ?_ ?_)

theorem keeps_placeCtx {L : Part → Bool} (h_regs : L .regs = true) (h_fns : L .fns = true) (h_sqs : L .sqs = true) (h_cqs : L .cqs = true) (h_prog : L .prog = true) (h_recov : L .recov = true) (h_mem : L .mem = true) (h_mail : L .mail = true) (h_intc : L .intc = true) (h_ports : L .ports = true) (h_camp : L .camp = true) (h_power : L .power = true) (h_out : L .out = true) : ∀ s fn slot i c c0 r note total, erase L (placeCtx s fn slot i c c0 r note total) = erase L s := by
  intro s fn slot i c c0 r note total
  unfold placeCtx
  try dsimp only
  repeat' (first
    | with_reducible rfl
    | with_reducible refine (keeps_fetchMore h_regs h_fns h_sqs h_cqs h_prog h_recov h_mem h_ports h_camp h_power h_out _ _).trans ?_
    | with_reducible refine (keeps_updItem h_sqs _ _ _ _ _).trans ?_
    | with_reducible refine (keeps_satAdd h_regs _ _ _ _ _ _).trans ?_
    | with_reducible refine (keeps_State_setCtx h_prog _ _ _).trans ?_
    | with_reducible refine (keeps_noteS h_regs h_fns h_mail h_intc h_ports h_camp h_out _ _ _ _ _ _).trans ?_
    | with_reducible refine erase_cond ?_ ?_)

theorem keeps_readTable {L : Part → Bool} (h_regs : L .regs = true) (h_fns : L .fns = true) (h_sqs : L .sqs = true) (h_cqs : L .cqs = true) (h_prog : L .prog = true) (h_recov : L .recov = true) (h_mem : L .mem = true) (h_ports : L .ports = true) (h_camp : L .camp = true) (h_out : L .out = true) : ∀ s fn slot i addr tables seen acc, erase L (readTable s fn slot i addr tables seen acc) = erase L s := by
  intro s fn slot i addr tables seen acc
  unfold readTable
  try dsimp only
  repeat' (first
    | with_reducible rfl
    | with_reducible refine (keeps_decideItem h_regs h_fns h_sqs h_cqs h_prog h_recov h_ports h_camp h_out _ _ _ _ _).trans ?_
    | with_reducible refine (keeps_updItem h_sqs _ _ _ _ _).trans ?_
    | with_reducible refine (keeps_emit h_out _ _).trans ?_
    | with_reducible refine (keeps_hostDenied h_regs h_mem (by assumption)).trans ?_
    | with_reducible refine erase_cond ?_ ?_
    | split)

theorem keeps_dispatchS {L : Part → Bool} (h_regs : L .regs = true) (h_fns : L .fns = true) (h_sqs : L .sqs = true) (h_cqs : L .cqs = true) (h_prog : L .prog = true) (h_recov : L .recov = true) (h_mem : L .mem = true) (h_mail : L .mail = true) (h_intc : L .intc = true) (h_ports : L .ports = true) (h_camp : L .camp = true) (h_power : L .power = true) (h_out : L .out = true) : ∀ fn slot c s, erase L (dispatchS fn slot c s) = erase L s := by
  intro fn slot c s
  unfold dispatchS
  try dsimp only
  repeat' (first
    | with_reducible rfl
    | with_reducible refine (keeps_decideItem h_regs h_fns h_sqs h_cqs h_prog h_recov h_ports h_camp h_out _ _ _ _ _).trans ?_
    | with_reducible refine (keeps_placeCtx h_regs h_fns h_sqs h_cqs h_prog h_recov h_mem h_mail h_intc h_ports h_camp h_power h_out _ _ _ _ _ _ _ _ _).trans ?_
    | with_reducible refine (keeps_readTable h_regs h_fns h_sqs h_cqs h_prog h_recov h_mem h_ports h_camp h_out _ _ _ _ _ _ _ _).trans ?_
    | with_reducible refine (keeps_bindCtx h_regs h_fns h_sqs h_cqs h_prog h_recov h_mem h_ports h_camp h_power h_out _ _ _ _ _).trans ?_
    | with_reducible refine erase_cond ?_ ?_
    | split)

theorem keeps_warmBase {L : Part → Bool} (h_regs : L .regs = true) (h_sched : L .sched = true) (h_fns : L .fns = true)
    (h_sqs : L .sqs = true) (h_cqs : L .cqs = true) (h_prog : L .prog = true) (h_recov : L .recov = true)
    (h_cores : L .cores = true) (h_mem : L .mem = true) (h_mail : L .mail = true) (h_intc : L .intc = true)
    (h_lant : L .lant = true) (h_meter : L .meter = true) (h_ports : L .ports = true) (h_camp : L .camp = true)
    (h_trust : L .trust = true) (h_power : L .power = true) (h_free : L .free = true) :
    ∀ a0, erase L (warmBase a0) = erase L a0 := by
  intro s
  unfold warmBase
  dsimp only
  refine (keeps_recheck h_regs h_lant h_free _).trans ?_
  refine (keeps_wf h_regs _ _ _ _ _ _ _).trans ?_
  refine (keeps_wf h_regs _ _ _ _ _ _ _).trans ?_
  refine (keeps_wf h_regs _ _ _ _ _ _ _).trans ?_
  have e : erase L (applyLeases (if (s.port (mgmtFn s / 256)).link = 0 then s else genStep s 33)) = erase L s := by
    refine (keeps_applyLeases h_regs h_sched _).trans ?_
    refine erase_cond rfl ?_
    exact keeps_genStep h_regs _ _
  rw [erase_eq_iff] at *
  intro p hp
  have := e p hp
  cases p <;> simp_all [same]

theorem keeps_lostMinute {L : Part → Bool} (h_regs : L .regs = true) (h_intc : L .intc = true) (h_meter : L .meter = true) (h_trust : L .trust = true) : ∀ s, erase L (lostMinute s) = erase L s := by
  intro s
  unfold lostMinute
  try dsimp only
  repeat' (first
    | with_reducible rfl
    | with_reducible refine (keeps_openMinute h_meter _ _ _ _).trans ?_
    | with_reducible refine (keeps_State_withMeter h_meter _ _).trans ?_
    | with_reducible refine (keeps_wf h_regs _ _ _ _ _ _ _).trans ?_
    | with_reducible refine (keeps_addBlock h_regs h_intc h_meter h_trust _ _ _).trans ?_
    | with_reducible refine erase_cond ?_ ?_)

theorem keeps_faultBegin {L : Part → Bool} (h_regs : L .regs = true) (h_sched : L .sched = true) (h_fns : L .fns = true) (h_sqs : L .sqs = true) (h_cqs : L .cqs = true) (h_prog : L .prog = true) (h_recov : L .recov = true) (h_cores : L .cores = true) (h_mem : L .mem = true) (h_mail : L .mail = true) (h_intc : L .intc = true) (h_lant : L .lant = true) (h_meter : L .meter = true) (h_ports : L .ports = true) (h_camp : L .camp = true) (h_trust : L .trust = true) (h_power : L .power = true) (h_free : L .free = true) : ∀ s, erase L (faultBegin s) = erase L s := by
  intro s
  unfold faultBegin
  try dsimp only
  repeat' (first
    | with_reducible rfl
    | with_reducible refine (keeps_warmBase h_regs h_sched h_fns h_sqs h_cqs h_prog h_recov h_cores h_mem h_mail h_intc h_lant h_meter h_ports h_camp h_trust h_power h_free _).trans ?_
    | with_reducible refine (keeps_endFlash h_regs h_trust h_free _).trans ?_
    | with_reducible refine (keeps_wr h_regs _ _ _ _ _ _).trans ?_
    | with_reducible refine (keeps_wf h_regs _ _ _ _ _ _ _).trans ?_
    | with_reducible refine (keeps_lostMinute h_regs h_intc h_meter h_trust _).trans ?_
    | with_reducible refine (keeps_raise h_intc _ _).trans ?_
    | with_reducible refine erase_cond ?_ ?_)

theorem keeps_stopCtx {L : Part → Bool} (h_sqs : L .sqs = true) (h_prog : L .prog = true) (h_cores : L .cores = true) (h_mem : L .mem = true) (h_out : L .out = true) : ∀ lost s c, erase L (stopCtx lost s c) = erase L s := by
  intro lost s c
  unfold stopCtx
  try dsimp only
  repeat' (first
    | with_reducible rfl
    | with_reducible refine (keeps_updItem h_sqs _ _ _ _ _).trans ?_
    | with_reducible refine (keeps_State_setCtx h_prog _ _ _).trans ?_
    | with_reducible refine (keeps_undrain h_mem _ _).trans ?_
    | with_reducible refine (keeps_abandon h_out _ _).trans ?_
    | with_reducible refine (keeps_dropCall h_prog h_cores _ _).trans ?_
    | with_reducible refine erase_cond ?_ ?_)

theorem keeps_recoveryEnded {L : Part → Bool} (h_regs : L .regs = true) : ∀ s kind, erase L (recoveryEnded s kind) = erase L s := by
  intro s kind
  unfold recoveryEnded
  try dsimp only
  repeat' (first
    | with_reducible rfl
    | with_reducible refine (keeps_wr h_regs _ _ _ _ _ _).trans ?_
    | with_reducible refine (keeps_wf h_regs _ _ _ _ _ _ _).trans ?_)

theorem keeps_lostChannel {L : Part → Bool} (h_regs : L .regs = true) (h_sched : L .sched = true) (h_sqs : L .sqs = true) (h_prog : L .prog = true) (h_recov : L .recov = true) (h_cores : L .cores = true) (h_mem : L .mem = true) (h_camp : L .camp = true) (h_out : L .out = true) (h_free : L .free = true) : ∀ s ch, erase L (lostChannel s ch) = erase L s := by
  intro s ch
  unfold lostChannel
  try dsimp only
  repeat' (first
    | with_reducible rfl
    | with_reducible refine (keeps_contractFault h_regs h_sched h_mem _ _ _ _ _ _).trans ?_
    | with_reducible refine (keeps_stopCtx h_sqs h_prog h_cores h_mem h_out _ _ _).trans ?_
    | with_reducible refine (keeps_copyLost h_regs h_recov h_camp _ _).trans ?_
    | with_reducible refine (keeps_recoveryEnded h_regs _ _).trans ?_
    | with_reducible refine (keeps_takeFree h_free _).trans ?_
    | with_reducible refine (keeps_State_withSched h_sched _ _).trans ?_
    | with_reducible refine (erase_foldl (fun _ _ => ?_) _ _).trans ?_
    | with_reducible refine erase_cond ?_ ?_
    | split)

theorem keeps_lostPort {L : Part → Bool} (h_regs : L .regs = true) (h_fns : L .fns = true) (h_sqs : L .sqs = true) (h_cqs : L .cqs = true) (h_prog : L .prog = true) (h_recov : L .recov = true) (h_mem : L .mem = true) (h_mail : L .mail = true) (h_intc : L .intc = true) (h_ports : L .ports = true) (h_camp : L .camp = true) (h_out : L .out = true) (h_free : L .free = true) : ∀ s p, erase L (lostPort s p) = erase L s := by
  intro s p
  unfold lostPort
  try dsimp only
  repeat' (first
    | with_reducible rfl
    | with_reducible refine (keeps_endpointDown h_regs h_fns h_recov h_mail h_intc h_ports h_camp h_out h_free _ _ _).trans ?_
    | with_reducible refine (keeps_rootDown h_regs h_fns h_sqs h_cqs h_prog h_recov h_mem h_ports h_camp h_out h_free _ _ _).trans ?_
    | with_reducible refine erase_cond ?_ ?_)

theorem keeps_lostEffects {L : Part → Bool} (h_regs : L .regs = true) (h_sched : L .sched = true) (h_fns : L .fns = true) (h_sqs : L .sqs = true) (h_cqs : L .cqs = true) (h_prog : L .prog = true) (h_recov : L .recov = true) (h_cores : L .cores = true) (h_mem : L .mem = true) (h_mail : L .mail = true) (h_intc : L .intc = true) (h_lant : L .lant = true) (h_meter : L .meter = true) (h_ports : L .ports = true) (h_camp : L .camp = true) (h_trust : L .trust = true) (h_power : L .power = true) (h_out : L .out = true) (h_free : L .free = true) : ∀ s d, erase L (lostEffects s d) = erase L s := by
  intro s d
  unfold lostEffects
  try dsimp only
  repeat' (first
    | with_reducible rfl
    | with_reducible refine (keeps_faultBegin h_regs h_sched h_fns h_sqs h_cqs h_prog h_recov h_cores h_mem h_mail h_intc h_lant h_meter h_ports h_camp h_trust h_power h_free _).trans ?_
    | with_reducible refine (keeps_ploetDown h_regs h_fns h_mail h_intc h_lant h_ports h_camp h_out h_free _).trans ?_
    | with_reducible refine (keeps_stopCtx h_sqs h_prog h_cores h_mem h_out _ _ _).trans ?_
    | with_reducible refine (keeps_State_withTrust h_trust _ _).trans ?_
    | with_reducible refine (keeps_lostChannel h_regs h_sched h_sqs h_prog h_recov h_cores h_mem h_camp h_out h_free _ _).trans ?_
    | with_reducible refine (keeps_lostPort h_regs h_fns h_sqs h_cqs h_prog h_recov h_mem h_mail h_intc h_ports h_camp h_out h_free _ _).trans ?_
    | with_reducible refine (keeps_State_withPower h_power _ _).trans ?_
    | with_reducible refine (erase_foldl (fun _ _ => ?_) _ _).trans ?_
    | with_reducible refine erase_cond ?_ ?_)
  all_goals with_reducible refine (erase_ports h_ports _ _).trans ?_
  all_goals repeat' (first
    | with_reducible rfl
    | with_reducible refine (keeps_stepFail h_regs h_fns h_sqs h_cqs h_prog h_recov h_mem h_ports h_camp h_out _ _ _ _).trans ?_
    | with_reducible refine (erase_foldl (fun _ _ => ?_) _ _).trans ?_)

theorem keeps_loseDomain {L : Part → Bool} (h_regs : L .regs = true) (h_sched : L .sched = true) (h_fns : L .fns = true) (h_sqs : L .sqs = true) (h_cqs : L .cqs = true) (h_prog : L .prog = true) (h_recov : L .recov = true) (h_cores : L .cores = true) (h_mem : L .mem = true) (h_mail : L .mail = true) (h_intc : L .intc = true) (h_lant : L .lant = true) (h_meter : L .meter = true) (h_ports : L .ports = true) (h_camp : L .camp = true) (h_trust : L .trust = true) (h_power : L .power = true) (h_out : L .out = true) (h_free : L .free = true) : ∀ s d, erase L (loseDomain s d) = erase L s := by
  intro s d
  unfold loseDomain
  try dsimp only
  repeat' (first
    | with_reducible rfl
    | with_reducible refine (keeps_wf h_regs _ _ _ _ _ _ _).trans ?_
    | with_reducible refine (keeps_setDom h_power _ _ _ _).trans ?_
    | with_reducible refine (keeps_lostEffects h_regs h_sched h_fns h_sqs h_cqs h_prog h_recov h_cores h_mem h_mail h_intc h_lant h_meter h_ports h_camp h_trust h_power h_out h_free _ _).trans ?_)

theorem keeps_domainLostS {L : Part → Bool} (h_regs : L .regs = true) (h_sched : L .sched = true) (h_fns : L .fns = true) (h_sqs : L .sqs = true) (h_cqs : L .cqs = true) (h_prog : L .prog = true) (h_recov : L .recov = true) (h_cores : L .cores = true) (h_mem : L .mem = true) (h_mail : L .mail = true) (h_intc : L .intc = true) (h_lant : L .lant = true) (h_meter : L .meter = true) (h_ports : L .ports = true) (h_camp : L .camp = true) (h_trust : L .trust = true) (h_power : L .power = true) (h_out : L .out = true) (h_free : L .free = true) : ∀ d s, erase L (domainLostS d s) = erase L s := by
  intro d s
  unfold domainLostS
  try dsimp only
  repeat' (first
    | with_reducible rfl
    | with_reducible refine (keeps_loseDomain h_regs h_sched h_fns h_sqs h_cqs h_prog h_recov h_cores h_mem h_mail h_intc h_lant h_meter h_ports h_camp h_trust h_power h_out h_free _ _).trans ?_
    | with_reducible refine erase_cond ?_ ?_)

theorem keeps_domainReturnS {L : Part → Bool} (h_regs : L .regs = true) (h_sched : L .sched = true) (h_fns : L .fns = true) (h_prog : L .prog = true) (h_recov : L .recov = true) (h_cores : L .cores = true) (h_mem : L .mem = true) (h_mail : L .mail = true) (h_intc : L .intc = true) (h_lant : L .lant = true) (h_ports : L .ports = true) (h_camp : L .camp = true) (h_trust : L .trust = true) (h_power : L .power = true) (h_out : L .out = true) (h_free : L .free = true) : ∀ d ms s, erase L (domainReturnS d ms s) = erase L s := by
  intro d ms s
  unfold domainReturnS
  try dsimp only
  repeat' (first
    | with_reducible rfl
    | with_reducible refine (keeps_resetCore h_regs h_fns h_cores h_mail h_intc h_ports h_camp h_out _ _).trans ?_
    | with_reducible refine (keeps_setDom h_power _ _ _ _).trans ?_
    | with_reducible refine (keeps_trailhead h_regs h_sched h_prog h_recov h_cores h_mem h_intc h_lant h_ports h_camp h_trust h_power h_out h_free _ _ _).trans ?_
    | with_reducible refine erase_cond ?_ ?_)

theorem keeps_drainCompleteS {L : Part → Bool} (h_regs : L .regs = true) (h_mem : L .mem = true) : ∀ s, erase L (drainCompleteS s) = erase L s := by
  intro s
  unfold drainCompleteS
  try dsimp only
  repeat' (first
    | with_reducible rfl
    | with_reducible refine (keeps_State_withMem h_mem _ _).trans ?_
    | with_reducible refine (keeps_wf h_regs _ _ _ _ _ _ _).trans ?_
    | with_reducible refine erase_cond ?_ ?_)

theorem keeps_releaseRecord {L : Part → Bool} (h_regs : L .regs = true) (h_fns : L .fns = true) (h_sqs : L .sqs = true) (h_cqs : L .cqs = true) (h_prog : L .prog = true) (h_recov : L .recov = true) (h_cores : L .cores = true) (h_mem : L .mem = true) (h_mail : L .mail = true) (h_intc : L .intc = true) (h_ports : L .ports = true) (h_camp : L .camp = true) (h_power : L .power = true) (h_out : L .out = true) : ∀ s c, erase L (releaseRecord s c) = erase L s := by
  intro s c
  unfold releaseRecord
  try dsimp only
  repeat' (first
    | with_reducible rfl
    | with_reducible refine (keeps_State_setCtx h_prog _ _ _).trans ?_
    | with_reducible refine (keeps_stepContinue h_regs h_fns h_sqs h_cqs h_prog h_recov h_mem h_mail h_intc h_ports h_camp h_power h_out _ _).trans ?_
    | with_reducible refine (keeps_startOp h_prog (fun _ => keeps_issueStep h_regs h_fns h_sqs h_cqs h_prog h_recov h_cores h_mem h_mail h_intc h_ports h_camp h_power h_out _ _) _ _).trans ?_
    | with_reducible refine erase_cond ?_ ?_)

theorem keeps_showStates {L : Part → Bool} (h_regs : L .regs = true) (h_sqs : L .sqs = true) (h_cqs : L .cqs = true) (h_recov : L .recov = true) (h_mem : L .mem = true) (h_ports : L .ports = true) (h_camp : L .camp = true) (h_out : L .out = true) : ∀ s, erase L (showStates s) = erase L s := by
  intro s
  unfold showStates
  try dsimp only
  repeat' (first
    | with_reducible rfl
    | with_reducible refine (keeps_updSq h_sqs _ _ _ _).trans ?_
    | with_reducible refine (keeps_flushIndex h_regs h_sqs h_recov h_mem h_ports h_camp h_out _ _ _).trans ?_
    | with_reducible refine (keeps_startRound h_regs h_sqs h_recov h_mem h_ports h_camp h_out _ _ _).trans ?_
    | with_reducible refine (keeps_updCq h_cqs _ _ _ _).trans ?_
    | with_reducible refine (erase_foldl (fun _ _ => ?_) _ _).trans ?_
    | with_reducible refine erase_cond ?_ ?_)

theorem keeps_releaseGates {L : Part → Bool} (h_regs : L .regs = true) (h_fns : L .fns = true) (h_sqs : L .sqs = true) (h_cqs : L .cqs = true) (h_prog : L .prog = true) (h_recov : L .recov = true) (h_cores : L .cores = true) (h_mem : L .mem = true) (h_mail : L .mail = true) (h_intc : L .intc = true) (h_ports : L .ports = true) (h_camp : L .camp = true) (h_power : L .power = true) (h_out : L .out = true) : ∀ s, erase L (releaseGates s) = erase L s := by
  intro s
  unfold releaseGates
  try dsimp only
  repeat' (first
    | with_reducible rfl
    | with_reducible refine (keeps_releaseRecord h_regs h_fns h_sqs h_cqs h_prog h_recov h_cores h_mem h_mail h_intc h_ports h_camp h_power h_out _ _).trans ?_
    | with_reducible refine (keeps_showStates h_regs h_sqs h_cqs h_recov h_mem h_ports h_camp h_out _).trans ?_
    | with_reducible refine (erase_foldl (fun _ _ => ?_) _ _).trans ?_)

theorem keeps_tryPair {L : Part → Bool} (h_regs : L .regs = true) (h_camp : L .camp = true) : ∀ s, erase L (tryPair s) = erase L s := by
  intro s
  unfold tryPair
  try dsimp only
  repeat' (first
    | with_reducible rfl
    | with_reducible refine (keeps_State_withCamp h_camp _ _).trans ?_
    | with_reducible refine (keeps_campFault h_regs _ _).trans ?_
    | with_reducible refine erase_cond ?_ ?_)

theorem keeps_durableMsg {L : Part → Bool} (h_regs : L .regs = true) (h_fns : L .fns = true) (h_sqs : L .sqs = true) (h_cqs : L .cqs = true) (h_prog : L .prog = true) (h_recov : L .recov = true) (h_cores : L .cores = true) (h_mem : L .mem = true) (h_mail : L .mail = true) (h_intc : L .intc = true) (h_ports : L .ports = true) (h_camp : L .camp = true) (h_power : L .power = true) (h_out : L .out = true) : ∀ m s, erase L (durableMsg m s) = erase L s := by
  intro m s
  unfold durableMsg
  try dsimp only
  repeat' (first
    | with_reducible rfl
    | with_reducible refine (keeps_releaseGates h_regs h_fns h_sqs h_cqs h_prog h_recov h_cores h_mem h_mail h_intc h_ports h_camp h_power h_out _).trans ?_
    | with_reducible refine (keeps_State_withCamp h_camp _ _).trans ?_
    | with_reducible refine (keeps_tryPair h_regs h_camp _).trans ?_)

theorem keeps_emptiedMsg {L : Part → Bool} (h_fns : L .fns = true) (h_mail : L .mail = true) (h_intc : L .intc = true) (h_ports : L .ports = true) (h_out : L .out = true) : ∀ m s, erase L (emptiedMsg m s) = erase L s := by
  intro m s
  unfold emptiedMsg
  try dsimp only
  repeat' (first
    | with_reducible rfl
    | with_reducible refine (keeps_returnNotice h_fns h_mail h_intc h_ports h_out _ _ _ _).trans ?_
    | with_reducible refine erase_cond ?_ ?_)

theorem keeps_endTrailhead {L : Part → Bool} (h_regs : L .regs = true) (h_lant : L .lant = true) (h_meter : L .meter = true) (h_camp : L .camp = true) (h_trust : L .trust = true) (h_free : L .free = true) : ∀ s, erase L (endTrailhead s) = erase L s := by
  intro s
  unfold endTrailhead
  try dsimp only
  repeat' (first
    | with_reducible rfl
    | with_reducible refine (keeps_State_withCamp h_camp _ _).trans ?_
    | with_reducible refine (keeps_wr h_regs _ _ _ _ _ _).trans ?_
    | with_reducible refine (keeps_State_withTrust h_trust _ _).trans ?_
    | with_reducible refine (keeps_openMinute h_meter _ _ _ _).trans ?_
    | with_reducible refine (keeps_State_withMeter h_meter _ _).trans ?_
    | with_reducible refine (keeps_wf h_regs _ _ _ _ _ _ _).trans ?_
    | with_reducible refine (keeps_State_withLant h_lant _ _).trans ?_
    | with_reducible refine (keeps_makeReport h_free _ _).trans ?_
    | with_reducible refine erase_cond ?_ ?_)

theorem keeps_settleAccept {L : Part → Bool} (h_regs : L .regs = true) (h_sqs : L .sqs = true) (h_recov : L .recov = true) (h_mem : L .mem = true) (h_ports : L .ports = true) (h_camp : L .camp = true) (h_out : L .out = true) : ∀ s fn slot, erase L (settleAccept s fn slot) = erase L s := by
  intro s fn slot
  unfold settleAccept
  try dsimp only
  repeat' (first
    | with_reducible rfl
    | with_reducible refine (keeps_updSq h_sqs _ _ _ _).trans ?_
    | with_reducible refine (keeps_oweIndex h_regs h_sqs h_recov h_mem h_ports h_camp h_out _ _ _ _).trans ?_
    | with_reducible refine erase_cond ?_ ?_
    | split)

theorem keeps_entryAcceptedS {L : Part → Bool} (h_regs : L .regs = true) (h_fns : L .fns = true) (h_sqs : L .sqs = true) (h_cqs : L .cqs = true) (h_prog : L .prog = true) (h_recov : L .recov = true) (h_cores : L .cores = true) (h_mem : L .mem = true) (h_ports : L .ports = true) (h_camp : L .camp = true) (h_out : L .out = true) : ∀ fn slot s, erase L (entryAcceptedS fn slot s) = erase L s := by
  intro fn slot s
  unfold entryAcceptedS
  try dsimp only
  repeat' (first
    | with_reducible rfl
    | with_reducible refine (keeps_writeAccepted h_regs h_recov h_ports h_camp h_out _ _ _ _ _ _).trans ?_
    | with_reducible refine (keeps_advanceConsumed h_regs h_sqs h_recov h_mem h_ports h_camp h_out _ _ _).trans ?_
    | with_reducible refine (keeps_settleAccept h_regs h_sqs h_recov h_mem h_ports h_camp h_out _ _ _).trans ?_
    | with_reducible refine (keeps_updItem h_sqs _ _ _ _ _).trans ?_
    | with_reducible refine (keeps_endByReset h_regs h_fns h_sqs h_cqs h_prog h_recov h_cores h_mem h_ports h_camp h_out _ _ _ _).trans ?_
    | with_reducible refine erase_cond ?_ ?_
    | split)

theorem keeps_entryDoneS {L : Part → Bool} (h_power : L .power = true) : ∀ d s, erase L (entryDoneS d s) = erase L s := by
  intro d s
  unfold entryDoneS
  try dsimp only
  repeat' (first
    | with_reducible rfl
    | with_reducible refine (keeps_setResult h_power _ _ _).trans ?_
    | with_reducible refine (keeps_setDom h_power _ _ _ _).trans ?_
    | with_reducible refine (keeps_setQueued h_power _ _ _).trans ?_
    | with_reducible refine (keeps_startExit h_power _ _).trans ?_
    | with_reducible refine erase_cond ?_ ?_)

theorem keeps_restartTimer {L : Part → Bool} (h_prog : L .prog = true) : ∀ s c, erase L (restartTimer s c) = erase L s := by
  intro s c
  unfold restartTimer
  try dsimp only
  repeat' (first
    | with_reducible rfl
    | with_reducible refine (keeps_State_setCtx h_prog _ _ _).trans ?_)

theorem keeps_exitDoneS {L : Part → Bool} (h_prog : L .prog = true) (h_mem : L .mem = true) (h_power : L .power = true) : ∀ d s, erase L (exitDoneS d s) = erase L s := by
  intro d s
  unfold exitDoneS
  try dsimp only
  repeat' (first
    | with_reducible rfl
    | with_reducible refine (keeps_restartTimer h_prog _ _).trans ?_
    | with_reducible refine (keeps_setResult h_power _ _ _).trans ?_
    | with_reducible refine (keeps_tryEnter h_mem h_power _ _).trans ?_
    | with_reducible refine (keeps_setDom h_power _ _ _ _).trans ?_
    | with_reducible refine (keeps_setQueued h_power _ _ _).trans ?_
    | with_reducible refine (erase_foldl (fun _ _ => ?_) _ _).trans ?_
    | with_reducible refine erase_cond ?_ ?_)

theorem keeps_exitTimeoutS {L : Part → Bool} (h_regs : L .regs = true) (h_sched : L .sched = true) (h_fns : L .fns = true) (h_sqs : L .sqs = true) (h_cqs : L .cqs = true) (h_prog : L .prog = true) (h_recov : L .recov = true) (h_cores : L .cores = true) (h_mem : L .mem = true) (h_mail : L .mail = true) (h_intc : L .intc = true) (h_lant : L .lant = true) (h_meter : L .meter = true) (h_ports : L .ports = true) (h_camp : L .camp = true) (h_trust : L .trust = true) (h_power : L .power = true) (h_out : L .out = true) (h_free : L .free = true) : ∀ d s, erase L (exitTimeoutS d s) = erase L s := by
  intro d s
  unfold exitTimeoutS
  try dsimp only
  repeat' (first
    | with_reducible rfl
    | with_reducible refine (keeps_setResult h_power _ _ _).trans ?_
    | with_reducible refine (keeps_loseDomain h_regs h_sched h_fns h_sqs h_cqs h_prog h_recov h_cores h_mem h_mail h_intc h_lant h_meter h_ports h_camp h_trust h_power h_out h_free _ _).trans ?_
    | with_reducible refine (keeps_wf h_regs _ _ _ _ _ _ _).trans ?_
    | with_reducible refine erase_cond ?_ ?_)

theorem keeps_feedStaleS {L : Part → Bool} (h_regs : L .regs = true) (h_intc : L .intc = true) (h_meter : L .meter = true) : ∀ f s, erase L (feedStaleS f s) = erase L s := by
  intro f s
  unfold feedStaleS
  try dsimp only
  repeat' (first
    | with_reducible rfl
    | with_reducible refine (keeps_State_withMeter h_meter _ _).trans ?_
    | with_reducible refine (keeps_wf h_regs _ _ _ _ _ _ _).trans ?_
    | with_reducible refine (keeps_raise h_intc _ _).trans ?_
    | with_reducible refine erase_cond ?_ ?_)

theorem keeps_flitReceivedS {L : Part → Bool} (h_regs : L .regs = true) (h_ports : L .ports = true) (h_camp : L .camp = true) (h_out : L .out = true) : ∀ f s, erase L (flitReceivedS f s) = erase L s := by
  intro f s
  unfold flitReceivedS
  try dsimp only
  repeat' (first
    | with_reducible rfl
    | with_reducible refine (keeps_guyFlit h_regs h_ports _ _).trans ?_
    | with_reducible refine (keeps_ackThrough h_regs h_ports h_camp h_out _ _).trans ?_
    | with_reducible refine (keeps_State_withCamp h_camp _ _).trans ?_
    | with_reducible refine (keeps_satAdd h_regs _ _ _ _ _ _).trans ?_
    | with_reducible refine (keeps_emit h_out _ _).trans ?_
    | with_reducible refine erase_cond ?_ ?_)

theorem keeps_functionReset {L : Part → Bool} (h_regs : L .regs = true) (h_sqs : L .sqs = true) (h_prog : L .prog = true) (h_recov : L .recov = true) (h_cores : L .cores = true) (h_mem : L .mem = true) (h_ports : L .ports = true) (h_camp : L .camp = true) (h_out : L .out = true) : ∀ fn s slot, erase L (functionReset fn s slot) = erase L s := by
  intro fn s slot
  unfold functionReset
  try dsimp only
  repeat' (first
    | with_reducible rfl
    | with_reducible refine (keeps_freeEnded h_regs h_recov h_ports h_camp h_out _ _ _).trans ?_
    | with_reducible refine (keeps_State_setCtx h_prog _ _ _).trans ?_
    | with_reducible refine (keeps_updSq h_sqs _ _ _ _).trans ?_
    | with_reducible refine (keeps_setSqState h_regs h_sqs h_recov h_ports h_camp h_out _ _ _ _).trans ?_
    | with_reducible refine (keeps_State_withRecov h_recov _ _).trans ?_
    | with_reducible refine (keeps_undrain h_mem _ _).trans ?_
    | with_reducible refine (keeps_abandon h_out _ _).trans ?_
    | with_reducible refine (keeps_dropCall h_prog h_cores _ _).trans ?_
    | with_reducible refine (keeps_clearJournal h_regs h_recov h_ports h_camp h_out _ _).trans ?_
    | with_reducible refine (erase_foldl (fun _ _ => ?_) _ _).trans ?_
    | with_reducible refine erase_cond ?_ ?_
    | split)

theorem keeps_functionResetCq {L : Part → Bool} (h_regs : L .regs = true) (h_cqs : L .cqs = true) (h_recov : L .recov = true) (h_ports : L .ports = true) (h_camp : L .camp = true) (h_out : L .out = true) : ∀ fn s slot, erase L (functionResetCq fn s slot) = erase L s := by
  intro fn s slot
  unfold functionResetCq
  try dsimp only
  repeat' (first
    | with_reducible rfl
    | with_reducible refine (keeps_setCqState h_regs h_cqs h_recov h_ports h_camp h_out _ _ _ _).trans ?_
    | with_reducible refine (keeps_updCq h_cqs _ _ _ _).trans ?_
    | with_reducible refine erase_cond ?_ ?_)

theorem keeps_flrS {L : Part → Bool} (h_regs : L .regs = true) (h_fns : L .fns = true) (h_sqs : L .sqs = true) (h_cqs : L .cqs = true) (h_prog : L .prog = true) (h_recov : L .recov = true) (h_cores : L .cores = true) (h_mem : L .mem = true) (h_mail : L .mail = true) (h_intc : L .intc = true) (h_ports : L .ports = true) (h_camp : L .camp = true) (h_out : L .out = true) : ∀ fn s, erase L (flrS fn s) = erase L s := by
  intro fn s
  unfold flrS
  try dsimp only
  repeat' (first
    | with_reducible rfl
    | with_reducible refine (keeps_functionReset h_regs h_sqs h_prog h_recov h_cores h_mem h_ports h_camp h_out _ _ _).trans ?_
    | with_reducible refine (keeps_fnConfigReset h_regs h_fns h_recov h_ports h_camp h_out _ _).trans ?_
    | with_reducible refine (keeps_functionResetCq h_regs h_cqs h_recov h_ports h_camp h_out _ _ _).trans ?_
    | with_reducible refine (keeps_agentReset h_regs h_fns h_mail h_intc h_ports h_camp h_out _ _).trans ?_
    | with_reducible refine (keeps_State_setFn h_fns _ _ _).trans ?_
    | with_reducible refine (keeps_receiverReset h_regs h_fns h_mail h_intc h_ports h_camp h_out _ _ _).trans ?_
    | with_reducible refine (erase_foldl (fun _ _ => ?_) _ _).trans ?_
    | with_reducible refine erase_cond ?_ ?_)

theorem keeps_fragLandedS {L : Part → Bool} (h_regs : L .regs = true) (h_fns : L .fns = true) (h_sqs : L .sqs = true) (h_cqs : L .cqs = true) (h_prog : L .prog = true) (h_recov : L .recov = true) (h_mem : L .mem = true) (h_ports : L .ports = true) (h_camp : L .camp = true) (h_out : L .out = true) : ∀ fn slot r descs s, erase L (fragLandedS fn slot r descs s) = erase L s := by
  intro fn slot r descs s
  unfold fragLandedS
  try dsimp only
  repeat' (first
    | with_reducible rfl
    | with_reducible refine (keeps_decideItem h_regs h_fns h_sqs h_cqs h_prog h_recov h_ports h_camp h_out _ _ _ _ _).trans ?_
    | with_reducible refine (keeps_updItem h_sqs _ _ _ _ _).trans ?_
    | with_reducible refine (keeps_readTable h_regs h_fns h_sqs h_cqs h_prog h_recov h_mem h_ports h_camp h_out _ _ _ _ _ _ _ _).trans ?_
    | with_reducible refine (keeps_undrain h_mem _ _).trans ?_
    | with_reducible refine erase_cond ?_ ?_
    | split)

theorem keeps_frameLeases {L : Part → Bool} (h_regs : L .regs = true) (h_sched : L .sched = true) : ∀ s, erase L (frameLeases s) = erase L s := by
  intro s
  unfold frameLeases
  try dsimp only
  repeat' (first
    | with_reducible rfl
    | with_reducible refine (keeps_applyLeases h_regs h_sched _).trans ?_
    | with_reducible refine (keeps_State_withSched h_sched _ _).trans ?_)

theorem keeps_peerArrive {L : Part → Bool} (h_regs : L .regs = true) (h_recov : L .recov = true) (h_ports : L .ports = true) (h_camp : L .camp = true) (h_out : L .out = true) : ∀ s t, erase L (peerArrive s t).1 = erase L s := by
  intro s t
  unfold peerArrive
  try dsimp only
  repeat' (first
    | with_reducible rfl
    | with_reducible refine (keeps_satAdd h_regs _ _ _ _ _ _).trans ?_
    | with_reducible refine (keeps_putChanged h_regs h_recov h_ports h_camp h_out _ _).trans ?_
    | with_reducible refine erase_cond ?_ ?_
    | split)

theorem keeps_peerAck {L : Part → Bool} (h_prog : L .prog = true) (h_out : L .out = true) (h_free : L .free = true) : ∀ a0 frame t s, erase L (peerAck a0 frame t s) = erase L s := by
  intro a0 frame t s
  unfold peerAck
  try dsimp only
  repeat' (first
    | with_reducible rfl
    | with_reducible refine (keeps_freeBytes h_free _ _).trans ?_
    | with_reducible refine (keeps_macAdd h_prog _ _ _ _).trans ?_
    | with_reducible refine (keeps_emit h_out _ _).trans ?_)

theorem keeps_frameReceivedS {L : Part → Bool} (h_regs : L .regs = true) (h_prog : L .prog = true) (h_recov : L .recov = true) (h_ports : L .ports = true) (h_camp : L .camp = true) (h_out : L .out = true) (h_free : L .free = true) : ∀ a0 frame bad s, erase L (frameReceivedS a0 frame bad s) = erase L s := by
  intro a0 frame bad s
  unfold frameReceivedS
  try dsimp only
  repeat' (first
    | with_reducible rfl
    | with_reducible refine (keeps_macAdd h_prog _ _ _ _).trans ?_
    | with_reducible refine (keeps_setRxQ h_ports _ _ _ _).trans ?_
    | with_reducible refine (keeps_peerArrive h_regs h_recov h_ports h_camp h_out _ _).trans ?_
    | with_reducible refine (keeps_deliverFrame h_regs h_prog h_ports _ _ _ _ _).trans ?_
    | with_reducible refine (keeps_peerAck h_prog h_out h_free _ _ _ _).trans ?_
    | with_reducible refine erase_cond ?_ ?_)

theorem keeps_meterFrame {L : Part → Bool} (h_meter : L .meter = true) : ∀ span s, erase L (meterFrame span s) = erase L s := by
  intro span s
  unfold meterFrame
  try dsimp only
  repeat' (first
    | with_reducible rfl
    | with_reducible refine (keeps_State_withMeter h_meter _ _).trans ?_
    | with_reducible refine (keeps_markBound h_meter _).trans ?_
    | with_reducible refine erase_cond ?_ ?_)

theorem keeps_repeatPme {L : Part → Bool} (h_fns : L .fns = true) (h_out : L .out = true) : ∀ s, erase L (repeatPme s) = erase L s := by
  intro s
  unfold repeatPme
  try dsimp only
  repeat' (first
    | with_reducible rfl
    | with_reducible refine (keeps_sendPme h_fns h_out _ _).trans ?_
    | with_reducible refine (erase_foldl (fun _ _ => ?_) _ _).trans ?_)

theorem keeps_lantFrame {L : Part → Bool} (h_lant : L .lant = true) (h_out : L .out = true) : ∀ span s0, erase L (lantFrame span s0) = erase L s0 := by
  intro span s0
  unfold lantFrame
  try dsimp only
  repeat' (first
    | with_reducible rfl
    | with_reducible refine (keeps_setExpired h_lant _).trans ?_
    | with_reducible refine (keeps_State_withLant h_lant _ _).trans ?_
    | with_reducible refine (keeps_clkEdges h_out _ _).trans ?_)

theorem keeps_nextFrame {L : Part → Bool} (h_regs : L .regs = true) (h_sched : L .sched = true) (h_fns : L .fns = true) (h_recov : L .recov = true) (h_mem : L .mem = true) (h_mail : L .mail = true) (h_intc : L .intc = true) (h_lant : L .lant = true) (h_meter : L .meter = true) (h_ports : L .ports = true) (h_camp : L .camp = true) (h_out : L .out = true) (h_free : L .free = true) : ∀ span s, erase L (nextFrame span s) = erase L s := by
  intro span s
  unfold nextFrame
  try dsimp only
  repeat' (first
    | with_reducible rfl
    | with_reducible refine (keeps_meterFrame h_meter _ _).trans ?_
    | with_reducible refine (keeps_frameLeases h_regs h_sched _).trans ?_
    | with_reducible refine (keeps_landMoves h_regs h_sched h_mem _ _).trans ?_
    | with_reducible refine (keeps_repeatPme h_fns h_out _).trans ?_
    | with_reducible refine (keeps_passTo h_regs h_sched h_mem h_meter h_free _ _).trans ?_
    | with_reducible refine (keeps_campFrame h_regs h_fns h_recov h_mail h_intc h_ports h_camp h_out h_free _).trans ?_
    | with_reducible refine (keeps_lantFrame h_lant h_out _ _).trans ?_
    | with_reducible refine (keeps_State_withSched h_sched _ _).trans ?_
    | with_reducible refine (keeps_readLists h_regs h_sched h_mem h_free _).trans ?_
    | with_reducible refine erase_cond ?_ ?_)

theorem keeps_heartbeatTick {L : Part → Bool} (h_power : L .power = true) : ∀ s, erase L (heartbeatTick s) = erase L s := by
  intro s
  unfold heartbeatTick
  try dsimp only
  repeat' (first
    | with_reducible rfl
    | with_reducible refine (keeps_State_withPower h_power _ _).trans ?_
    | with_reducible refine erase_cond ?_ ?_)

theorem keeps_lantAlone {L : Part → Bool} (h_lant : L .lant = true) (h_out : L .out = true) : ∀ span s0, erase L (lantAlone span s0) = erase L s0 := by
  intro span s0
  unfold lantAlone
  try dsimp only
  repeat' (first
    | with_reducible rfl
    | with_reducible refine (keeps_setExpired h_lant _).trans ?_
    | with_reducible refine (keeps_State_withLant h_lant _ _).trans ?_
    | with_reducible refine (keeps_clkEdges h_out _ _).trans ?_)

theorem keeps_stakeUpset {L : Part → Bool} (h_regs : L .regs = true) (h_sched : L .sched = true) : ∀ b w res s, erase L (stakeUpset b w res s) = erase L s := by
  intro b w res s
  unfold stakeUpset
  try dsimp only
  repeat' (first
    | with_reducible rfl
    | with_reducible refine (keeps_setBank h_sched _ _ _).trans ?_
    | with_reducible refine (keeps_satAdd h_regs _ _ _ _ _ _).trans ?_
    | with_reducible refine erase_cond ?_ ?_
    | split)

theorem keeps_storeUpset {L : Part → Bool} (h_cores : L .cores = true) : ∀ k m a v s, erase L (storeUpset k m a v s) = erase L s := by
  intro k m a v s
  unfold storeUpset
  try dsimp only
  repeat' (first
    | with_reducible rfl
    | with_reducible refine (keeps_State_setCore h_cores _ _ _).trans ?_)

theorem keeps_isquinUpset {L : Part → Bool} (h_regs : L .regs = true) (h_cores : L .cores = true) : ∀ k m w res s, erase L (isquinUpset k m w res s) = erase L s := by
  intro k m w res s
  unfold isquinUpset
  try dsimp only
  repeat' (first
    | with_reducible rfl
    | with_reducible refine (keeps_satAdd h_regs _ _ _ _ _ _).trans ?_
    | with_reducible refine (keeps_State_setCore h_cores _ _ _).trans ?_
    | with_reducible refine erase_cond ?_ ?_
    | split)

theorem keeps_upset {L : Part → Bool} (h_regs : L .regs = true) (h_sched : L .sched = true) (h_cores : L .cores = true) (h_mem : L .mem = true) : ∀ s x, erase L (upset s x) = erase L s := by
  intro s x
  unfold upset
  try dsimp only
  repeat' (first
    | with_reducible rfl
    | with_reducible refine (keeps_stakeUpset h_regs h_sched _ _ _ _).trans ?_
    | with_reducible refine (keeps_canopyUpset h_regs h_mem _ _ _).trans ?_
    | with_reducible refine (keeps_storeUpset h_cores _ _ _ _ _).trans ?_
    | with_reducible refine (keeps_isquinUpset h_regs h_cores _ _ _ _ _).trans ?_
    | with_reducible refine erase_cond ?_ ?_
    | split)

theorem keeps_frameStartS {L : Part → Bool} (h_regs : L .regs = true) (h_sched : L .sched = true) (h_fns : L .fns = true) (h_recov : L .recov = true) (h_cores : L .cores = true) (h_mem : L .mem = true) (h_mail : L .mail = true) (h_intc : L .intc = true) (h_lant : L .lant = true) (h_meter : L .meter = true) (h_ports : L .ports = true) (h_camp : L .camp = true) (h_trust : L .trust = true) (h_power : L .power = true) (h_out : L .out = true) (h_free : L .free = true) : ∀ span upsets s0, erase L (frameStartS span upsets s0) = erase L s0 := by
  intro span upsets s0
  unfold frameStartS
  try dsimp only
  repeat' (first
    | with_reducible rfl
    | with_reducible refine (keeps_nextFrame h_regs h_sched h_fns h_recov h_mem h_mail h_intc h_lant h_meter h_ports h_camp h_out h_free _ _).trans ?_
    | with_reducible refine (keeps_heartbeatTick h_power _).trans ?_
    | with_reducible refine (keeps_lantFrame h_lant h_out _ _).trans ?_
    | with_reducible refine (keeps_lantAlone h_lant h_out _ _).trans ?_
    | with_reducible refine (keeps_upset h_regs h_sched h_cores h_mem _ _).trans ?_
    | with_reducible refine (keeps_State_withSched h_sched _ _).trans ?_
    | with_reducible refine (keeps_readLists h_regs h_sched h_mem h_free _).trans ?_
    | with_reducible refine (keeps_endTrailhead h_regs h_lant h_meter h_camp h_trust h_free _).trans ?_
    | with_reducible refine (erase_foldl (fun _ _ => ?_) _ _).trans ?_
    | with_reducible refine erase_cond ?_ ?_)

theorem keeps_wakeInst {L : Part → Bool} (h_power : L .power = true) : ∀ s kind inst, erase L (wakeInst s kind inst) = erase L s := by
  intro s kind inst
  unfold wakeInst
  try dsimp only
  repeat' (first
    | with_reducible rfl
    | with_reducible refine (keeps_ddrTouch h_power _ _).trans ?_
    | with_reducible refine erase_cond ?_ ?_)

theorem keeps_spEcc {L : Part → Bool} (h_regs : L .regs = true) (h_mem : L .mem = true) : ∀ s p w res, erase L (spEcc s p w res) = erase L s := by
  intro s p w res
  unfold spEcc
  try dsimp only
  repeat' (first
    | with_reducible rfl
    | with_reducible refine (keeps_satAdd h_regs _ _ _ _ _ _).trans ?_
    | with_reducible refine (keeps_State_withMem h_mem _ _).trans ?_
    | with_reducible refine erase_cond ?_ ?_
    | split)

theorem keeps_restoreEntry {L : Part → Bool} (h_mem : L .mem = true) : ∀ s p i, erase L (restoreEntry s p i) = erase L s := by
  intro s p i
  unfold restoreEntry
  try dsimp only
  repeat' (first
    | with_reducible rfl
    | with_reducible refine (keeps_setShadow h_mem _ _ _ _).trans ?_
    | with_reducible refine (keeps_spStore h_mem _ _ _ _ _ _).trans ?_
    | with_reducible refine erase_cond ?_ ?_)

theorem keeps_restoreOne {L : Part → Bool} (h_mem : L .mem = true) : ∀ p s, erase L (restoreOne p s) = erase L s := by
  intro p s
  unfold restoreOne
  try dsimp only
  repeat' (first
    | with_reducible rfl
    | with_reducible refine (keeps_setTest h_mem _ _ _).trans ?_
    | with_reducible refine (keeps_restoreEntry h_mem _ _ _).trans ?_
    | with_reducible refine erase_cond ?_ ?_
    | split)

theorem keeps_laterWrite {L : Part → Bool} (h_sched : L .sched = true) : ∀ s c there r lease ks ports ds, erase L (laterWrite s c there r lease ks ports ds) = erase L s := by
  intro s c there r lease ks ports ds
  unfold laterWrite
  try dsimp only
  repeat' (first
    | with_reducible rfl
    | with_reducible refine (keeps_claimPorts h_sched _ _ _).trans ?_
    | with_reducible refine (keeps_addFlight h_sched _ _ _).trans ?_)

theorem keeps_writeWords {L : Part → Bool} (h_regs : L .regs = true) (h_sched : L .sched = true) (h_mem : L .mem = true) : ∀ s c ks ports ds, erase L (writeWords s c ks ports ds) = erase L s := by
  intro s c ks ports ds
  unfold writeWords
  try dsimp only
  repeat' (first
    | with_reducible rfl
    | with_reducible refine (keeps_claim h_sched _ _ _ _).trans ?_
    | with_reducible refine (keeps_portWrite h_regs h_sched h_mem _ _ _ _ _ _ _).trans ?_
    | with_reducible refine (erase_foldl (fun _ _ => ?_) _ _).trans ?_)

theorem keeps_takeLine {L : Part → Bool} (h_regs : L .regs = true) (h_sched : L .sched = true) (h_mem : L .mem = true) : ∀ s c x ports, erase L (takeLine s c x ports) = erase L s := by
  intro s c x ports
  unfold takeLine
  try dsimp only
  repeat' (first
    | with_reducible rfl
    | with_reducible refine (keeps_writeWords h_regs h_sched h_mem _ _ _ _ _).trans ?_
    | with_reducible refine (keeps_dropFlight h_sched _ _).trans ?_
    | with_reducible refine (keeps_State_withSched h_sched _ _).trans ?_)

theorem keeps_readWords {L : Part → Bool} (h_regs : L .regs = true) : ∀ s r ks, erase L (readWords s r ks) = erase L s := by
  intro s r ks
  unfold readWords
  try dsimp only
  repeat' (first
    | with_reducible rfl
    | with_reducible refine (keeps_spNote h_regs _ _ _ _).trans ?_
    | with_reducible refine (erase_foldl (fun _ _ => ?_) _ _).trans ?_
    | with_reducible refine erase_cond ?_ ?_)

theorem keeps_issueMove {L : Part → Bool} (h_regs : L .regs = true) (h_sched : L .sched = true) (h_mem : L .mem = true) : ∀ s r p c lease dir ws, erase L (issueMove s r p c lease dir ws) = erase L s := by
  intro s r p c lease dir ws
  unfold issueMove
  try dsimp only
  repeat' (first
    | with_reducible rfl
    | with_reducible refine (keeps_claimPorts h_sched _ _ _).trans ?_
    | with_reducible refine (keeps_laterWrite h_sched _ _ _ _ _ _ _ _).trans ?_
    | with_reducible refine (keeps_takeLine h_regs h_sched h_mem _ _ _ _).trans ?_
    | with_reducible refine (keeps_addFlight h_sched _ _ _).trans ?_
    | with_reducible refine (keeps_readWords h_regs _ _ _).trans ?_
    | with_reducible refine erase_cond ?_ ?_
    | split)

theorem keeps_takeHalf {L : Part → Bool} (h_sched : L .sched = true) : ∀ s f c src, erase L (takeHalf s f c src) = erase L s := by
  intro s f c src
  unfold takeHalf
  try dsimp only
  repeat' (first
    | with_reducible rfl
    | with_reducible refine (keeps_State_withSched h_sched _ _).trans ?_)

theorem keeps_hopData {L : Part → Bool} (h_sched : L .sched = true) (h_ports : L .ports = true) {s r inst c stake own ds t}
    (h : hopData s r inst c stake own = some (ds, t)) : erase L t = erase L s := by
  unfold hopData at h
  split at h
  · cases e : flightAt s (32 + inst) r.step c with
    | none => rw [e] at h; cases h
    | some x => rw [e] at h; cases h; exact keeps_dropFlight h_sched _ _
  · split at h
    · cases h; rfl
    · split at h
      · cases h; exact keeps_takeHalf h_sched _ _ _ _
      · split at h
        · cases e : nextHalf s (trafficPart s r stake) with
          | none => simp only [e] at h; cases h
          | some x => simp only [e] at h; cases h; exact erase_ports h_ports _ _
        · cases h

theorem keeps_issueHop {L : Part → Bool} (h_sched : L .sched = true) (h_ports : L .ports = true) : ∀ s r inst c stake d dst data,
    erase L (issueHop s r inst c stake d dst data) = erase L s := by
  intro s r inst c stake d dst data
  unfold issueHop
  split
  · rfl
  · have e := keeps_hopData (L := L) h_sched h_ports (by assumption)
    dsimp only
    repeat' (first
      | with_reducible rfl
      | with_reducible exact e
      | with_reducible refine (keeps_laterWrite h_sched _ _ _ _ _ _ _ _).trans ?_
      | with_reducible refine (keeps_addFlight h_sched _ _ _).trans ?_
      | with_reducible refine (keeps_claim h_sched _ _ _ _).trans ?_
      | with_reducible refine erase_cond ?_ ?_
      | split)

theorem keeps_issueWrite {L : Part → Bool} (h_regs : L .regs = true) (h_sched : L .sched = true) (h_prog : L .prog = true) (h_mem : L .mem = true) (h_ports : L .ports = true) (h_power : L .power = true) (h_out : L .out = true) : ∀ s r ch c l, erase L (issueWrite s r ch c l) = erase L s := by
  intro s r ch c l
  unfold issueWrite
  try dsimp only
  repeat' (first
    | with_reducible rfl
    | with_reducible refine (keeps_ddrWr h_mem _ _ _).trans ?_
    | with_reducible refine (keeps_guyWords h_regs h_ports _ _ _ _).trans ?_
    | with_reducible refine (keeps_ddrTouch h_power _ _).trans ?_
    | with_reducible refine (keeps_State_setCtx h_prog _ _ _).trans ?_
    | with_reducible refine (keeps_ddrAsk h_out _ _ _).trans ?_
    | with_reducible refine (keeps_dropFlight h_sched _ _).trans ?_
    | with_reducible refine (erase_foldl (fun _ _ => ?_) _ _).trans ?_
    | with_reducible refine erase_cond ?_ ?_)

theorem keeps_issueFetch {L : Part → Bool} (h_sched : L .sched = true) : ∀ s r kind inst c slots stake plan, erase L (issueFetch s r kind inst c slots stake plan) = erase L s := by
  intro s r kind inst c slots stake plan
  unfold issueFetch
  try dsimp only
  repeat' (first
    | with_reducible rfl
    | with_reducible refine (keeps_State_withSched h_sched _ _).trans ?_)

theorem keeps_refreshNow {L : Part → Bool} (h_sched : L .sched = true) (h_out : L .out = true) : ∀ s0 ch c, erase L (refreshNow s0 ch c) = erase L s0 := by
  intro s0 ch c
  unfold refreshNow
  try dsimp only
  repeat' (first
    | with_reducible rfl
    | with_reducible refine (keeps_claim h_sched _ _ _ _).trans ?_
    | with_reducible refine (keeps_emit h_out _ _).trans ?_
    | with_reducible refine (keeps_State_withSched h_sched _ _).trans ?_)

theorem keeps_issueSend {L : Part → Bool} (h_regs : L .regs = true) (h_sched : L .sched = true) (h_ports : L .ports = true) (h_out : L .out = true) : ∀ s r port c g ecc, erase L (issueSend s r port c g ecc) = erase L s := by
  intro s r port c g ecc
  unfold issueSend
  try dsimp only
  repeat' (first
    | with_reducible rfl
    | with_reducible refine (keeps_guyWord h_regs h_ports _ _ _ _).trans ?_
    | with_reducible refine (keeps_emit h_out _ _).trans ?_
    | with_reducible refine (keeps_dropFlight h_sched _ _).trans ?_
    | with_reducible refine erase_cond ?_ ?_
    | split)

theorem keeps_issueOp {L : Part → Bool} (h_regs : L .regs = true) (h_sched : L .sched = true) (h_prog : L .prog = true) (h_mem : L .mem = true) (h_ports : L .ports = true) (h_power : L .power = true) (h_out : L .out = true) : ∀ s r kind inst c stake, erase L (issueOp s r kind inst c stake) = erase L s := by
  intro s r kind inst c stake
  unfold issueOp
  try dsimp only
  repeat' (first
    | with_reducible rfl
    | with_reducible refine (keeps_guyWords h_regs h_ports _ _ _ _).trans ?_
    | with_reducible refine (keeps_spEcc h_regs h_mem _ _ _ _).trans ?_
    | with_reducible refine (keeps_State_setCtx h_prog _ _ _).trans ?_
    | with_reducible refine (keeps_restoreOne h_mem _ _).trans ?_
    | with_reducible refine (keeps_claim h_sched _ _ _ _).trans ?_
    | with_reducible refine (keeps_issueMove h_regs h_sched h_mem _ _ _ _ _ _ _).trans ?_
    | with_reducible refine (keeps_portWrite h_regs h_sched h_mem _ _ _ _ _ _ _).trans ?_
    | with_reducible refine (keeps_guyPort h_regs h_ports _ _ _).trans ?_
    | with_reducible refine (keeps_emit h_out _ _).trans ?_
    | with_reducible refine (keeps_issueHop h_sched h_ports _ _ _ _ _ _ _ _).trans ?_
    | with_reducible refine (keeps_readWords h_regs _ _ _).trans ?_
    | with_reducible refine (keeps_ddrTouch h_power _ _).trans ?_
    | with_reducible refine (keeps_issueWrite h_regs h_sched h_prog h_mem h_ports h_power h_out _ _ _ _ _).trans ?_
    | with_reducible refine (keeps_issueFetch h_sched _ _ _ _ _ _ _ _).trans ?_
    | with_reducible refine (keeps_ddrAsk h_out _ _ _).trans ?_
    | with_reducible refine (keeps_addFlight h_sched _ _ _).trans ?_
    | with_reducible refine (keeps_refreshNow h_sched h_out _ _ _).trans ?_
    | with_reducible refine (keeps_issueSend h_regs h_sched h_ports h_out _ _ _ _ _ _).trans ?_
    | split)

theorem keeps_runReq {L : Part → Bool} (h_regs : L .regs = true) (h_sched : L .sched = true) (h_prog : L .prog = true) (h_mem : L .mem = true) (h_meter : L .meter = true) (h_ports : L .ports = true) (h_power : L .power = true) (h_out : L .out = true) : ∀ s r kind inst c stake, erase L (runReq s r kind inst c stake) = erase L s := by
  intro s r kind inst c stake
  unfold runReq
  try dsimp only
  repeat' (first
    | with_reducible rfl
    | with_reducible refine (keeps_issueOp h_regs h_sched h_prog h_mem h_ports h_power h_out _ _ _ _ _ _).trans ?_
    | with_reducible refine (keeps_claimStake h_sched _ _ _).trans ?_
    | with_reducible refine (keeps_denyReq h_regs h_mem _ _ _ _).trans ?_
    | with_reducible refine (keeps_claim h_sched _ _ _ _).trans ?_
    | with_reducible refine (keeps_charge h_prog h_meter _ _ _ _ _).trans ?_
    | with_reducible refine (erase_foldl (fun _ _ => ?_) _ _).trans ?_
    | split)

theorem keeps_unholdLine {L : Part → Bool} (h_regs : L .regs = true) (h_sched : L .sched = true) (h_mem : L .mem = true) (h_meter : L .meter = true) : ∀ s c mover, erase L (unholdLine s c mover) = erase L s := by
  intro s c mover
  unfold unholdLine
  try dsimp only
  repeat' (first
    | with_reducible rfl
    | with_reducible refine (keeps_takeLine h_regs h_sched h_mem _ _ _ _).trans ?_
    | with_reducible refine (keeps_claim h_sched _ _ _ _).trans ?_
    | with_reducible refine (keeps_mFree h_meter _ _ _ _ _).trans ?_
    | with_reducible refine (erase_foldl (fun _ _ => ?_) _ _).trans ?_
    | split)

theorem keeps_grantOne {L : Part → Bool} (h_regs : L .regs = true) (h_sched : L .sched = true) (h_prog : L .prog = true) (h_mem : L .mem = true) (h_meter : L .meter = true) (h_ports : L .ports = true) (h_power : L .power = true) (h_out : L .out = true) : ∀ kind s inst, erase L (grantOne kind s inst) = erase L s := by
  intro kind s inst
  unfold grantOne
  try dsimp only
  repeat' (first
    | with_reducible rfl
    | with_reducible refine (keeps_wakeInst h_power _ _ _).trans ?_
    | with_reducible refine (keeps_runReq h_regs h_sched h_prog h_mem h_meter h_ports h_power h_out _ _ _ _ _ _).trans ?_
    | with_reducible refine (keeps_unholdLine h_regs h_sched h_mem h_meter _ _ _).trans ?_
    | with_reducible refine (keeps_State_withSched h_sched _ _).trans ?_
    | with_reducible refine erase_cond ?_ ?_
    | split)

theorem keeps_freeLaneS {L : Part → Bool} (h_regs : L .regs = true) (h_sched : L .sched = true) (h_prog : L .prog = true) (h_mem : L .mem = true) (h_meter : L .meter = true) (h_ports : L .ports = true) (h_power : L .power = true) (h_out : L .out = true) : ∀ kind inst reqs s, erase L (freeLaneS kind inst reqs s) = erase L s := by
  intro kind inst reqs s
  unfold freeLaneS
  try dsimp only
  repeat' (first
    | with_reducible rfl
    | with_reducible refine (keeps_grantOne h_regs h_sched h_prog h_mem h_meter h_ports h_power h_out _ _ _).trans ?_
    | with_reducible refine (keeps_State_withSched h_sched _ _).trans ?_
    | with_reducible refine (erase_foldl (fun _ _ => ?_) _ _).trans ?_)

theorem keeps_windowPort {L : Part → Bool} (h_sched : L .sched = true) (h_prog : L .prog = true) (h_meter : L .meter = true) {s k c w e} (h : windowPort s k c w = some e) : erase L e.2 = erase L s := by
  unfold windowPort at h
  dsimp only at h
  split at h
  · cases h; exact keeps_State_withSched h_sched _ _
  · split at h
    · cases h; exact (keeps_charge h_prog h_meter _ _ _ _ _).trans (keeps_claimStake h_sched _ _ _)
    · split at h
      · cases h
      · obtain ⟨_, _, rfl⟩ := Option.map_eq_some_iff.mp h
        exact (keeps_charge h_prog h_meter _ _ _ _ _).trans (keeps_claim h_sched _ _ _ _)

theorem keeps_rangerSlot {L : Part → Bool} (h_regs : L .regs = true) (h_sched : L .sched = true) (h_prog : L .prog = true) (h_meter : L .meter = true) (h_ports : L .ports = true) (h_out : L .out = true) {s c a wr t} (h : rangerSlot s c a wr = some t) : erase L t = erase L s := by
  unfold rangerSlot at h
  dsimp only at h
  split at h
  · cases h
  · split at h
    · cases h
      exact (keeps_charge h_prog h_meter _ _ _ _ _).trans ((keeps_guyWords h_regs h_ports _ _ _ _).trans
        ((keeps_ddrAsk h_out _ _ _).trans (keeps_claim h_sched _ _ _ _)))
    · cases h

theorem keeps_grantAccesses {L : Part → Bool} (h_regs : L .regs = true) (h_sched : L .sched = true) (h_prog : L .prog = true) (h_meter : L .meter = true) (h_ports : L .ports = true) (h_out : L .out = true) {k wr l} :
    ∀ {nw nd s m t x}, grantAccesses k wr nw nd l s = some (m, t, x) → erase L t = erase L s := by
  induction l with
  | nil => intro nw nd s m t x h; cases h; rfl
  | cons q l ih =>
    intro nw nd s m t x h
    have on : ∀ (r : Option (Acs × State)) nw' nd', (∀ e, r = some e → erase L e.2 = erase L s) →
        (r.bind fun e => (grantAccesses k wr nw' nd' l e.2).map fun t => (e.1 :: t.1, t.2)) = some (m, t, x) → erase L t = erase L s := by
      intro r nw' nd' hr hb
      obtain ⟨e, he, hb⟩ := Option.bind_eq_some_iff.mp hb
      obtain ⟨⟨m', t', x'⟩, hg, hc⟩ := Option.map_eq_some_iff.mp hb
      cases hc
      exact (ih hg).trans (hr e he)
    unfold grantAccesses at h
    by_cases hq : (if wr = true then q.wr else q.rd) = false
    · rw [if_pos hq] at h
      exact on _ _ _ (fun e he => by cases he; rfl) h
    · rw [if_neg hq] at h
      split at h
      · refine on _ _ _ (fun e he => ?_) h
        obtain ⟨e', he', rfl⟩ := Option.map_eq_some_iff.mp he
        exact keeps_windowPort h_sched h_prog h_meter he'
      · refine on _ _ _ (fun e he => ?_) h
        obtain ⟨e', he', rfl⟩ := Option.map_eq_some_iff.mp he
        exact keeps_rangerSlot h_regs h_sched h_prog h_meter h_ports h_out he'
      · exact on _ _ _ (fun e he => by cases he; rfl) h

theorem keeps_granted {L : Part → Bool} (h_regs : L .regs = true) (h_sched : L .sched = true) (h_prog : L .prog = true) (h_meter : L .meter = true) (h_ports : L .ports = true) (h_out : L .out = true) {s k l m t} (h : granted s k l = some (m, t)) : erase L t = erase L s := by
  unfold granted at h
  obtain ⟨⟨m1, t1, a, b⟩, h1, h2⟩ := Option.bind_eq_some_iff.mp h
  obtain ⟨⟨m2, t2, x⟩, h3, h4⟩ := Option.map_eq_some_iff.mp h2
  cases h4
  exact (keeps_grantAccesses h_regs h_sched h_prog h_meter h_ports h_out h3).trans (keeps_grantAccesses h_regs h_sched h_prog h_meter h_ports h_out h1)

theorem keeps_headSignedS {L : Part → Bool} (h_meter : L .meter = true) (h_free : L .free = true) : ∀ ok s, erase L (headSignedS ok s) = erase L s := by
  intro ok s
  unfold headSignedS
  try dsimp only
  repeat' (first
    | with_reducible rfl
    | with_reducible refine erase_cond ?_ ?_
    | split)
  all_goals with_reducible refine (erase_free h_free _ _).trans ?_
  all_goals repeat' (first
    | with_reducible rfl
    | with_reducible refine (keeps_State_withMeter h_meter _ _).trans ?_)

theorem keeps_hostRead {L : Part → Bool} (h_regs : L .regs = true) (h_mem : L .mem = true) : ∀ host m k a n s, erase L (hostRead host m k a n s).1 = erase L s := by
  intro host m k a n s
  unfold hostRead
  try dsimp only
  repeat' (first
    | with_reducible rfl
    | with_reducible refine (keeps_hostDenied h_regs h_mem (by assumption)).trans ?_
    | split)

theorem keeps_hostedLandedS {L : Part → Bool} (h_regs : L .regs = true) (h_fns : L .fns = true) (h_sqs : L .sqs = true) (h_cqs : L .cqs = true) (h_prog : L .prog = true) (h_recov : L .recov = true) (h_mem : L .mem = true) (h_ports : L .ports = true) (h_camp : L .camp = true) (h_power : L .power = true) (h_out : L .out = true) : ∀ c r cmd s, erase L (hostedLandedS c r cmd s) = erase L s := by
  intro c r cmd s
  unfold hostedLandedS
  try dsimp only
  repeat' (first
    | with_reducible rfl
    | with_reducible refine (keeps_fetchMore h_regs h_fns h_sqs h_cqs h_prog h_recov h_mem h_ports h_camp h_power h_out _ _).trans ?_
    | with_reducible refine (keeps_endProgram h_regs h_fns h_sqs h_cqs h_prog h_recov h_mem h_ports h_camp h_out _ _ _ _ _ _).trans ?_
    | with_reducible refine (keeps_State_setCtx h_prog _ _ _).trans ?_
    | with_reducible refine (keeps_undrain h_mem _ _).trans ?_
    | with_reducible refine (keeps_ddrNote h_regs _ _ _).trans ?_
    | with_reducible refine erase_cond ?_ ?_
    | split)

theorem keeps_idle {L : Part → Bool} (h_regs : L .regs = true) (h_sched : L .sched = true) (h_mem : L .mem = true) (h_meter : L .meter = true) (h_free : L .free = true) : ∀ s, erase L (idle s) = erase L s := by
  intro s
  unfold idle
  try dsimp only
  repeat' (first
    | with_reducible rfl
    | with_reducible refine (keeps_passTo h_regs h_sched h_mem h_meter h_free _ _).trans ?_
    | with_reducible refine erase_cond ?_ ?_)

theorem keeps_issueRing {L : Part → Bool} (h_regs : L .regs = true) (h_sqs : L .sqs = true) (h_recov : L .recov = true) (h_mem : L .mem = true) (h_ports : L .ports = true) (h_camp : L .camp = true) (h_out : L .out = true) : ∀ s fn slot x a4 fresh, erase L (issueRing s fn slot x a4 fresh) = erase L s := by
  intro s fn slot x a4 fresh
  unfold issueRing
  try dsimp only
  repeat' (first
    | with_reducible rfl
    | with_reducible refine (keeps_sqError h_regs h_sqs h_recov h_mem h_ports h_camp h_out _ _ _ _).trans ?_
    | with_reducible refine (keeps_updSq h_sqs _ _ _ _).trans ?_
    | with_reducible refine (keeps_undrain h_mem _ _).trans ?_
    | with_reducible refine (keeps_emit h_out _ _).trans ?_
    | with_reducible refine (keeps_hostDenied h_regs h_mem (by assumption)).trans ?_
    | with_reducible refine (erase_foldl (fun _ _ => ?_) _ _).trans ?_
    | with_reducible refine erase_cond ?_ ?_
    | split)

theorem keeps_indexLandedS {L : Part → Bool} (h_regs : L .regs = true) (h_sqs : L .sqs = true) (h_recov : L .recov = true) (h_mem : L .mem = true) (h_ports : L .ports = true) (h_camp : L .camp = true) (h_out : L .out = true) : ∀ fn slot r producer s, erase L (indexLandedS fn slot r producer s) = erase L s := by
  intro fn slot r producer s
  unfold indexLandedS
  try dsimp only
  repeat' (first
    | with_reducible rfl
    | with_reducible refine (keeps_issueRing h_regs h_sqs h_recov h_mem h_ports h_camp h_out _ _ _ _ _ _).trans ?_
    | with_reducible refine (keeps_sqError h_regs h_sqs h_recov h_mem h_ports h_camp h_out _ _ _ _).trans ?_
    | with_reducible refine (keeps_updSq h_sqs _ _ _ _).trans ?_
    | with_reducible refine (keeps_endRound h_regs h_sqs h_recov h_mem h_ports h_camp h_out _ _ _ _).trans ?_
    | with_reducible refine erase_cond ?_ ?_
    | split)

theorem keeps_internalSample {L : Part → Bool} (h_meter : L .meter = true) : ∀ raw s, erase L (internalSample raw s) = erase L s := by
  intro raw s
  unfold internalSample
  try dsimp only
  repeat' (first
    | with_reducible rfl
    | with_reducible refine (keeps_State_withMeter h_meter _ _).trans ?_)

theorem keeps_intervalS {L : Part → Bool} (h_meter : L .meter = true) : ∀ internal s, erase L (intervalS internal s) = erase L s := by
  intro internal s
  unfold intervalS
  try dsimp only
  repeat' (first
    | with_reducible rfl
    | with_reducible refine (keeps_internalSample h_meter _ _).trans ?_
    | with_reducible refine (keeps_shareEnergy h_meter _).trans ?_
    | with_reducible refine erase_cond ?_ ?_)

theorem keeps_takeTrap {L : Part → Bool} (h_regs : L .regs = true) (h_cores : L .cores = true) : ∀ s k t ret, erase L (takeTrap s k t ret) = erase L s := by
  intro s k t ret
  unfold takeTrap
  try dsimp only
  repeat' (first
    | with_reducible rfl
    | with_reducible refine (keeps_State_setCore h_cores _ _ _).trans ?_
    | with_reducible refine (keeps_countUncorr h_regs _ _).trans ?_
    | with_reducible refine erase_cond ?_ ?_)





theorem keeps_l1EntryS {L : Part → Bool} (h_ports : L .ports = true) : ∀ port s, erase L (l1EntryS port s) = erase L s := by
  intro port s
  unfold l1EntryS
  try dsimp only
  repeat' (first
    | with_reducible rfl
    | with_reducible refine (keeps_State_setPort h_ports _ _ _).trans ?_
    | with_reducible refine erase_cond ?_ ?_)

theorem keeps_landChecks {L : Part → Bool} (h_regs : L .regs = true) (h_recov : L .recov = true) (h_mem : L .mem = true) (h_ports : L .ports = true) (h_camp : L .camp = true) : ∀ fetch ecc words s, erase L (landChecks fetch ecc words s) = erase L s := by
  intro fetch ecc words s
  unfold landChecks
  try dsimp only
  repeat' (first
    | with_reducible rfl
    | with_reducible refine (keeps_ddrEcc h_regs h_recov h_mem h_camp _ _ _).trans ?_
    | with_reducible refine (keeps_guyWord h_regs h_ports _ _ _ _).trans ?_
    | with_reducible refine (keeps_ddrNote h_regs _ _ _).trans ?_
    | with_reducible refine (erase_foldl (fun _ _ => ?_) _ _).trans ?_
    | with_reducible refine erase_cond ?_ ?_
    | split)

theorem keeps_landS {L : Part → Bool} (h_regs : L .regs = true) (h_sched : L .sched = true) (h_mem : L .mem = true) (h_meter : L .meter = true) : ∀ id data ecc s, erase L (landS id data ecc s) = erase L s := by
  intro id data ecc s
  unfold landS
  try dsimp only
  repeat' (first
    | with_reducible rfl
    | with_reducible refine (keeps_settleMisses h_regs h_sched h_meter _ _).trans ?_
    | with_reducible refine (keeps_undrain h_mem _ _).trans ?_
    | with_reducible refine (keeps_State_withSched h_sched _ _).trans ?_)

theorem keeps_ppsSecond {L : Part → Bool} (h_lant : L .lant = true) : ∀ s i, erase L (ppsSecond s i) = erase L s := by
  intro s i
  unfold ppsSecond
  try dsimp only
  repeat' (first
    | with_reducible rfl
    | with_reducible refine (keeps_State_withLant h_lant _ _).trans ?_
    | with_reducible refine erase_cond ?_ ?_)

theorem keeps_secondStep {L : Part → Bool} (h_regs : L .regs = true) (h_intc : L .intc = true) (h_lant : L .lant = true) : ∀ s, erase L (secondStep s) = erase L s := by
  intro s
  unfold secondStep
  try dsimp only
  repeat' (first
    | with_reducible rfl
    | with_reducible refine (keeps_lantStep h_regs h_intc h_lant _ _).trans ?_
    | with_reducible refine (keeps_State_withLant h_lant _ _).trans ?_
    | split)

theorem keeps_noteRate {L : Part → Bool} (h_lant : L .lant = true) : ∀ s, erase L (noteRate s) = erase L s := by
  intro s
  unfold noteRate
  try dsimp only
  repeat' (first
    | with_reducible rfl
    | with_reducible refine (keeps_State_withLant h_lant _ _).trans ?_
    | with_reducible refine erase_cond ?_ ?_)

theorem keeps_sendTime {L : Part → Bool} (h_regs : L .regs = true) (h_ports : L .ports = true) (h_camp : L .camp = true) (h_out : L .out = true) : ∀ s, erase L (sendTime s) = erase L s := by
  intro s
  unfold sendTime
  try dsimp only
  repeat' (first
    | with_reducible rfl
    | with_reducible refine (keeps_State_withCamp h_camp _ _).trans ?_
    | with_reducible refine (keeps_campSend h_regs h_ports h_camp h_out _ _ _ _).trans ?_
    | with_reducible refine erase_cond ?_ ?_)

theorem keeps_lanternSecondS {L : Part → Bool} (h_regs : L .regs = true) (h_intc : L .intc = true) (h_lant : L .lant = true) (h_ports : L .ports = true) (h_camp : L .camp = true) (h_out : L .out = true) (h_free : L .free = true) : ∀ s, erase L (lanternSecondS s) = erase L s := by
  intro s
  unfold lanternSecondS
  try dsimp only
  repeat' (first
    | with_reducible rfl
    | with_reducible refine (keeps_ppsSecond h_lant _ _).trans ?_
    | with_reducible refine (keeps_reselect h_regs h_lant h_free _).trans ?_
    | with_reducible refine (keeps_secondStep h_regs h_intc h_lant _).trans ?_
    | with_reducible refine (keeps_noteRate h_lant _).trans ?_
    | with_reducible refine (keeps_sendTime h_regs h_ports h_camp h_out _).trans ?_
    | with_reducible refine (keeps_raise h_intc _ _).trans ?_)

theorem keeps_linkUpS {L : Part → Bool} (h_regs : L .regs = true) (h_fns : L .fns = true) (h_ports : L .ports = true) (h_free : L .free = true) : ∀ port rate width s, erase L (linkUpS port rate width s) = erase L s := by
  intro port rate width s
  unfold linkUpS
  try dsimp only
  repeat' (first
    | with_reducible rfl
    | with_reducible refine (keeps_State_setPort h_ports _ _ _).trans ?_
    | with_reducible refine (keeps_wf h_regs _ _ _ _ _ _ _).trans ?_
    | with_reducible refine (keeps_State_setFn h_fns _ _ _).trans ?_
    | with_reducible refine (keeps_showPort h_regs h_free _ _ _ _ _).trans ?_
    | with_reducible refine erase_cond ?_ ?_)

theorem keeps_marchStep {L : Part → Bool} (h_mem : L .mem = true) : ∀ p fails s, erase L (marchStep p fails s) = erase L s := by
  intro p fails s
  unfold marchStep
  try dsimp only
  repeat' (first
    | with_reducible rfl
    | with_reducible refine (keeps_setTest h_mem _ _ _).trans ?_
    | with_reducible refine (keeps_spStore h_mem _ _ _ _ _ _).trans ?_
    | with_reducible refine erase_cond ?_ ?_)

theorem keeps_measureSampleS {L : Part → Bool} (h_prog : L .prog = true) (h_power : L .power = true) (h_out : L .out = true) : ∀ c s, erase L (measureSampleS c s) = erase L s := by
  intro c s
  unfold measureSampleS
  try dsimp only
  repeat' (first
    | with_reducible rfl
    | with_reducible refine (keeps_wakePort h_power _ _).trans ?_
    | with_reducible refine (keeps_State_setCtx h_prog _ _ _).trans ?_
    | with_reducible refine (keeps_emit h_out _ _).trans ?_
    | with_reducible refine erase_cond ?_ ?_)

theorem keeps_mgmtReceivedS {L : Part → Bool} (h_regs : L .regs = true) (h_mem : L .mem = true) (h_ports : L .ports = true) : ∀ frame bad s, erase L (mgmtReceivedS frame bad s) = erase L s := by
  intro frame bad s
  unfold mgmtReceivedS
  try dsimp only
  repeat' (first
    | with_reducible rfl
    | with_reducible refine erase_cond ?_ ?_)
  all_goals with_reducible refine (erase_ports h_ports _ _).trans ?_
  all_goals repeat' (first
    | with_reducible rfl
    | with_reducible refine (keeps_ddrWr h_mem _ _ _).trans ?_
    | with_reducible refine (keeps_guyWords h_regs h_ports _ _ _ _).trans ?_
    | with_reducible refine (keeps_wf h_regs _ _ _ _ _ _ _).trans ?_)

theorem keeps_mgmtSentS {L : Part → Bool} (h_regs : L .regs = true) (h_mem : L .mem = true) (h_ports : L .ports = true) (h_out : L .out = true) : ∀ s, erase L (mgmtSentS s) = erase L s := by
  intro s
  unfold mgmtSentS
  try dsimp only
  repeat' (first
    | with_reducible rfl
    | with_reducible refine (keeps_mgmtExamine h_ports _).trans ?_
    | with_reducible refine erase_cond ?_ ?_
    | split)
  all_goals with_reducible refine (erase_ports h_ports _ _).trans ?_
  all_goals repeat' (first
    | with_reducible rfl
    | with_reducible refine (keeps_ddrWr h_mem _ _ _).trans ?_
    | with_reducible refine (keeps_guyWords h_regs h_ports _ _ _ _).trans ?_
    | with_reducible refine (keeps_wf h_regs _ _ _ _ _ _ _).trans ?_
    | with_reducible refine (keeps_ddrNote h_regs _ _ _).trans ?_
    | with_reducible refine (keeps_emit h_out _ _).trans ?_)

theorem keeps_queueLost {L : Part → Bool} (h_regs : L .regs = true) : ∀ s cq n, erase L (queueLost s cq n) = erase L s := by
  intro s cq n
  unfold queueLost
  try dsimp only
  repeat' (first
    | with_reducible rfl
    | with_reducible refine (keeps_wr h_regs _ _ _ _ _ _).trans ?_
    | with_reducible refine (keeps_wf h_regs _ _ _ _ _ _ _).trans ?_
    | with_reducible refine erase_cond ?_ ?_)

theorem keeps_migrateFailed {L : Part → Bool} (h_regs : L .regs = true) (h_intc : L .intc = true) : ∀ s n, erase L (migrateFailed s n) = erase L s := by
  intro s n
  unfold migrateFailed
  try dsimp only
  repeat' (first
    | with_reducible rfl
    | with_reducible refine (keeps_campFault h_regs _ _).trans ?_
    | with_reducible refine (keeps_wf h_regs _ _ _ _ _ _ _).trans ?_
    | with_reducible refine (keeps_raise h_intc _ _).trans ?_
    | with_reducible refine erase_cond ?_ ?_)

theorem keeps_restoreCq {L : Part → Bool} (h_cqs : L .cqs = true) (h_recov : L .recov = true) : ∀ r s fn slot v, erase L (restoreCq r s fn slot v) = erase L s := by
  intro r s fn slot v
  unfold restoreCq
  try dsimp only
  repeat' (first
    | with_reducible rfl
    | with_reducible refine (keeps_State_withRecov h_recov _ _).trans ?_
    | with_reducible refine (keeps_State_setCq h_cqs _ _ _ _).trans ?_)

theorem keeps_migrateCq {L : Part → Bool} (h_regs : L .regs = true) (h_cqs : L .cqs = true) (h_recov : L .recov = true) (h_intc : L .intc = true) (h_ports : L .ports = true) (h_camp : L .camp = true) (h_out : L .out = true) : ∀ m s k, erase L (migrateCq m s k) = erase L s := by
  intro m s k
  unfold migrateCq
  try dsimp only
  repeat' (first
    | with_reducible rfl
    | with_reducible refine (keeps_queueLost h_regs _ _ _).trans ?_
    | with_reducible refine (keeps_migrateFailed h_regs h_intc _ _).trans ?_
    | with_reducible refine (keeps_restoreCq h_cqs h_recov _ _ _ _ _).trans ?_
    | with_reducible refine (keeps_writeCqRec h_regs h_recov h_ports h_camp h_out _ _ _ _).trans ?_
    | with_reducible refine erase_cond ?_ ?_
    | split)

theorem keeps_migrateProg {L : Part → Bool} (h_regs : L .regs = true) (h_sqs : L .sqs = true) (h_recov : L .recov = true) (h_ports : L .ports = true) (h_camp : L .camp = true) (h_out : L .out = true) : ∀ fn slot s i, erase L (migrateProg fn slot s i) = erase L s := by
  intro fn slot s i
  unfold migrateProg
  try dsimp only
  repeat' (first
    | with_reducible rfl
    | with_reducible refine (keeps_updItem h_sqs _ _ _ _ _).trans ?_
    | with_reducible refine (keeps_putRecord h_regs h_recov h_ports h_camp h_out _ _ _ _ _).trans ?_
    | with_reducible refine erase_cond ?_ ?_
    | split)

theorem keeps_restoreDebt {L : Part → Bool} (h_regs : L .regs = true) (h_cqs : L .cqs = true) : ∀ fn slot s e, erase L (restoreDebt fn slot s e) = erase L s := by
  intro fn slot s e
  unfold restoreDebt
  try dsimp only
  repeat' (first
    | with_reducible rfl
    | with_reducible refine (keeps_satAdd h_regs _ _ _ _ _ _).trans ?_
    | with_reducible refine (keeps_updCq h_cqs _ _ _ _).trans ?_
    | with_reducible refine erase_cond ?_ ?_)

theorem keeps_restoreSq {L : Part → Bool} (h_regs : L .regs = true) (h_sqs : L .sqs = true) (h_cqs : L .cqs = true) (h_recov : L .recov = true) : ∀ r changed lost s fn slot v assign, erase L (restoreSq r changed lost s fn slot v assign) = erase L s := by
  intro r changed lost s fn slot v assign
  unfold restoreSq
  try dsimp only
  repeat' (first
    | with_reducible rfl
    | with_reducible refine (keeps_State_withRecov h_recov _ _).trans ?_
    | with_reducible refine (keeps_State_setSq h_sqs _ _ _ _).trans ?_
    | with_reducible refine (keeps_restoreDebt h_regs h_cqs _ _ _ _).trans ?_
    | with_reducible refine (erase_foldl (fun _ _ => ?_) _ _).trans ?_)

theorem keeps_migrateSq {L : Part → Bool} (h_regs : L .regs = true) (h_sqs : L .sqs = true) (h_cqs : L .cqs = true) (h_recov : L .recov = true) (h_intc : L .intc = true) (h_ports : L .ports = true) (h_camp : L .camp = true) (h_out : L .out = true) : ∀ m changed s k, erase L (migrateSq m changed s k) = erase L s := by
  intro m changed s k
  unfold migrateSq
  try dsimp only
  repeat' (first
    | with_reducible rfl
    | with_reducible refine (keeps_queueLost h_regs _ _ _).trans ?_
    | with_reducible refine (keeps_migrateFailed h_regs h_intc _ _).trans ?_
    | with_reducible refine (keeps_writeSqRec h_regs h_recov h_ports h_camp h_out _ _ _).trans ?_
    | with_reducible refine (keeps_updSq h_sqs _ _ _ _).trans ?_
    | with_reducible refine (keeps_restoreSq h_regs h_sqs h_cqs h_recov _ _ _ _ _ _ _ _).trans ?_
    | with_reducible refine (keeps_migrateProg h_regs h_sqs h_recov h_ports h_camp h_out _ _ _ _).trans ?_
    | with_reducible refine (keeps_putRecord h_regs h_recov h_ports h_camp h_out _ _ _ _ _).trans ?_
    | with_reducible refine (erase_foldl (fun _ _ => ?_) _ _).trans ?_
    | with_reducible refine erase_cond ?_ ?_
    | split)

theorem keeps_minuteCloseS {L : Part → Bool} (h_regs : L .regs = true) (h_intc : L .intc = true) (h_meter : L .meter = true) (h_trust : L .trust = true) : ∀ s, erase L (minuteCloseS s) = erase L s := by
  intro s
  unfold minuteCloseS
  try dsimp only
  repeat' (first
    | with_reducible rfl
    | with_reducible refine (keeps_closeMinute h_regs h_intc h_meter h_trust _ _ _ _ _).trans ?_
    | with_reducible refine erase_cond ?_ ?_)

theorem keeps_missionTick {L : Part → Bool} (h_regs : L .regs = true) (h_power : L .power = true) : ∀ hot s, erase L (missionTick hot s) = erase L s := by
  intro hot s
  unfold missionTick
  try dsimp only
  repeat' (first
    | with_reducible rfl
    | with_reducible refine (keeps_State_withPower h_power _ _).trans ?_
    | with_reducible refine (keeps_satAdd h_regs _ _ _ _ _ _).trans ?_
    | with_reducible refine erase_cond ?_ ?_)

theorem keeps_resend {L : Part → Bool} (h_out : L .out = true) : ∀ s e, erase L (resend s e) = erase L s := by
  intro s e
  unfold resend
  try dsimp only
  repeat' (first
    | with_reducible rfl
    | with_reducible refine (keeps_emit h_out _ _).trans ?_
    | with_reducible refine (erase_foldl (fun _ _ => ?_) _ _).trans ?_)

theorem keeps_nakReplayS {L : Part → Bool} (h_regs : L .regs = true) (h_fns : L .fns = true) (h_mail : L .mail = true) (h_intc : L .intc = true) (h_lant : L .lant = true) (h_ports : L .ports = true) (h_camp : L .camp = true) (h_out : L .out = true) (h_free : L .free = true) : ∀ seq s, erase L (nakReplayS seq s) = erase L s := by
  intro seq s
  unfold nakReplayS
  try dsimp only
  repeat' (first
    | with_reducible rfl
    | with_reducible refine (keeps_ackThrough h_regs h_ports h_camp h_out _ _).trans ?_
    | with_reducible refine (keeps_State_withCamp h_camp _ _).trans ?_
    | with_reducible refine (keeps_ploetDown h_regs h_fns h_mail h_intc h_lant h_ports h_camp h_out h_free _).trans ?_
    | with_reducible refine (keeps_campFault h_regs _ _).trans ?_
    | with_reducible refine (keeps_satAdd h_regs _ _ _ _ _ _).trans ?_
    | with_reducible refine (keeps_raise h_intc _ _).trans ?_
    | with_reducible refine (keeps_resend h_out _ _).trans ?_
    | with_reducible refine (erase_foldl (fun _ _ => ?_) _ _).trans ?_
    | with_reducible refine erase_cond ?_ ?_
    | split)

theorem keeps_nextStep {L : Part → Bool} (h_regs : L .regs = true) : ∀ s p, erase L (nextStep s p) = erase L s := by
  intro s p
  unfold nextStep
  try dsimp only
  repeat' (first
    | with_reducible rfl
    | with_reducible refine (keeps_wf h_regs _ _ _ _ _ _ _).trans ?_
    | with_reducible refine erase_cond ?_ ?_)

theorem keeps_noteDenial {L : Part → Bool} (h_regs : L .regs = true) (h_mem : L .mem = true) : ∀ s k l t, erase L (noteDenial s k l t) = erase L s := by
  intro s k l t
  unfold noteDenial
  try dsimp only
  repeat' (first
    | with_reducible rfl
    | with_reducible refine (keeps_deny h_regs h_mem _ _ _ _).trans ?_
    | with_reducible refine erase_cond ?_ ?_
    | split)

theorem keeps_noticeMsg {L : Part → Bool} (h_fns : L .fns = true) (h_mail : L .mail = true) (h_intc : L .intc = true) (h_ports : L .ports = true) (h_out : L .out = true) : ∀ m s, erase L (noticeMsg m s) = erase L s := by
  intro m s
  unfold noticeMsg
  try dsimp only
  repeat' (first
    | with_reducible rfl
    | with_reducible refine (keeps_arrive h_fns h_mail h_intc h_ports h_out _ _ _).trans ?_
    | with_reducible refine (keeps_State_setMbox h_mail _ _ _ _).trans ?_
    | with_reducible refine erase_cond ?_ ?_)

theorem keeps_otpWritten {L : Part → Bool} (h_trust : L .trust = true) : ∀ s op arg, erase L (otpWritten s op arg) = erase L s := by
  intro s op arg
  unfold otpWritten
  try dsimp only
  repeat' (first
    | with_reducible rfl
    | with_reducible refine (keeps_State_withTrust h_trust _ _).trans ?_
    | with_reducible refine (keeps_setKeySlot h_trust _ _ _).trans ?_
    | with_reducible refine erase_cond ?_ ?_)

theorem keeps_otpDoneS {L : Part → Bool} (h_regs : L .regs = true) (h_lant : L .lant = true) (h_trust : L .trust = true) : ∀ ok s, erase L (otpDoneS ok s) = erase L s := by
  intro ok s
  unfold otpDoneS
  try dsimp only
  repeat' (first
    | with_reducible rfl
    | with_reducible refine (keeps_otpWritten h_trust _ _ _).trans ?_
    | with_reducible refine (keeps_logEnd h_trust _ _).trans ?_
    | with_reducible refine (keeps_State_withTrust h_trust _ _).trans ?_
    | with_reducible refine (keeps_commitBegin h_lant h_trust _).trans ?_
    | with_reducible refine (keeps_otpResult h_regs _ _).trans ?_
    | with_reducible refine erase_cond ?_ ?_
    | split)



theorem keeps_passSkip {L : Part → Bool} (h_regs : L .regs = true) (h_sqs : L .sqs = true) (h_recov : L .recov = true) (h_mem : L .mem = true) (h_ports : L .ports = true) (h_camp : L .camp = true) (h_out : L .out = true) : ∀ s fn slot n h, erase L (passSkip s fn slot n h) = erase L s := by
  intro s fn slot n h
  unfold passSkip
  try dsimp only
  repeat' (first
    | with_reducible rfl
    | with_reducible refine (keeps_advanceConsumed h_regs h_sqs h_recov h_mem h_ports h_camp h_out _ _ _).trans ?_
    | with_reducible refine (keeps_settleAccept h_regs h_sqs h_recov h_mem h_ports h_camp h_out _ _ _).trans ?_
    | with_reducible refine (keeps_updSq h_sqs _ _ _ _).trans ?_)

theorem keeps_passSkips {L : Part → Bool} (h_regs : L .regs = true) (h_sqs : L .sqs = true) (h_mem : L .mem = true) : ∀ host fn slot a3 a4, erase L (passSkips host fn slot a3 a4) = erase L a4 := by
  intro host fn slot a3 a4
  revert host fn slot a4
  induction a3 with
  | zero =>
    intro host fn slot a4
    unfold passSkips
    try dsimp only
  | succ n ih =>
    intro host fn slot a4
    unfold passSkips
    try dsimp only
    repeat' (first
      | with_reducible rfl
      | with_reducible refine (keeps_State_setSq h_sqs _ _ _ _).trans ?_
      | with_reducible refine (ih _ _ _ _).trans ?_
      | with_reducible refine erase_cond ?_ ?_
      | split)

theorem keeps_patDoneS {L : Part → Bool} (h_regs : L .regs = true) (h_mem : L .mem = true) (h_free : L .free = true) : ∀ ch uncorr devs s, erase L (patDoneS ch uncorr devs s) = erase L s := by
  intro ch uncorr devs s
  unfold patDoneS
  try dsimp only
  repeat' (first
    | with_reducible rfl
    | with_reducible refine (keeps_wr h_regs _ _ _ _ _ _).trans ?_
    | with_reducible refine (keeps_patWrite h_mem h_free _ _ _).trans ?_
    | with_reducible refine (keeps_wf h_regs _ _ _ _ _ _ _).trans ?_
    | with_reducible refine (erase_foldl (fun _ _ => ?_) _ _).trans ?_
    | with_reducible refine erase_cond ?_ ?_)

theorem keeps_pauseReleaseS {L : Part → Bool} (h_regs : L .regs = true) (h_sqs : L .sqs = true) (h_recov : L .recov = true) (h_mem : L .mem = true) (h_ports : L .ports = true) (h_camp : L .camp = true) (h_out : L .out = true) : ∀ fn slot s, erase L (pauseReleaseS fn slot s) = erase L s := by
  intro fn slot s
  unfold pauseReleaseS
  try dsimp only
  repeat' (first
    | with_reducible rfl
    | with_reducible refine (keeps_startRound h_regs h_sqs h_recov h_mem h_ports h_camp h_out _ _ _).trans ?_
    | with_reducible refine erase_cond ?_ ?_
    | split)

theorem keeps_phaseError {L : Part → Bool} (h_regs : L .regs = true) (h_lant : L .lant = true) (h_free : L .free = true) : ∀ e partner s, erase L (phaseError e partner s) = erase L s := by
  intro e partner s
  unfold phaseError
  try dsimp only
  repeat' (first
    | with_reducible rfl
    | with_reducible refine (keeps_wf h_regs _ _ _ _ _ _ _).trans ?_
    | with_reducible refine (keeps_State_withLant h_lant _ _).trans ?_
    | with_reducible refine (keeps_freeRate h_regs h_free _).trans ?_
    | with_reducible refine erase_cond ?_ ?_)

theorem keeps_pinEdgeS {L : Part → Bool} (h_regs : L .regs = true) (h_prog : L .prog = true) (h_intc : L .intc = true) (h_ports : L .ports = true) : ∀ q i level stamp s, erase L (pinEdgeS q i level stamp s) = erase L s := by
  intro q i level stamp s
  unfold pinEdgeS
  try dsimp only
  repeat' (first
    | with_reducible rfl
    | with_reducible refine (keeps_State_setCtx h_prog _ _ _).trans ?_
    | with_reducible refine (keeps_State_setFieldPort h_ports _ _ _).trans ?_
    | with_reducible refine (keeps_guyWord h_regs h_ports _ _ _ _).trans ?_
    | with_reducible refine (keeps_raise h_intc _ _).trans ?_
    | with_reducible refine (erase_foldl (fun _ _ => ?_) _ _).trans ?_
    | with_reducible refine erase_cond ?_ ?_)

theorem keeps_pitchMem {L : Part → Bool} (h_sched : L .sched = true) (h_mem : L .mem = true) : ∀ s p, erase L (pitchMem s p) = erase L s := by
  intro s p
  unfold pitchMem
  try dsimp only
  repeat' (first
    | with_reducible rfl
    | with_reducible refine (keeps_State_withMem h_mem _ _).trans ?_
    | with_reducible refine (keeps_State_withSched h_sched _ _).trans ?_)

theorem keeps_pitchRegs {L : Part → Bool} (h_regs : L .regs = true) : ∀ s p, erase L (pitchRegs s p) = erase L s := by
  intro s p
  unfold pitchRegs
  try dsimp only
  repeat' (first
    | with_reducible rfl
    | with_reducible refine (keeps_wr h_regs _ _ _ _ _ _).trans ?_
    | with_reducible refine (erase_foldl (fun _ _ => ?_) _ _).trans ?_)

theorem keeps_routineCopy {L : Part → Bool} (h_regs : L .regs = true) : ∀ p s, erase L (routineCopy p s) = erase L s := by
  intro p s
  unfold routineCopy
  try dsimp only
  repeat' (first
    | with_reducible rfl
    | with_reducible refine (keeps_wr h_regs _ _ _ _ _ _).trans ?_
    | with_reducible refine (erase_foldl (fun _ _ => ?_) _ _).trans ?_
    | with_reducible refine erase_cond ?_ ?_)

theorem keeps_recoverIndex {L : Part → Bool} (h_regs : L .regs = true) (h_sqs : L .sqs = true) (h_recov : L .recov = true) (h_mem : L .mem = true) (h_ports : L .ports = true) (h_camp : L .camp = true) (h_out : L .out = true) : ∀ host s k, erase L (recoverIndex host s k) = erase L s := by
  intro host s k
  unfold recoverIndex
  try dsimp only
  repeat' (first
    | with_reducible rfl
    | with_reducible refine (keeps_passSkips h_regs h_sqs h_mem _ _ _ _ _).trans ?_
    | with_reducible refine (keeps_advanceConsumed h_regs h_sqs h_recov h_mem h_ports h_camp h_out _ _ _).trans ?_
    | with_reducible refine (keeps_oweIndex h_regs h_sqs h_recov h_mem h_ports h_camp h_out _ _ _ _).trans ?_
    | with_reducible refine erase_cond ?_ ?_)

theorem keeps_recoverInterrupt {L : Part → Bool} (h_regs : L .regs = true) (h_fns : L .fns = true) (h_cqs : L .cqs = true) (h_recov : L .recov = true) (h_mem : L .mem = true) (h_ports : L .ports = true) (h_out : L .out = true) : ∀ s k, erase L (recoverInterrupt s k) = erase L s := by
  intro s k
  unfold recoverInterrupt
  try dsimp only
  repeat' (first
    | with_reducible rfl
    | with_reducible refine (keeps_State_withRecov h_recov _ _).trans ?_
    | with_reducible refine (keeps_cqInterrupt h_regs h_fns h_cqs h_mem h_ports h_out _ _ _).trans ?_
    | with_reducible refine erase_cond ?_ ?_)

theorem keeps_settleHeader {L : Part → Bool} (h_regs : L .regs = true) (h_recov : L .recov = true) (h_ports : L .ports = true) (h_camp : L .camp = true) (h_out : L .out = true) : ∀ s, erase L (settleHeader s) = erase L s := by
  intro s
  unfold settleHeader
  try dsimp only
  repeat' (first
    | with_reducible rfl
    | with_reducible refine (keeps_State_withRecov h_recov _ _).trans ?_
    | with_reducible refine (keeps_writeHeader h_regs h_recov h_ports h_camp h_out _).trans ?_
    | with_reducible refine erase_cond ?_ ?_)

theorem keeps_postRewrites {L : Part → Bool} (h_regs : L .regs = true) (h_sqs : L .sqs = true) (h_cqs : L .cqs = true) (h_recov : L .recov = true) (h_mem : L .mem = true) (h_meter : L .meter = true) (h_ports : L .ports = true) (h_camp : L .camp = true) (h_out : L .out = true) : ∀ fn slot a2 a3, erase L (postRewrites fn slot a2 a3) = erase L a3 := by
  intro fn slot a2 a3
  revert fn slot a3
  induction a2 with
  | zero =>
    intro fn slot a3
    unfold postRewrites
    try dsimp only
  | succ n ih =>
    intro fn slot a3
    unfold postRewrites
    try dsimp only
    repeat' (first
      | with_reducible rfl
      | with_reducible refine (keeps_postOne h_regs h_sqs h_cqs h_recov h_mem h_meter h_ports h_camp h_out _ _ _ _).trans ?_
      | with_reducible refine (ih _ _ _).trans ?_
      | with_reducible refine erase_cond ?_ ?_
      | split)

theorem keeps_recoverScan {L : Part → Bool} (h_regs : L .regs = true) (h_sqs : L .sqs = true) (h_recov : L .recov = true) (h_mem : L .mem = true) (h_ports : L .ports = true) (h_camp : L .camp = true) (h_out : L .out = true) : ∀ s k, erase L (recoverScan s k) = erase L s := by
  intro s k
  unfold recoverScan
  try dsimp only
  repeat' (first
    | with_reducible rfl
    | with_reducible refine (keeps_State_withRecov h_recov _ _).trans ?_
    | with_reducible refine (keeps_startRound h_regs h_sqs h_recov h_mem h_ports h_camp h_out _ _ _).trans ?_
    | with_reducible refine erase_cond ?_ ?_)

theorem keeps_recoverEnd {L : Part → Bool} (h_regs : L .regs = true) (h_fns : L .fns = true) (h_sqs : L .sqs = true) (h_cqs : L .cqs = true) (h_prog : L .prog = true) (h_recov : L .recov = true) (h_ports : L .ports = true) (h_camp : L .camp = true) (h_out : L .out = true) : ∀ fn slot i e s, erase L (recoverEnd fn slot i e s) = erase L s := by
  intro fn slot i e s
  unfold recoverEnd
  try dsimp only
  repeat' (first
    | with_reducible rfl
    | with_reducible refine (keeps_decideItem h_regs h_fns h_sqs h_cqs h_prog h_recov h_ports h_camp h_out _ _ _ _ _).trans ?_
    | with_reducible refine (keeps_updItem h_sqs _ _ _ _ _).trans ?_)

theorem keeps_tableDescs {L : Part → Bool} (h_regs : L .regs = true) (h_mem : L .mem = true) : ∀ host m a a3 a4, erase L (tableDescs host m a a3 a4).1 = erase L a4 := by
  intro host m a a3 a4
  revert host m a a4
  induction a3 with
  | zero =>
    intro host m a a4
    unfold tableDescs
    try dsimp only
  | succ n ih =>
    intro host m a a4
    unfold tableDescs
    try dsimp only
    repeat' (first
      | with_reducible rfl
      | with_reducible refine (keeps_hostRead h_regs h_mem _ _ _ _ _ _).trans ?_
      | with_reducible refine (ih _ _ _ _).trans ?_
      | split
      | with_reducible refine (erase_of_fst (by assumption)).trans ?_)

theorem keeps_readFrags {L : Part → Bool} (h_regs : L .regs = true) (h_mem : L .mem = true) : ∀ host m a2 a3 a4 a5, erase L (readFrags host m a2 a3 a4 a5).1 = erase L a5 := by
  intro host m a2 a3 a4 a5
  revert host m a3 a4 a5
  induction a2 with
  | zero =>
    intro host m a3 a4 a5
    unfold readFrags
    try dsimp only
  | succ n ih =>
    intro host m a3 a4 a5
    unfold readFrags
    try dsimp only
    repeat' (first
      | with_reducible rfl
      | with_reducible refine (keeps_tableDescs h_regs h_mem _ _ _ _ _).trans ?_
      | with_reducible refine (ih _ _ _ _ _).trans ?_
      | split
      | with_reducible refine (erase_of_fst (by assumption)).trans ?_)

theorem keeps_ringUnits {L : Part → Bool} (h_regs : L .regs = true) (h_mem : L .mem = true) : ∀ host fn slot a3 a4 a5, erase L (ringUnits host fn slot a3 a4 a5).1 = erase L a5 := by
  intro host fn slot a3 a4 a5
  revert host fn slot a4 a5
  induction a3 with
  | zero =>
    intro host fn slot a4 a5
    unfold ringUnits
    try dsimp only
  | succ n ih =>
    intro host fn slot a4 a5
    unfold ringUnits
    try dsimp only
    repeat' (first
      | with_reducible rfl
      | with_reducible refine (keeps_hostRead h_regs h_mem _ _ _ _ _ _).trans ?_
      | with_reducible refine (ih _ _ _ _ _).trans ?_
      | split
      | with_reducible refine (erase_of_fst (by assumption)).trans ?_)

theorem keeps_rereadEntry {L : Part → Bool} (h_regs : L .regs = true) (h_mem : L .mem = true) : ∀ host fn slot i s, erase L (rereadEntry host fn slot i s).1 = erase L s := by
  intro host fn slot i s
  unfold rereadEntry
  try dsimp only
  repeat' (first
    | with_reducible rfl
    | with_reducible refine (keeps_readFrags h_regs h_mem _ _ _ _ _ _).trans ?_
    | with_reducible refine (keeps_ringUnits h_regs h_mem _ _ _ _ _ _).trans ?_
    | split
    | with_reducible refine (erase_of_fst (by assumption)).trans ?_)

theorem keeps_recoverFrom {L : Part → Bool} (h_regs : L .regs = true) (h_fns : L .fns = true) (h_sqs : L .sqs = true) (h_cqs : L .cqs = true) (h_prog : L .prog = true) (h_recov : L .recov = true) (h_mem : L .mem = true) (h_ports : L .ports = true) (h_camp : L .camp = true) (h_out : L .out = true) : ∀ host fn slot i changed lost c0 r s, erase L (recoverFrom host fn slot i changed lost c0 r s) = erase L s := by
  intro host fn slot i changed lost c0 r s
  unfold recoverFrom
  try dsimp only
  repeat' (first
    | with_reducible rfl
    | with_reducible refine (keeps_recoverEnd h_regs h_fns h_sqs h_cqs h_prog h_recov h_ports h_camp h_out _ _ _ _ _).trans ?_
    | with_reducible refine (keeps_updItem h_sqs _ _ _ _ _).trans ?_
    | with_reducible refine (keeps_chainAgain h_regs h_mem _ _ _ _ _ _).trans ?_
    | with_reducible refine erase_cond ?_ ?_)

theorem keeps_recoverEntry {L : Part → Bool} (h_regs : L .regs = true) (h_fns : L .fns = true) (h_sqs : L .sqs = true) (h_cqs : L .cqs = true) (h_prog : L .prog = true) (h_recov : L .recov = true) (h_mem : L .mem = true) (h_ports : L .ports = true) (h_camp : L .camp = true) (h_out : L .out = true) : ∀ host fn slot s i, erase L (recoverEntry host fn slot s i) = erase L s := by
  intro host fn slot s i
  unfold recoverEntry
  try dsimp only
  repeat' (first
    | with_reducible rfl
    | with_reducible refine (keeps_recoverEnd h_regs h_fns h_sqs h_cqs h_prog h_recov h_ports h_camp h_out _ _ _ _ _).trans ?_
    | with_reducible refine (keeps_rereadEntry h_regs h_mem _ _ _ _ _).trans ?_
    | with_reducible refine (keeps_updItem h_sqs _ _ _ _ _).trans ?_
    | with_reducible refine (keeps_recoverFrom h_regs h_fns h_sqs h_cqs h_prog h_recov h_mem h_ports h_camp h_out _ _ _ _ _ _ _ _ _).trans ?_
    | with_reducible refine erase_cond ?_ ?_
    | split
    | with_reducible refine (erase_of_fst (by assumption)).trans ?_)

theorem keeps_recoverEntries {L : Part → Bool} (h_regs : L .regs = true) (h_fns : L .fns = true) (h_sqs : L .sqs = true) (h_cqs : L .cqs = true) (h_prog : L .prog = true) (h_recov : L .recov = true) (h_mem : L .mem = true) (h_ports : L .ports = true) (h_camp : L .camp = true) (h_out : L .out = true) : ∀ host s k, erase L (recoverEntries host s k) = erase L s := by
  intro host s k
  unfold recoverEntries
  try dsimp only
  repeat' (first
    | with_reducible rfl
    | with_reducible refine (keeps_recoverEntry h_regs h_fns h_sqs h_cqs h_prog h_recov h_mem h_ports h_camp h_out _ _ _ _ _).trans ?_
    | with_reducible refine (erase_foldl (fun _ _ => ?_) _ _).trans ?_
    | with_reducible refine erase_cond ?_ ?_)

theorem keeps_recoverSteps {L : Part → Bool} (h_regs : L .regs = true) (h_fns : L .fns = true) (h_sqs : L .sqs = true) (h_cqs : L .cqs = true) (h_prog : L .prog = true) (h_recov : L .recov = true) (h_mem : L .mem = true) (h_meter : L .meter = true) (h_ports : L .ports = true) (h_camp : L .camp = true) (h_out : L .out = true) : ∀ host s, erase L (recoverSteps host s) = erase L s := by
  intro host s
  unfold recoverSteps
  try dsimp only
  repeat' (first
    | with_reducible rfl
    | with_reducible refine (keeps_recoverIndex h_regs h_sqs h_recov h_mem h_ports h_camp h_out _ _ _).trans ?_
    | with_reducible refine (keeps_recoverInterrupt h_regs h_fns h_cqs h_recov h_mem h_ports h_out _ _).trans ?_
    | with_reducible refine (keeps_settleHeader h_regs h_recov h_ports h_camp h_out _).trans ?_
    | with_reducible refine (keeps_postRewrites h_regs h_sqs h_cqs h_recov h_mem h_meter h_ports h_camp h_out _ _ _ _).trans ?_
    | with_reducible refine (keeps_recoverScan h_regs h_sqs h_recov h_mem h_ports h_camp h_out _ _).trans ?_
    | with_reducible refine (keeps_recoverEntries h_regs h_fns h_sqs h_cqs h_prog h_recov h_mem h_ports h_camp h_out _ _ _).trans ?_
    | with_reducible refine (erase_foldl (fun _ _ => ?_) _ _).trans ?_)

theorem keeps_recoverOn {L : Part → Bool} (h_regs : L .regs = true) (h_fns : L .fns = true) (h_sqs : L .sqs = true) (h_cqs : L .cqs = true) (h_prog : L .prog = true) (h_recov : L .recov = true) (h_cores : L .cores = true) (h_mem : L .mem = true) (h_meter : L .meter = true) (h_ports : L .ports = true) (h_camp : L .camp = true) (h_out : L .out = true) : ∀ host kind s, erase L (recoverOn host kind s) = erase L s := by
  intro host kind s
  unfold recoverOn
  try dsimp only
  repeat' (first
    | with_reducible rfl
    | with_reducible refine (keeps_applyHeld h_regs h_fns h_sqs h_cqs h_prog h_recov h_cores h_mem h_ports h_camp h_out _).trans ?_
    | with_reducible refine (keeps_recoverSteps h_regs h_fns h_sqs h_cqs h_prog h_recov h_mem h_meter h_ports h_camp h_out _ _).trans ?_
    | with_reducible refine (keeps_recoveryEnded h_regs _ _).trans ?_
    | split)

theorem keeps_rehome {L : Part → Bool} (h_regs : L .regs = true) (h_sqs : L .sqs = true) (h_recov : L .recov = true) (h_ports : L .ports = true) (h_camp : L .camp = true) (h_out : L .out = true) : ∀ p s k, erase L (rehome p s k) = erase L s := by
  intro p s k
  unfold rehome
  try dsimp only
  repeat' (first
    | with_reducible rfl
    | with_reducible refine (keeps_writeSqRec h_regs h_recov h_ports h_camp h_out _ _ _).trans ?_
    | with_reducible refine (keeps_updSq h_sqs _ _ _ _).trans ?_
    | with_reducible refine erase_cond ?_ ?_)

theorem keeps_pitchResetS {L : Part → Bool} (h_regs : L .regs = true) (h_sched : L .sched = true) (h_fns : L .fns = true) (h_sqs : L .sqs = true) (h_cqs : L .cqs = true) (h_prog : L .prog = true) (h_recov : L .recov = true) (h_cores : L .cores = true) (h_mem : L .mem = true) (h_mail : L .mail = true) (h_intc : L .intc = true) (h_meter : L .meter = true) (h_ports : L .ports = true) (h_camp : L .camp = true) (h_power : L .power = true) (h_out : L .out = true) : ∀ p host s, erase L (pitchResetS p host s) = erase L s := by
  intro p host s
  unfold pitchResetS
  try dsimp only
  repeat' (first
    | with_reducible rfl
    | with_reducible refine (keeps_clearScratch h_mem _ _ _).trans ?_
    | with_reducible refine (keeps_routineCopy h_regs _ _).trans ?_
    | with_reducible refine (keeps_recoverOn h_regs h_fns h_sqs h_cqs h_prog h_recov h_cores h_mem h_meter h_ports h_camp h_out _ _ _).trans ?_
    | with_reducible refine (keeps_agentsReset h_regs h_fns h_mail h_intc h_ports h_camp h_out _ _).trans ?_
    | with_reducible refine (keeps_stopCtx h_sqs h_prog h_cores h_mem h_out _ _ _).trans ?_
    | with_reducible refine (keeps_pitchMem h_sched h_mem _ _).trans ?_
    | with_reducible refine (keeps_State_withProg h_prog _ _).trans ?_
    | with_reducible refine (keeps_wf h_regs _ _ _ _ _ _ _).trans ?_
    | with_reducible refine (keeps_loadCore h_cores _ _).trans ?_
    | with_reducible refine (keeps_rehome h_regs h_sqs h_recov h_ports h_camp h_out _ _ _).trans ?_
    | with_reducible refine (keeps_againWaiting h_sqs _ _ _).trans ?_
    | with_reducible refine (keeps_libCopy h_mem _ _).trans ?_
    | with_reducible refine (keeps_pitchRegs h_regs _ _).trans ?_
    | with_reducible refine (erase_foldl (fun _ _ => ?_) _ _).trans ?_
    | with_reducible refine erase_cond ?_ ?_
    | split)
  all_goals with_reducible refine (erase_power h_power _ _).trans ?_
  all_goals repeat' (first
    | with_reducible rfl
    | with_reducible refine (keeps_clearScratch h_mem _ _ _).trans ?_
    | with_reducible refine (keeps_routineCopy h_regs _ _).trans ?_
    | with_reducible refine (keeps_agentsReset h_regs h_fns h_mail h_intc h_ports h_camp h_out _ _).trans ?_
    | with_reducible refine (keeps_stopCtx h_sqs h_prog h_cores h_mem h_out _ _ _).trans ?_
    | with_reducible refine (keeps_pitchMem h_sched h_mem _ _).trans ?_
    | with_reducible refine (keeps_State_withProg h_prog _ _).trans ?_
    | with_reducible refine (keeps_wf h_regs _ _ _ _ _ _ _).trans ?_
    | with_reducible refine (keeps_loadCore h_cores _ _).trans ?_
    | with_reducible refine (keeps_rehome h_regs h_sqs h_recov h_ports h_camp h_out _ _ _).trans ?_
    | with_reducible refine (keeps_againWaiting h_sqs _ _ _).trans ?_
    | with_reducible refine (keeps_libCopy h_mem _ _).trans ?_
    | with_reducible refine (keeps_pitchRegs h_regs _ _).trans ?_
    | with_reducible refine (erase_foldl (fun _ _ => ?_) _ _).trans ?_)
  all_goals with_reducible refine (erase_power h_power _ _).trans ?_
  all_goals with_reducible rfl

theorem keeps_ploetUpS {L : Part → Bool} (h_regs : L .regs = true) (h_ports : L .ports = true) (h_camp : L .camp = true) (h_out : L .out = true) (h_free : L .free = true) : ∀ x4 matched s, erase L (ploetUpS x4 matched s) = erase L s := by
  intro x4 matched s
  unfold ploetUpS
  try dsimp only
  repeat' (first
    | with_reducible rfl
    | with_reducible refine (keeps_State_withCamp h_camp _ _).trans ?_
    | with_reducible refine (keeps_campFault h_regs _ _).trans ?_
    | with_reducible refine (keeps_satAdd h_regs _ _ _ _ _ _).trans ?_
    | with_reducible refine (keeps_ploetShow h_regs h_free _ _ _).trans ?_
    | with_reducible refine (keeps_startResync h_regs h_ports h_camp h_out _).trans ?_
    | with_reducible refine erase_cond ?_ ?_)

theorem keeps_postMigrated {L : Part → Bool} (h_regs : L .regs = true) (h_fns : L .fns = true) (h_cqs : L .cqs = true) (h_prog : L .prog = true) (h_recov : L .recov = true) (h_ports : L .ports = true) (h_camp : L .camp = true) (h_out : L .out = true) : ∀ fn slot s, erase L (postMigrated fn slot s) = erase L s := by
  intro fn slot s
  unfold postMigrated
  try dsimp only
  repeat' (first
    | with_reducible rfl
    | with_reducible refine (keeps_writeCqRec h_regs h_recov h_ports h_camp h_out _ _ _ _).trans ?_
    | with_reducible refine (keeps_updCq h_cqs _ _ _ _).trans ?_
    | with_reducible refine (keeps_queuePost h_fns h_cqs h_prog h_out _ _ _ _).trans ?_
    | split)

theorem keeps_powerOnS {L : Part → Bool} (h_regs : L .regs = true) (h_sched : L .sched = true) (h_fns : L .fns = true) (h_sqs : L .sqs = true) (h_cqs : L .cqs = true) (h_prog : L .prog = true) (h_recov : L .recov = true) (h_cores : L .cores = true) (h_mem : L .mem = true) (h_mail : L .mail = true) (h_intc : L .intc = true) (h_lant : L .lant = true) (h_meter : L .meter = true) (h_ports : L .ports = true) (h_camp : L .camp = true) (h_trust : L .trust = true) (h_power : L .power = true) (h_out : L .out = true) (h_free : L .free = true) : ∀ ms dimms s, erase L (powerOnS ms dimms s) = erase L s := by
  intro ms dimms s
  unfold powerOnS
  try dsimp only
  repeat' (first
    | with_reducible rfl
    | with_reducible refine (keeps_coldBase h_regs h_sched h_fns h_sqs h_cqs h_prog h_recov h_cores h_mem h_mail h_intc h_lant h_meter h_ports h_camp h_trust h_power h_free _).trans ?_
    | with_reducible refine (keeps_wf h_regs _ _ _ _ _ _ _).trans ?_
    | with_reducible refine (keeps_trainDdr h_regs _ _).trans ?_
    | with_reducible refine (keeps_trailhead h_regs h_sched h_prog h_recov h_cores h_mem h_intc h_lant h_ports h_camp h_trust h_power h_out h_free _ _ _).trans ?_
    | with_reducible refine erase_cond ?_ ?_)

theorem keeps_ppsEdgeS {L : Part → Bool} (h_regs : L .regs = true) (h_intc : L .intc = true) (h_lant : L .lant = true) (h_free : L .free = true) : ∀ i cap s, erase L (ppsEdgeS i cap s) = erase L s := by
  intro i cap s
  unfold ppsEdgeS
  try dsimp only
  repeat' (first
    | with_reducible rfl
    | with_reducible refine (keeps_wr h_regs _ _ _ _ _ _).trans ?_
    | with_reducible refine (keeps_lantStep h_regs h_intc h_lant _ _).trans ?_
    | with_reducible refine (keeps_reselect h_regs h_lant h_free _).trans ?_
    | with_reducible refine (keeps_wf h_regs _ _ _ _ _ _ _).trans ?_
    | with_reducible refine (keeps_phaseError h_regs h_lant h_free _ _ _).trans ?_
    | with_reducible refine (keeps_raise h_intc _ _).trans ?_
    | with_reducible refine (keeps_State_withLant h_lant _ _).trans ?_
    | with_reducible refine erase_cond ?_ ?_
    | split)

theorem keeps_ppsOutS {L : Part → Bool} (h_out : L .out = true) : ∀ i s, erase L (ppsOutS i s) = erase L s := by
  intro i s
  unfold ppsOutS
  try dsimp only
  repeat' (first
    | with_reducible rfl
    | with_reducible refine (keeps_emit h_out _ _).trans ?_
    | with_reducible refine erase_cond ?_ ?_)

theorem keeps_ptmS {L : Part → Bool} (h_out : L .out = true) : ∀ port stamp s, erase L (ptmS port stamp s) = erase L s := by
  intro port stamp s
  unfold ptmS
  try dsimp only
  repeat' (first
    | with_reducible rfl
    | with_reducible refine (keeps_emit h_out _ _).trans ?_
    | with_reducible refine erase_cond ?_ ?_)

theorem keeps_ptpEventS {L : Part → Bool} (h_out : L .out = true) : ∀ a0 tx stamp s, erase L (ptpEventS a0 tx stamp s) = erase L s := by
  intro a0 tx stamp s
  unfold ptpEventS
  try dsimp only
  repeat' (first
    | with_reducible rfl
    | with_reducible refine (keeps_emit h_out _ _).trans ?_
    | with_reducible refine erase_cond ?_ ?_)

theorem keeps_pwrgoodFallS {L : Part → Bool} (h_regs : L .regs = true) (h_sched : L .sched = true) (h_fns : L .fns = true) (h_sqs : L .sqs = true) (h_cqs : L .cqs = true) (h_prog : L .prog = true) (h_recov : L .recov = true) (h_cores : L .cores = true) (h_mem : L .mem = true) (h_mail : L .mail = true) (h_intc : L .intc = true) (h_lant : L .lant = true) (h_meter : L .meter = true) (h_ports : L .ports = true) (h_camp : L .camp = true) (h_trust : L .trust = true) (h_power : L .power = true) (h_free : L .free = true) : ∀ s, erase L (pwrgoodFallS s) = erase L s := by
  intro s
  unfold pwrgoodFallS
  try dsimp only
  repeat' (first
    | with_reducible rfl
    | with_reducible refine (keeps_coldBase h_regs h_sched h_fns h_sqs h_cqs h_prog h_recov h_cores h_mem h_mail h_intc h_lant h_meter h_ports h_camp h_trust h_power h_free _).trans ?_
    | with_reducible refine (keeps_State_withPower h_power _ _).trans ?_)

theorem keeps_rcdParityS {L : Part → Bool} (h_out : L .out = true) : ∀ ch s, erase L (rcdParityS ch s) = erase L s := by
  intro ch s
  unfold rcdParityS
  try dsimp only
  repeat' (first
    | with_reducible rfl
    | with_reducible refine (keeps_emit h_out _ _).trans ?_
    | with_reducible refine erase_cond ?_ ?_)

theorem keeps_reach {L : Part → Bool} (h_regs : L .regs = true) (h_sched : L .sched = true) (h_mem : L .mem = true) (h_meter : L .meter = true) (h_free : L .free = true) : ∀ s c, erase L (reach s c) = erase L s := by
  intro s c
  unfold reach
  try dsimp only
  repeat' (first
    | with_reducible rfl
    | with_reducible refine (keeps_passTo h_regs h_sched h_mem h_meter h_free _ _).trans ?_)

theorem keeps_reachesL0S {L : Part → Bool} (h_regs : L .regs = true) (h_fns : L .fns = true) (h_cqs : L .cqs = true) (h_mem : L .mem = true) (h_ports : L .ports = true) (h_out : L .out = true) : ∀ port s, erase L (reachesL0S port s) = erase L s := by
  intro port s
  unfold reachesL0S
  try dsimp only
  repeat' (first
    | with_reducible rfl
    | with_reducible refine (keeps_trySend h_regs h_fns h_cqs h_mem h_ports h_out _ _ _).trans ?_
    | with_reducible refine (keeps_State_setPort h_ports _ _ _).trans ?_
    | with_reducible refine (erase_foldl (fun _ _ => ?_) _ _).trans ?_
    | with_reducible refine erase_cond ?_ ?_)

theorem keeps_readDataPut {L : Part → Bool} (h_regs : L .regs = true) : ∀ s b, erase L (readDataPut s b) = erase L s := by
  intro s b
  unfold readDataPut
  try dsimp only
  repeat' (first
    | with_reducible rfl
    | with_reducible refine (keeps_wr h_regs _ _ _ _ _ _).trans ?_
    | with_reducible refine (erase_foldl (fun _ _ => ?_) _ _).trans ?_)

theorem keeps_readCompleteS {L : Part → Bool} (h_regs : L .regs = true) (h_recov : L .recov = true) : ∀ s, erase L (readCompleteS s) = erase L s := by
  intro s
  unfold readCompleteS
  try dsimp only
  repeat' (first
    | with_reducible rfl
    | with_reducible refine (keeps_readDataPut h_regs _ _).trans ?_
    | with_reducible refine (keeps_State_withRecov h_recov _ _).trans ?_
    | with_reducible refine (keeps_wf h_regs _ _ _ _ _ _ _).trans ?_
    | with_reducible refine erase_cond ?_ ?_
    | split)



theorem keeps_rebuildCompleteS {L : Part → Bool} (h_regs : L .regs = true) (h_recov : L .recov = true) : ∀ s, erase L (rebuildCompleteS s) = erase L s := by
  intro s
  unfold rebuildCompleteS
  try dsimp only
  repeat' (first
    | with_reducible rfl
    | with_reducible refine (keeps_State_withRecov h_recov _ _).trans ?_
    | with_reducible refine (keeps_wf h_regs _ _ _ _ _ _ _).trans ?_
    | with_reducible refine erase_cond ?_ ?_
    | split)

theorem keeps_sendDurable {L : Part → Bool} (h_regs : L .regs = true) (h_ports : L .ports = true) (h_camp : L .camp = true) (h_out : L .out = true) : ∀ m s, erase L (sendDurable m s) = erase L s := by
  intro m s
  unfold sendDurable
  try dsimp only
  repeat' (first
    | with_reducible rfl
    | with_reducible refine (keeps_campSend h_regs h_ports h_camp h_out _ _ _ _).trans ?_)

theorem keeps_recordMsg {L : Part → Bool} (h_regs : L .regs = true) (h_ports : L .ports = true) (h_camp : L .camp = true) (h_out : L .out = true) : ∀ m s, erase L (recordMsg m s) = erase L s := by
  intro m s
  unfold recordMsg
  try dsimp only
  repeat' (first
    | with_reducible rfl
    | with_reducible refine (keeps_State_withCamp h_camp _ _).trans ?_
    | with_reducible refine (keeps_sendDurable h_regs h_ports h_camp h_out _ _).trans ?_
    | with_reducible refine erase_cond ?_ ?_)

theorem keeps_restoreQueues {L : Part → Bool} (h_regs : L .regs = true) (h_sqs : L .sqs = true) (h_cqs : L .cqs = true) (h_recov : L .recov = true) : ∀ r changed s, erase L (restoreQueues r changed s) = erase L s := by
  intro r changed s
  unfold restoreQueues
  try dsimp only
  repeat' (first
    | with_reducible rfl
    | with_reducible refine (keeps_queueLost h_regs _ _ _).trans ?_
    | with_reducible refine (keeps_restoreSq h_regs h_sqs h_cqs h_recov _ _ _ _ _ _ _ _).trans ?_
    | with_reducible refine (keeps_restoreCq h_cqs h_recov _ _ _ _ _).trans ?_
    | with_reducible refine (erase_foldl (fun _ _ => ?_) _ _).trans ?_
    | with_reducible refine erase_cond ?_ ?_
    | split)

theorem keeps_restoreFn {L : Part → Bool} (h_fns : L .fns = true) : ∀ r s fn, erase L (restoreFn r s fn) = erase L s := by
  intro r s fn
  unfold restoreFn
  try dsimp only
  repeat' (first
    | with_reducible rfl
    | with_reducible refine (keeps_State_setFn h_fns _ _ _).trans ?_)

theorem keeps_recoverDeviceS {L : Part → Bool} (h_regs : L .regs = true) (h_fns : L .fns = true) (h_sqs : L .sqs = true) (h_cqs : L .cqs = true) (h_prog : L .prog = true) (h_recov : L .recov = true) (h_cores : L .cores = true) (h_mem : L .mem = true) (h_meter : L .meter = true) (h_ports : L .ports = true) (h_camp : L .camp = true) (h_out : L .out = true) : ∀ host s, erase L (recoverDeviceS host s) = erase L s := by
  intro host s
  unfold recoverDeviceS
  try dsimp only
  repeat' (first
    | with_reducible rfl
    | with_reducible refine (keeps_recoverOn h_regs h_fns h_sqs h_cqs h_prog h_recov h_cores h_mem h_meter h_ports h_camp h_out _ _ _).trans ?_
    | with_reducible refine (keeps_State_withRecov h_recov _ _).trans ?_
    | with_reducible refine (keeps_restoreQueues h_regs h_sqs h_cqs h_recov _ _ _).trans ?_
    | with_reducible refine (keeps_restoreFn h_fns _ _ _).trans ?_
    | with_reducible refine (keeps_wf h_regs _ _ _ _ _ _ _).trans ?_
    | with_reducible refine (erase_foldl (fun _ _ => ?_) _ _).trans ?_
    | with_reducible refine erase_cond ?_ ?_)

theorem keeps_refLostS {L : Part → Bool} (h_regs : L .regs = true) (h_lant : L .lant = true) (h_free : L .free = true) : ∀ s, erase L (refLostS s) = erase L s := by
  intro s
  unfold refLostS
  try dsimp only
  repeat' (first
    | with_reducible rfl
    | with_reducible refine (keeps_enterHoldover h_regs h_lant h_free _).trans ?_
    | with_reducible refine (keeps_State_withLant h_lant _ _).trans ?_)

theorem keeps_refReturnS {L : Part → Bool} (h_lant : L .lant = true) : ∀ s, erase L (refReturnS s) = erase L s := by
  intro s
  unfold refReturnS
  try dsimp only
  repeat' (first
    | with_reducible rfl
    | with_reducible refine (keeps_State_withLant h_lant _ _).trans ?_
    | with_reducible refine erase_cond ?_ ?_)

theorem keeps_refreshStakeS {L : Part → Bool} (h_sched : L .sched = true) (h_meter : L .meter = true) (h_out : L .out = true) : ∀ ch s, erase L (refreshStakeS ch s) = erase L s := by
  intro ch s
  unfold refreshStakeS
  try dsimp only
  repeat' (first
    | with_reducible rfl
    | with_reducible refine (keeps_mDevice h_meter _ _).trans ?_
    | with_reducible refine (keeps_refreshNow h_sched h_out _ _ _).trans ?_
    | with_reducible refine erase_cond ?_ ?_
    | split)



theorem keeps_reservedS {L : Part → Bool} (h_regs : L .regs = true) (h_cores : L .cores = true) : ∀ k s, erase L (reservedS k s) = erase L s := by
  intro k s
  unfold reservedS
  try dsimp only
  repeat' (first
    | with_reducible rfl
    | with_reducible refine (keeps_takeTrap h_regs h_cores _ _ _ _).trans ?_
    | with_reducible refine erase_cond ?_ ?_
    | split)

theorem keeps_resyncEndMsg {L : Part → Bool} (h_regs : L .regs = true) (h_ports : L .ports = true) (h_camp : L .camp = true) (h_out : L .out = true) : ∀ m s, erase L (resyncEndMsg m s) = erase L s := by
  intro m s
  unfold resyncEndMsg
  try dsimp only
  repeat' (first
    | with_reducible rfl
    | with_reducible refine (keeps_State_withCamp h_camp _ _).trans ?_
    | with_reducible refine (keeps_tryPair h_regs h_camp _).trans ?_
    | with_reducible refine (keeps_sendDurable h_regs h_ports h_camp h_out _ _).trans ?_)

theorem keeps_resyncStartMsg {L : Part → Bool} (h_regs : L .regs = true) (h_ports : L .ports = true) (h_camp : L .camp = true) (h_out : L .out = true) : ∀ m s, erase L (resyncStartMsg m s) = erase L s := by
  intro m s
  unfold resyncStartMsg
  try dsimp only
  repeat' (first
    | with_reducible rfl
    | with_reducible refine (keeps_State_withCamp h_camp _ _).trans ?_
    | with_reducible refine (keeps_sendDurable h_regs h_ports h_camp h_out _ _).trans ?_)

theorem keeps_ringLoop {L : Part → Bool} (h_regs : L .regs = true) (h_sqs : L .sqs = true) (h_cqs : L .cqs = true) (h_recov : L .recov = true) (h_mem : L .mem = true) (h_ports : L .ports = true) (h_camp : L .camp = true) (h_out : L .out = true) : ∀ fn slot a2 a3, erase L (ringLoop fn slot a2 a3) = erase L a3 := by
  intro fn slot a2 a3
  revert fn slot a3
  induction a2 with
  | zero =>
    intro fn slot a3
    unfold ringLoop
    try dsimp only
  | succ n ih =>
    intro fn slot a3
    unfold ringLoop
    try dsimp only
    repeat' (first
      | with_reducible rfl
      | with_reducible refine (keeps_issueRing h_regs h_sqs h_recov h_mem h_ports h_camp h_out _ _ _ _ _ _).trans ?_
      | with_reducible refine (keeps_sqError h_regs h_sqs h_recov h_mem h_ports h_camp h_out _ _ _ _).trans ?_
      | with_reducible refine (keeps_updSq h_sqs _ _ _ _).trans ?_
      | with_reducible refine (keeps_passSkip h_regs h_sqs h_recov h_mem h_ports h_camp h_out _ _ _ _ _).trans ?_
      | with_reducible refine (keeps_admitEntry h_regs h_sqs h_cqs h_recov h_mem h_ports h_camp h_out _ _ _ _).trans ?_
      | with_reducible refine (keeps_endRound h_regs h_sqs h_recov h_mem h_ports h_camp h_out _ _ _ _).trans ?_
      | with_reducible refine (ih _ _ _).trans ?_
      | with_reducible refine erase_cond ?_ ?_
      | split)

theorem keeps_ringLandedS {L : Part → Bool} (h_regs : L .regs = true) (h_sqs : L .sqs = true) (h_cqs : L .cqs = true) (h_recov : L .recov = true) (h_mem : L .mem = true) (h_ports : L .ports = true) (h_camp : L .camp = true) (h_out : L .out = true) : ∀ fn slot rsp units s, erase L (ringLandedS fn slot rsp units s) = erase L s := by
  intro fn slot rsp units s
  unfold ringLandedS
  try dsimp only
  repeat' (first
    | with_reducible rfl
    | with_reducible refine (keeps_ringLoop h_regs h_sqs h_cqs h_recov h_mem h_ports h_camp h_out _ _ _ _).trans ?_
    | with_reducible refine (keeps_sqError h_regs h_sqs h_recov h_mem h_ports h_camp h_out _ _ _ _).trans ?_
    | with_reducible refine (keeps_updSq h_sqs _ _ _ _).trans ?_
    | with_reducible refine (keeps_admitEntry h_regs h_sqs h_cqs h_recov h_mem h_ports h_camp h_out _ _ _ _).trans ?_
    | with_reducible refine erase_cond ?_ ?_
    | split)

theorem keeps_sampleUnit {L : Part → Bool} (h_meter : L .meter = true) : ∀ u s, erase L (sampleUnit u s) = erase L s := by
  intro u s
  unfold sampleUnit
  try dsimp only
  repeat' (first
    | with_reducible rfl
    | with_reducible refine (keeps_State_withMeter h_meter _ _).trans ?_)

theorem keeps_scrubAsk {L : Part → Bool} (h_regs : L .regs = true) (h_sched : L .sched = true) (h_ports : L .ports = true) (h_out : L .out = true) : ∀ s ch line write, erase L (scrubAsk s ch line write) = erase L s := by
  intro s ch line write
  unfold scrubAsk
  try dsimp only
  repeat' (first
    | with_reducible rfl
    | with_reducible refine (keeps_guyWords h_regs h_ports _ _ _ _).trans ?_
    | with_reducible refine (keeps_ddrAsk h_out _ _ _).trans ?_
    | with_reducible refine (keeps_claim h_sched _ _ _ _).trans ?_)

theorem keeps_scrubExpiryS {L : Part → Bool} (h_regs : L .regs = true) (h_mem : L .mem = true) : ∀ ch s, erase L (scrubExpiryS ch s) = erase L s := by
  intro ch s
  unfold scrubExpiryS
  try dsimp only
  repeat' (first
    | with_reducible rfl
    | with_reducible refine (keeps_State_withMem h_mem _ _).trans ?_
    | with_reducible refine (keeps_wf h_regs _ _ _ _ _ _ _).trans ?_
    | with_reducible refine erase_cond ?_ ?_)

theorem keeps_scrubReadS {L : Part → Bool} (h_regs : L .regs = true) (h_recov : L .recov = true) (h_mem : L .mem = true) (h_camp : L .camp = true) : ∀ ch res s, erase L (scrubReadS ch res s) = erase L s := by
  intro ch res s
  unfold scrubReadS
  try dsimp only
  repeat' (first
    | with_reducible rfl
    | with_reducible refine (keeps_ddrDevices h_regs _ _ _).trans ?_
    | with_reducible refine (keeps_satAdd h_regs _ _ _ _ _ _).trans ?_
    | with_reducible refine (keeps_ddrCount h_regs _ _).trans ?_
    | with_reducible refine (keeps_State_withMem h_mem _ _).trans ?_
    | with_reducible refine (keeps_wf h_regs _ _ _ _ _ _ _).trans ?_
    | with_reducible refine (keeps_badLine h_recov h_mem h_camp _ _).trans ?_
    | with_reducible refine erase_cond ?_ ?_
    | split)

theorem keeps_scrubWriteBackS {L : Part → Bool} (h_regs : L .regs = true) (h_mem : L .mem = true) : ∀ ch s, erase L (scrubWriteBackS ch s) = erase L s := by
  intro ch s
  unfold scrubWriteBackS
  try dsimp only
  repeat' (first
    | with_reducible rfl
    | with_reducible refine (keeps_satAdd h_regs _ _ _ _ _ _).trans ?_
    | with_reducible refine (keeps_State_withMem h_mem _ _).trans ?_
    | with_reducible refine erase_cond ?_ ?_)

theorem keeps_setMode {L : Part → Bool} {f : Nat → State → State} (hf : ∀ v s, erase L (f v s) = erase L s) :
    ∀ m v s, erase L (setMode m v f s) = erase L s := by
  intro m v s
  exact erase_cond (hf _ _) rfl

theorem keeps_signStartS {L : Part → Bool} (h_trust : L .trust = true) : ∀ s, erase L (signStartS s) = erase L s := by
  intro s
  unfold signStartS
  try dsimp only
  repeat' (first
    | with_reducible rfl
    | with_reducible refine (keeps_State_withTrust h_trust _ _).trans ?_
    | with_reducible refine erase_cond ?_ ?_)

theorem keeps_signedS {L : Part → Bool} (h_regs : L .regs = true) (h_trust : L .trust = true) (h_free : L .free = true) : ∀ s, erase L (signedS s) = erase L s := by
  intro s
  unfold signedS
  try dsimp only
  repeat' (first
    | with_reducible rfl
    | with_reducible refine (keeps_wf h_regs _ _ _ _ _ _ _).trans ?_
    | with_reducible refine erase_cond ?_ ?_
    | split)
  all_goals with_reducible refine (erase_trust_free h_trust h_free _ _ _).trans ?_
  all_goals with_reducible rfl

theorem keeps_silentDecisionS {L : Part → Bool} (h_regs : L .regs = true) (h_intc : L .intc = true) (h_camp : L .camp = true) : ∀ s, erase L (silentDecisionS s) = erase L s := by
  intro s
  unfold silentDecisionS
  try dsimp only
  repeat' (first
    | with_reducible rfl
    | with_reducible refine (keeps_State_withCamp h_camp _ _).trans ?_
    | with_reducible refine (keeps_wr h_regs _ _ _ _ _ _).trans ?_
    | with_reducible refine (keeps_campFault h_regs _ _).trans ?_
    | with_reducible refine (keeps_raise h_intc _ _).trans ?_
    | with_reducible refine erase_cond ?_ ?_)

theorem keeps_sqWhen {L : Part → Bool} (h_regs : L .regs = true) (h_fns : L .fns = true) (h_sqs : L .sqs = true) (h_cqs : L .cqs = true) (h_prog : L .prog = true) (h_recov : L .recov = true) (h_cores : L .cores = true) (h_mem : L .mem = true) (h_ports : L .ports = true) (h_camp : L .camp = true) (h_out : L .out = true) : ∀ fn slot p v s, erase L (sqWhen fn slot p v s) = erase L s := by
  intro fn slot p v s
  unfold sqWhen
  try dsimp only
  repeat' (first
    | with_reducible rfl
    | with_reducible refine (keeps_queueWrite h_regs h_fns h_sqs h_cqs h_prog h_recov h_cores h_mem h_ports h_camp h_out _ _ _ _).trans ?_
    | with_reducible refine erase_cond ?_ ?_)

theorem keeps_stakeIssueS {L : Part → Bool} (h_regs : L .regs = true) (h_sched : L .sched = true) (h_prog : L .prog = true) (h_mem : L .mem = true) (h_meter : L .meter = true) (h_ports : L .ports = true) (h_power : L .power = true) (h_out : L .out = true) : ∀ kind inst ready s, erase L (stakeIssueS kind inst ready s) = erase L s := by
  intro kind inst ready s
  unfold stakeIssueS
  try dsimp only
  repeat' (first
    | with_reducible rfl
    | with_reducible refine (keeps_runReq h_regs h_sched h_prog h_mem h_meter h_ports h_power h_out _ _ _ _ _ _).trans ?_
    | with_reducible refine erase_cond ?_ ?_
    | split)

theorem keeps_steps {L : Part → Bool} (h_cores : L .cores = true) : ∀ s k b pc cycles, erase L (steps s k b pc cycles) = erase L s := by
  intro s k b pc cycles
  unfold steps
  try dsimp only
  repeat' (first
    | with_reducible rfl
    | with_reducible refine (keeps_State_setCore h_cores _ _ _).trans ?_)

theorem keeps_strayAccess {L : Part → Bool} (h_regs : L .regs = true) (h_busData : L .busData = true) : ∀ k bar off size dir s, erase L (strayAccess k bar off size dir s) = erase L s := by
  intro k bar off size dir s
  unfold strayAccess
  try dsimp only
  repeat' (first
    | with_reducible rfl
    | with_reducible refine (keeps_flagAccess h_regs _ _).trans ?_
    | with_reducible refine erase_cond ?_ ?_)
  all_goals with_reducible refine (erase_busData h_busData _ _).trans ?_
  all_goals repeat' (first
    | with_reducible rfl
    | with_reducible refine (keeps_flagAccess h_regs _ _).trans ?_)

theorem keeps_takeOverS {L : Part → Bool} (h_regs : L .regs = true) (h_fns : L .fns = true) (h_sqs : L .sqs = true) (h_cqs : L .cqs = true) (h_prog : L .prog = true) (h_recov : L .recov = true) (h_cores : L .cores = true) (h_mem : L .mem = true) (h_intc : L .intc = true) (h_meter : L .meter = true) (h_ports : L .ports = true) (h_camp : L .camp = true) (h_out : L .out = true) : ∀ host s, erase L (takeOverS host s) = erase L s := by
  intro host s
  unfold takeOverS
  try dsimp only
  repeat' (first
    | with_reducible rfl
    | with_reducible refine (keeps_State_withCamp h_camp _ _).trans ?_
    | with_reducible refine (keeps_migrateSq h_regs h_sqs h_cqs h_recov h_intc h_ports h_camp h_out _ _ _ _).trans ?_
    | with_reducible refine (keeps_recoverOn h_regs h_fns h_sqs h_cqs h_prog h_recov h_cores h_mem h_meter h_ports h_camp h_out _ _ _).trans ?_
    | with_reducible refine (keeps_campFault h_regs _ _).trans ?_
    | with_reducible refine (keeps_wf h_regs _ _ _ _ _ _ _).trans ?_
    | with_reducible refine (keeps_migrateCq h_regs h_cqs h_recov h_intc h_ports h_camp h_out _ _ _).trans ?_
    | with_reducible refine (keeps_raise h_intc _ _).trans ?_
    | with_reducible refine (keeps_postMigrated h_regs h_fns h_cqs h_prog h_recov h_ports h_camp h_out _ _ _).trans ?_
    | with_reducible refine (erase_foldl (fun _ _ => ?_) _ _).trans ?_
    | with_reducible refine erase_cond ?_ ?_)

theorem keeps_temperatureS {L : Part → Bool} (h_regs : L .regs = true) (h_sched : L .sched = true) (h_fns : L .fns = true) (h_sqs : L .sqs = true) (h_cqs : L .cqs = true) (h_prog : L .prog = true) (h_recov : L .recov = true) (h_cores : L .cores = true) (h_mem : L .mem = true) (h_mail : L .mail = true) (h_intc : L .intc = true) (h_lant : L .lant = true) (h_meter : L .meter = true) (h_ports : L .ports = true) (h_camp : L .camp = true) (h_trust : L .trust = true) (h_power : L .power = true) (h_free : L .free = true) : ∀ temp sensor s, erase L (temperatureS temp sensor s) = erase L s := by
  intro temp sensor s
  unfold temperatureS
  try dsimp only
  repeat' (first
    | with_reducible rfl
    | with_reducible refine (keeps_coldBase h_regs h_sched h_fns h_sqs h_cqs h_prog h_recov h_cores h_mem h_mail h_intc h_lant h_meter h_ports h_camp h_trust h_power h_free _).trans ?_
    | with_reducible refine (keeps_State_withPower h_power _ _).trans ?_
    | with_reducible refine (keeps_missionTick h_regs h_power _ _).trans ?_
    | with_reducible refine (keeps_wf h_regs _ _ _ _ _ _ _).trans ?_
    | with_reducible refine (keeps_takeFree h_free _).trans ?_
    | with_reducible refine erase_cond ?_ ?_)

theorem keeps_testAccess {L : Part → Bool} (h_regs : L .regs = true) (h_mem : L .mem = true) : ∀ p fails ecc s, erase L (testAccess p fails ecc s) = erase L s := by
  intro p fails ecc s
  unfold testAccess
  try dsimp only
  repeat' (first
    | with_reducible rfl
    | with_reducible refine (keeps_spCount h_regs _ _ _).trans ?_
    | with_reducible refine (keeps_marchStep h_mem _ _ _).trans ?_
    | with_reducible refine (keeps_spEcc h_regs h_mem _ _ _ _).trans ?_
    | with_reducible refine (keeps_setShadow h_mem _ _ _ _).trans ?_
    | with_reducible refine (keeps_nextStep h_regs _ _).trans ?_
    | with_reducible refine (keeps_setTest h_mem _ _ _).trans ?_
    | with_reducible refine (keeps_mapRow h_regs h_mem _ _ _ _).trans ?_
    | with_reducible refine (keeps_restoreEntry h_mem _ _ _).trans ?_
    | with_reducible refine erase_cond ?_ ?_)

theorem keeps_testRestoreS {L : Part → Bool} (h_sched : L .sched = true) (h_mem : L .mem = true) (h_meter : L .meter = true) : ∀ p s, erase L (testRestoreS p s) = erase L s := by
  intro p s
  unfold testRestoreS
  try dsimp only
  repeat' (first
    | with_reducible rfl
    | with_reducible refine (keeps_restoreOne h_mem _ _).trans ?_
    | with_reducible refine (keeps_claim h_sched _ _ _ _).trans ?_
    | with_reducible refine (keeps_mFree h_meter _ _ _ _ _).trans ?_
    | with_reducible refine erase_cond ?_ ?_
    | split)

theorem keeps_testStakeS {L : Part → Bool} (h_regs : L .regs = true) (h_sched : L .sched = true) (h_mem : L .mem = true) (h_meter : L .meter = true) : ∀ p fails ecc s, erase L (testStakeS p fails ecc s) = erase L s := by
  intro p fails ecc s
  unfold testStakeS
  try dsimp only
  repeat' (first
    | with_reducible rfl
    | with_reducible refine (keeps_mDevice h_meter _ _).trans ?_
    | with_reducible refine (keeps_claim h_sched _ _ _ _).trans ?_
    | with_reducible refine (keeps_testAccess h_regs h_mem _ _ _ _).trans ?_
    | with_reducible refine erase_cond ?_ ?_
    | split)

theorem keeps_thermalReadS {L : Part → Bool} (h_regs : L .regs = true) : ∀ ch hot s, erase L (thermalReadS ch hot s) = erase L s := by
  intro ch hot s
  unfold thermalReadS
  try dsimp only
  repeat' (first
    | with_reducible rfl
    | with_reducible refine (keeps_wf h_regs _ _ _ _ _ _ _).trans ?_
    | with_reducible refine erase_cond ?_ ?_)

theorem keeps_timeMsg {L : Part → Bool} (h_regs : L .regs = true) (h_lant : L .lant = true) (h_camp : L .camp = true) (h_free : L .free = true) : ∀ arrival m s, erase L (timeMsg arrival m s) = erase L s := by
  intro arrival m s
  unfold timeMsg
  try dsimp only
  repeat' (first
    | with_reducible rfl
    | with_reducible refine (keeps_State_withCamp h_camp _ _).trans ?_
    | with_reducible refine (keeps_recheck h_regs h_lant h_free _).trans ?_
    | with_reducible refine (keeps_phaseError h_regs h_lant h_free _ _ _).trans ?_
    | with_reducible refine erase_cond ?_ ?_)

theorem keeps_todS {L : Part → Bool} (h_lant : L .lant = true) (h_out : L .out = true) : ∀ s, erase L (todS s) = erase L s := by
  intro s
  unfold todS
  try dsimp only
  repeat' (first
    | with_reducible rfl
    | with_reducible refine (keeps_emit h_out _ _).trans ?_
    | with_reducible refine (keeps_State_withLant h_lant _ _).trans ?_
    | with_reducible refine erase_cond ?_ ?_)

theorem keeps_unqueued {L : Part → Bool} (h_pending : L .pending = true) : ∀ s, erase L (unqueued s) = erase L s := by
  intro s
  unfold unqueued
  try dsimp only
  all_goals with_reducible refine (erase_pending h_pending _ _).trans ?_
  all_goals with_reducible rfl

theorem keeps_waitCheckS {L : Part → Bool} (h_regs : L .regs = true) (h_fns : L .fns = true) (h_sqs : L .sqs = true) (h_cqs : L .cqs = true) (h_prog : L .prog = true) (h_recov : L .recov = true) (h_mem : L .mem = true) (h_mail : L .mail = true) (h_intc : L .intc = true) (h_ports : L .ports = true) (h_camp : L .camp = true) (h_power : L .power = true) (h_out : L .out = true) : ∀ c host s, erase L (waitCheckS c host s) = erase L s := by
  intro c host s
  unfold waitCheckS
  try dsimp only
  repeat' (first
    | with_reducible rfl
    | with_reducible refine (keeps_waitCheckOp h_regs h_fns h_sqs h_cqs h_prog h_recov h_mem h_mail h_intc h_ports h_camp h_power h_out _ _ _).trans ?_
    | with_reducible refine (keeps_State_setCtx h_prog _ _ _).trans ?_
    | with_reducible refine (keeps_stepFail h_regs h_fns h_sqs h_cqs h_prog h_recov h_mem h_ports h_camp h_out _ _ _ _).trans ?_
    | with_reducible refine (keeps_undrain h_mem _ _).trans ?_
    | with_reducible refine (keeps_waitExpire h_regs h_fns h_sqs h_cqs h_prog h_recov h_mem h_mail h_intc h_ports h_camp h_power h_out _ _).trans ?_
    | with_reducible refine erase_cond ?_ ?_
    | split)

theorem keeps_warmBegin {L : Part → Bool} (h_regs : L .regs = true) (h_sched : L .sched = true) (h_fns : L .fns = true) (h_sqs : L .sqs = true) (h_cqs : L .cqs = true) (h_prog : L .prog = true) (h_recov : L .recov = true) (h_cores : L .cores = true) (h_mem : L .mem = true) (h_mail : L .mail = true) (h_intc : L .intc = true) (h_lant : L .lant = true) (h_meter : L .meter = true) (h_ports : L .ports = true) (h_camp : L .camp = true) (h_trust : L .trust = true) (h_power : L .power = true) (h_free : L .free = true) : ∀ s, erase L (warmBegin s) = erase L s := by
  intro s
  unfold warmBegin
  try dsimp only
  repeat' (first
    | with_reducible rfl
    | with_reducible refine (keeps_warmBase h_regs h_sched h_fns h_sqs h_cqs h_prog h_recov h_cores h_mem h_mail h_intc h_lant h_meter h_ports h_camp h_trust h_power h_free _).trans ?_
    | with_reducible refine (keeps_endFlash h_regs h_trust h_free _).trans ?_
    | with_reducible refine (keeps_cutMinute h_regs h_intc h_meter h_trust _).trans ?_)

theorem keeps_withMsg {L : Part → Bool} (h_camp : L .camp = true) {f : Msg → State → State}
    (hf : ∀ m s, erase L (f m s) = erase L s) : ∀ type s, erase L (withMsg type s f) = erase L s := by
  intro type s
  unfold withMsg
  split
  · rfl
  · exact erase_cond ((hf _ _).trans (keeps_State_withCamp h_camp _ _)) rfl

/-! ### Isquin instructions -/

/-- What an instruction may change: an access of the ranger core reaches every register. -/
def IsqParts (L : Part → Bool) : Prop := ∀ p, p ≠ .pending → L p = true

theorem keeps_acsWrite_isq {L : Part → Bool} (h : IsqParts L) (s : State) (k : Nat) (q : Acs) (v : Nat) :
    erase L (acsWrite s k q v) = erase L s :=
  keeps_acsWrite (h .regs (by decide)) (h .sched (by decide)) (h .fns (by decide)) (h .sqs (by decide)) (h .cqs (by decide)) (h .prog (by decide)) (h .recov (by decide)) (h .cores (by decide)) (h .mem (by decide)) (h .mail (by decide)) (h .intc (by decide)) (h .lant (by decide)) (h .ports (by decide)) (h .camp (by decide)) (h .trust (by decide)) (h .power (by decide)) (h .out (by decide)) (h .free (by decide)) s k q v

theorem keeps_readOpnds {L : Part → Bool} (h : IsqParts L) (k : Nat) (b : RegBank) (rd : Nat → Bool) :
    ∀ n l s, erase L (readOpnds k b rd n l s).2 = erase L s := by
  intro n l
  induction l generalizing n with
  | nil => intro s; rfl
  | cons x l ih =>
    intro s
    obtain ⟨o, a⟩ := x
    cases a with
    | none => exact ih _ _
    | some a =>
      unfold readOpnds
      dsimp only
      split
      · exact (ih _ _).trans (keeps_acsRead (h .regs (by decide)) (h .cores (by decide)) (h .mem (by decide)) (h .intc (by decide)) (h .ports (by decide)) (h .power (by decide)) (h .busData (by decide)) s k _)
      · exact ih _ _

/-- The frame of an outcome: the state it carries, and what runs after it. -/
def Res.Keeps (L : Part → Bool) (s : State) : Res → Prop
  | .ran r => erase L r.s = erase L s ∧ ∀ t, erase L (r.after t) = erase L t
  | .trap s1 _ => erase L s1 = erase L s
  | .wait s1 => erase L s1 = erase L s
  | .double => True

/-- Every outcome of a meaning keeps the frame. -/
def SemKeeps (L : Part → Bool) (f : Sem) : Prop := ∀ s k a i, (f s k a i).Keeps L s

theorem keeps_guarded {L : Part → Bool} {f : Sem} (hf : SemKeeps L f) : SemKeeps L (guarded f) := by
  intro s k a i
  unfold guarded
  split
  · exact hf s k a i
  · exact ⟨rfl, fun _ => rfl⟩

theorem keeps_withAccess {L : Part → Bool} (h : IsqParts L) {s : State} {k : Nat} {l : List Acs} {f : State → List Acs → Res}
    (hf : ∀ t m, erase L t = erase L s → (f t m).Keeps L s) : (withAccess s k l f).Keeps L s := by
  unfold withAccess
  split
  · exact keeps_noteDenial (h .regs (by decide)) (h .mem (by decide)) s k l _
  · split
    · exact keeps_ddrTouch (h .power (by decide)) s _
    · split
      · exact hf _ _ (keeps_granted (h .regs (by decide)) (h .sched (by decide)) (h .prog (by decide)) (h .meter (by decide)) (h .ports (by decide)) (h .out (by decide)) (by assumption))
      · exact (rfl : erase L s = erase L s)

theorem keeps_operate {L : Part → Bool} (h : IsqParts L) (rd wr : Nat → Bool)
    (f : RegBank → List Located → List Nat → Option (RegBank × Option Nat × W32 × Nat)) : SemKeeps L (operate rd wr f) := by
  refine keeps_guarded fun s k a i => ?_
  cases locateAll (nextPc a i) (s.core k).bank i.ops with
  | mk b ls =>
    refine keeps_withAccess h fun t m ht => ?_
    have e := (keeps_readOpnds h k b rd 0 ls t).trans ht
    generalize readOpnds k b rd 0 ls t = p at e ⊢
    obtain ⟨vs, s1⟩ := p
    dsimp only at e ⊢
    split
    · exact (rfl : erase L s = erase L s)
    · refine ⟨e, fun t => ?_⟩
      dsimp only
      split
      · exact keeps_acsWrite_isq h _ _ _ _
      · rfl

theorem keeps_coreSem {L : Part → Bool} (cycles : Nat) (f : Core → W32 → Insn → Core × W32) : SemKeeps L (coreSem cycles f) :=
  keeps_guarded fun _ _ _ _ => ⟨rfl, fun _ => rfl⟩

theorem keeps_aluSem {L : Part → Bool} (h : IsqParts L) (base : Nat) (f : Nat → List Nat → Nat × Bool) : SemKeeps L (aluSem base f) :=
  fun s k a i => keeps_operate h _ _ _ s k a i

theorem keeps_divSem {L : Part → Bool} (h : IsqParts L) (f : Nat → Nat → Nat → Nat × Bool) : SemKeeps L (divSem f) :=
  fun s k a i => keeps_operate h _ _ _ s k a i

theorem keeps_accSem {L : Part → Bool} (h : IsqParts L) (f : Nat → BitVec 80 → Nat → Nat → BitVec 80 × Bool) : SemKeeps L (accSem f) :=
  fun s k a i => keeps_operate h _ _ _ s k a i

theorem keeps_cbSem {L : Part → Bool} (h : IsqParts L) (n : Nat) : SemKeeps L (cbSem n) :=
  fun s k a i => keeps_operate h _ _ _ s k a i

theorem keeps_leaSem {L : Part → Bool} (h : IsqParts L) : SemKeeps L leaSem := fun s k a i => keeps_operate h _ _ _ s k a i
theorem keeps_acxSem {L : Part → Bool} (h : IsqParts L) : SemKeeps L acxSem := fun s k a i => keeps_operate h _ _ _ s k a i
theorem keeps_jmpSem {L : Part → Bool} (h : IsqParts L) : SemKeeps L jmpSem := fun s k a i => keeps_operate h _ _ _ s k a i
theorem keeps_dbnzSem {L : Part → Bool} (h : IsqParts L) : SemKeeps L dbnzSem := fun s k a i => keeps_operate h _ _ _ s k a i

theorem keeps_brlSem {L : Part → Bool} (h : IsqParts L) : SemKeeps L brlSem :=
  keeps_guarded fun _ _ _ _ => keeps_withAccess h fun _ _ ht => ⟨ht, fun _ => keeps_acsWrite_isq h _ _ _ _⟩

theorem keeps_retSem {L : Part → Bool} (h : IsqParts L) : SemKeeps L retSem :=
  keeps_guarded fun _ _ _ _ => keeps_withAccess h fun _ _ ht => ⟨(keeps_acsRead (h .regs (by decide)) (h .cores (by decide)) (h .mem (by decide)) (h .intc (by decide)) (h .ports (by decide)) (h .power (by decide)) (h .busData (by decide)) _ _ _).trans ht, fun _ => rfl⟩

theorem keeps_repSem {L : Part → Bool} (count : Core → Insn → Nat) : SemKeeps L (repSem count) := by
  intro s k a i
  unfold repSem
  dsimp only
  repeat' (first
    | exact (rfl : erase L s = erase L s)
    | exact ⟨rfl, fun _ => rfl⟩
    | split)

theorem keeps_trapSem {L : Part → Bool} (_h : IsqParts L) : SemKeeps L trapSem := keeps_guarded fun _ _ _ _ => rfl

theorem keeps_retiSem {L : Part → Bool} (h : IsqParts L) : SemKeeps L retiSem := by
  refine keeps_guarded fun s k a i => ?_
  dsimp only
  split
  · exact ⟨rfl, fun _ => rfl⟩
  · split
    · trivial
    · refine keeps_withAccess h fun _ _ ht => ⟨?_, fun _ => rfl⟩
      exact (keeps_acsRead (h .regs (by decide)) (h .cores (by decide)) (h .mem (by decide)) (h .intc (by decide)) (h .ports (by decide)) (h .power (by decide)) (h .busData (by decide)) _ _ _).trans ((keeps_acsRead (h .regs (by decide)) (h .cores (by decide)) (h .mem (by decide)) (h .intc (by decide)) (h .ports (by decide)) (h .power (by decide)) (h .busData (by decide)) _ _ _).trans ht)

theorem keeps_cwaitSem {L : Part → Bool} (h : IsqParts L) : SemKeeps L cwaitSem := by
  refine keeps_guarded fun s k a i => ?_
  dsimp only
  split
  · rfl
  · split
    · exact ⟨rfl, fun _ => rfl⟩
    · exact ⟨rfl, fun t => keeps_callTaken (h .regs (by decide)) (h .prog (by decide)) (h .cores (by decide)) _ _⟩

theorem keeps_cretSem {L : Part → Bool} (h : IsqParts L) : SemKeeps L cretSem := by
  refine keeps_guarded fun s k a i => ?_
  dsimp only
  split
  · rfl
  · refine keeps_withAccess h fun _ _ ht => ⟨(keeps_readOpnds h _ _ _ _ _ _).trans ht, fun t => ?_⟩
    dsimp only
    split
    · exact keeps_callResult (h .regs (by decide)) (h .fns (by decide)) (h .sqs (by decide)) (h .cqs (by decide)) (h .prog (by decide)) (h .recov (by decide)) (h .mem (by decide)) (h .mail (by decide)) (h .intc (by decide)) (h .ports (by decide)) (h .camp (by decide)) (h .power (by decide)) (h .out (by decide)) _ _ _
    · rfl

theorem keeps_runInsn {L : Part → Bool} (h : IsqParts L) {f : Sem} (hf : SemKeeps L f) (s : State) (k : Nat) (a : W32) (i : Insn) :
    erase L (runInsn f s k a i) = erase L s := by
  have e := hf s k a i
  unfold runInsn
  dsimp only
  split <;> simp only [*, Res.Keeps] at e
  · exact (e.2 _).trans ((keeps_State_setCore (h .cores (by decide)) _ _ _).trans e.1)
  · exact (keeps_takeTrap (h .regs (by decide)) (h .cores (by decide)) _ _ _ _).trans e
  · exact e
  · exact keeps_State_setCore (h .cores (by decide)) _ _ _

theorem keeps_isqRow {L : Part → Bool} (h : IsqParts L) {f : Sem} (hf : SemKeeps L f) (op k : Nat) (s : State) :
    erase L (isqRow op f k s) = erase L s := by
  unfold isqRow
  dsimp only
  repeat' (first
    | with_reducible rfl
    | with_reducible refine (keeps_runInsn h hf _ _ _ _).trans ?_
    | with_reducible refine erase_cond ?_ ?_
    | split)

theorem ite_keeps {L : Part → Bool} {c : Prop} [Decidable c] {f g : Sem} (hf : SemKeeps L f) (hg : SemKeeps L g) :
    SemKeeps L (if c then f else g) := by
  split
  · exact hf
  · exact hg

theorem keeps_movSem {L : Part → Bool} (h : IsqParts L) : SemKeeps L movSem := keeps_aluSem h _ _

theorem keeps_movsxSem {L : Part → Bool} (h : IsqParts L) : SemKeeps L movsxSem := keeps_aluSem h _ _

theorem keeps_movzxSem {L : Part → Bool} (h : IsqParts L) : SemKeeps L movzxSem := keeps_aluSem h _ _

theorem keeps_addSem {L : Part → Bool} (h : IsqParts L) : SemKeeps L addSem := keeps_aluSem h _ _

theorem keeps_subSem {L : Part → Bool} (h : IsqParts L) : SemKeeps L subSem := keeps_aluSem h _ _

theorem keeps_negSem {L : Part → Bool} (h : IsqParts L) : SemKeeps L negSem := keeps_aluSem h _ _

theorem keeps_absSem {L : Part → Bool} (h : IsqParts L) : SemKeeps L absSem := keeps_aluSem h _ _

theorem keeps_mulSem {L : Part → Bool} (h : IsqParts L) : SemKeeps L mulSem := keeps_aluSem h _ _

theorem keeps_mulhsSem {L : Part → Bool} (h : IsqParts L) : SemKeeps L mulhsSem := keeps_aluSem h _ _

theorem keeps_mulhuSem {L : Part → Bool} (h : IsqParts L) : SemKeeps L mulhuSem := keeps_aluSem h _ _

theorem keeps_divsSem {L : Part → Bool} (h : IsqParts L) : SemKeeps L divsSem := keeps_divSem h _

theorem keeps_divuSem {L : Part → Bool} (h : IsqParts L) : SemKeeps L divuSem := keeps_divSem h _

theorem keeps_remsSem {L : Part → Bool} (h : IsqParts L) : SemKeeps L remsSem := keeps_divSem h _

theorem keeps_remuSem {L : Part → Bool} (h : IsqParts L) : SemKeeps L remuSem := keeps_divSem h _

theorem keeps_andSem {L : Part → Bool} (h : IsqParts L) : SemKeeps L andSem := keeps_aluSem h _ _

theorem keeps_orSem {L : Part → Bool} (h : IsqParts L) : SemKeeps L orSem := keeps_aluSem h _ _

theorem keeps_xorSem {L : Part → Bool} (h : IsqParts L) : SemKeeps L xorSem := keeps_aluSem h _ _

theorem keeps_notSem {L : Part → Bool} (h : IsqParts L) : SemKeeps L notSem := keeps_aluSem h _ _

theorem keeps_shlSem {L : Part → Bool} (h : IsqParts L) : SemKeeps L shlSem := keeps_aluSem h _ _

theorem keeps_shrSem {L : Part → Bool} (h : IsqParts L) : SemKeeps L shrSem := keeps_aluSem h _ _

theorem keeps_sarSem {L : Part → Bool} (h : IsqParts L) : SemKeeps L sarSem := keeps_aluSem h _ _

theorem keeps_rolSem {L : Part → Bool} (h : IsqParts L) : SemKeeps L rolSem := keeps_aluSem h _ _

theorem keeps_rorSem {L : Part → Bool} (h : IsqParts L) : SemKeeps L rorSem := keeps_aluSem h _ _

theorem keeps_macSem {L : Part → Bool} (h : IsqParts L) : SemKeeps L macSem := keeps_accSem h _

theorem keeps_msuSem {L : Part → Bool} (h : IsqParts L) : SemKeeps L msuSem := keeps_accSem h _

theorem keeps_macuSem {L : Part → Bool} (h : IsqParts L) : SemKeeps L macuSem := keeps_accSem h _

theorem keeps_pandSem {L : Part → Bool} (h : IsqParts L) : SemKeeps L pandSem := keeps_aluSem h _ _

theorem keeps_porSem {L : Part → Bool} (h : IsqParts L) : SemKeeps L porSem := keeps_aluSem h _ _

theorem keeps_pxorSem {L : Part → Bool} (h : IsqParts L) : SemKeeps L pxorSem := keeps_aluSem h _ _

theorem keeps_pandnSem {L : Part → Bool} (h : IsqParts L) : SemKeeps L pandnSem := keeps_aluSem h _ _

theorem keeps_cmpeqSem {L : Part → Bool} (h : IsqParts L) : SemKeeps L cmpeqSem := keeps_aluSem h _ _

theorem keeps_cmpneSem {L : Part → Bool} (h : IsqParts L) : SemKeeps L cmpneSem := keeps_aluSem h _ _

theorem keeps_cmpltSem {L : Part → Bool} (h : IsqParts L) : SemKeeps L cmpltSem := keeps_aluSem h _ _

theorem keeps_cmpleSem {L : Part → Bool} (h : IsqParts L) : SemKeeps L cmpleSem := keeps_aluSem h _ _

theorem keeps_cmploSem {L : Part → Bool} (h : IsqParts L) : SemKeeps L cmploSem := keeps_aluSem h _ _

theorem keeps_cmplsSem {L : Part → Bool} (h : IsqParts L) : SemKeeps L cmplsSem := keeps_aluSem h _ _

theorem keeps_tstSem {L : Part → Bool} (h : IsqParts L) : SemKeeps L tstSem := keeps_aluSem h _ _

theorem keeps_braSem {L : Part → Bool} (_h : IsqParts L) : SemKeeps L braSem := keeps_coreSem _ _

theorem keeps_cbeqSem {L : Part → Bool} (h : IsqParts L) : SemKeeps L cbeqSem := keeps_cbSem h _

theorem keeps_cbneSem {L : Part → Bool} (h : IsqParts L) : SemKeeps L cbneSem := keeps_cbSem h _

theorem keeps_cbltSem {L : Part → Bool} (h : IsqParts L) : SemKeeps L cbltSem := keeps_cbSem h _

theorem keeps_cbleSem {L : Part → Bool} (h : IsqParts L) : SemKeeps L cbleSem := keeps_cbSem h _

theorem keeps_cbgtSem {L : Part → Bool} (h : IsqParts L) : SemKeeps L cbgtSem := keeps_cbSem h _

theorem keeps_cbgeSem {L : Part → Bool} (h : IsqParts L) : SemKeeps L cbgeSem := keeps_cbSem h _

theorem keeps_cbloSem {L : Part → Bool} (h : IsqParts L) : SemKeeps L cbloSem := keeps_cbSem h _

theorem keeps_cblsSem {L : Part → Bool} (h : IsqParts L) : SemKeeps L cblsSem := keeps_cbSem h _

theorem keeps_cbhiSem {L : Part → Bool} (h : IsqParts L) : SemKeeps L cbhiSem := keeps_cbSem h _

theorem keeps_cbhsSem {L : Part → Bool} (h : IsqParts L) : SemKeeps L cbhsSem := keeps_cbSem h _

theorem keeps_repCSem {L : Part → Bool} (_h : IsqParts L) : SemKeeps L repCSem := keeps_repSem _

theorem keeps_repNSem {L : Part → Bool} (_h : IsqParts L) : SemKeeps L repNSem := keeps_repSem _

theorem keeps_eiSem {L : Part → Bool} (_h : IsqParts L) : SemKeeps L eiSem := keeps_coreSem _ _

theorem keeps_diSem {L : Part → Bool} (_h : IsqParts L) : SemKeeps L diSem := keeps_coreSem _ _

theorem keeps_sleepSem {L : Part → Bool} (_h : IsqParts L) : SemKeeps L sleepSem := keeps_coreSem _ _

theorem keeps_isqNopSem {L : Part → Bool} (_h : IsqParts L) : SemKeeps L isqNopSem := keeps_coreSem _ _

theorem keeps_semOf {L : Part → Bool} (h : IsqParts L) (op : Nat) : SemKeeps L (semOf op) := by
  unfold semOf
  refine ite_keeps (keeps_movSem h) ?_
  refine ite_keeps (keeps_movsxSem h) ?_
  refine ite_keeps (keeps_movzxSem h) ?_
  refine ite_keeps (keeps_leaSem h) ?_
  refine ite_keeps (keeps_addSem h) ?_
  refine ite_keeps (keeps_subSem h) ?_
  refine ite_keeps (keeps_negSem h) ?_
  refine ite_keeps (keeps_absSem h) ?_
  refine ite_keeps (keeps_mulSem h) ?_
  refine ite_keeps (keeps_mulhsSem h) ?_
  refine ite_keeps (keeps_mulhuSem h) ?_
  refine ite_keeps (keeps_divsSem h) ?_
  refine ite_keeps (keeps_divuSem h) ?_
  refine ite_keeps (keeps_remsSem h) ?_
  refine ite_keeps (keeps_remuSem h) ?_
  refine ite_keeps (keeps_andSem h) ?_
  refine ite_keeps (keeps_orSem h) ?_
  refine ite_keeps (keeps_xorSem h) ?_
  refine ite_keeps (keeps_notSem h) ?_
  refine ite_keeps (keeps_shlSem h) ?_
  refine ite_keeps (keeps_shrSem h) ?_
  refine ite_keeps (keeps_sarSem h) ?_
  refine ite_keeps (keeps_rolSem h) ?_
  refine ite_keeps (keeps_rorSem h) ?_
  refine ite_keeps (keeps_macSem h) ?_
  refine ite_keeps (keeps_msuSem h) ?_
  refine ite_keeps (keeps_macuSem h) ?_
  refine ite_keeps (keeps_acxSem h) ?_
  refine ite_keeps (keeps_pandSem h) ?_
  refine ite_keeps (keeps_porSem h) ?_
  refine ite_keeps (keeps_pxorSem h) ?_
  refine ite_keeps (keeps_pandnSem h) ?_
  refine ite_keeps (keeps_cmpeqSem h) ?_
  refine ite_keeps (keeps_cmpneSem h) ?_
  refine ite_keeps (keeps_cmpltSem h) ?_
  refine ite_keeps (keeps_cmpleSem h) ?_
  refine ite_keeps (keeps_cmploSem h) ?_
  refine ite_keeps (keeps_cmplsSem h) ?_
  refine ite_keeps (keeps_tstSem h) ?_
  refine ite_keeps (keeps_braSem h) ?_
  refine ite_keeps (keeps_jmpSem h) ?_
  refine ite_keeps (keeps_brlSem h) ?_
  refine ite_keeps (keeps_retSem h) ?_
  refine ite_keeps (keeps_dbnzSem h) ?_
  refine ite_keeps (keeps_cbeqSem h) ?_
  refine ite_keeps (keeps_cbneSem h) ?_
  refine ite_keeps (keeps_cbltSem h) ?_
  refine ite_keeps (keeps_cbleSem h) ?_
  refine ite_keeps (keeps_cbgtSem h) ?_
  refine ite_keeps (keeps_cbgeSem h) ?_
  refine ite_keeps (keeps_cbloSem h) ?_
  refine ite_keeps (keeps_cblsSem h) ?_
  refine ite_keeps (keeps_cbhiSem h) ?_
  refine ite_keeps (keeps_cbhsSem h) ?_
  refine ite_keeps (keeps_repCSem h) ?_
  refine ite_keeps (keeps_repNSem h) ?_
  refine ite_keeps (keeps_trapSem h) ?_
  refine ite_keeps (keeps_retiSem h) ?_
  refine ite_keeps (keeps_eiSem h) ?_
  refine ite_keeps (keeps_diSem h) ?_
  refine ite_keeps (keeps_sleepSem h) ?_
  refine ite_keeps (keeps_cwaitSem h) ?_
  refine ite_keeps (keeps_cretSem h) ?_
  exact keeps_isqNopSem h

theorem keeps_repeatS {L : Part → Bool} (h : IsqParts L) (k : Nat) (s : State) : erase L (repeatS k s) = erase L s := by
  unfold repeatS
  dsimp only
  refine erase_cond ?_ rfl
  split
  · exact keeps_runInsn h (keeps_semOf h _) _ _ _ _
  · exact keeps_takeTrap (h .regs (by decide)) (h .cores (by decide)) _ _ _ _

/-! ### From `erase` to frames -/

/-- A function that keeps every set of parts that marks `l` changes only the parts of `l`. -/
theorem only_of_keeps {l : List Part} {s u : State} (h : ∀ L : Part → Bool, (∀ p ∈ l, L p = true) → erase L u = erase L s) :
    only l s u := by
  intro p
  by_cases hp : p ∈ l
  · exact .inl hp
  · exact .inr (erase_eq_iff.mp (h (fun q => decide (q ∈ l)) (fun q hq => decide_eq_true hq)) p (decide_eq_false hp))

end Sys2Proof.Machine
end

