-- ==== Sys2Proof/Laws/Memory.lean ====
section
/-! SUPPORT. Laws of the byte memories (07 R245, R261): read after write, a write leaves every other byte alone, and every operation
that writes the scratchpads or DDR5 keeps their canonical form. -/
namespace Sys2Proof.Machine

/-! ### Reading and writing bytes -/

theorem tread_length (d : Byte) (t : Tbl Byte) (a n : Nat) : (tread d t a n).length = n := by
  induction n generalizing a with
  | zero => rfl
  | succ n ih => simp [tread, ih]

theorem tread_getElem? (d : Byte) (t : Tbl Byte) (a n i : Nat) (h : i < n) : (tread d t a n)[i]? = some (Tbl.get d t (a + i)) := by
  induction n generalizing a i with
  | zero => omega
  | succ n ih =>
    cases i with
    | zero => simp [tread]
    | succ i =>
      have e : a + 1 + i = a + (i + 1) := by omega
      simp [tread, ih (a + 1) i (by omega), e]

/-- What key `k` reads after bytes were stored from `a` on. -/
theorem get_twrite (d : Byte) (t : Tbl Byte) (a k : Nat) (bs : List Byte) :
    Tbl.get d (twrite d t a bs) k = if a ≤ k ∧ k < a + bs.length then bs.getD (k - a) d else Tbl.get d t k := by
  induction bs generalizing t a with
  | nil => rw [twrite, if_neg (by simp only [List.length_nil]; omega)]
  | cons b bs ih =>
    rw [twrite, ih, Tbl.get_set]
    by_cases e : k = a
    · subst e
      rw [if_neg (by omega), if_pos rfl, if_pos (by simp)]
      simp
    · rw [if_neg e]
      by_cases h : a + 1 ≤ k ∧ k < a + 1 + bs.length
      · rw [if_pos h, if_pos (by simp; omega)]
        have : k - a = k - (a + 1) + 1 := by omega
        rw [this, List.getD_cons_succ]
      · rw [if_neg h, if_neg (by simp; omega)]

/-- Read after write. -/
theorem tread_twrite_self (d : Byte) (t : Tbl Byte) (a : Nat) (bs : List Byte) : tread d (twrite d t a bs) a bs.length = bs := by
  apply List.ext_getElem?
  intro i
  by_cases h : i < bs.length
  · rw [tread_getElem? _ _ _ _ _ h, get_twrite, if_pos (by omega)]
    simp [List.getElem?_eq_getElem h]
  · rw [List.getElem?_eq_none (by rw [tread_length]; omega), List.getElem?_eq_none (by omega)]

/-- A read beside the bytes stored. -/
theorem tread_twrite_ne (d : Byte) (t : Tbl Byte) (a b n : Nat) (bs : List Byte) (h : b + n ≤ a ∨ a + bs.length ≤ b) :
    tread d (twrite d t a bs) b n = tread d t b n := by
  apply List.ext_getElem?
  intro i
  by_cases hi : i < n
  · rw [tread_getElem? _ _ _ _ _ hi, tread_getElem? _ _ _ _ _ hi, get_twrite, if_neg (by omega)]
  · rw [List.getElem?_eq_none (by rw [tread_length]; omega), List.getElem?_eq_none (by rw [tread_length]; omega)]

theorem ok_twrite {d : Byte} {t : Tbl Byte} (h : Tbl.ok (fun _ => d) t = true) (a : Nat) (bs : List Byte) :
    Tbl.ok (fun _ => d) (twrite d t a bs) = true := by
  induction bs generalizing t a with
  | nil => exact h
  | cons b bs ih => exact ih (Tbl.ok_set h a b) (a + 1)

theorem ddrRead_ddrWrite_self (s : State) (a : Nat) (bs : List Byte) : ddrRead (ddrWrite s a bs) a bs.length = bs :=
  tread_twrite_self ..

theorem ddrRead_ddrWrite_ne (s : State) (a b n : Nat) (bs : List Byte) (h : b + n ≤ a ∨ a + bs.length ≤ b) :
    ddrRead (ddrWrite s a bs) b n = ddrRead s b n := tread_twrite_ne _ _ _ _ _ _ h

theorem spRead_spWrite_self (s : State) (p off : Nat) (bs : List Byte) : spRead (spWrite s p off bs) p off bs.length = bs :=
  tread_twrite_self ..

theorem spRead_ddrWrite (s : State) (p off n a : Nat) (bs : List Byte) : spRead (ddrWrite s a bs) p off n = spRead s p off n := (rfl)

theorem ddrRead_spWrite (s : State) (p off n a : Nat) (bs : List Byte) : ddrRead (spWrite s p off bs) a n = ddrRead s a n := (rfl)

/-! ### The canonical form -/

theorem wf_iff (m : Mem) : Memory.wf m = true ↔ Tbl.ok (fun _ => (0 : Byte)) m.sp = true ∧ Tbl.ok (fun _ => (0 : Byte)) m.ddr = true := by
  simp [Memory.wf]

/-- Only the bytes matter. -/
theorem wf_of_bytes {m n : Mem} (hs : n.sp = m.sp) (hd : n.ddr = m.ddr) (h : Memory.wf m = true) : Memory.wf n = true := by
  rw [Memory.wf, hs, hd]
  exact h

theorem spWrite_wf {s : State} (h : Memory.wf s.mem = true) (p off : Nat) (bs : List Byte) :
    Memory.wf (spWrite s p off bs).mem = true := by
  rw [wf_iff] at *
  exact ⟨ok_twrite h.1 _ _, h.2⟩

theorem ddrWrite_wf {s : State} (h : Memory.wf s.mem = true) (a : Nat) (bs : List Byte) :
    Memory.wf (ddrWrite s a bs).mem = true := by
  rw [wf_iff] at *
  exact ⟨h.1, ok_twrite h.2 _ _⟩

theorem foldl_wf {α : Type} {f : State → α → State} (hf : ∀ s a, Memory.wf s.mem = true → Memory.wf (f s a).mem = true) (l : List α)
    {s : State} (h : Memory.wf s.mem = true) : Memory.wf (l.foldl f s).mem = true := by
  induction l generalizing s with
  | nil => exact h
  | cons a l ih => exact ih (hf s a h)

theorem spCount_mem (s : State) (p w : Nat) : (spCount s p w).mem = s.mem := by
  unfold spCount
  simp only [wf_mem, satAdd_mem]

theorem setShadow_wf {s : State} (h : Memory.wf s.mem = true) (p i : Nat) (x : Shadow) : Memory.wf (setShadow s p i x).mem = true :=
  wf_of_bytes rfl rfl h

theorem setTest_wf {s : State} (h : Memory.wf s.mem = true) (p : Nat) (x : TestStep) : Memory.wf (setTest s p x).mem = true :=
  wf_of_bytes rfl rfl h

/-- A word stored in the array. -/
theorem spStore_wf {s : State} (h : Memory.wf s.mem = true) (p w : Nat) (v : BitVec 256) (check : Option W32) (bad : Bool) :
    Memory.wf (spStore s p w v check bad).mem = true :=
  wf_of_bytes rfl rfl (spWrite_wf h p (w * 32) (leBytes 32 v.toNat))

/-- A word stored where it is kept. -/
theorem spPut_wf {s : State} (h : Memory.wf s.mem = true) (p w : Nat) (v : BitVec 256) : Memory.wf (spPut s p w v).mem = true := by
  unfold spPut
  split
  · exact setShadow_wf h _ _ _
  · exact spStore_wf h _ _ _ _ _

/-- A write of bytes of one scratchpad word. -/
theorem spWrWord_wf {s : State} (h : Memory.wf s.mem = true) (p w o : Nat) (bs : List Byte) :
    Memory.wf (spWrWord s p w o bs).mem = true := by
  unfold spWrWord
  dsimp only
  split
  · rw [spCount_mem]
    exact h
  · exact spPut_wf h _ _ _

/-- A masked write of one scratchpad word. -/
theorem spWrMask_wf {s : State} (h : Memory.wf s.mem = true) (p w : Nat) (mask : BitVec 32) (d : BitVec 256) :
    Memory.wf (spWrMask s p w mask d).mem = true := by
  unfold spWrMask
  split
  · rw [spCount_mem]
    exact h
  · exact spPut_wf h _ _ _

/-- Every write of a scratchpad. -/
theorem spWr_wf {s : State} (h : Memory.wf s.mem = true) (p off : Nat) (bs : List Byte) : Memory.wf (spWr s p off bs).mem = true :=
  foldl_wf (fun _ _ hs => spWrWord_wf hs _ _ _ _) _ h

/-- Every write of DDR5. -/
theorem ddrWr_wf {s : State} (h : Memory.wf s.mem = true) (a : Nat) (bs : List Byte) : Memory.wf (ddrWr s a bs).mem = true :=
  wf_of_bytes rfl rfl (ddrWrite_wf h a bs)

/-- The background test puts a word of the shadow buffer back. -/
theorem restoreEntry_wf {s : State} (h : Memory.wf s.mem = true) (p i : Nat) : Memory.wf (restoreEntry s p i).mem = true := by
  unfold restoreEntry
  dsimp only
  split
  · exact setShadow_wf (spStore_wf h _ _ _ _ _) _ _ _
  · exact h

theorem mapRow_wf {s : State} (h : Memory.wf s.mem = true) (p bank row : Nat) : Memory.wf (mapRow s p bank row).mem = true := by
  unfold mapRow
  dsimp only
  split
  · simp only [withMem_mem, wf_mem]
    exact wf_of_bytes (m := s.mem) rfl rfl h
  · simp only [wf_mem]
    exact h

/-- A pitch reset clears scratchpad. -/
theorem clearScratch_wf {s : State} (h : Memory.wf s.mem = true) (p lim : Nat) : Memory.wf (clearScratch s p lim).mem = true := by
  unfold clearScratch
  rw [withMem_mem]
  rw [wf_iff] at *
  refine ⟨?_, h.2⟩
  dsimp only
  apply Tbl.ok_keep
  exact h.1

theorem pitchMem_wf {s : State} (h : Memory.wf s.mem = true) (p : Nat) : Memory.wf (pitchMem s p).mem = true := wf_of_bytes rfl rfl h

theorem undrain_wf {s : State} (h : Memory.wf s.mem = true) (k : Nat) : Memory.wf (undrain s k).mem = true := wf_of_bytes rfl rfl h

theorem reset_wf : Memory.wf State.reset.mem = true := (rfl)

end Sys2Proof.Machine
end

