-- ==== Sys2Proof/Tests/Slice0.lean ====
section
/-! SUPPORT. Tests of the model, and for every statement a state and operands that meet its hypotheses. -/
namespace Sys2Proof.Tests
set_option Elab.async false
open Sys2Proof.Machine

/-! ## Small states -/

/-- The registers, queues, programs and messages of two states agree. -/
def sameQ (u t : State) : Bool := u.regs == t.regs && u.sqs == t.sqs && u.cqs == t.cqs && u.prog == t.prog && u.out == t.out

/-- The state that a command leaves has a property. -/
def ran (c : Instr) (s : State) (P : State → Bool) : Bool :=
  match exec c s with
  | .next t => P t
  | _ => false

/-- A device that runs an image (12 R415). -/
def live : State := { State.reset with trust := { State.reset.trust with phase := 1 } }

/-- Master 0 may reach all of host memory through window 0 (07 R268). -/
def openHost (s : State) : State := wr s R.CANOPY_WINDOW_HI (2 ^ 64 - 4096 + 15) 0 0

/-- Function 0 is present with Bus Master Enable set; its link is in L0. -/
def withFn0 (s : State) : State :=
  (s.setFn 0 { Fn.reset with present := true, bme := true, ident := 0x80000000 }).setPort 0 { Port.reset with link := 1 }

def openFn : State := openHost (withFn0 live)

/-- Register page 0 of the recovery area is kept (05 RECOV_CFG.ENABLE). -/
def kept (s : State) : State := wf s R.RECOV_CFG F.RECOV_CFG_ENABLE 1

theorem test_reset_held : running State.reset = false := by decide

theorem test_live_runs : running live = true := by decide

/-! ## 00, 01 -/

theorem wit_stopped :
    halted { live with trust := { live.trust with phase := 3 }, pending := [.wrstN] } = true ∧ isReset .wrstN = false ∧
    isReset (.domainReturn 45 1) = false := by decide

theorem test_stopped_step :
    (match step { live with trust := { live.trust with phase := 3 }, pending := [.wrstN] } with
      | .next t => t.pending == [] && t.power.warmPending == none
      | _ => false) = true := by decide +kernel

theorem test_idle :
    (match step live with
      | .next t => t.sched.cycle == 1
      | _ => false) = true ∧
    (match step State.reset with
      | .next t => t.sched.cycle == 0
      | _ => false) = true := by decide +kernel

theorem wit_reset_memory : Memory.wf State.reset.mem = true ∧ State.reset.pending = [] := by decide

/-- Source 256 is enabled; the SCHEDULE bit rises with SCHED_FAULT.CONTRACT. -/
def watched : State := wr live R.IC_SRC_CFG (2 ^ 31) 266

theorem wit_fault_rises :
    faultBit watched 10 = false ∧ faultBit (wf watched R.PWR_FAULT F.PWR_FAULT_EXIT_FAIL 1) 10 = true ∧
    srcCfg watched F.IC_SRC_CFG_ENABLE 266 ≠ 0 ∧
    ((commit watched (wf watched R.PWR_FAULT F.PWR_FAULT_EXIT_FAIL 1)).src 266).pending = true := by decide +kernel

theorem wit_accesses :
    reachesBar live .mgmt 0x80100 2 = true ∧ accessKind live .mgmt 0x80100 2 = .bad ∧ accessKind live .mgmt 0x80101 4 = .bad ∧
    accessKind live .mgmt 0x80118 8 = .unmapped ∧ accessKind live .mgmt 0x80118 2 = .bad ∧ accessKind live .mgmt 0x80100 4 = .supported := by
  decide +kernel

theorem test_stray_access :
    ran (.badAccess .mgmt 0x80100 2 .read 0) live (fun u => rb u R.GLOBAL_FAULT_SUMMARY F.GLOBAL_FAULT_SUMMARY_BAD_ACCESS && u.busData == 0) = true ∧
    ran (.unmappedAccess .mgmt 0x80118 8 .write 5) live (fun u => rb u R.GLOBAL_FAULT_SUMMARY F.GLOBAL_FAULT_SUMMARY_UNMAPPED) = true := by
  decide +kernel

theorem wit_register :
    reachesBar live .mgmt 0x80104 4 = true ∧ arrives live 0x80104 .clean = true ∧
    regAt (arrived live 0x80104 .clean) .mgmt 0x80104 4 = some (R.PWR_TEMP, 0, 0, 0) ∧
    bankAt (arrived live 0x80104 .clean) .mgmt 0x80104 4 = none ∧ R.PWR_TEMP.page = .mgmt ∧
    plainReg (arrived live 0x80104 .clean) R.PWR_TEMP 0 0x50000000 = true ∧
    ran (.registerWrite .mgmt 0x80104 4 ⟨0x5000FFFF, .clean⟩) live (fun u => rg u R.PWR_TEMP == 0x50000000) = true := by decide +kernel

/-- Posts of two agents in one cycle, the lower number first, then the empty; a write of DDR5_FAULT of channel 0 in two parts. -/
theorem wit_same_cycle :
    findReg 0x5000030 allMgmt = some (R.DDR5_FAULT, 0, 0) ∧ accMask R.DDR5_FAULT .w1c ≠ 0 ∧ (cycleRank (.ethernetLinkDown 3)).1 = 7 ∧
    cycleParts live (.mbPost 4 0) = [(cycleRank (.mbPost 4 0), .mbPost 4 0)] ∧
    (live.sameCycle [.mbPost 5 7, .mbRxEmpty 4 0, .mbPost 4 9]).pending = [.mbPost 4 9, .mbPost 5 7, .mbRxEmpty 4 0] ∧
    cycleOrder live [.icClaim 0, .registerWrite .mgmt 0x5000030 4 ⟨1, .clean⟩] =
      [.icClaim 0, .registerWrite .mgmt 0x5000030 4 ⟨1, .clean⟩, .registerWrite .mgmt 0x5000030 4 ⟨0, .clean⟩] := by decide +kernel

/-! ## 02 -/

/-- Bank A is active since frame 0 with a period of one frame and `n` equal entries: unit 0 claims engine slot 2 at cycle 5 for class 3. -/
def scheduled (n : Nat) : State :=
  let e : Nat := 5 * 2 ^ 52 + 3 * 2 ^ 28 + 6 * 2 ^ 24 + 2 * 2 ^ 14
  let b : Bank := { hdr := [(2, 1), (4, 2)], dir := [(0, BitVec.ofNat 64 (n * 2 ^ 32))], stakes := (List.range n).map fun i => (i, BitVec.ofNat 64 e), unc := [] }
  let s := wf (wf live R.SCHED_STATUS F.SCHED_STATUS_FREE_ONLY 0) R.LEASE_CFG F.LEASE_CFG_ENABLE 1 3
  s.withSched { s.sched with bankA := b }

/-- Context 128 runs a step of class `lease`. -/
def owning (lease : Nat) (s : State) : State := s.setCtx 128 { Ctx.reset with state := 2, lease := some lease, running := true }

/-- Context 128 of pitch 0 asks for its engine slot. -/
def slotReq (lease : Option Nat) : Req :=
  { rank := 7, key1 := (lease.map (·)).getD 256, key2 := 2, key3 := 0, kind := 6, inst := 2, lease := lease
    owner := (match lease with | some n => .lease n | none => .freeOnly), tenant := 0, master := 0, hosted := false, step := 128, op := .engineSlot }

theorem wit_frame_start : ran (.frameStart ⟨3000000, []⟩) (scheduled 1) (fun u =>
    u.sched.frame == 1 && u.sched.cycle == 0 && activeBank u == some false && timetableFrame u (bankOf u false) == 0) = true := by decide +kernel

theorem wit_claims :
    (reach (scheduled 1) 5).sched.cycle = 5 ∧
    activeBank (reach (owning 3 (scheduled 1)) 5) = some false ∧
    (bankOf (scheduled 1) false).claimants 0 6 2 5 = [stakeOf (5 * 2 ^ 52 + 3 * 2 ^ 28 + 6 * 2 ^ 24 + 2 * 2 ^ 14)] ∧
    (bankOf (scheduled 1) false).collides 0 (stakeOf (5 * 2 ^ 52 + 3 * 2 ^ 28 + 6 * 2 ^ 24 + 2 * 2 ^ 14)) 5 = false ∧
    leaseOn (scheduled 1) 3 = true ∧ instOn (scheduled 1) 6 2 = true ∧
    stakeTaken (scheduled 1) (stakeOf (5 * 2 ^ 52 + 3 * 2 ^ 28 + 6 * 2 ^ 24 + 2 * 2 ^ 14)) 5 = false ∧
    ([slotReq (some 3)].filterMap (normReq (owning 3 (scheduled 1)))).find?
      (mayUse (owning 3 (scheduled 1)) (stakeOf (5 * 2 ^ 52 + 3 * 2 ^ 28 + 6 * 2 ^ 24 + 2 * 2 ^ 14)) 5) = some (slotReq (some 3)) ∧
    opChecks (owning 3 (scheduled 1)) (slotReq (some 3)) 2 = [] := by decide +kernel

theorem wit_stake :
    ran (.stakeIssue 5 6 2 [slotReq (some 3)]) (owning 3 (scheduled 1)) (fun u => claimed u 5 6 2 && (u.ctx 128).slotAt == some 5) = true ∧
    ran (.stakeIssue 5 6 2 [slotReq (some 3)]) (owning 4 (scheduled 1)) (fun u => !claimed u 5 6 2) = true := by decide +kernel

/-- Two entries claim engine slot 2 in cycle 5: no stake issues there, and from cycle 6 the device is free-lane-only. -/
theorem wit_collision :
    ((bankOf (scheduled 2) false).claimants 0 6 2 5).length = 2 ∧
    ran (.stakeIssue 5 6 2 [slotReq (some 3)]) (owning 3 (scheduled 2)) (fun u => activeBank u == some false && !claimed u 5 6 2) = true ∧
    (bankOf (scheduled 2) false).firstEvent 0 0 6 = some ⟨5, 1, 6, 2, 3, 3⟩ ∧
    activeBank (reach (scheduled 2) 6) = none ∧
    rf (reach (scheduled 2) 6) R.SCHED_FAULT F.SCHED_FAULT_CAUSE = 1 ∧
    rf (reach (scheduled 2) 6) R.SCHED_FAULT_INFO F.SCHED_FAULT_INFO_CYCLE = 5 := by decide +kernel

theorem wit_free_lane :
    ran (.freeLaneGrant 5 6 2 [slotReq (some 3)]) (owning 3 live) (fun u => u.sched.waiting == [] && claimed u 5 6 2) = true ∧
    (candidates ((owning 3 live).withSched { live.sched with waiting := [slotReq (some 3)] }) 6 2).length = 1 ∧
    ran (.freeLaneGrant 5 6 2 [slotReq (some 3)]) { owning 3 live with sched := { live.sched with busy := [(5, 6, 2)] } } (fun u =>
      u.sched.waiting == [slotReq (some 3)]) = true := by decide +kernel

/-- Channel 3 is in service with a debt; bank A holds a refresh stake on it in slot 0. -/
def refreshing (debt : Nat) : State :=
  let s := wf (wf (scheduled 0) R.DDR5_INFO F.DDR5_INFO_PRESENT 1 3) R.DDR5_INFO F.DDR5_INFO_REFW 130 3
  let b := { s.sched.bankA with dir := [(11, BitVec.ofNat 64 (2 ^ 32))], stakes := [(0, BitVec.ofNat 64 (4 * 2 ^ 24 + 3 * 2 ^ 14))] }
  s.withSched { s.sched with bankA := b, debt := if debt = 0 then [] else [(3, debt)] }

theorem wit_refresh :
    (((bankOf (refreshing 2) false).live 0 11).find? fun e => e.kind == 4 && e.inst == 3 && stakeAt e 0) ≠ none ∧
    ddrSlotAt 0 = some 0 ∧ claimed (refreshing 2) 0 3 3 = false ∧ ddrPresent (refreshing 2) 3 = true ∧
    ran (.refreshDebtTick 3) (refreshing 2) (fun u => Tbl.get 0 u.sched.debt 3 == 3) = true ∧
    ran (.refreshStake 3 0) (refreshing 2) (fun u => Tbl.get 0 u.sched.debt 3 == 1 && u.out == [.ddrCommand 3 0]) = true ∧
    ran (.refreshStake 3 0) (refreshing 0) (fun u => u.out == []) = true := by decide +kernel

theorem wit_lease :
    ran (.leaseCfgWrite 5 0x81230000) live (fun u => leaseCfgRead u 5 == 0x81230000 && !leaseOn u 5) = true ∧
    ran (.leaseCfgWrite 0 0) live (fun u => leaseCfgRead u 0 == 0x80000000) = true := by decide +kernel

theorem wit_response :
    ran (.responseLanded 7 9 [1, 2] .clean []) { live with sched := { live.sched with fetches := [{ id := 7, buf := 3, slots := 1, part := 511, lease := none, tenant := 0, consume := [], landed := none, data := [], left := 2, missed := false, step := 8192, rank := 6, line := none, plan := [] }] } } (fun u =>
      u.sched.fetches.map (fun f => (f.landed, f.data)) == [(some 9, [1, 2])]) = true := by decide +kernel

theorem wit_bank_write :
    bankReg 0x1000 = some 8 ∧
    ran (.bankWrite false 0x1000 8 77) (scheduled 1) (fun u => rb u R.SCHED_STATUS F.SCHED_STATUS_BANK_WRITE_DENIED) = true ∧
    ran (.bankWrite true 0x1000 8 77) (scheduled 1) (fun u => (bankOf u true).dirOf 0 0 == (77, 0)) = true := by decide +kernel

theorem wit_check_arm :
    ran (.bankCheck 3) (scheduled 1) (fun u => u.sched.check == some (true, false)) = true ∧
    ran .checkComplete ((scheduled 1).withSched { (scheduled 1).sched with check := some (true, false) }) (fun u =>
      u.sched.check == none && rf u R.SCHED_STATUS F.SCHED_STATUS_CHECK_RESULT != 1) = true ∧
    ran (.swapArm 5) (scheduled 1) (fun u => rf u R.SCHED_STATUS F.SCHED_STATUS_SWAP_RESULT == 3) = true ∧
    ran (.swapArm 4) (scheduled 1) (fun u => rf u R.SCHED_STATUS F.SCHED_STATUS_SWAP_RESULT == 4) = true ∧
    ran (.swapArm 5) (wr (stf (scheduled 1) F.SCHED_STATUS_CHECKED_B 1) R.SCHED_SWAP_FRAME 9) (fun u =>
      u.sched.swap == some (true, 9, false)) = true := by decide +kernel

theorem wit_swap :
    ran .bankSwap ((scheduled 1).withSched { (scheduled 1).sched with swap := some (true, 0, false) }) (fun u =>
      activeBank u == some true && rf u R.SCHED_STATUS F.SCHED_STATUS_SWAP_RESULT == 1) = true := by decide +kernel

/-! ## 03 -/

/-- An ACTIVE SQ of function 0, slot 2: queue 5, 64 units, CQ slot 1 as CQ 9. -/
def sqA : SQ :=
  { SQ.reset with assign := 0x80000005, cfg := 0x06000009, base := 0x10000, index := 0x8000, state := 1, consumed := 3, nextUnit := 3,
                  accept := 3, expected := 7, seqBase := 7 }
def cqA : CQ := { CQ.reset with assign := 0x80000009, cfg := 0x46000000, base := 0x20000, state := 1 }
def queues (q : SQ) : State := (openFn.setSq 0 2 q).setCq 0 1 cqA

/-- An entry header: PHASE 1, LEN 0, KIND, TAG 0x11, SEQ, CQ and PROGRAM. -/
def header (kind seq cq prog : Nat) : BitVec 256 :=
  BitVec.ofNat 256 (1 + kind * 16 + 0x11 * 2 ^ 32 + seq * 2 ^ 64 + prog * 2 ^ 96 + cq * 2 ^ 112)

/-- An accepted entry of SEQ 7 with this header. -/
def itemA (h : BitVec 256) : Item :=
  { unit := 3, len := 1, skip := false, units := [h], seq := 7, cq := 1, f001 := false, durable := true, accepted := true,
    dispatched := false, decided := false, posted := false, recovered := false, frags := none, fragWait := none, mseq := none, ctx := none,
    again := none, resume := none, stale := none }

theorem wit_scan_doorbell_starts :
    sqA.valid = true ∧ sqRecovering (queues sqA) 0 2 = false ∧ fnLive (queues sqA) 0 = true ∧ migrating (queues sqA) 0 2 = false ∧
    (hostDenied (queues sqA) sqA.master .rd sqA.index.toNat 8).isNone = true ∧
    ran (.sqDoorbell 0 2) (queues sqA) (fun u => (u.sq 0 2).round.isSome && u.out == [.hostRead 0 0x8000 8]) = true := by decide +kernel

theorem wit_scan_remembered :
    ran (.sqDoorbell 0 2) (queues { sqA with round := some ⟨true, 0, 0, [], false, []⟩ })
      (fun u => sameQ u (queues { sqA with round := some ⟨true, 0, 0, [], false, []⟩, rescan := true })) = true := by decide +kernel

theorem wit_scan_disabled_ignored :
    ran (.sqDoorbell 0 2) (queues { sqA with state := 0 }) (fun u => sameQ u (queues { sqA with state := 0 })) = true := by decide +kernel

/-- An entry of SEQ 0 without a completion: the window of 1,024 is closed to SEQ 1,024 and open to 1,023 (03 R99). -/
def sqWin (e : W32) : SQ := { sqA with items := [{ itemA 0 with seq := 0 }], expected := e, paused := some none }

theorem wit_pause_window :
    windowOpen (sqWin 1023) 1023 = true ∧ windowOpen (sqWin 1024) 1024 = false ∧
    ran (.roundPauseRelease 0 2) (queues (sqWin 1023)) (fun u => (u.sq 0 2).round.isSome && (u.sq 0 2).paused.isNone) = true ∧
    ran (.roundPauseRelease 0 2) (queues (sqWin 1024)) (fun u => u.sqs == (queues (sqWin 1024)).sqs) = true := by decide +kernel

theorem wit_pause_cq :
    cqFree { cqA with tail := 63 } = 1 ∧ cqFree { cqA with tail := 64 } = 0 ∧
    ran (.roundPauseRelease 0 2) ((queues { sqA with paused := some (some 1) }).setCq 0 1 { cqA with tail := 63 })
      (fun u => (u.sq 0 2).round.isSome) = true ∧
    ran (.roundPauseRelease 0 2) ((queues { sqA with paused := some (some 1) }).setCq 0 1 { cqA with tail := 64 })
      (fun u => (u.sq 0 2).round.isNone) = true := by decide +kernel

def roundA : Round := ⟨false, 0, 0, [], false, []⟩

theorem wit_producer_limits :
    ran (.indexRecordLanded 0 2 .ok 10) (queues { sqA with round := some roundA }) (fun u =>
      (u.sq 0 2).round == some ⟨true, 18, 3, [], false, [(3, 13, false), (16, 2, false)]⟩ && u.out == [.hostRead 0 0x10060 416, .hostRead 0 0x10200 64]) = true ∧
    ran (.indexRecordLanded 0 2 .ok 0x1000) (queues { sqA with round := some roundA }) (fun u =>
      ((u.sq 0 2).round.map (·.limit)) == some 67) = true := by decide +kernel

theorem wit_producer_fails :
    ran (.indexRecordLanded 0 2 .ur 10) (queues { sqA with round := some roundA })
      (fun u => (u.sq 0 2).state == 3 && (u.sq 0 2).errorCause == 3) = true := by decide +kernel

theorem wit_producer_nothing :
    ran (.indexRecordLanded 0 2 .ok 10) (queues { sqA with round := some roundA, nextUnit := 67 })
      (fun u => sameQ u (queues { sqA with round := none, nextUnit := 67 })) = true := by decide +kernel

/-- A round that waits for one unit at NEXT. -/
def sqRd : SQ := { sqA with round := some ⟨true, 4, 3, [], false, [(3, 1, false)]⟩ }

theorem wit_admit :
    (targetCq (queues sqRd) 0 sqRd 9) = some (1, false) ∧ cqFree cqA ≠ 0 ∧ windowOpen sqRd 7 = true ∧
    ran (.ringUnitsLanded 0 2 .ok [header 0 7 9 0]) (queues sqRd) (fun u =>
      (u.sq 0 2).nextUnit == 4 && (u.sq 0 2).expected == 8 && (u.cq 0 1).reservations == 1 &&
      (u.sq 0 2).items == [{ itemA (header 0 7 9 0) with accepted := false, durable := false }]) = true := by decide +kernel

theorem wit_admit_stops :
    ran (.ringUnitsLanded 0 2 .poison [header 0 7 9 0]) (queues sqRd) (fun u => (u.sq 0 2).errorCause == 3) = true ∧
    ran (.ringUnitsLanded 0 2 .ok [header 0 7 9 0 - 1]) (queues sqRd) (fun u => u.sq 0 2 == { sqRd with round := none }) = true ∧
    ran (.ringUnitsLanded 0 2 .ok [header 0 8 9 0]) (queues sqRd) (fun u => (u.sq 0 2).errorCause == 1 && (u.sq 0 2).state == 3) = true ∧
    ran (.ringUnitsLanded 0 2 .ok [header 0 7 9 0]) ((queues sqRd).setCq 0 1 CQ.reset) (fun u => (u.sq 0 2).errorCause == 5) = true := by
  decide +kernel

theorem wit_admit_pauses :
    ran (.ringUnitsLanded 0 2 .ok [header 0 7 9 0]) ((queues sqRd).setCq 0 1 { cqA with reservations := 64 })
      (fun u => u.sq 0 2 == { sqRd with round := none, paused := some (some 1) }) = true ∧
    ran (.ringUnitsLanded 0 2 .ok [header 0 1024 9 0])
      (queues { sqRd with items := [{ itemA 0 with seq := 0 }], expected := 1024 })
      (fun u => (u.sq 0 2).paused == some none && (u.sq 0 2).round.isNone) = true := by decide +kernel

theorem wit_accept :
    ran (.entryAccepted 0 2) (kept (queues { sqA with items := [{ itemA (header 0 7 9 0) with accepted := false, durable := false }] }))
      (fun u => (u.sq 0 2).accept == 4 && (u.sq 0 2).items == [itemA (header 0 7 9 0)] &&
        u.out == [.hostWrite 0 0x8008 (leBytes 8 4)]) = true := by decide +kernel

def sqIt (h : BitVec 256) : SQ := { sqA with accept := 4, nextUnit := 4, items := [itemA h] }

theorem wit_dispatch_bad :
    dispatchStatus (queues (sqIt (header 4 7 9 0))) (itemA (header 4 7 9 0)) = 0xF002 ∧
    ran (.dispatch 0 2 3) (queues (sqIt (header 4 7 9 0))) (fun u =>
      (u.cq 0 1).posts.map (fun p => entryStatus p.entry) == [0xF002]) = true := by decide +kernel

/-- Library program 65: one NOP, budget 9 (04 R129). -/
def lib65 (s : State) : State :=
  { s with prog := { s.prog with library := [(65, { program := 65, budget := 9, subs := [], cmds := [1] })] } }

theorem wit_dispatch_binds :
    ctxFits (lib65 (queues (sqIt (header 0 7 9 65)))) 0 2 1023 7 = true ∧
    dispatchStatus (lib65 (queues (sqIt (header 0 7 9 65)))) (itemA (header 0 7 9 65)) = 0 ∧
    ran (.dispatch 0 2 1023) (lib65 (queues (sqIt (header 0 7 9 65)))) (fun u =>
      u.ctx 1023 == newCtx (lib65 (queues (sqIt (header 0 7 9 65)))) 0 2 (itemA (header 0 7 9 65)) 0 && (u.ctx 1023).budget == 9 &&
      (findItem (u.sq 0 2) 7).map (·.ctx) == some (some 1023)) = true := by decide +kernel

theorem wit_dispatch_full :
    ctxFits (lib65 (queues (sqIt (header 0 7 9 65)))) 0 2 1024 7 = false ∧
    ran (.dispatch 0 2 1024) (lib65 (queues (sqIt (header 0 7 9 65)))) (fun u => sameQ u (lib65 (queues (sqIt (header 0 7 9 65))))) = true := by
  decide +kernel

/-- A hosted program at 0x41000 (04 R128). -/
def hosted : BitVec 256 := header 1 7 9 0 + BitVec.ofNat 256 (0x41000 * 2 ^ 128)

theorem wit_dispatch_hosted :
    ran (.dispatch 0 2 0) (queues (sqIt hosted)) (fun u =>
      (u.ctx 0).fetching == some 0x41000 && u.out == [.hostRead 0 0x41000 32]) = true := by decide +kernel

/-- A kind 3 entry whose fragment table stands at 0x42000 (03 R89). -/
def fixed : BitVec 256 := header 3 7 9 65 + BitVec.ofNat 256 (0x42000 * 2 ^ 192)

theorem wit_dispatch_table :
    ran (.dispatch 0 2 0) (lib65 (queues (sqIt fixed))) (fun u =>
      u.out == [.hostRead 0 0x42000 4096] && ((u.sq 0 2).items.map (·.fragWait)) == [some (0x42000, 1, 0, [])]) = true := by decide +kernel

def sqTab : SQ := { sqA with items := [{ itemA fixed with fragWait := some (0x42000, 1, 0, []) }] }

/-- A fragment of 4,096 B with END set, and a descriptor that chains to 0x43000 (03 R89). -/
def fragEnd : BitVec 128 := BitVec.ofNat 128 (0x80000000 + 4096 * 2 ^ 64 + 2 ^ 96)
def fragChain : BitVec 128 := BitVec.ofNat 128 (0x43000 + 2 ^ 97)

theorem wit_table_lands :
    ran (.fragmentTableLanded 0 2 .ok [fragEnd]) (queues sqTab) (fun u =>
      (u.sq 0 2).items.map (fun i => (i.frags, i.fragWait)) == [(some [(0x80000000, 4096)], none)]) = true ∧
    ran (.fragmentTableLanded 0 2 .ok [fragChain]) (queues sqTab) (fun u =>
      (u.sq 0 2).items.map (·.fragWait) == [some (0x43000, 2, 0, [])] && u.out == [.hostRead 0 0x43000 4096]) = true ∧
    ran (.fragmentTableLanded 0 2 .ok [fragEnd + fragChain]) (queues sqTab) (fun u =>
      (u.cq 0 1).posts.map (fun p => entryStatus p.entry) == [0xF004]) = true := by decide +kernel

def compl7 : Compl :=
  { sqFn := 0, sqSlot := 2, seq := 7, index := 63, entry := 0x1234, immediate := false, gate := none, rewrite := false, nth := 0 }

def posting : State :=
  (queues (sqIt (header 0 7 9 0))).setCq 0 1 { cqA with tail := 63, head := 60, reservations := 1, posts := [compl7] }

theorem wit_completion :
    postReady posting 0 1 = some compl7 ∧
    ran (.completionPosted 0 1) posting (fun u =>
      u.out.contains (.hostWrite 0 (0x20000 + 63 * 32) (leBytes 32 0x1234)) && (u.cq 0 1).tail == 64 && (u.cq 0 1).reservations == 0 &&
      (u.cq 0 1).posts == []) = true := by decide +kernel

/-- Vector 0 of function 0, not masked, to 0xFEE00000; the timer of CQ slot 1 started in frame 0, TIME 2. -/
def timed (f : W64) (m : BitVec 128) : State :=
  let s := (openFn.setFn 0 { openFn.fn 0 with msix := [(0, m)] }).setCq 0 1
    { cqA with timer := some 0, unsignalled := 1, mod := 0x00040002 }
  { s with sched := { s.sched with frame := f } }
def vec0 : BitVec 128 := 0xFEE00000
/-- The same CQ's interrupt is due. -/
def dueAt (s : State) : State := s.setCq 0 1 { s.cq 0 1 with due := true }

theorem wit_timer :
    ran (.moderationTimer 0 1) (timed 2 vec0) (fun u => sameQ u (timed 2 vec0)) = true ∧
    ran (.moderationTimer 0 1) (timed 3 vec0) (fun u =>
      u.out == [.msix 0 0 0xFEE00000 0] && (u.cq 0 1).unsignalled == 0 && (u.cq 0 1).timer.isNone) = true ∧
    ran (.moderationTimer 0 1) (timed 3 (vec0 + msixReset)) (fun u =>
      u.out == [] && (u.fn 0).pba == 1 && (u.cq 0 1).due) = true := by decide +kernel

theorem wit_unmask :
    ran (.vectorUnmask 0 (some 0)) ((dueAt (timed 0 vec0)).setFn 0 { (timed 0 vec0).fn 0 with msix := [(0, vec0 + msixReset)], pba := 1 })
      (fun u => u.out == [.msix 0 0 0xFEE00000 0] && (u.fn 0).pba == 0) = true := by decide +kernel

theorem wit_l0 :
    ran (.linkReachesL0 0) ((dueAt (timed 0 vec0)).setPort 0 { Port.reset with link := 3, due := [(0, 0)] })
      (fun u => u.out == [.msix 0 0 0xFEE00000 0] && (u.port 0) == { Port.reset with link := 1 }) = true := by decide +kernel

theorem wit_cq_head :
    ran (.cqDoorbell 0 1 8) (openFn.setCq 0 1 { cqA with tail := 7 }) (fun u => u.cq 0 1 == { cqA with tail := 7, headErr := true }) = true ∧
    ran (.cqDoorbell 0 1 7) (openFn.setCq 0 1 { cqA with tail := 7 }) (fun u => u.cq 0 1 == { cqA with tail := 7, head := 7 }) = true ∧
    ran (.cqDoorbell 0 1 7) openFn (fun u => sameQ u (openFn)) = true := by decide +kernel

def sqOff : SQ := { SQ.reset with assign := 0x80000005, index := 0x8000, seqBase := 7, start := 3 }

theorem wit_sq_enable :
    ran (.sqEnable 0 2 0x86000009) (queues sqOff) (fun u =>
      (u.sq 0 2).state == 1 && (u.sq 0 2).generation == 1 && (u.sq 0 2).accept == 3 && (u.sq 0 2).completedSeq == 6 &&
      u.out == [.hostWrite 0 0x8008 (leBytes 8 3), .hostWrite 0 0x8010 (leBytes 8 3 ++ leBytes 8 6),
        .hostWrite 0 0x8020 (leBytes 2 1), .hostRead 0 0x8000 8]) = true := by decide +kernel

theorem wit_sq_enable_fails :
    ran (.sqEnable 0 2 0x85000009) (queues sqOff) (fun u => (u.sq 0 2).state == 0 && (u.sq 0 2).enableErr == 2) = true ∧
    ran (.sqEnable 0 2 0x91000009) (queues sqOff) (fun u => (u.sq 0 2).state == 0 && (u.sq 0 2).enableErr == 2) = true ∧
    ran (.sqEnable 0 2 0x90000009) (queues sqOff) (fun u => (u.sq 0 2).state == 1) = true := by decide +kernel

theorem wit_sq_disable :
    ran (.sqDisable 0 2 0) (queues sqA) (fun u => (u.sq 0 2).state == 0) = true ∧
    ran (.sqDisable 0 2 0) (queues (sqIt 1)) (fun u => (u.sq 0 2).state == 2 && (u.sq 0 2).items == [itemA 1]) = true := by decide +kernel

theorem wit_cq_enable :
    ran (.cqEnable 0 1 0x86000000) (openFn.setCq 0 1 { cqA with state := 0, head := 5, tail := 9 }) (fun u =>
      (u.cq 0 1).state == 1 && (u.cq 0 1).head == 0 && (u.cq 0 1).tail == 0) = true ∧
    ran (.cqEnable 0 1 0x85000000) (openFn.setCq 0 1 { cqA with state := 0 }) (fun u => (u.cq 0 1).enableErr == 2) = true ∧
    ran (.cqEnable 0 1 0x91000000) (openFn.setCq 0 1 { cqA with state := 0 }) (fun u => (u.cq 0 1).enableErr == 2) = true ∧
    ran (.cqEnable 0 1 0x86000000) openFn (fun u => (u.cq 0 1).enableErr == 1) = true := by decide +kernel

theorem wit_cq_disable :
    ran (.cqDisable 0 1 0) (openFn.setCq 0 1 { cqA with reservations := 1 }) (fun u => (u.cq 0 1).state == 2) = true ∧
    ran (.cqDisable 0 1 0) (openFn.setCq 0 1 cqA) (fun u => (u.cq 0 1).state == 0) = true := by decide +kernel

theorem wit_queue_reset :
    ran (.queueReset 0 2) (queues (sqIt (header 0 7 9 0))) (fun u =>
      (u.sq 0 2).state == 2 && (u.cq 0 1).posts.map (fun p => entryStatus p.entry) == [0xF005]) = true ∧
    ran (.queueReset 0 2) (queues sqA) (fun u => (u.sq 0 2).state == 0) = true := by decide +kernel

theorem wit_flr :
    ran (.functionLevelReset 0) (queues (sqIt (header 0 7 9 0))) (fun u =>
      (u.sq 0 2).state == 0 && (u.sq 0 2).items == [] && (u.cq 0 1).state == 0 && !(u.fn 0).bme) = true := by decide +kernel

theorem wit_d3_pme :
    ran (.functionD3hotEntry 0 true) posting (fun u => u.out == [.pme 0] && (u.fn 0).pmeStatus && (u.fn 0).d3) = true ∧
    ran (.functionD3hotEntry 0 false) posting (fun u => u.out == [] && (u.fn 0).d3) = true := by decide +kernel

/-- A context of a library program of function 0 that is HELD from RUN. -/
def heldCtx (s : State) : State := s.setCtx 5 { Ctx.reset with state := 5, held := 2, fn := 0, slot := 2 }

theorem wit_d0_and_bme :
    ran (.functionD0Return 0) (heldCtx (openFn.setFn 0 { openFn.fn 0 with d3 := true })) (fun u =>
      !(u.fn 0).d3 && (u.ctx 5).state == 2) = true ∧
    ran (.busMasterEnableSet 0) (heldCtx ((openFn.setFn 0 { openFn.fn 0 with bme := false }).setPort 0 { Port.reset with link := 1 }))
      (fun u => !(u.fn 0).bme) = true ∧
    ran (.busMasterEnableClear 0) openFn (fun u => !(u.fn 0).bme) = true := by decide +kernel

/-- Port 0 is an endpoint with one function. -/
def oneEnd (s : State) : State := { s with trust := { s.trust with endpoints := [(0, 1)] } }

theorem wit_bme_set :
    ran (.busMasterEnableSet 0) (heldCtx (oneEnd (openFn.setFn 0 { openFn.fn 0 with bme := false })))
      (fun u => (u.fn 0).bme && (u.ctx 5).state == 2) = true := by decide +kernel

/-- A suspended context of the entry of SEQ 7. -/
def suspendedAt (t : W64 × Nat) : State :=
  (queues { sqIt 1 with items := [{ itemA 1 with dispatched := true, ctx := some 5 }] }).setCtx 5
    { Ctx.reset with state := 4, fn := 0, slot := 2, suspendedAt := some t }
def atCyc (s : State) (f : W64) (c : Nat) : State := { s with sched := { s.sched with frame := f, cycle := c } }

theorem wit_resume :
    ran (.sqResume 0 2) (atCyc (suspendedAt (4, 7)) 4 8) (fun u => (u.ctx 5).state == 2 && (u.ctx 5).resumed) = true ∧
    ran (.sqResume 0 2) (atCyc (suspendedAt (4, 7)) 4 7) (fun u => (u.ctx 5).state == 4) = true := by decide +kernel

/-- ASSIGN_SELECT names slot 2 of function 0, an SQ or a CQ slot. -/
def selected (cq : Nat) (s : State) : State := wr (oneEnd s) R.ASSIGN_SELECT (cq * 256 + 2) 0 0 (mgmtFn s)
def assignStatus (u : State) : Nat := rg u R.ASSIGN_STATUS 0 0 (mgmtFn u)

theorem wit_assign :
    ran (.assignIdent 0x80070003) (selected 0 openFn) (fun u => (u.fn 0).ident == 0x80070003 && assignStatus u == 0) = true ∧
    ran (.assignIdent 0x80070003) openFn (fun u => (u.fn 0).ident == 0x80000000 && assignStatus u == 3) = true ∧
    ran (.assignIdent 0x80070003) (selected 0 (queues sqA)) (fun u => (u.fn 0).ident == 0x80000000 && assignStatus u == 1) = true := by decide +kernel

theorem wit_assign_queue :
    ran (.assignQueue 0x80000006) (selected 0 openFn) (fun u => (u.sq 0 2).num == 6 && assignStatus u == 0) = true ∧
    ran (.assignQueue 0x80000006) (selected 0 (queues sqA)) (fun u => (u.sq 0 2).num == 5 && assignStatus u == 1) = true ∧
    ran (.assignQueue 0x80000009) (selected 1 (queues sqA)) (fun u => (u.cq 0 2).num == 0 && assignStatus u == 2) = true ∧
    ran (.assignQueue 0x80000008) (selected 1 (queues sqA)) (fun u => (u.cq 0 2).num == 8 && assignStatus u == 0) = true := by decide +kernel

theorem wit_assign_lease :
    ran (.assignLease 0x0102) (selected 0 openFn) (fun u => (u.sq 0 2).leases == 0x0102 && assignStatus u == 0) = true ∧
    ran (.assignLease 0x0102) (selected 0 (queues sqA)) (fun u => (u.sq 0 2).leases == 0 && assignStatus u == 1) = true := by decide +kernel

/-! ## 04 -/

/-- A channel command: CODE, FLAGS, DEVICE, PARAM_HI, COUNT, PARAM_MID, ADDRESS, PARAM_LO (04 R124). -/
def cmdOf (code flags dev hi count mid addr lo : Nat) : BitVec 256 :=
  BitVec.ofNat 256 (code + flags * 2 ^ 16 + dev * 2 ^ 32 + hi * 2 ^ 48 + count * 2 ^ 64 + mid * 2 ^ 96 + addr * 2 ^ 128 + lo * 2 ^ 192)

/-- The accepted entry of SEQ 7 runs library program 65 in context 5; its program is these commands. -/
def progS (cmds : List (BitVec 256)) : State :=
  let s := queues { sqIt 1 with items := [{ itemA 1 with dispatched := true, ctx := some 5 }] }
  { s with prog := { s.prog with library := [(65, { program := 65, budget := 9, subs := [], cmds := cmds })] } }

def ctxA : Ctx := { Ctx.reset with state := 1, fn := 0, slot := 2, sq := 5, seq := 7, program := 65, budget := 9, cond := 8 }
def prog1 (cmds : List (BitVec 256)) : State := (progS cmds).setCtx 5 ctxA

/-- Channel status and FAIL_INDEX of the completions held. -/
def endings (u : State) : List (Nat × Nat) := (u.cq 0 1).posts.map fun p => (entryStatus p.entry, entryFail p.entry)
/-- Context 5 stands at a position with a COND, between steps. -/
def standsAt (u : State) (pos ord cond : Nat) : Bool :=
  (u.ctx 5).position == BitVec.ofNat 64 pos && (u.ctx 5).ordinal == ord && (u.ctx 5).cond == BitVec.ofNat 4 cond && (u.ctx 5).state == 2 &&
    !(u.ctx 5).running

def nopF : BitVec 256 := cmdOf 1 1 0 0 0 0 0 0

theorem wit_step_other_row :
    stepReady (prog1 [nopF, 1]) 5 = true ∧ nextChain (prog1 [nopF, 1]) ctxA = (0, [(0, nopF)]) ∧
    ran (.tic 5) (prog1 [nopF, 1]) (fun u => sameQ u (prog1 [nopF, 1])) = true := by decide +kernel

theorem wit_step_budget :
    ran (.nop 5) ((progS [nopF, 1]).setCtx 5 { ctxA with ordinal := 9 }) (fun u => endings u == [(0x0602, 9)] && u.ctx 5 == Ctx.reset) = true := by
  decide +kernel

theorem wit_step_pause :
    ran (.nop 5) (prog1 [cmdOf 1 0x41 0 0 0 0 0 0, 1]) (fun u =>
      (u.ctx 5).state == 4 && (u.ctx 5).suspendedAt == some (0, 0) && u.mail == live.mail) = true ∧
    ran (.nop 5) (prog1 [cmdOf 1 0xC1 0 0 0 0 0 0, 1]) (fun u => (u.ctx 5).state == 4 && (u.mbox true 0).full) = true := by decide +kernel

theorem wit_step_held :
    ran (.post 5) ((prog1 [cmdOf 5 1 0 0 32 0 0x50000 0, 1]).setFn 0 { openFn.fn 0 with bme := false }) (fun u =>
      (u.ctx 5).state == 5 && (u.ctx 5).held == 2 && !(u.ctx 5).issued) = true := by decide +kernel

theorem wit_step_ida :
    idaFits ctxA (cmdOf 1 0x100 0 0 0 0 0 0) = false ∧
    ran (.nop 5) (prog1 [cmdOf 1 0x100 0 0 0 0 0 0, 1]) (fun u => endings u == [(0x0105, 0)]) = true := by decide +kernel

theorem wit_step_library :
    ran (.nop 5) ({ prog1 [nopF, 1] with prog := { (prog1 [nopF, 1]).prog with libraryBad := [0] } }) (fun u =>
      rf u R.PITCH_FAULT F.PITCH_FAULT_FAULT 0 == 1 && u.power.pitchPending == [0]) = true := by decide +kernel

theorem wit_step_chain_bad :
    nextChain (prog1 [cmdOf 1 9 0 0 0 0 0 0, 1]) ctxA = (0x0106, [(0, cmdOf 1 9 0 0 0 0 0 0)]) ∧
    ran (.nop 5) (prog1 [cmdOf 1 9 0 0 0 0 0 0, 1]) (fun u => endings u == [(0x0106, 0)]) = true := by decide +kernel

/-- A camp that waits for DURABLE. -/
def waitingCamp (s : State) : State := s.withCamp { s.camp with state := 3, up := true }

theorem wit_step_commits :
    ran (.nop 5) (waitingCamp (kept (prog1 [cmdOf 1 3 0 0 0 0 0 0, 1]))) (fun u =>
      (u.ctx 5).running && !(u.ctx 5).issued && (u.ctx 5).mseq == some 1) = true := by decide +kernel

theorem wit_codes_bad :
    beginsAlone (prog1 [0]) 5 0 0 = true ∧ ran (.invalidCode 5) (prog1 [0]) (fun u => endings u == [(0x0101, 0)]) = true ∧
    ran (.reservedCode 5) (prog1 [0x0F]) (fun u => endings u == [(0x0102, 0)]) = true ∧
    ran (.reservedCode 5) (prog1 [0x40]) (fun u => endings u == [(0x0102, 0)]) = true := by decide +kernel

theorem wit_nop :
    beginsAlone (prog1 [nopF, 1]) 5 0 nopF = true ∧ ran (.nop 5) (prog1 [nopF, 1]) (fun u => standsAt u 1 1 8) = true ∧
    ran (.nop 5) (prog1 [1, 1]) (fun u => endings u == [(0, 0)] && u.ctx 5 == Ctx.reset) = true := by decide +kernel

/-- The same with a hosted program at 0x41000. -/
def hostedAt (cmd : BitVec 256) : State :=
  (progS []).setCtx 5 { ctxA with kind := 1, position := 0x41000, cmds := [cmd], poss := [0x41000] }

theorem wit_nop_hosted :
    beginsAlone (hostedAt nopF) 5 0x41000 nopF = true ∧ progTarget 0 0x41020 = .host 0x41020 ∧
    permitted (hostedAt nopF) 0 .fetch (.host 0x41020) = true ∧
    ran (.nop 5) (hostedAt nopF) (fun u =>
      standsAt u 0x41020 1 8 && (u.ctx 5).fetching == some 0x41020 && u.out == [.hostRead 0 0x41020 32]) = true := by decide +kernel

def ticTo (t hi : Nat) (code : Nat) : BitVec 256 := cmdOf code 0 0 hi 0 0 (t * 32) 0

theorem wit_tic :
    ran (.tic 5) (prog1 [1, ticTo 0 0 2]) (fun u => (u.ctx 5).state == 1) = true ∧
    ran (.tic 5) (prog1 [ticTo 1 0 2, 1]) (fun u => standsAt u 1 1 8) = true ∧
    ran (.tic 5) (prog1 [ticTo 2 0 2, 1]) (fun u => endings u == [(0x0107, 0)]) = true := by decide +kernel

theorem wit_tic_cond :
    ticTaken ctxA (ticTo 2 8 3) = true ∧ ticTaken ctxA (ticTo 2 24 3) = false ∧
    ran (.ticCond 5) (prog1 [ticTo 2 8 3, 1, 1]) (fun u => standsAt u 2 1 8) = true ∧
    ran (.ticCond 5) (prog1 [ticTo 2 24 3, 1, 1]) (fun u => standsAt u 1 1 8) = true ∧
    ran (.ticCond 5) (prog1 [ticTo 3 8 3, 1, 1]) (fun u => endings u == [(0x0107, 0)]) = true := by decide +kernel

theorem wit_note :
    ran (.note 5) (prog1 [cmdOf 6 1 0 0 77 0 0x1234 0, 1]) (fun u =>
      standsAt u 1 1 8 && (u.mbox true 0).full && u.mail == (noteS live 0 0 0 0x1234 77).mail) = true := by decide +kernel

theorem wit_post :
    beginsAlone (prog1 [cmdOf 5 1 0 0x99 32 0 0x50FE0 0, 1]) 5 0 (cmdOf 5 1 0 0x99 32 0 0x50FE0 0) = true ∧
    ran (.post 5) (prog1 [cmdOf 5 1 0 0x99 32 0 0x50FE0 0, 1]) (fun u =>
      standsAt u 1 1 0 && u.out == [.hostWrite 0 0x50FE0 (leBytes 32 (complEntry 0 5 7 1 (coreNs live) ⟨0, 0x99, 0, 0, 8, 0, 0⟩).toNat)]) =
      true ∧
    ran (.post 5) (prog1 [cmdOf 5 1 0 0 31 0 0x50000 0, 1]) (fun u => endings u == [(0x0104, 0)]) = true ∧
    ran (.post 5) (prog1 [cmdOf 5 3 0 0 32 0 0x50000 0, 1]) (fun u =>
      (u.ctx 5).fenceWait && u.out.contains (.hostRead 0 0x50000 0)) = true := by decide +kernel

/-- Window 0 of master 0 grants reads and fetches only. -/
def readOnly (s : State) : State := wr s R.CANOPY_WINDOW_HI (2 ^ 64 - 4096 + 11) 0 0

theorem wit_stamp :
    ran (.stamp 5) (prog1 [cmdOf 7 1 0 0 16 0 0x50FF0 0, 1]) (fun u =>
      standsAt u 1 1 0 && u.out == [.hostWrite 0 0x50FF0 (stampBytes (coreTime live) 0)]) = true ∧
    ran (.stamp 5) (prog1 [cmdOf 7 1 0 0 32 0 0x50000 0, 1]) (fun u => endings u == [(0x0104, 0)]) = true ∧
    ran (.stamp 5) (readOnly (prog1 [cmdOf 7 1 0 0 16 0 0x50000 0, 1])) (fun u => endings u == [(0x0301, 0)]) = true := by decide +kernel

/-- WAIT for frame `f` for at most `n` frames; TMOK is bit 15 of PARAM_HI. -/
def waitFor (f n hi : Nat) : BitVec 256 := cmdOf 4 1 0 hi n 0 0 f

theorem wit_wait :
    ran (.waitEvent 5) (atCyc (prog1 [waitFor 4 5 0, 1]) 5 0) (fun u => standsAt u 1 1 0) = true ∧
    ran (.waitEvent 5) (atCyc (prog1 [waitFor 5 5 0, 1]) 5 0) (fun u =>
      (u.ctx 5).state == 3 && (u.ctx 5).running && (u.ctx 5).waitFrame == 5) = true := by decide +kernel

/-- Context 5 waits in the step of one command. -/
def inStep (x : Ctx) (cmd : BitVec 256) : State :=
  (progS [cmd, 1]).setCtx 5 { x with state := 3, running := true, issued := true, cmds := [cmd], poss := [0] }
def waitingAt (f n hi : Nat) : State := inStep { ctxA with waitFrame := 5, sampleFrame := 5 } (waitFor f n hi)

theorem wit_wait_check :
    waitsIn (waitingAt 6 3 0) 5 0 (waitFor 6 3 0) = true ∧
    ran (.waitCheck 5 none) (atCyc (waitingAt 6 3 0) 7 0) (fun u => standsAt u 1 1 0) = true ∧
    ran (.waitCheck 5 none) (atCyc (waitingAt 9 3 0) 7 0) (fun u => (u.ctx 5).state == 3 && (u.ctx 5).sampleFrame == 7) = true ∧
    ran (.waitCheck 5 none) (atCyc (waitingAt 9 3 0x8000) 8 0) (fun u => standsAt u 1 1 2) = true ∧
    ran (.waitCheck 5 none) (atCyc (waitingAt 9 3 0) 8 0) (fun u => endings u == [(0x0601, 0)]) = true := by decide +kernel

/-- Routine 3 of pitch 0: valid, for hosted programs too, cores 0 to 3, entry 0x100, limit 50. -/
def routines (s : State) : State := wr s R.ROUTINE (2 ^ 63 + 2 ^ 62 + 15 * 2 ^ 52 + 50 * 2 ^ 28 + 0x100) 0 3
def callCmd (n : Nat) : BitVec 256 := cmdOf 8 1 0 0 0 n 0 0
/-- The cores of pitch 0 have as many calls queued as given. -/
def calls (n : Nat) : List IsqCall :=
  List.replicate n { routine := 0, entry := 0, ctx := 0, block := 0, tenant := 0, master := 0, lease := none, frame := 0, cycle := 0,
                     limit := 0, expired := false, uncorr := false }
def loaded (a b c d : Nat) (s : State) : State :=
  (((s.setCore 0 { s.core 0 with calls := calls a }).setCore 1 { s.core 1 with calls := calls b }).setCore 2
    { s.core 2 with calls := calls c }).setCore 3 { s.core 3 with calls := calls d }

theorem wit_call :
    callCore (loaded 2 1 1 4 live) 0 (2 ^ 63 + 15 * 2 ^ 52) = some 1 ∧ callCore (loaded 16 16 16 16 live) 0 (2 ^ 63 + 15 * 2 ^ 52) = none ∧
    ran (.call 5) (loaded 2 1 1 4 (routines (prog1 [callCmd 3, 1]))) (fun u =>
      (u.ctx 5).state == 3 && (u.ctx 5).called && (u.core 1).calls.map (·.ctx) == [0, 5]) = true ∧
    ran (.call 5) (loaded 16 16 16 16 (routines (prog1 [callCmd 3, 1]))) (fun u =>
      (u.ctx 5).state == 3 && !(u.ctx 5).called && rf u R.PITCH_CALL_COUNTS F.PITCH_CALL_COUNTS_QUEUE_FULL 0 == 1) = true ∧
    ran (.call 5) (routines (prog1 [callCmd 4, 1])) (fun u => endings u == [(0x0108, 0)]) = true := by decide +kernel

/-- Device 2: NVMe on port 4, for all tenants, 512-byte blocks; device 3: an SPI ADC on field port 0, in use. -/
def devices (s : State) : State :=
  { s with
    prog := { s.prog with devices := [(2, BitVec.ofNat 128 (1 + 32 + 4 * 256)), (3, BitVec.ofNat 128 (3 + 32 + 128 * 256))] }
    ports := { s.ports with ports := s.ports.ports ++ [(4, { Port.reset with link := 1 })] } }

def readCmd (n : Nat) : BitVec 256 := cmdOf 0x0C 1 2 0 n 0 0x60000 9
def flushCmd : BitVec 256 := cmdOf 0x10 1 2 0 0 0 0 0
def moveCmd : BitVec 256 := cmdOf 0x09 1 0 0 64 0 0x60000 0x70FC0

theorem wit_device_begins :
    deviceStepCheck 0 (beginStep 5 [(0, readCmd 512)] (devices (prog1 [readCmd 512, 1])))
      ((beginStep 5 [(0, readCmd 512)] (devices (prog1 [readCmd 512, 1]))).ctx 5) (readCmd 512) = 0 ∧
    ran (.devRead 5) (devices (prog1 [readCmd 512, 1])) (fun u =>
      (u.ctx 5).state == 3 && (u.ctx 5).issued && u.out == []) = true ∧
    ran (.flush 5) (devices (prog1 [flushCmd, 1])) (fun u => (u.ctx 5).state == 3 && u.out == [.device 2 0x10 0 0 0 0 []]) = true ∧
    ran (.devRead 5) (devices (prog1 [readCmd 500, 1])) (fun u => endings u == [(0x0104, 0)]) = true ∧
    ran (.devRead 5) (prog1 [readCmd 512, 1]) (fun u => endings u == [(0x0109, 0)]) = true := by decide +kernel

theorem wit_move_begins :
    ran (.move 5) (prog1 [moveCmd, 1]) (fun u => (u.ctx 5).state == 3 && u.out == [.hostRead 0 0x70FC0 64]) = true := by decide +kernel

/-- Field port 0 is an SPI port; its ADC command is the byte 0x40 with the channel at bit 0, two bytes come back, 12 bits from bit 11. -/
def adc (s : State) : State :=
  wf (wf (wf (wf (wf s R.FP_CFG F.FP_CFG_FUNCTION 1 0) R.FP_MEAS F.FP_MEAS_CMD 0x40 0) R.FP_MEAS F.FP_MEAS_RX_LEN 1 0)
    R.FP_MEAS F.FP_MEAS_RES_MSB 11 0) R.FP_MEAS F.FP_MEAS_RES_WIDTH 11 0
def measCmd : BitVec 256 := cmdOf 0x0A 1 3 6 32 10 0x60000 7

theorem wit_measure_begins :
    measureCheck 0 (beginStep 5 [(0, measCmd)] (adc (devices (prog1 [measCmd, 1]))))
      ((beginStep 5 [(0, measCmd)] (adc (devices (prog1 [measCmd, 1])))).ctx 5) measCmd = 0 ∧
    ran (.measure 5) (atCyc (adc (devices (prog1 [measCmd, 1]))) 6 0) (fun u => (u.ctx 5).sampleFrame == 7) = true ∧
    ran (.measure 5) (atCyc (adc (devices (prog1 [measCmd, 1]))) 7 0) (fun u => (u.ctx 5).sampleFrame == 17) = true ∧
    ran (.measure 5) (devices (prog1 [measCmd, 1])) (fun u => endings u == [(0x0104, 0)]) = true := by decide +kernel

def fetchingCtx : State := (progS []).setCtx 5 { ctxA with kind := 1, position := 0x41000, fetching := some 0x41000 }

theorem wit_hosted_lands :
    ran (.hostedCommandLanded 5 .ok nopF) fetchingCtx (fun u => (u.ctx 5).cmds == [nopF] && (u.ctx 5).fetching.isNone) = true ∧
    ran (.hostedCommandLanded 5 .poison nopF) fetchingCtx (fun u => endings u == [(0x0404, 0)]) = true ∧
    ran (.completionTimeout 5) fetchingCtx (fun u => endings u == [(0x0401, 0)]) = true := by decide +kernel

def measuring : State := adc (devices (inStep { ctxA with sampleFrame := 7 } measCmd))

theorem wit_sample :
    waitsIn measuring 5 0 measCmd = true ∧
    ran (.measureSample 5) (atCyc measuring 7 0) (fun u =>
      (u.ctx 5).sampleIndex == 1 && u.out == [.sample 128 0x46 1 2]) = true ∧
    ran (.measureSample 5) (atCyc measuring 7 1) (fun u => (u.ctx 5).sampleIndex == 0) = true := by decide +kernel

theorem wit_sample_record :
    slotOf measuring 3 6 = none ∧
    ran (.sampleRecordWritten 5 0xF123 ⟨0, 0⟩) (adc (devices (inStep { ctxA with sampleFrame := 7, sampleIndex := 1 } measCmd))) (fun u =>
      (u.ctx 5).sampleDone == 1 && u.out == [.hostWrite 0 0x60000
        [0x23, 1, 0, 0, 0x23, 1, 0, 0, 7, 0, 0, 0, 6, 0xFF, 0, 1]]) = true := by decide +kernel

def result (st : Nat) (bs : List Byte) : DevResult :=
  { len := 512, cqe := BitVec.ofNat 128 (st * 2 ^ 113), data := bs, status := 0, time := 0, rsp := .ok, uncorr := false }

theorem wit_move_ends :
    ran (.stepComplete 5 (result 0 [1, 2])) (inStep ctxA moveCmd) (fun u =>
      standsAt u 1 1 0 && u.out == [.hostWrite 0 0x60000 ([1, 2] ++ List.replicate 62 0)]) = true := by decide +kernel

theorem wit_read_ends :
    ran (.stepComplete 5 (result 0 [1, 2])) (devices (inStep ctxA (readCmd 512))) (fun u =>
      standsAt u 1 1 0 && u.out == [.device 2 0x0C 0 0 9 512 [], .hostWrite 0 0x60000 ([1, 2] ++ List.replicate 510 0)]) = true ∧
    ran (.stepComplete 5 (result 0 [])) ((devices (inStep ctxA (readCmd 512))).setPort 4 Port.reset) (fun u =>
      endings u == [(0x0502, 0)] && u.out.contains (.deviceAbort 2)) = true := by decide +kernel

theorem wit_flush_ends :
    ran (.stepComplete 5 (result 0 [])) (devices (inStep ctxA flushCmd)) (fun u => standsAt u 1 1 0) = true ∧
    ran (.stepComplete 5 (result 1 [])) (devices (inStep ctxA flushCmd)) (fun u => endings u == [(0x0501, 0)]) = true := by decide +kernel

theorem wit_device_timeout :
    ran (.deviceTimeout 5) (atCyc (devices (inStep ctxA flushCmd)) 10000000 0) (fun u =>
      endings u == [(0x0503, 0)] && u.out.contains (.deviceAbort 2)) = true ∧
    ran (.deviceTimeout 5) (atCyc (devices (inStep ctxA flushCmd)) 9999999 0) (fun u => (u.ctx 5).state == 3) = true := by decide +kernel

def fenceCmd : BitVec 256 := cmdOf 5 3 0 0 32 0 0x50000 0

theorem wit_fence_ack :
    ran (.fenceAck 5 .ok) (inStep { ctxA with fenceWait := true } fenceCmd) (fun u => standsAt u 1 1 0) = true ∧
    ran (.fenceAck 5 .ur) (inStep { ctxA with fenceWait := true } fenceCmd) (fun u => endings u == [(0x0403, 0)]) = true ∧
    ran (.fenceAck 5 .timeout) (inStep { ctxA with fenceWait := true } fenceCmd) (fun u => endings u == [(0x0401, 0)]) = true := by
  decide +kernel

theorem wit_ctx_select :
    ran (.pitchCtxSelect 0 5) (prog1 []) (fun u =>
      rg u R.PITCH_CTX_SELECT 0 == 5 && rf u R.PITCH_CTX_STATE F.PITCH_CTX_STATE_STATE 0 == 1 &&
      rf u R.PITCH_CTX_STATE F.PITCH_CTX_STATE_COND 0 == 8 && rf u R.PITCH_CTX_QUEUE F.PITCH_CTX_QUEUE_SEQ 0 == 7) = true := by decide +kernel

/-! ## 05 -/

theorem wit_pitch_fault :
    ran (.pitchFault 7) live (fun u => rf u R.PITCH_FAULT F.PITCH_FAULT_FAULT 7 == 1 && u.power.pitchPending == [7]) = true := by
  decide +kernel

/-- Pitch 0 is about to be reset; its scratchpad is reserved from 0x1000 on and lists a byte on either side; core 1's store is good. -/
def resetting (s : State) : State :=
  let s1 := spWrite (spWrite (wf s R.SP_RESERVED F.SP_RESERVED_BASE 0x1000 0) 0 0xFFF [5]) 0 0x1000 [6]
  let s2 := (s1.setCore 1 { Core.reset with storeGood := true, storeX := [(0, 9)], calls := calls 2 }).setCore 2 { Core.reset with storeGood := false }
  { s2 with power := { s2.power with pitchPending := [0] } }

theorem wit_pitch_reset :
    recovering (resetting live) = false ∧
    ran (.pitchReset 0 []) (resetting (prog1 [nopF])) (fun u =>
      u.power.pitchPending == [] && u.ctx 5 == Ctx.reset && rf u R.RECOV_STATUS F.RECOV_STATUS_LAST_KIND == 3 &&
      (u.core 1).x == [(0, 9)] && (u.core 1).calls == [] && (u.core 1).halt == 0 && (u.core 2).halt == 4 &&
      spRead u 0 0xFFF 2 == [5, 0]) = true ∧
    ran (.pitchReset 0 []) (setDom (resetting live) F.PWR_DOMAIN_STATE 5 0) (fun u => spRead u 0 0xFFF 2 == [0, 0]) = true := by
  decide +kernel

/-- The state record of an ACTIVE SQ stands in copy A; its function is not there. -/
def recovS (s : State) : State :=
  let v := sqRec { sqA with consumed := 3, completedSeq := 6, generation := 2 } 9 2 1
  let s1 := wf (kept s) R.RECOV_STATUS F.RECOV_STATUS_RUNNING 1
  s1.withRecov { s1.recov with copyA := [(sqBlock 5, BitVec.ofNat 512 v), (sqBlock 5 + 1, BitVec.ofNat 512 (v / 2 ^ 512))], lostB := true }

theorem wit_recover_blocks :
    recovering (recovS live) = true ∧ recBlocks (recovS live).recov 0x4000 0x8000 = [] ∧
    (recBlocks (recovS live).recov 0x8000 0x10000).filter (fun k => k % 2 == 0) = [sqBlock 5] ∧ fnLive (recovS live) 9 = false := by
  decide +kernel

theorem wit_recover :
    ((restoreQueues (recovS live).recov false (recovS live)).sq 9 2).consumed = 3 ∧
    ((restoreQueues (recovS live).recov false (recovS live)).sq 9 2).completedSeq = 6 ∧
    ((restoreQueues (recovS live).recov false (recovS live)).sq 9 2).generation = 2 ∧
    ((restoreQueues (recovS live).recov false (recovS live)).sq 9 2).base = 0x10000 := by decide +kernel

def rebuilding (a : Bool) : State :=
  live.withRecov { live.recov with copyA := [(7, 1)], copyB := [(7, 2)], lostA := a, lostB := !a, rebuild := some 11 }

theorem wit_rebuild :
    ran .rebuildComplete (rebuilding true) (fun u =>
      u.recov.copyA == [(7, 2)] && !u.recov.lostA && rf u R.RECOV_CFG F.RECOV_CFG_COPY_A == 11) = true ∧
    ran .rebuildComplete (rebuilding false) (fun u =>
      u.recov.copyB == [(7, 1)] && !u.recov.lostB && rf u R.RECOV_CFG F.RECOV_CFG_COPY_B == 11) = true := by decide +kernel

theorem wit_read_select :
    ran (.recovReadSelect 0x51000003) live (fun u =>
      rf u R.RECOV_STATUS F.RECOV_STATUS_READ_BUSY == 1 && rf u R.RECOV_READ_SELECT F.RECOV_READ_SELECT_INDEX == 3) = true := by decide +kernel

/-- A fetch of block 3 of the header area, copy A or B; copy B is lost. -/
def fetching (b : Nat) : State :=
  (wr live R.RECOV_READ_SELECT (0x50000003 + b * 2 ^ 24)).withRecov
    { live.recov with copyA := [(3, BitVec.ofNat 512 (7 * 2 ^ 448 + 5))], lostB := true, readPending := true }

theorem wit_read_complete :
    ran .recovReadComplete (fetching 0) (fun u =>
      rg u R.RECOV_READ_DATA 0 == 5 && rg u R.RECOV_READ_DATA 7 == 7 && rf u R.RECOV_STATUS F.RECOV_STATUS_READ_ERR == 0) = true ∧
    copyOk (fetching 1).recov true 3 = false := by decide +kernel

/-! ## 06 -/

/-- Core 1 with these parcels in instruction memory, and with G1 = 0x80000001, G2 = 7, G0 = 0x100. -/
def coreOf (ps : List Nat) : Core :=
  { Core.reset with
    imem := twrite 0 [] 0 (ps.flatMap fun p => leBytes 2 p)
    main := { RegBank.reset with g := [(0, 0x100), (1, 0x80000001), (2, 7)] } }
def onCore (c : Core) : State := live.setCore 1 c

/-- ADD.W G3, G1, G2 with the predicate output to P2: bytes 10 08, specifiers 06 02 04, PO 0A (06 R208-R210). -/
def addCode : List Nat := [0x1008, 0x0602, 0x040A]

theorem test_decode_add :
    ((coreOf addCode).decodeAt 1 0).toOption = some
      { op := 0x10, gi := false, gp := 0, sz := 2, ops := [⟨0, 3, 0, 1, 0, 4⟩, ⟨0, 1, 0, 1, 0, 4⟩, ⟨0, 2, 0, 1, 0, 4⟩],
        pe := true, pn := 2, disp := 0, imm := 0, len := 6 } := by decide +kernel

theorem wit_isq_add :
    atInsn (onCore (coreOf addCode)) 1 = true ∧
    ran (.add 1) (onCore (coreOf addCode)) (fun u =>
      (u.core 1).bank.getG 3 == 0x80000008 && !(u.core 1).bank.getP 2 && (u.core 1).pc == 6 && (u.core 1).cc == 1) = true := by decide +kernel

/-- MOV.W (G0+), #0x12345678: the destination is memory, its register moves on by 4 (06 R210, R212). -/
def movCode : List Nat := [0x0108, 0x7010, 0x5678, 0x1234]

theorem wit_isq_mov_memory :
    accessesTrap (onCore (coreOf movCode)) 1 [{ addr := 0x100, size := 4, rd := false, wr := true, code := false }] = none ∧
    ran (.mov 1) (onCore (coreOf movCode)) (fun u =>
      tread 0 (u.core 1).x 0x100 4 == [0x78, 0x56, 0x34, 0x12] && (u.core 1).bank.getG 0 == 0x104 && (u.core 1).pc == 8) = true := by
  decide +kernel

/-- DIVS.B G3, G1, G2 and SAR.H, ROR.B on the same operands. -/
theorem wit_isq_arithmetic :
    ran (.divs 1) (onCore (coreOf [0x1708, 0x0602, 0x0400])) (fun u => (u.core 1).bank.getG 3 == 0xEDB6DB6E && (u.core 1).cc == 18) = true ∧
    ran (.sar 1) (onCore (coreOf [0x2608, 0x0602, 0x0400])) (fun u => (u.core 1).bank.getG 3 == 0xFF000000) = true ∧
    ran (.ror 1) (onCore (coreOf [0x2800, 0x0602, 0x0400])) (fun u => (u.core 1).bank.getG 3 == 2) = true ∧
    ran (.cmplt 1) (onCore (coreOf [0x3A08, 0xB602, 0x0400])) (fun u => (u.core 1).bank.getP 3) = true := by decide +kernel

/-- CCR.DZT decides what a division by zero does (06 R217). -/
theorem wit_isq_divide_by_zero :
    ran (.divu 1) (onCore (coreOf [0x1808, 0x0602, 0x0A0A])) (fun u =>
      (u.core 1).bank.getG 3 == 0 && (u.core 1).bank.getP 2 && (u.core 1).pc == 6) = true ∧
    ran (.divu 1) (onCore { coreOf [0x1808, 0x0602, 0x0A0A] with ccr := 1 }) (fun u =>
      (u.core 1).pc == 0x20 && (u.core 1).trapCause == 2 && (u.core 1).bank.getG 0 == 0xF8 &&
      tread 0 (u.core 1).x 0xF8 8 == [0, 0, 0, 0, 0, 0, 0, 0]) = true := by decide +kernel

theorem wit_isq_guard_false :
    ran (.add 1) (onCore (coreOf [0x1098, 0x0602, 0x040A])) (fun u =>
      (u.core 1).bank.getG 3 == 0x80000008) = true ∧
    ran (.add 1) (onCore (coreOf [0x1018, 0x0602, 0x040A])) (fun u =>
      (u.core 1).bank.getG 3 == 0 && (u.core 1).pc == 6 && (u.core 1).cc == 1) = true := by decide +kernel

theorem wit_isq_branches :
    ran (.bra 1) (onCore (coreOf [0x4000, 0x0010])) (fun u => (u.core 1).pc == 0x24) = true ∧
    ran (.isqNop 1) (onCore (coreOf [0x6F00])) (fun u => (u.core 1).pc == 2) = true ∧
    ran (.ei 1) (onCore (coreOf [0x6400])) (fun u => (u.core 1).csr == 0x800) = true ∧
    ran (.di 1) (onCore { coreOf [0x6500] with csr := 0x800 }) (fun u => (u.core 1).csr == 0) = true ∧
    ran (.sleep 1) (onCore (coreOf [0x6600])) (fun u => (u.core 1).sleeping && (u.core 1).pc == 2) = true := by decide +kernel

theorem wit_isq_call_return :
    ran (.brl 1) (onCore (coreOf [0x4200, 0x0010])) (fun u =>
      (u.core 1).pc == 0x24 && (u.core 1).bank.getG 0 == 0xFC && tread 0 (u.core 1).x 0xFC 4 == [4, 0, 0, 0]) = true ∧
    ran (.ret 1) (onCore { coreOf [0x4400] with x := [(0x100, 0x40)] }) (fun u =>
      (u.core 1).pc == 0x40 && (u.core 1).bank.getG 0 == 0x104) = true ∧
    ran (.jmp 1) (onCore (coreOf [0x4100, 0x0400])) (fun u => (u.core 1).pc == 7) = true := by decide +kernel

theorem wit_isq_loops :
    ran (.dbnz 1) (onCore (coreOf [0x4508, 0x0400, 0x0010])) (fun u => (u.core 1).pc == 0x26 && (u.core 1).bank.getG 2 == 6) = true ∧
    ran (.dbnz 1) (onCore { coreOf [0x4508, 0x0400, 0x0010] with main := { RegBank.reset with g := [(2, 1)] } }) (fun u =>
      (u.core 1).pc == 6 && (u.core 1).bank.getG 2 == 0) = true ∧
    ran (.cblt 1) (onCore (coreOf [0x4A08, 0x0204, 0x0010])) (fun u => (u.core 1).pc == 0x26) = true ∧
    ran (.cblo 1) (onCore (coreOf [0x4E08, 0x0204, 0x0010])) (fun u => (u.core 1).pc == 6) = true := by decide +kernel

theorem wit_isq_accumulate :
    ran (.mac 1) (onCore (coreOf [0x3008, 0xA002, 0x0400])) (fun u =>
      (u.core 1).bank.getAC 0 == BitVec.ofInt 80 (-15032385529)) = true ∧
    ran (.macu 1) (onCore (coreOf [0x3208, 0xA002, 0x0400])) (fun u => (u.core 1).bank.getAC 0 == 0x380000007) = true ∧
    ran (.msu 1) (onCore (coreOf [0x3108, 0xA002, 0x0400])) (fun u => (u.core 1).bank.getAC 0 == 15032385529) = true ∧
    ran (.acx 1) (onCore { coreOf [0x3308, 0x06A0, 0x100A, 0] with main := { RegBank.reset with ac0 := 0x380000007 } }) (fun u =>
      (u.core 1).bank.getG 3 == 0x7FFFFFFF && (u.core 1).bank.getP 2) = true ∧
    ran (.lea 1) (onCore (coreOf [0x0408, 0x0634, 0xFFFF])) (fun u => (u.core 1).bank.getG 3 == 6) = true := by decide +kernel

/-- REP #2 before ADD.W, and REP C with C 0. -/
theorem wit_isq_repeat :
    ran (.repN 1) (onCore (coreOf ([0x6100, 2] ++ addCode))) (fun u => (u.core 1).repLeft == 2 && (u.core 1).pc == 0) = true ∧
    ran (.repC 1) (onCore (coreOf ([0x6000] ++ addCode))) (fun u => (u.core 1).repLeft == 0 && (u.core 1).pc == 8) = true ∧
    ran (.repN 1) (onCore (coreOf [0x6100, 2, 0x4000, 0])) (fun u => (u.core 1).trapCause == 1 && (u.core 1).pc == 0x10) = true := by
  decide +kernel

def repeating (n : Nat) (fresh : Bool) : State := onCore { coreOf ([0x6100, 2] ++ addCode) with repLeft := n, repFresh := fresh }

theorem wit_isq_iteration :
    ran (.add 1) (repeating 2 true) (fun u => (u.core 1).repLeft == 1 && (u.core 1).pc == 0 && !(u.core 1).repFresh) = true ∧
    ran (.repeatIteration 1) (repeating 1 false) (fun u =>
      (u.core 1).repLeft == 0 && (u.core 1).pc == 10 && (u.core 1).bank.getG 3 == 0x80000008) = true := by decide +kernel

theorem wit_isq_traps :
    ran (.reservedOpcode 1) (onCore (coreOf [0x7F12])) (fun u =>
      (u.core 1).pc == 0x10 && (u.core 1).trapCause == 1 && (u.core 1).trapInsn0 == 0x7F12 && (u.core 1).bank.getG 0 == 0xF8) = true ∧
    ran (.trap 1) (onCore (coreOf [0x6200, 0x55])) (fun u =>
      (u.core 1).pc == 0x60 && (u.core 1).trapCause == 7 && (u.core 1).trapAddr == 0x55 &&
      tread 0 (u.core 1).x 0xFC 4 == [4, 0, 0, 0]) = true ∧
    ran (.mov 1) (onCore (coreOf [0x0108, 0x0642])) (fun u =>
      (u.core 1).pc == 0x30 && (u.core 1).trapCause == 3 && (u.core 1).trapAddr == 0x80000001) = true := by decide +kernel

theorem wit_isq_double_fault :
    ran (.trap 1) (onCore { coreOf [0x6200, 0x55] with main := { RegBank.reset with g := [(0, 6)] } }) (fun u =>
      (u.core 1).halt == 2) = true := by decide +kernel

/-- Source 0 is presented to core 1 of pitch 0 with priority 5, fast or not; the core takes normal requests. -/
def requested (fast asleep : Bool) : State :=
  let c := { coreOf [0x6F00] with csr := 0x800, ccr := 2, pc := 0x40, sleeping := asleep }
  raise (wr (onCore c) R.IC_SRC_CFG (fset (fset (fset (fset 0 F.IC_SRC_CFG_ENABLE 1) F.IC_SRC_CFG_PRIORITY 5) F.IC_SRC_CFG_TARGET 1)
    F.IC_SRC_CFG_FAST (b2n fast)) 0) 0

theorem wit_isq_entries :
    normalTaken (requested false false) 1 = true ∧ fastTaken (requested true false) 1 = true ∧
    ran (.normalEntry 1) (requested false false) (fun u =>
      (u.core 1).pc == 0x80 && (u.core 1).csr == 0 && (u.core 1).bank.getG 0 == 0xF8 &&
      tread 0 (u.core 1).x 0xF8 8 == [0, 8, 0, 0, 0x40, 0, 0, 0]) = true ∧
    ran (.fastEntry 1) (requested true false) (fun u =>
      (u.core 1).pc == 0x90 && (u.core 1).fpc == 0x40 && (u.core 1).fcsr == 0x800 && (u.core 1).csr == 0x2800) = true := by decide +kernel

theorem wit_isq_wake :
    presentedAt (requested false true) 1 = [0] ∧
    ran (.coreWake 1) (requested false true) (fun u => (u.core 1).pc == 0x80 && !(u.core 1).sleeping) = true ∧
    ran (.coreWake 1) (requested true true) (fun u => (u.core 1).pc == 0x90 && !(u.core 1).sleeping) = true ∧
    ran (.coreWake 1) ((requested false true).setCore 1 { (requested false true).core 1 with csr := 0 }) (fun u =>
      (u.core 1).pc == 0x40 && !(u.core 1).sleeping) = true := by decide +kernel

theorem wit_isq_reti :
    ran (.reti 1) (onCore { coreOf [0x6300] with csr := 0x2000, fpc := 0x40, fcsr := 0x800 }) (fun u =>
      (u.core 1).pc == 0x40 && (u.core 1).csr == 0x800) = true ∧
    ran (.reti 1) (onCore { coreOf [0x6300] with x := [(0x101, 8), (0x104, 0x44)] }) (fun u =>
      (u.core 1).pc == 0x44 && (u.core 1).csr == 0x800 && (u.core 1).bank.getG 0 == 0x108) = true ∧
    ran (.reti 1) (onCore { coreOf [0x6300] with main := { RegBank.reset with g := [(0, 0x7FFC)] } }) (fun u => (u.core 1).halt == 2) =
      true := by decide +kernel

/-- A call of context 5 to entry 0x200, routine 3. -/
def callA : IsqCall :=
  { routine := 3, entry := 0x200, ctx := 5, block := 0x17B0640, tenant := 0, master := 0, lease := none, frame := 0, cycle := 0,
    limit := 50, expired := false, uncorr := false }

theorem wit_isq_cwait :
    ran (.cwait 1) (onCore (coreOf [0x6700])) (fun u => (u.core 1).cwaiting && (u.core 1).pc == 0) = true ∧
    ran (.cwait 1) (onCore { coreOf [0x6700] with calls := [callA] }) (fun u =>
      (u.core 1).pc == 0x200 && (u.core 1).current == some callA && (u.core 1).bank.getG 1 == 0x117B0640 &&
      (u.core 1).bank.getG 2 == 3 && (u.core 1).callSp == 0x100) = true ∧
    ran (.callDispatch 1) (onCore { coreOf [0x6700] with cwaiting := true, calls := [callA] }) (fun u =>
      (u.core 1).pc == 0x200 && (u.core 1).callRet == 0 && !(u.core 1).cwaiting) = true ∧
    ran (.cwait 1) (onCore { coreOf [0x6700] with csr := 0x4000 }) (fun u => (u.core 1).trapCause == 8) = true := by decide +kernel

/-- Core 1 runs the call of context 5 and stands at CRET #result. -/
def returning (res hi : Nat) : State :=
  (inStep ctxA (cmdOf 8 1 0 hi 0 3 0 0)).setCore 1
    { coreOf [0x6800, 0x1000, res] with csr := 0x4000, current := some callA, callRet := 0x60, callSp := 0x400 }

theorem wit_isq_cret :
    waitsIn (returning 0 0) 5 0 (cmdOf 8 1 0 0 0 3 0 0) = true ∧
    ran (.cret 1) (returning 0 0) (fun u =>
      (u.core 1).pc == 0x60 && (u.core 1).bank.getG 0 == 0x400 && (u.core 1).current.isNone && (u.core 1).csr == 0 && standsAt u 1 1 0) = true ∧
    ran (.cret 1) (returning 9 0x8000) (fun u => standsAt u 1 1 4) = true ∧
    ran (.cret 1) (returning 9 0) (fun u => endings u == [(0x0510, 0)]) = true ∧
    ran (.cret 1) (onCore (coreOf [0x6800, 0x1000, 0])) (fun u => (u.core 1).trapCause == 8) = true := by decide +kernel

theorem wit_call_limit :
    limitPassed (atCyc (routines (returning 0 0)) 0 50) 5 = true ∧ limitPassed (atCyc (routines (returning 0 0)) 0 49) 5 = false ∧
    ran (.callLimit 5) (atCyc (routines (returning 0 0)) 0 50) (fun u =>
      endings u == [(0x0603, 0)] && (u.core 1).current == some { callA with expired := true }) = true := by decide +kernel

/-- Core 1 still runs the call when its limit has passed. -/
def overdue (c : Nat) : State :=
  atCyc (onCore { coreOf [0x6F00] with csr := 0x4000, current := some { callA with expired := true }, callSp := 0x400 }) 0 c

theorem wit_call_limit_trap :
    callOverdue (overdue 50) ((overdue 50).core 1) = true ∧ callOverdue (overdue 49) ((overdue 49).core 1) = false ∧
    ran (.callLimitTrap 1) (overdue 50) (fun u =>
      (u.core 1).pc == 0x70 && (u.core 1).bank.getG 0 == 0x400 && (u.core 1).trapCause == 9 && (u.core 1).trapAddr == 3) = true := by
  decide +kernel

theorem wit_core_control :
    corePowered live 32 = true ∧
    ran (.halt 32) live (fun u => (u.core 32).halt == 1) = true ∧
    ran (.resume 1) (onCore { coreOf [] with halt := 1, pc := 8 }) (fun u => (u.core 1).halt == 0 && (u.core 1).pc == 8) = true ∧
    ran (.resume 1) (onCore { coreOf [] with halt := 2, pc := 8 }) (fun u => (u.core 1).halt == 2) = true ∧
    ran (.coreReset 1) (onCore { coreOf [] with pc := 8, storeGood := false, storeY := [(3, 9)], calls := [callA] }) (fun u =>
      (u.core 1).pc == 0 && (u.core 1).halt == 4 && (u.core 1).y == [(3, 9)] && (u.core 1).calls == [callA]) = true := by decide +kernel

/-! ## 07 -/

/-- Pitch 2 is on, its background test stands at access `a` of step 16 of bank 9 (07, worked example: rows 64-67 are step 16), and bank A holds
its test stake in cycle 5. -/
def testingAt (a : Nat) (failed : List Nat) : State :=
  let s0 := scheduled 0
  let b := { s0.sched.bankA with dir := [(2, BitVec.ofNat 64 (2 ^ 32))], stakes := [(0, BitVec.ofNat 64 (5 * 2 ^ 52 + 8 * 2 ^ 24 + 2 * 2 ^ 14))] }
  let s := wf (wf (s0.withSched { s0.sched with bankA := b }) R.BGT_STATUS F.BGT_STATUS_BANK 9 2) R.BGT_STATUS F.BGT_STATUS_STEP 16 2
  setTest { s with sched := { s.sched with frame := 100 }, power := { s.power with dom := [] } } 2
    { access := a, failed := failed, aborted := false }

theorem test_march : marchAccess 0 = (0, false) ∧ marchAccess (162 - 64) = (17, true) ∧ marchAccess 65 = (0, false) ∧
    marchAccess 320 = (63, true) ∧ marchAccess 639 = (63, true) := by decide

theorem test_example_word : testBase (testingAt 0 []) 2 + 56 = 9 * 24576 + 1080 ∧ spKey 0 ((9 * 24576 + 1080) * 32) = 0x6C8700 := by
  decide +kernel

theorem wit_test_save :
    testRuns (reach (testingAt 3 []) 5) 2 = true ∧ activeBank (reach (testingAt 3 []) 5) = some false ∧
    (let v := reach (testingAt 3 []) 5
     let b := bankOf v false
     (b.claimants (timetableFrame v b) 8 2 5).length = 1 ∧
     (∀ e ∈ b.claimants (timetableFrame v b) 8 2 5, b.collides (timetableFrame v b) e 5 = false) ∧
     claimed v (absCycle v) 8 2 = false ∧ claimed v (absCycle v) 0 (testPort v 2) = false) ∧
    ran (.backgroundTestAccess ⟨2, 5⟩ false .uncorrectable) (testingAt 3 []) (fun u =>
      (testOf u 2).access == 4 && (shadowOf u 2 3).valid && (shadowOf u 2 3).bad && rb u R.SP_FAULT F.SP_FAULT_UNCORR 2) = true ∧
    ran (.backgroundTestAccess ⟨2, 5⟩ false .clean) (setShadow (testingAt 56 []) 2 56 { valid := true, bad := false, data := 77, check := none }) (fun u =>
      (testOf u 2).access == 57 && (shadowOf u 2 56).data == 77) = true := by decide +kernel

theorem wit_test_march :
    ran (.backgroundTestAccess ⟨2, 5⟩ false .clean) (wf (testingAt 81 []) R.BGT_STATUS F.BGT_STATUS_PATTERN 3 2) (fun u =>
      spArray u 2 (testBase u 2 + 17) == BitVec.allOnes 256 && spCheckOf u 2 (testBase u 2 + 17) == BitVec.allOnes 32 &&
      claimed u (absCycle u) 0 (testPort u 2)) = true ∧
    ran (.backgroundTestAccess ⟨2, 5⟩ true .clean) (testingAt 162 []) (fun u => testOf u 2 == { access := 163, failed := [1], aborted := false }) =
      true := by decide +kernel

/-- Entry 60 is restored, and entry 63 ends the step. -/
theorem wit_test_restore :
    ran (.backgroundTestAccess ⟨2, 5⟩ false .clean) (setShadow (testingAt 760 [1]) 2 56 { valid := true, bad := true, data := 77, check := some 1 }) (fun u =>
      (testOf u 2).access == 761 && spArray u 2 (9 * 24576 + 1080) == 77 && u.mem.spBad == [spWordKey 2 (9 * 24576 + 1080)] &&
      shadowOf u 2 56 == Shadow.reset) = true ∧
    ran (.backgroundTestAccess ⟨2, 5⟩ false .clean) (testingAt 767 [1]) (fun u =>
      testOf u 2 == TestStep.reset && rf u R.BGT_STATUS F.BGT_STATUS_STEP 2 == 17 && rf u R.BGT_STATUS F.BGT_STATUS_BANK 2 == 9) = true := by
  decide +kernel

/-- The first restore of failed row 1: the hypotheses of the mapping hold (the number of factory repairs is free, so SOFT is given). -/
theorem wit_test_maps :
    let s := { testingAt 720 [1] with regs := Tbl.ins (testingAt 720 [1]).regs (regKey R.SP_BANK_REPAIR 2 9 0) 3 }
    testRuns s 2 = true ∧ (720 - 704) % 16 = 0 ∧ (testOf s 2).failed.contains 1 = true ∧
    rf s R.SP_BANK_REPAIR F.SP_BANK_REPAIR_SOFT 2 9 = 3 := by decide +kernel

theorem wit_test_abort :
    ran (.bgtEnableWrite 2 0) (testingAt 100 [1]) (fun u => testOf u 2 == TestStep.reset) = true ∧
    ran (.bgtEnableWrite 2 0) (setShadow (testingAt 100 [1]) 2 5 { valid := true, bad := false, data := 77, check := none }) (fun u =>
      rf u R.BGT_CTRL F.BGT_CTRL_ENABLE 2 == 0 && testOf u 2 == { access := 0, failed := [], aborted := true }) = true ∧
    ran (.bgtEnableWrite 2 1) (testingAt 100 [1]) (fun u => (testOf u 2).access == 100) = true ∧
    ran (.testStepRestore ⟨2, 5⟩) (setTest (setShadow (testingAt 0 []) 2 5 { valid := true, bad := false, data := 77, check := none }) 2
        { access := 0, failed := [], aborted := true }) (fun u =>
      spArray u 2 (9 * 24576 + 1029) == 77 && testOf u 2 == TestStep.reset && shadowOf u 2 5 == Shadow.reset) = true := by decide +kernel

theorem wit_test_redirected :
    redirected (testingAt 100 []) 2 (9 * 24576 + 1080) = some 56 ∧
    (spWord (testingAt 100 []) 2 (9 * 24576 + 1080)).2 = false ∧ spWord (spWrWord (testingAt 100 []) 2 (9 * 24576 + 1080) 1 [9]) 2
      (9 * 24576 + 1080) = (0x900, false) := by decide +kernel

/-- Channel 3 in service with 1 GiB, its scrub at line `l`. -/
def scrubAt (l : Nat) : State :=
  let s := wf (wf live R.DDR5_INFO F.DDR5_INFO_PRESENT 1 3) R.DDR5_INFO F.DDR5_INFO_CAPACITY 1 3
  wf s R.DDR5_SCRUB_STATUS F.DDR5_SCRUB_STATUS_LINE l 3

theorem wit_scrub :
    ddrPresent (scrubAt 7) 3 = true ∧ scrubSlot (reach (scrubAt 7) 0) 3 = true ∧ scrubSlot (reach (scrubAt 7) 1) 3 = false ∧ rb (scrubAt 7) R.DDR5_SCRUB_CFG F.DDR5_SCRUB_CFG_ENABLE 3 = true ∧ domOn (scrubAt 7) 35 = true ∧
    ran (.scrubRead ⟨3, 0⟩ (.corrected [4, 4, 17])) (scrubAt 7) (fun u =>
      rf u R.DDR5_SCRUB_STATUS F.DDR5_SCRUB_STATUS_LINE 3 == 8 && Tbl.get 0 u.mem.scrubPending 3 == 8 &&
      rf u R.DDR5_DEV_ERR (31, 0) 3 4 == 2 && rf u R.DDR5_DEV_ERR (31, 0) 3 17 == 1 && rg u R.DDR5_ERR 3 == 0) = true ∧
    ran (.scrubRead ⟨3, 0⟩ .uncorrectable) (scrubAt (2 ^ 23 - 1)) (fun u =>
      rf u R.DDR5_SCRUB_STATUS F.DDR5_SCRUB_STATUS_LINE 3 == 0 && rf u R.DDR5_SCRUB_STATUS F.DDR5_SCRUB_STATUS_SWEEPS 3 == 1 &&
      rf u R.DDR5_FIRST_UNCORR F.DDR5_FIRST_UNCORR_LINE 3 == 2 ^ 23 - 1 && u.mem.ddrBad == [3 * 2 ^ 31 + 2 ^ 23 - 1]) = true ∧
    ran (.scrubRead ⟨3, 0⟩ .clean) (scrubAt 7) (fun u => rf u R.DDR5_SCRUB_STATUS F.DDR5_SCRUB_STATUS_LINE 3 == 8 && rg u R.DDR5_FAULT 3 == 0) =
      true := by decide +kernel

def scrubWaits : State := (scrubAt 7).withMem { (scrubAt 7).mem with scrubPending := [(3, 7)] }

theorem wit_scrub_write_back :
    ran (.scrubWriteBack ⟨3, 0⟩) scrubWaits (fun u =>
      rf u R.DDR5_ERR F.DDR5_ERR_SCRUB_CORR 3 == 1 && u.mem.scrubPending == []) = true ∧
    6 + 3 * 2 ^ 31 ∈ wordsOf ((3 * 2 ^ 31 + 6) * 128 + 5) 4 128 ∧ (6 + 3 * 2 ^ 31) / 2 ^ 31 = ddrChan ((3 * 2 ^ 31 + 6) * 128 + 5) ∧
    (ddrWr scrubWaits ((3 * 2 ^ 31 + 6) * 128 + 5) [1, 2, 3, 4]).mem.scrubPending = [] := by decide +kernel

theorem wit_scrub_period_and_sensors :
    ran (.scrubPeriodExpiry 3) (scrubAt 7) (fun u => rf u R.DDR5_FAULT F.DDR5_FAULT_SCRUB_LATE 3 == 1) = true ∧
    ran (.dimmThermalRead 3 true) (scrubAt 7) (fun u => rf u R.DDR5_INFO F.DDR5_INFO_TEMP_RANGE 3 == 1) = true ∧
    ran (.rcdParityError 3) (scrubAt 7) (fun u => u.out == [.ddrCommand 3 1]) = true := by decide +kernel

theorem wit_windows :
    ran (.canopyWindowLo 5 15 0x7000) live (fun u =>
      rf u R.CANOPY_WINDOW_LO F.CANOPY_WINDOW_LO_BASE 5 15 == 7 && !permitted u 5 .rd (.host 0x7FFF)) = true ∧
    ran (.canopyWindowHi 5 15 0x7003) (wr live R.CANOPY_WINDOW_LO 0x7000 5 15) (fun u =>
      permitted u 5 .rd (.host 0x7FFF) && !permitted u 5 .rd (.host 0x8000) && !permitted u 5 .wr (.host 0x7000) &&
      !permitted u 4 .rd (.host 0x7000)) = true := by decide +kernel

theorem wit_drain :
    ran (.drain 1) live (fun u => rf u R.CANOPY_DRAIN F.CANOPY_DRAIN_BUSY == 1) = true ∧
    ran .drainComplete (wf live R.CANOPY_DRAIN F.CANOPY_DRAIN_BUSY 1) (fun u => rf u R.CANOPY_DRAIN F.CANOPY_DRAIN_BUSY == 0) = true ∧
    ran .drainComplete { (wf live R.CANOPY_DRAIN F.CANOPY_DRAIN_BUSY 1).withMem { live.mem with draining := [4] } with
      sched := { live.sched with fetches := [{ id := 4, buf := 3, slots := 1, part := 511, lease := none, tenant := 0, consume := [], landed := none, data := [], left := 2, missed := false, step := 8192, rank := 6, line := none, plan := [] }] } } (fun u =>
      rf u R.CANOPY_DRAIN F.CANOPY_DRAIN_BUSY == 1) = true := by decide +kernel

theorem wit_denials :
    rg (deny live 9 .fetch (.host 0x5000)) R.CANOPY_DENY_COUNT = 1 ∧
    rf (deny live 9 .fetch (.sp 7 0x40)) R.CANOPY_DENY_INFO F.CANOPY_DENY_INFO_PITCH = 7 ∧
    rg (deny (deny live 9 .fetch (.host 0x5000)) 8 .wr (.ddr 0x6000)) R.CANOPY_DENY_ADDR = 0x5000 ∧
    ran .canopyDenyCount (deny live 9 .fetch (.host 0x5000)) (fun u =>
      u.busData == 1 && rg u R.CANOPY_DENY_COUNT == 0 && !u.mem.denyDisarmed) = true := by decide +kernel

/-! ## 08 -/

/-- Control mailbox 9 from master 0x21 to cores of master 0x21; core 1 has that identity and posts pointer 0x1122334455667788, length 5. -/
def boxes (v : Nat) : State :=
  let s := wr (wr live R.CMB_BIND (2 ^ 63 + 0x21 * 2 ^ 16 + 0x21) 9) R.ISQ_FW_IDENT 0x21 0 1
  let s := wr (wr (wr s R.MB_NOTICE 0x55667788 0 0 1) R.MB_NOTICE 0x11223344 1 0 1) R.MB_NOTICE 5 2 0 1
  wr (wr (wr s R.IC_SRC_CFG v 137) R.IC_SRC_CFG v 2) R.MB_RX_SELECT 9 0 0 1
def enabledSrc : Nat := 2 ^ 31
/-- Mailbox 9 holds a notice of core 1. -/
def posted : State := (boxes enabledSrc).setMbox false 9 { full := true, serial := 7, agent := 1, notice := 0x00000021000000051122334455667788 }

theorem wit_ident : (agentIdent (boxes 0) 1).1 = 0x21 := by decide +kernel

theorem wit_mailbox_post :
    ran (.mbPost 1 9) (boxes enabledSrc) (fun u =>
      rg u R.MB_RESULT 0 0 1 == 1 && u.mbox false 9 == { full := true, serial := 1, agent := 1, notice := 0x00000021000000051122334455667788 } &&
      (u.src 137).pending && (u.src 137).count == 1) = true ∧
    ran (.mbPost 1 9) posted (fun u => rg u R.MB_RESULT 0 0 1 == 2) = true ∧
    ran (.mbPost 2 9) (boxes enabledSrc) (fun u => rg u R.MB_RESULT 0 0 2 == 3) = true ∧
    ran (.mbPost 1 8) (boxes enabledSrc) (fun u => rg u R.MB_RESULT 0 0 1 == 3) = true ∧
    ran (.mbPost 1 64) (boxes enabledSrc) (fun u => rg u R.MB_RESULT 0 0 1 == 4) = true ∧
    ran (.mbPost 1 0x80000FFF) (boxes enabledSrc) (fun u =>
      rg u R.MB_RESULT 0 0 1 == 1 && (u.mbox true 0xFFF).full) = true := by decide +kernel

/-- A tenant notice reaches its function; a core in a call may post to its caller's tenant alone. -/
theorem wit_post_tenant :
    ran (.mbPost 33 0x80000003)
      (wr (withFn0 (boxes 0)) R.FN_NOTICE_CFG 0x80000000 0 0 0 |>.setFn 0 { Fn.reset with
        present := true, bme := true, ident := 0x80030000, msix := [(0, 0x8)] })
      (fun u => u.out == [.msix 0 0 8 0]) = true ∧
    coreInCall ((boxes 0).setCore 1 { Core.reset with csr := 0x4000 } |>.core 1) = true ∧
    ran (.mbPost 1 0x80000003) ((boxes 0).setCore 1 { Core.reset with csr := 0x4000 }) (fun u => rg u R.MB_RESULT 0 0 1 == 3) = true := by
  decide +kernel

theorem wit_snapshot :
    rxAllowed posted 1 9 = true ∧
    ran (.mbRxSelect 1 9) posted (fun u =>
      rg u R.MB_RX_STATUS 0 0 1 == 0xC0000007 && rg u R.MB_RX_NOTICE 0 0 1 == 0x55667788 && rg u R.MB_RX_NOTICE 3 0 1 == 0x21) = true ∧
    ran (.mbRxSelect 2 9) posted (fun u => rg u R.MB_RX_STATUS 0 0 2 == 0 && rg u R.MB_RX_NOTICE 3 0 2 == 0) = true := by decide +kernel

theorem wit_empty :
    ran (.mbRxEmpty 1 7) posted (fun u =>
      !(u.mbox false 9).full && (u.mbox false 9).serial == 7 && (u.src 2).pending &&
      retQueue u 1 == [{ tenant := false, aborted := false, number := 9, notice := 0x00000021000000051122334455667788 }]) = true ∧
    ran (.mbRxEmpty 1 6) posted (fun u => (u.mbox false 9).full) = true ∧
    ran (.mbRetPop 1) { posted with mail := { posted.mail with ret := [(1, [⟨false, false, 9, 1⟩])], lost := [1] } } (fun u =>
      retQueue u 1 == [] && u.mail.lost == []) = true := by decide +kernel

/-- Function 0 has tenant 3, whose mailbox holds a notice of agent 34. -/
def noticed : State :=
  ((withFn0 live).setFn 0 { Fn.reset with present := true, bme := true, ident := 0x80030000 }).setMbox true 3
    { full := true, serial := 2, agent := 1, notice := 0x00000021000000051122334455667788 }

theorem wit_fn_notice :
    ran (.fnNoticeStatus 0) noticed (fun u =>
      u.busData == 0x80000002 && rg u R.FN_NOTICE_PTR 0 0 0 == 0x1122334455667788 && rg u R.FN_NOTICE_INFO 0 0 0 == 0x2100000005) = true ∧
    ran (.fnNoticeStatus 1) noticed (fun u => u.busData == 0) = true ∧
    ran (.fnNoticeEmpty 0 2) noticed (fun u => !(u.mbox true 3).full && (retQueue u 1).length == 1) = true ∧
    ran (.fnNoticeEmpty 0 3) noticed (fun u => (u.mbox true 3).full) = true ∧
    ran (.tnmClear 3) noticed (fun u =>
      !(u.mbox true 3).full && (retQueue u 1).map (·.notice) == [0x80000021000000051122334455667788]) = true ∧
    ran (.tnmClear 4) noticed (fun u => (u.mbox true 3).full) = true := by decide +kernel

/-- The sources of the worked example (08): 1030 normal, priority 5, group 2 = cores 8, 9, 10; core 8 at priority 3, core 9 asleep, core 10
at priority 1. -/
def example1030 (pending : Bool) : State :=
  let s := wr (wr (wr live R.IC_SRC_CFG 0x80500002 1030) R.IC_GROUP 0x700 2) R.IC_GROUP 0x1000 3
  let s := ((s.setCore 8 { Core.reset with pc := 0x40 }).setCore 9 { Core.reset with sleeping := true }).setCore 10 { Core.reset with pc := 4 }
  let s := ((s.setCore 12 { Core.reset with sleeping := true }).setStack 8 [(1040, 3, false)]).setStack 10 [(1041, 1, false)]
  if pending then raise (raise s 1030) 1030 else s

theorem test_example_routing :
    presentedTo (example1030 true) 1030 = some 10 ∧ srcReserved 1030 = false ∧ eligible (example1030 true) 10 = true ∧
    presentedTo (wr (example1030 true) R.IC_SRC_CFG 0x80500003 1030) 1030 = some 12 ∧
    presentedTo (wr (example1030 true) R.IC_SRC_CFG 0xC0500003 1030) 1030 = none := by decide +kernel

theorem wit_pitch_local :
    presentedTo (raise (wr live R.IC_SRC_CFG 0x80100003 17) 17) 17 = some 7 := by decide +kernel

theorem wit_raise :
    ran (.icRaise 1030) (example1030 false) (fun u => (u.src 1030).pending && (u.src 1030).count == 1) = true ∧
    ran (.icRaise 1031) (example1030 false) (fun u => !(u.src 1031).pending) = true ∧
    ran (.icRaise 128) (wr live R.IC_SRC_CFG 0x80500002 128) (fun u => !(u.src 128).pending) = true := by decide +kernel

theorem wit_claim :
    ran (.icClaim 10) (example1030 true) (fun u =>
      u.busData == 0x80020406 && u.src 1030 == { pending := false, active := true, count := 0, core := 10, lastClaim := 2 } &&
      u.stack 10 == [(1030, 5, false), (1041, 1, false)]) = true ∧
    ran (.icClaim 12) (example1030 true) (fun u => u.busData == 0) = true ∧
    ran (.icFclaim 10) (wr (example1030 true) R.IC_SRC_CFG 0xA0500002 1030) (fun u =>
      u.busData == 0x80020406 && (u.stack 10).length == 2) = true ∧
    ran (.icFclaim 10) (example1030 true) (fun u => u.busData == 0) = true := by decide +kernel

theorem wit_complete :
    ran (.icComplete 10 1041) (example1030 false) (fun u => u.stack 10 == []) = true ∧
    ran (.icComplete 10 1030) (wr (example1030 false) R.IC_SRC_CFG 0x80500002 330) (fun u =>
      (u.stack 10).length == 1 && rg u R.IC_STATUS 0 0 10 == 1 && (u.src 330).pending) = true ∧
    ran (.icFcomplete 10 1041) (example1030 false) (fun u => rg u R.IC_STATUS 0 0 10 == 1) = true ∧
    ran (.icFcomplete 10 7) ((example1030 false).setStack 10 [(7, 0, true)]) (fun u => u.stack 10 == []) = true := by decide +kernel

/-! ## 09 -/

/-- The factory values of the items are free; here every one is gain 1.0, offset 0. -/
def calibrated (s : State) : State :=
  { s with regs := (List.range 128).foldl (fun t i => Tbl.ins t (regKey R.CAL_FACTORY i 0 0) 0x4000000000000000) s.regs }

/-- PPS_IN0 is selected and qualified; its last edge came at 100 s; the lantern is in state `st`. -/
def disciplined (st : Nat) (set : Option (Nat × Nat × W32)) : State :=
  let s := calibrated (wr live R.LANT_CFG 0x1000)
  s.withLant { s.lant with
    state := st, selected := 1, time := LTime.of (100999999000 * 2 ^ 40), delta := 10000, inReset := false, pendingSet := set,
    errors := [3, 3, 3, 3, 3, 3, 3, 3], pps := [(0, { good := 4, last := 100000000000000, missed := 0, qualified := true })] }

theorem test_cal : calDelay (disciplined 2 none) 0 = 0 ∧ calibrate (disciplined 2 none) 64 (-7) = -7 := by decide +kernel

theorem test_cal_gain :
    calibrate (wr (disciplined 2 none) R.CAL_USER (0x600000000000000A) 64) 64 (-7) = -1 ∧ round60 (3 * 2 ^ 59) = 2 ∧
    round60 (-(3 * 2 ^ 59)) = -2 := by decide +kernel

/-- An edge 40 ns late keeps the lock; one 60 ns late ends it; a fourth error over 1,000 ns would step. -/
theorem wit_pps_edge :
    isUp (disciplined 2 none) ∧
    (ppsEdgeS 0 101000000040000 (disciplined 2 none)).lant.state = 2 ∧
    (ppsEdgeS 0 101000000060000 (disciplined 2 none)).lant.state = 1 ∧
    (ppsEdgeS 0 101000000060000 (disciplined 2 none)).lant.errors.head? = some 60000 ∧
    (ppsEdgeS 0 101000000060000 (disciplined 1 none)).lant.state = 1 ∧
    (ppsEdgeS 0 101000000000000 (disciplined 1 none)).lant.state = 2 ∧
    (ppsEdgeS 0 101000002000000 ((disciplined 2 none).withLant { (disciplined 2 none).lant with bigErrors := 3 })).lant.pendingStep =
      some (2000000, false) ∧
    Tbl.get Pps.reset (ppsEdgeS 0 101000020000000 (disciplined 2 none)).lant.pps 0 =
      { good := 0, last := 101000020000000, missed := 0, qualified := false } := by
  refine ⟨Or.inl rfl, ?_, ?_, ?_, ?_, ?_, ?_, ?_⟩ <;> decide +kernel

/-- A pending set puts the edge at 500 s; an edge of an input that is not selected only qualifies it. -/
theorem wit_pps_set :
    ran (.ppsInEdge 0 101000000040000) (disciplined 2 (some (1, 500, 0))) (fun u =>
      u.lant.time == LTime.of (100999999000 * 2 ^ 40 + (500000000000000 - 101000000040000) * 2 ^ 40 / 1000) && u.lant.pendingSet == none && rb u R.LANT_FAULT F.LANT_FAULT_STEPPED &&
      rg u R.LANT_PPS_CAP 0 == 101000000040) = true ∧
    ran (.ppsInEdge 1 7000000000000) (disciplined 2 none) (fun u =>
      Tbl.get Pps.reset u.lant.pps 1 == { good := 0, last := 7000000000000, missed := 0, qualified := false } &&
      rg u R.LANT_PPS_CAP 1 == 7000000000) = true := by decide +kernel

theorem wit_second :
    ran .lanternSecond (disciplined 2 none) (fun u => u.lant.selected == 1 && u.lant.time.units == 100999999000 * 2 ^ 40 && u.lant.rates == [0]) = true ∧
    ran .lanternSecond ((disciplined 2 none).withLant { (disciplined 2 none).lant with pendingStep := some (2000000, false) }) (fun u =>
      u.lant.time.units == (100999999000 + 999998000) * 2 ^ 40 && u.lant.pendingStep == none) = true ∧
    ran .lanternSecond ((disciplined 2 none).withLant { (disciplined 2 none).lant with pendingStep := some (2000000, true) }) (fun u =>
      u.lant.time.units == (100999999000 - 2000) * 2 ^ 40 && u.lant.pendingStep == none) = true ∧
    ran .lanternSecond ((disciplined 2 none).withLant { (disciplined 2 none).lant with time := LTime.of (102000100000 * 2 ^ 40) }) (fun u =>
      Tbl.get Pps.reset u.lant.pps 0 == { good := 0, last := 100000000000000, missed := 1, qualified := true }) = true ∧
    ((disciplined 2 none).withCamp { (disciplined 2 none).camp with up := true }).camp.unacked.length < 1024 := by decide +kernel

theorem wit_ref :
    rf (refLostS (wf ((disciplined 2 none).withLant { (disciplined 2 none).lant with rates := [10, -3, 9] }) R.LANT_CFG F.LANT_CFG_TC_LOG2 1)) R.LANT_PHASE F.LANT_PHASE_FREQ = 3 ∧
    (refLostS (disciplined 2 none)).lant.state = 3 ∧ timeValid (refLostS (disciplined 2 none)) = false ∧
    ran .refReturn ((disciplined 3 none).withLant { (disciplined 3 none).lant with refLost := true }) (fun u =>
      u.lant.state == 1 && !u.lant.refLost) = true ∧
    ran .refReturn (disciplined 3 none) (fun u => u.lant.state == 3) = true := by decide +kernel

theorem wit_holdover :
    ran .holdoverExpiry (wf (disciplined 3 none) R.LANT_CFG F.LANT_CFG_HOLD_VALID 1) (fun u => u.lant.expired && !timeValid u) = true ∧
    ran .holdoverExpiry (wf (disciplined 3 none) R.LANT_CFG F.LANT_CFG_HOLD_VALID 255) (fun u => !u.lant.expired && timeValid u) = true := by
  decide +kernel

theorem wit_frame_lock :
    ran .coreLock ((disciplined 2 none).withLant { (disciplined 2 none).lant with goodFrames := 1000 }) (fun u => u.lant.lockNext) = true ∧
    ran .coreLock ((disciplined 2 none).withLant { (disciplined 2 none).lant with goodFrames := 999 }) (fun u => !u.lant.lockNext) = true ∧
    ran (.frameStart ⟨1251251, []⟩) ((disciplined 2 none).withLant { (disciplined 2 none).lant with lockNext := true }) (fun u =>
      u.lant.coreLocked && u.lant.goodFrames == 1 && u.lant.now == 1010000000010) = true ∧
    ran (.frameStart ⟨1256376, []⟩) ((disciplined 2 none).withLant { (disciplined 2 none).lant with coreLocked := true }) (fun u =>
      !u.lant.coreLocked && u.lant.goodFrames == 0) = true := by decide +kernel

/-- The 10 MHz output runs: ten edges in a frame. With the ridgepole and central domain lost the time of a frame passes all the same. -/
theorem wit_clock_out :
    ran (.frameStart ⟨1250000, []⟩) (wr (disciplined 2 none) R.LANT_CLK_CFG (2 ^ 31)) (fun u => u.out == [.clk10m 100999999000000 10]) = true ∧
    ran (.frameStart ⟨1250000, []⟩) (disciplined 2 none) (fun u => u.out == []) = true ∧
    announceClock (disciplined 2 none) = (6, 0x21) ∧
    (let s := setDom { disciplined 2 none with trust := { live.trust with phase := 0 } } F.PWR_DOMAIN_STATE 5 45
     domState s 45 = 5 ∧ ran (.frameStart ⟨1250000, []⟩) s (fun u => u.lant.now == 1010000000000) = true) := by decide +kernel

theorem wit_snap :
    ran (.lantSnap 1) { (disciplined 2 none) with
        lant := { (disciplined 2 none).lant with m1 := 1010000000000 }, sched := { live.sched with frame := 9, cycle := 1500 } } (fun u =>
      rg u R.LANT_SNAP_SEC == 101 && rg u R.LANT_SNAP_NS == 1500 * 2 ^ 32 + 1500 && rg u R.LANT_SNAP_FRAME == 9) = true ∧
    ran (.lantSnap 2) (disciplined 2 none) (fun u => rg u R.LANT_SNAP_SEC == 0) = true := by decide +kernel

theorem wit_set :
    ran (.setAtPpsEdge 0x4000000000000005) (wr (disciplined 2 none) R.LANT_SET_SEC 77) (fun u =>
      u.lant.pendingSet == some (1, 77, 5) && lantSetRead u == 0x6000000000000005) = true ∧
    ran (.setAtOnce 0x8000000000000005) (wr (disciplined 2 none) R.LANT_SET_SEC 77) (fun u =>
      u.lant.time.units == 77000000005 * 2 ^ 40 && lantSetRead u == 5) = true ∧
    ran (.setAtOnce 0x800000003B9ACA00) (disciplined 2 none) (fun u => u.lant.now == 1009999990000) = true ∧
    ran (.addNs 0xC0000000FFFFFFFF) (disciplined 2 none) (fun u => u.lant.now == 1009999990000 - 10) = true ∧
    ran (.setCancel 3) (disciplined 2 (some (1, 5, 0))) (fun u => u.lant.pendingSet == none && lantSetRead u == 3) = true := by decide +kernel

/-- A part whose log is empty, or holds one calibration commit that is being written. -/
def logged (l : List (BitVec 128)) : State := (disciplined 2 none).withTrust { live.trust with log := l }

theorem wit_commit :
    commitsUsed (logged []) = 0 ∧
    ran (.calCommit 1) (logged []) (fun u => u.lant.committing && u.trust.log.length == 1 && commitsUsed u == 1) = true ∧
    ran (.calCommit 0) (logged []) (fun u => !u.lant.committing) = true ∧
    ran (.calCommit 1) ((logged []).withTrust { (logged []).trust with otpOp := some (0, 0) }) (fun u => u.trust.calWaiting) = true ∧
    ran (.calCommit 1) (logged (List.replicate 16 5)) (fun u =>
      rf u R.CAL_STATUS F.CAL_STATUS_RESULT == 2) = true ∧
    ran (.calCommitComplete true) ((logged [0x105]).withLant { (logged []).lant with committing := true }) (fun u => u.trust.log == [0x305] && rf u R.CAL_STATUS F.CAL_STATUS_RESULT == 1) = true ∧
    ran (.calCommitComplete false) ((logged [0x105]).withLant { (logged []).lant with committing := true }) (fun u =>
      rf u R.CAL_STATUS F.CAL_STATUS_RESULT == 3 && !u.lant.committing) = true := by decide +kernel

theorem wit_serve :
    ran (.ppsOutPulse 1) (wr (disciplined 2 none) R.LANT_PPS_OUT (2 ^ 63) 1) (fun u => u.out == [.ppsPulse 1 101000000000000 1 false]) = true ∧
    ran (.ppsOutPulse 1) (disciplined 2 none) (fun u => u.out == []) = true ∧
    ran .todMessage (wr (disciplined 2 none) R.LANT_TOD_CFG (2 ^ 31)) (fun u =>
      match u.out with
      | [.tod m] => m.take 10 == [0xA5, 0x5A, 1, 0x82, 101, 0, 0, 0, 0, 0] && m.length == 16
      | _ => false) = true ∧
    crc8 [0x31, 0x32, 0x33, 0x34, 0x35, 0x36, 0x37, 0x38, 0x39] = 0xF4 := by decide +kernel

/-- MAC 20 is that of quad 5, in mode 2; its transmit delay is 7 ps. Port 5 is an endpoint in L0. -/
def stamping : State :=
  let s := wr (disciplined 2 none) R.CAL_USER 0x4000000000000007 37
  let s := wf (wf (wf s R.QUAD_CFG F.QUAD_CFG_PERSONALITY 3 5) R.QUAD_CFG F.QUAD_CFG_PORT 20 5) R.QUAD_CFG F.QUAD_CFG_ETH_MODE 2 5
  { (s.setPort 5 { Port.reset with link := 1 }) with
    trust := { s.trust with endpoints := [(5, 1)] }, ports := { (s.setPort 5 { Port.reset with link := 1 }).ports with ptp := [20] } }

theorem wit_stamps :
    macQuad stamping 20 = some 5 ∧
    ran (.ptpEventMessage 20 true 5000000001493) stamping (fun u => u.out == [.ptpStamp 20 5 1 32768]) = true ∧
    ran (.ptmRequest 5 5000000001493) stamping (fun u => u.out == [.ptm 5 5000000001]) = true := by decide +kernel

/-- The meter runs: minute 3, tenant 5 used 40 stake-cycles and 2 grants of unit 1 in the frame, the device 8 cycles. -/
def metering : State :=
  { live with
    sched := { live.sched with cycle := 2999, frame := 2000000 }
    meter := { live.meter with
      started := true, cur := { Minute.reset with minute := 3 }, frame := [(4096 + 5, { TRec.reset with stake := 40, free := 2, misses := 1 })]
      frameDev := [(1, 8)], power := [(0, 500)], intLen := 1 } }

theorem wit_meter_sample :
    ran (.meterSample 1) metering (fun u =>
      Tbl.get TRec.reset u.meter.cur.recs 5 == { TRec.reset with stake := 40, free := 2, misses := 1 } && u.meter.useT == [(5, 42)] &&
      u.meter.useDev == 8 && u.meter.cur.devCycles == 8 && u.meter.frame == [] && u.meter.frameDev == []) = true := by decide +kernel

/-- The interval of the worked example (09): 1,000 locked frames, 262,000 mW and 4,180,000 mW, 37, 84 and 4 million uses. -/
def interval : State :=
  let s := calibrated metering
  let s := wf (wf s R.METER_FEED F.METER_FEED_ENABLE 1 0) R.METER_ATTR_CFG F.METER_ATTR_CFG_INTERNAL 1
  let s := wf s R.METER_ATTR_CFG F.METER_ATTR_CFG_BASE_MW 3000000
  s.withMeter { s.meter with
    power := [(0, 4180000)], intNs := 10000000, intFrames := 1000, intLen := 1000, useT := [(0x2A5, 37000000), (7, 84000000)], useDev := 4000000 }

theorem wit_interval :
    (intervalS 262000 interval).meter.cur.baseNj = 3000000000 ∧
    (Tbl.get TRec.reset (intervalS 262000 interval).meter.cur.recs 0x2A5).energy = 426832000 ∧
    (Tbl.get TRec.reset (intervalS 262000 interval).meter.cur.recs 7).energy = 969024000 ∧
    (intervalS 262000 interval).meter.cur.devNj = 46144000 ∧ (intervalS 262000 interval).meter.remainder = 0 := by decide +kernel

theorem wit_feed_stale :
    ran (.feedStale 2) (wr { metering with meter := { metering.meter with feedAge := [(2, 1000)] } } R.METER_FEED
        (fset (fset 0 F.METER_FEED_ENABLE 1) F.METER_FEED_STALE_FRAMES 1000) 2) (fun u =>
      rb u R.METER_FEED F.METER_FEED_STALE 2 && u.meter.cur.feedStale) = true := by decide +kernel

/-- The frame lies in minute 5, the open one is 3. -/
def closing : State := { metering with lant := { live.lant with m1 := 3000000000000, delta := 10000 } }

theorem wit_minute :
    frameMinute closing = 5 ∧ closing.meter.started = true ∧
    (minuteCloseS closing).meter.cur.minute = 5 ∧ (minuteCloseS closing).meter.cur.gap = 1 ∧ (minuteCloseS closing).meter.chainSeq = 1 ∧
    (minuteCloseS closing).meter.blocks.map (·.minute) = [3] ∧
    ran .minuteClose metering (fun u => u.meter.cur.minute == 3) = true := by decide +kernel

/-- A closed block whose records are gone; its head is signed or not. -/
def blockA (sig : Option (List Byte)) : Block :=
  { seq := 9, minute := 3, header := List.replicate 128 0, digest := List.replicate 64 1, prevHead := List.replicate 64 2
    head := List.replicate 64 3, recs := none, signature := sig, signFailed := false, waits := true }

theorem wit_head_signed :
    ran (.headSigned false) { metering with meter := { metering.meter with blocks := [blockA (some []), blockA none, blockA none] } } (fun u =>
      u.meter.blocks.map (fun b => (b.signature.isSome, b.signFailed)) == [(true, false), (false, true), (false, false)]) = true ∧
    ran (.headSigned true) { metering with meter := { metering.meter with blocks := [blockA (some []), blockA none, blockA none] } } (fun u =>
      u.meter.blocks.map (fun b => (b.signature.isSome, b.signFailed)) == [(true, false), (true, false), (false, false)]) = true := by
  decide +kernel

/-- The ring is open, the ranger's master may write anywhere, the management function is live. -/
def delivering (denied : Bool) : State :=
  let s := { (if denied then withFn0 live else openFn) with meter := { metering.meter with blocks := [blockA (some [7, 7])] } }
  let s := wr (wr (wr s R.METER_HEAD_BASE 0x8000) R.METER_INDEX_ADDR 0x9000) R.METER_PRODUCER 3
  wf (wf s R.METER_RING_CFG F.METER_RING_CFG_ENABLE 1) R.METER_RING_CFG F.METER_RING_CFG_SIZE_LOG2 2

theorem wit_delivery :
    ringFull (delivering false) = false ∧ fnLive (delivering false) (mgmtFn (delivering false)) = true ∧
    ran .blockDelivery (delivering false) (fun u =>
      u.meter.blocks == [] && rg u R.METER_PRODUCER == 4 &&
      (match u.out with
        | [.hostWrite 0 a e, .hostWrite 0 x i] =>
          a == 0x8000 + 3 * 4096 && e.length == 4096 && leAt e 2 2 == 0x10 && leAt e 0x140 4 == 2 && x == 0x9000 && leAt i 0 4 == 4 && leAt i 8 8 == 9
        | _ => false)) = true ∧
    ran .blockDelivery (delivering true) (fun u =>
      rb u R.METER_FAULT F.METER_FAULT_DENIED && u.out == [] && u.meter.blocks.length == 1) = true := by decide +kernel

theorem wit_meter_registers :
    ran (.meterConsumer 2) (delivering false) (fun u => rg u R.METER_CONSUMER == 2) = true ∧
    ran (.meterConsumer 4) (delivering false) (fun u => rg u R.METER_CONSUMER == 0) = true ∧
    ran .meterCheckpoint metering (fun u => u.meter.cpFrame == 2000000 && u.meter.checkpoint == some { Minute.reset with minute := 3 }) = true ∧
    ran (.meterLiveSelect 5) (metering.withMeter { metering.meter with cur := { Minute.reset with
        recs := [(5, { TRec.reset with stake := 9, energy := 3000007, bound := true, entries := 2, misses := 6 })] } }) (fun u =>
      rg u R.METER_LIVE 2 == 9 && rg u R.METER_LIVE 5 == 0x300000006 && rg u R.METER_LIVE 6 == 0x2000500000002 && rg u R.METER_LIVE 7 == 7) =
        true := by decide +kernel

/-! ## 10 -/

/-- Quad 5 is endpoint port 5 at x16 by the image; quad 6 carries Ethernet MACs 64 and 65; quad 7 is root port 33. -/
def ported (s : State) : State :=
  let s := wf (wf (wf s R.QUAD_CFG F.QUAD_CFG_PERSONALITY 1 5) R.QUAD_CFG F.QUAD_CFG_PORT 5 5) R.QUAD_CFG F.QUAD_CFG_WIDTH 2 5
  let s := wf (wf (wf s R.QUAD_CFG F.QUAD_CFG_PERSONALITY 3 6) R.QUAD_CFG F.QUAD_CFG_PORT 64 6) R.QUAD_CFG F.QUAD_CFG_ETH_MODE 1 6
  let s := wf (wf s R.QUAD_CFG F.QUAD_CFG_PERSONALITY 2 7) R.QUAD_CFG F.QUAD_CFG_PORT 33 7
  s.withTrust { s.trust with endpoints := [(5, 3)], mgmtFn := 1280 }
/-- The same with the ports up; function 1281 is a virtual function with Bus Master Enable, function 1280 manages the device. -/
def upPorts : State :=
  let s := [5, 64, 65, 33].foldl (fun t p => t.setPort p { Port.reset with link := 1 }) (ported live)
  let s := (s.setFn 1281 { Fn.reset with present := true, bme := true }).setFn 1280 { Fn.reset with present := true, bme := true }
  wf s R.QUAD_STATUS F.QUAD_STATUS_LINK_UP 1 5

theorem wit_quads : portQuads (ported live) 5 = [5] ∧ quadPorts (ported live) 6 = [64, 65] ∧ portQuads (ported live) 65 = [6] ∧
    fnExists (ported live) 1280 = true := by decide +kernel

theorem wit_link_up :
    ran (.linkUp 5 6 1) (ported live) (fun u =>
      (u.port 5).link == 1 && rf u R.QUAD_STATUS F.QUAD_STATUS_LINK_UP 5 == 1 && rf u R.QUAD_STATUS F.QUAD_STATUS_RATE 5 == 6 &&
      rf u R.QUAD_STATUS F.QUAD_STATUS_NEG_WIDTH 5 == 1 && rb u R.PORT_FAULT F.PORT_FAULT_WIDTH_DEGRADED && (u.fn 1280).present) = true ∧
    ran (.linkUp 65 8 2) (ported live) (fun u =>
      rf u R.QUAD_STATUS F.QUAD_STATUS_LINK_UP 6 == 2 && rf u R.QUAD_STATUS F.QUAD_STATUS_NEG_WIDTH 6 == 0) = true ∧
    ran (.linkUp 256 0 0) live (fun u => rb u R.MGMT_ETH_CTRL F.MGMT_ETH_CTRL_LINK) = true ∧
    ran (.ethernetLinkDown 256) live (fun u => !rb u R.MGMT_ETH_CTRL F.MGMT_ETH_CTRL_LINK) = true := by decide +kernel

theorem wit_link_down :
    isUp upPorts ∧ portQuads upPorts 5 = [5] ∧ (upPorts.port 5).link = 1 ∧ mgmtFn upPorts / 256 = 5 ∧
    ((portDown upPorts 5 true).port 5).link = 0 ∧ ((fnLinkReset upPorts 1281).fn 1281).present = false ∧
    ((fnLinkReset upPorts 1280).fn 1280).present = true ∧ ((fnLinkReset upPorts 1280).fn 1280).bme = false := by
  refine ⟨Or.inl ?_, ?_, ?_, ?_, ?_, ?_, ?_, ?_⟩ <;> decide +kernel

/-- Context 5 waits for a device of root port 33. -/
def onRoot : State :=
  let s := { upPorts with prog := { upPorts.prog with devices := [(9, BitVec.ofNat 128 (1 + 33 * 2 ^ 8))] } }
  s.setCtx 5 { Ctx.reset with state := 2, running := true, issued := true, cmds := [0x90000000B#256] }

theorem wit_root_down :
    cCode (0x90000000B#256) = 0x0B ∧
    (endPortSteps onRoot 33).ctx 5 = Ctx.reset ∧ ((portDown onRoot 33 true).port 33).link = 0 := by decide +kernel

theorem wit_root_hyp : devPort (devEntry onRoot (cDevice (((onRoot.ctx 5).cmds).headD 0))) = 33 := by decide +kernel

theorem wit_l1 : ran (.l1Entry 5) upPorts (fun u => (u.port 5).link == 2) = true := by decide +kernel

theorem wit_quad_test :
    inTest upPorts 6 = false ∧ quadPorts upPorts 6 = [64, 65] ∧ (rootDown upPorts 64 false).ports.ports.map (·.1) = [5, 33, 65] ∧
    ran (.quadTest 8 0x80020000) upPorts (fun u => inTest u 8 && rf u R.QUAD_STATUS F.QUAD_STATUS_RATE 8 == 0) = true ∧
    ran (.quadTest 24 0x80000000) upPorts (fun u => inTest u 24 && rf u R.QUAD_STATUS F.QUAD_STATUS_RATE 24 == 9) = true ∧
    ran (.quadTest 8 0) (wf (wf upPorts R.QUAD_TEST F.QUAD_TEST_TEST 1 8) R.QUAD_STATUS F.QUAD_STATUS_RATE 8 8) (fun u =>
      !inTest u 8 && rf u R.QUAD_STATUS F.QUAD_STATUS_RATE 8 == 0) = true := by decide +kernel

/-- A frame of 60 bytes to 02:00:00:00:00:01, and a steering entry that puts it into queue 3 of MAC 64. -/
def frameA : List Byte := [2, 0, 0, 0, 0, 1] ++ List.replicate 54 0
def steered : State :=
  { upPorts with ports := { upPorts.ports with steer := [(64 * 256 + 9, BitVec.ofNat 128 (5 + 3 * 2 ^ 32 + 2 ^ 40 + 0x020000000001 * 2 ^ 64))] } }

theorem wit_frames_discarded :
    steerQueue steered 64 frameA = 3 ∧ steerQueue upPorts 64 frameA = 0 ∧
    ran (.frameReceived 64 (List.replicate 9601 0) true) upPorts (fun u => u.prog.macCounts == [(64 * 8 + 5, 1)]) = true ∧
    ran (.frameReceived 64 frameA true) steered (fun u => u.prog.macCounts == [(64 * 8 + 4, 1)]) = true ∧
    ran (.frameReceived 64 (frameA.take 59) false) steered (fun u => u.prog.macCounts == [(64 * 8 + 4, 1)]) = true ∧
    ran (.frameReceived 64 frameA false) (setRxQ steered 64 3 { RxQueue.reset with paused := true }) (fun u =>
      u.prog.macCounts == [(64 * 8 + 7, 1)]) = true := by decide +kernel

/-- The partition that the image gives queue 3 of MAC 64 has 8 slots. -/
def roomy : State :=
  { steered with sched := { steered.sched with partition := [(12 * 512 + Config.rxPartition (64 * 256 + 3), 8)] } }

theorem wit_frame_room : rxRoom roomy 64 3 frameA = true ∧ peerQueue roomy 64 3 = false ∧ (rxQ roomy 64 3).paused = false := by
  refine ⟨?_, by decide +kernel, by decide +kernel⟩
  have h : frameSlots frameA = 1 := by decide +kernel
  have u : usedSlots roomy 12 (Config.rxPartition (64 * 256 + 3)) = 0 := by
    have e : roomy.sched.fetches = [] := by decide +kernel
    have r : roomy.ports.rx = [] := by decide +kernel
    simp [usedSlots, e, r]
  have p : 1 ≤ partSlots roomy 12 (Config.rxPartition (64 * 256 + 3)) := by
    unfold partSlots
    split
    · have e : roomy.sched.partition = [(12 * 512 + Config.rxPartition (64 * 256 + 3), 8)] := rfl
      rw [e]
      by_cases q : (12 * 512 + Config.rxPartition (64 * 256 + 3)) / 512 = 12 <;> simp [q, bufSlots]
    · have e : roomy.sched.partition = [(12 * 512 + Config.rxPartition (64 * 256 + 3), 8)] := rfl
      simp [e, Tbl.get]
  simp only [rxRoom, h, u]
  exact decide_eq_true (by omega)

theorem test_frame_lands : (deliverFrame steered 64 3 frameA 64).ports.rx = [(64 * 256 + 3, { RxQueue.reset with frames := [frameA] })] ∧
    (deliverFrame steered 64 3 frameA 64).prog.macCounts = [(514, 1), (515, 64)] := by decide +kernel

/-- A peer trailer of sender 7, SQ 2, generation 1, SEQ 5, and a stream record that holds it. -/
def trailer : List Byte := leBytes 24 (7 + 2 * 2 ^ 32 + 2 ^ 48 + 5 * 2 ^ 64 + 2 ^ 113 + 3 * 2 ^ 128)
def streamed : State :=
  let v := (streamHead 7 2 1 3 0 1).toNat
  let s := kept upPorts
  s.withRecov { s.recov with copyA := [(peerBlock 0, BitVec.ofNat 512 v), (peerBlock 0 + 1, BitVec.ofNat 512 (5 * 2 ^ 240 + 2 ^ 272))], lostB := true }

theorem wit_peer_duplicate :
    findStream streamed 7 2 1 = some 0 ∧ slotBit 5 = 240 ∧ slotBlock 5 = 1 ∧
    (peerArrive streamed trailer).2 = (false, true) ∧ (peerArrive streamed (trailer.take 12 ++ [1] ++ trailer.drop 13)).2 = (true, true) := by
  decide +kernel

/-- The management port sends from a ring of 16 at 0x1000 and receives into one at 0x2000. -/
def mgmtPort : State :=
  let s := wr (wr (wr live R.MGMT_ETH_RING 0x1004 0) R.MGMT_ETH_RING 0x2004 1) R.MGMT_ETH_CTRL (2 ^ 31)
  ddrWrite (ddrWrite (ddrWrite s 0x1000 (leBytes 16 (0x3000 + 4 * 2 ^ 64 + 2 ^ 80))) 0x2000 (leBytes 16 (0x4000 + 100 * 2 ^ 64 + 2 ^ 80)))
    0x3000 [1, 2, 3, 4]

theorem wit_mgmt_port :
    ran .kick mgmtPort (fun u => u.ports.mgmtBusy) = true ∧
    ran .mgmtFrameSent { mgmtPort with ports := { mgmtPort.ports with mgmtBusy := true } } (fun u =>
      u.out == [.frame 128 0 none [1, 2, 3, 4]] && !mgmtOwn u 0 0 && u.ports.mgmtTx == 1 && rb u R.PORT_FAULT F.PORT_FAULT_MGMT_TX) = true ∧
    ran (.mgmtFrameReceived frameA false) mgmtPort (fun u =>
      ddrRead u 0x4000 6 == [2, 0, 0, 0, 0, 1] && ddrRead u 0x2008 4 == [60, 0, 0, 0] && u.ports.mgmtRx == 1) = true ∧
    ran (.mgmtFrameReceived (frameA.take 59) false) mgmtPort (fun u => ddrRead u 0x2008 4 == [59, 0, 2, 0]) = true ∧
    ran (.mgmtFrameReceived frameA false) live (fun u => u.mem.ddr == []) = true := by decide +kernel

/-- Pin 3 of field port 2 is an input of a GPIO function with both edges selected; context 7 waits for it. -/
def pinned : State :=
  let s := wf (wf live R.FP_CFG F.FP_CFG_FUNCTION 4 2) R.FP_CFG F.FP_CFG_USED 0xFF 2
  let s := wr { s with prog := { s.prog with devices := [(9, BitVec.ofNat 128 (3 + 130 * 2 ^ 8 + 3 * 2 ^ 64))] } } R.IC_SRC_CFG (2 ^ 31) 403
  let s := s.setFieldPort 2 { Field.reset with settings := BitVec.ofNat 128 (8 * 2 ^ 104 + 8 * 2 ^ 112) }
  s.setCtx 7 { Ctx.reset with state := 3, running := true, cmds := [BitVec.ofNat 256 (4 + 9 * 2 ^ 32 + 2 * 2 ^ 48)] }

theorem wit_pin_edge :
    domOn pinned 46 = true ∧ pinInput pinned 2 3 = true ∧ waitKind (((pinned.ctx 7).cmds).headD 0) = 2 ∧
    ran (.pinEdge 2 3 true 77) pinned (fun u =>
      (u.fieldPort 2).pins == 8 && (u.src 403).pending && (u.ctx 7).waitEdge == some (77, 0, 3)) = true ∧
    ran (.pinEdge 2 3 false 77) pinned (fun u => (u.fieldPort 2).pins == 0 && !(u.src 403).pending) = true := by decide +kernel

/-- Quad 6 in test; the checker of lane 25 is enabled, and locked or not (the worked example of 10). -/
def testing (locked : Bool) : State :=
  let s := wr (wr live R.QUAD_TEST 0x88000000 6) R.LANE_PRBS_CTRL 0xC4000000 25
  (wf s R.LANE_PRBS_STATUS F.LANE_PRBS_STATUS_LOCKED (b2n locked) 25).setLane 25 { bits := 1000, errs := 2 }

theorem wit_prbs :
    quadRuns (testing true) 6 = true ∧
    ran (.prbsSnap 25 0xC4000003 3187500000000 9) (testing true) (fun u =>
      rg u R.LANE_BITS 25 == 3187500001000 && rg u R.LANE_ERRS 25 == 11 && u.lane 25 == Lane.reset) = true ∧
    ran (.prbsClear 25 0xC4000001) (testing true) (fun u => rg u R.LANE_BITS 25 == 0 && u.lane 25 == Lane.reset) = true ∧
    ran (.prbsInject 25 0xC4000004) (testing true) (fun u => u.out == [.inject 25] && (u.lane 25).bits == 1000) = true ∧
    ran (.prbsInject 25 0xC5000000) (wr (testing true) R.LANE_USER 5 25) (fun u =>
      u.out == [.pattern 25 false ([1, 0, 1] ++ List.replicate 77 0)]) = true ∧
    ran (.prbsInject 25 0x44000004) (testing true) (fun u => u.out == []) = true ∧
    ran (.prbsSnap 25 0x00000002 5 5) (testing false) (fun u => rg u R.LANE_BITS 25 == 1000 && !laneLocked u 25) = true := by decide +kernel

theorem wit_checker :
    ran (.checkerLock 25) (testing false) (fun u => laneLocked u 25 && rf u R.LANE_PRBS_STATUS F.LANE_PRBS_STATUS_LOCKS 25 == 1) = true ∧
    ran (.checkerLock 26) (testing false) (fun u => !laneLocked u 26) = true ∧
    ran (.checkerLockLoss 25) (testing true) (fun u => !laneLocked u 25 && rb u R.LANE_PRBS_STATUS F.LANE_PRBS_STATUS_LOCK_LOST 25) = true := by
  decide +kernel

/-- Channel 3's test region is lines 16 to 31; the range is lines 16 to 17, or beyond the region. -/
def patterned (last : Nat) : State :=
  wr (wr (wr live R.DDR5_PAT_REGION (31 * 2 ^ 31 + 16) 3) R.DDR5_PAT_RANGE (last * 2 ^ 31 + 16) 3) R.DDR5_PAT_STATUS (5 * 2 ^ 32) 3

theorem wit_pattern_start :
    ran (.ddr5PatStart 3 0x80000002) (patterned 17) (fun u => patRunning u 3 && rg u R.DDR5_PAT_STATUS 3 == 0) = true ∧
    ran (.ddr5PatStart 3 0x80000002) (patterned 32) (fun u => !patRunning u 3 && rf u R.DDR5_PAT_STATUS F.DDR5_PAT_STATUS_RESULT 3 == 2) = true ∧
    ran (.ddr5PatStart 3 0xA0000002) (wr (patterned 32) R.RECOV_CFG 0 0) (fun u => patRunning u 3) = true := by decide +kernel

theorem wit_pattern_end :
    ran (.patternRunComplete 3 7 [1, 2]) (wr (patterned 17) R.DDR5_PAT_CTRL 0x80000002 3) (fun u =>
      !patRunning u 3 && rg u R.DDR5_PAT_STATUS 3 == 7 * 2 ^ 48 + 2 * 2 ^ 32 + 1 && rg u R.DDR5_PAT_DEV 3 1 == 2 &&
      ddrRead u (3 * 2 ^ 38 + 17 * 128 + 8) 8 == [0x88, 8, 0, 0, 0, 0, 0, 0]) = true ∧
    patRunning (wr (patterned 17) R.DDR5_PAT_CTRL 0x80000002 3) 3 = true := by decide +kernel

/-! ## 11 -/

/-- A camp member of ROLE 0 in a state, with its link up or down. -/
def camped (state : Nat) (up : Bool) : State :=
  let s := wf (wf (wf live R.CAMP_CFG F.CAMP_CFG_ENABLE 1) R.QUAD_CFG F.QUAD_CFG_PERSONALITY 4 24) R.QUAD_CFG F.QUAD_CFG_PERSONALITY 4 25
  s.withCamp { s.camp with state := state, up := up, matched := up, arbIn := 1, arbOut := 1 }
/-- A message at the front of the inbox. -/
def inbox (s : State) (m : Msg) : State := s.withCamp { s.camp with inbox := [m] }
def flit (k : Nat) : Flit := { rejected := false, kind := 1, seq := k, ack := 2, nak := false, state := 3, hb := true, msgs := [(2, 0, 5, [])] }
/-- Flits 1 to 3 are not acknowledged. -/
def unackedS (s : State) : State :=
  s.withCamp { s.camp with txSeq := 4, unacked := [1, 2, 3].map fun k => (k, [({ type := 1, mseq := k, arg := 64, body := [] } : Msg)]) }

theorem wit_ploet_up :
    ran (.ploetLinkUp false true) (camped 1 false) (fun u =>
      u.camp.up && u.camp.state == 2 && u.camp.ownEnd == some 5 && (ploetWaiting u).map (·.type) == [6, 1, 1, 1, 7]) = true ∧
    ran (.ploetLinkUp false false) (camped 1 false) (fun u => rb u R.CAMP_FAULT F.CAMP_FAULT_MISMATCH && u.camp.state == 1) = true := by
  decide +kernel

/-- A twin notice of the ranger core in the transmit mailbox, and one of the partner in the receive mailbox (the lock of the lanes is then
free, so the command itself is not evaluated). -/
def twins : State :=
  ((camped 2 true).setMbox false 62 { full := true, serial := 3, agent := 32, notice := 0 }).setMbox false 63
    { full := true, serial := 3, agent := 0x3F, notice := 0 }

theorem wit_ploet_down :
    running twins = true ∧ twins.camp.up = true ∧ campOn twins = true ∧ twinTx twins = 62 ∧ twinRx twins = 63 ∧
    (twins.mbox false 62).full = true ∧ agentGen twins (twins.mbox false 62).agent = noticeGen (twins.mbox false 62).notice ∧
    (retQueue twins 32).length < 16 ∧ (retQueue (returnNotice twins false 62 true) 32).map (·.aborted) = [true] ∧
    (twins.mbox false 63).full = true := by decide +kernel

theorem wit_flits :
    ran (.flitReceived (flit 1)) (unackedS (camped 4 true)) (fun u =>
      u.camp.state == 3 && u.camp.rxSeq == 1 && u.camp.inbox.map (·.type) == [2] && u.camp.unacked.map (·.1) == [3] &&
      u.out == [.ploetAck 1] && rf u R.GL_STATUS F.GL_STATUS_HIGH_WATER 24 1 == 4) = true ∧
    ran (.flitReceived (flit 2)) (unackedS (camped 4 true)) (fun u => u.out == [.ploetNak 0] && u.camp.state == 4) = true ∧
    ran (.flitReceived { flit 1 with rejected := true }) (camped 3 true) (fun u =>
      u.out == [.ploetNak 0] && rf u R.CAMP_LINK_COUNTS F.CAMP_LINK_COUNTS_REJECTED == 1) = true := by decide +kernel

theorem wit_replay :
    ran (.nakReplay 1) (unackedS (camped 3 true)) (fun u =>
      u.camp.replays == 1 && u.camp.replayFrom == 2 &&
      u.out == [.ploetMsg 1 2 64 [], .ploetContent [], .ploetFlit 2, .ploetMsg 1 3 64 [], .ploetContent [], .ploetFlit 3]) = true ∧
    (let s := unackedS (camped 3 true)
     let t := s.withCamp { s.camp with replays := 7, replayFrom := 1 }
     t.camp.txQueue = [] ∧ t.camp.unacked.map (·.1) = [1, 2, 3] ∧ (∀ x ∈ t.camp.unacked, x.1 ≠ 9 % 4096) ∧
     (if t.camp.replays ≠ 0 ∧ t.camp.replayFrom = 1 then t.camp.replays + 1 else 1) = 8) := by decide +kernel

/-- A RECORD of one block in the progress records, of a given UPDATE. -/
def progMsg (n : Nat) : Msg := { type := 1, mseq := 17, arg := 0x10000, body := leBytes 64 (7 + n * 2 ^ 448) }

theorem wit_camp_record :
    ran .campRecord (inbox (camped 3 true) (progMsg 5)) (fun u =>
      Tbl.get 0 u.camp.mirrorA 0x400 == BitVec.ofNat 512 (7 + 5 * 2 ^ 448) && u.camp.mirrorA == u.camp.mirrorB && u.camp.inbox == [] &&
      (ploetWaiting u).map (fun m => (m.type, m.arg)) == [(2, 17)]) = true ∧
    ran .campRecord (let s := camped 3 true; inbox (s.withCamp { s.camp with
        mirrorA := [(0x400, BitVec.ofNat 512 (6 * 2 ^ 448))], mirrorB := [(0x400, BitVec.ofNat 512 (6 * 2 ^ 448))] }) (progMsg 5)) (fun u =>
      Tbl.get 0 u.camp.mirrorA 0x400 == BitVec.ofNat 512 (6 * 2 ^ 448)) = true ∧
    ran .campRecord (inbox (camped 3 true) { progMsg 5 with arg := 0x400000 }) (fun u =>
      Tbl.get 0 u.camp.mirrorB 0x10000 == BitVec.ofNat 512 (7 + 5 * 2 ^ 448)) = true := by decide +kernel

/-- SYNCING with this device's RESYNC_END sent as message 5, and with another library in the partner's header or not. -/
def syncing (other partner : Bool) : State :=
  let s := camped 2 true
  s.withCamp { s.camp with
    ownEnd := some 5, partnerEnd := partner, durable := if partner then 4 else 5, mirrorA := if other then [(1, 1)] else []
    mirrorB := if other then [(1, 1)] else [] }

theorem wit_pairing :
    ran .resyncEnd (inbox (syncing false false) { type := 7, mseq := 9, arg := 0, body := [] }) (fun u =>
      u.camp.partnerEnd && u.camp.state == 3 && (ploetWaiting u).map (fun m => (m.type, m.arg)) == [(2, 9)]) = true ∧
    ran .campDurable (inbox (syncing false true) { type := 2, mseq := 0, arg := 6, body := [] }) (fun u =>
      u.camp.durable == 6 && u.camp.state == 3) = true ∧
    ran .campDurable (inbox (syncing true true) { type := 2, mseq := 0, arg := 6, body := [] }) (fun u =>
      rb u R.CAMP_FAULT F.CAMP_FAULT_MISMATCH && u.camp.state == 1) = true ∧
    ran .campDurable (inbox (syncing false true) { type := 2, mseq := 0, arg := 4, body := [] }) (fun u => u.camp.state == 2) = true ∧
    ran .resyncStart (inbox (syncing true true) { type := 6, mseq := 3, arg := 0, body := [] }) (fun u =>
      u.camp.mirrorA == [] && !u.camp.partnerEnd && (ploetWaiting u).map (fun m => (m.type, m.arg)) == [(2, 3)]) = true := by decide +kernel

/-- The partner is selected, and the exchange stands at 40 ns ahead. -/
def partnered : State :=
  let s := disciplined 2 none
  let s := { s with lant := { s.lant with selected := 3, pps := [] } }
  let s := wf (wf s R.CAMP_CFG F.CAMP_CFG_ENABLE 1) R.LANT_CFG F.LANT_CFG_P0 3
  s.withCamp { s.camp with
    state := 3, up := true, matched := true, txTime := 1000, txPrev := 7, rxTime := 5090, partnerSource := 1, partnerState := 2, partnerValid := true }

theorem wit_time_source : sourceQualified partnered 3 = true ∧ partnered.lant.selected = 3 := by decide +kernel

theorem wit_time_stays : recheck partnered = partnered := by
  unfold recheck
  simp [wit_time_source]

theorem wit_time_cal : calDelay partnered 56 = 0 := by decide +kernel

/-- ((90) - (10)) / 2 ns. -/
theorem wit_time_error : (phaseError 40000 true partnered).lant.errors.headD 0 = 40000 := by decide +kernel

theorem wit_twin_notices :
    ran .campNotice (inbox (camped 3 true) { type := 4, mseq := 0, arg := 63, body := leBytes 16 99 }) (fun u =>
      u.mbox false 63 == { full := true, serial := 1, agent := 0x3F, notice := 99 }) = true ∧
    ran .campEmptied (inbox ((camped 3 true).setMbox false 62 { full := true, serial := 3, agent := 32, notice := 0 })
        { type := 5, mseq := 0, arg := 62, body := [] }) (fun u =>
      !(u.mbox false 62).full && (retQueue u 32).map (·.aborted) == [false]) = true := by decide +kernel

/-- SILENT for `n` frames, with a level at CAMP_ARB_IN. -/
def silent (n arb : Nat) : State :=
  let s := camped 4 false
  { s.withCamp { s.camp with silent := n, arbIn := arb } with sched := { s.sched with frame := 12400015 } }

theorem wit_ploet_ready :
    rf (camped 1 false) R.QUAD_CFG F.QUAD_CFG_PERSONALITY 24 = 4 ∧ rf (camped 1 false) R.QUAD_CFG F.QUAD_CFG_PERSONALITY 25 = 4 ∧
    domOn (camped 1 false) 44 = true ∧ mgmtAnswers (camped 1 true) = true ∧ campOn (camped 1 true) = true := by decide +kernel

theorem wit_decision :
    ran .silentDecision (silent 16 0) (fun u => u.camp.state == 5 && u.camp.arbOut == 2 && rg u R.CAMP_TAKEOVER == 12400015 * 2 ^ 32) = true ∧
    ran .silentDecision (silent 16 1) (fun u => u.camp.state == 1) = true ∧
    ran .silentDecision (silent 15 0) (fun u => u.camp.state == 4) = true := by decide +kernel

theorem wit_arb :
    ran (.arbInChange 2) (camped 3 true) (fun u => u.camp.state == 6 && u.camp.arbOut == 0) = true ∧
    ran (.arbInChange 2) (camped 5 true) (fun u => u.camp.state == 5 && u.camp.arbIn == 2) = true ∧
    ran (.arbInChange 2) (wf (camped 5 true) R.CAMP_CFG F.CAMP_CFG_ROLE 1) (fun u => u.camp.state == 6) = true ∧
    ran (.arbInChange 0) (let s := camped 3 true; s.withCamp { s.camp with heartbeat := true }) (fun u =>
      u.camp.state == 3 && rb u R.CAMP_FAULT F.CAMP_FAULT_ARB_FAULT) = true ∧
    ran (.campFence 1) (camped 1 true) (fun u => u.camp.state == 6) = true ∧
    ran (.campResync 2) (camped 1 false) (fun u => u.camp.state == 1) = true ∧
    ran (.campResync 2) (camped 1 true) (fun u => u.camp.state == 2 && u.camp.ownEnd == some 5) = true := by decide +kernel

/-- The worked example of 11: SQ 0x0511 of the partner's function (4, 17), slot 5; port 4 is port 9 here. -/
def taking (valid : Bool) : State :=
  let s := camped 5 false
  let s := wf (wf s R.CAMP_TWIN_PORT F.CAMP_TWIN_PORT_VALID (b2n valid) 4) R.CAMP_TWIN_PORT F.CAMP_TWIN_PORT_PORT 9 4
  let s := wf s R.QUAD_CFG F.QUAD_CFG_PERSONALITY 1 5
  let s := wf s R.QUAD_CFG F.QUAD_CFG_PORT 9 5
  let s := s.withTrust { s.trust with endpoints := [(9, 20)] }
  let v := sqRec { SQ.reset with consumed := 3, completedSeq := 70300, generation := 2, state := 1, assign := 0x80000511 } (4 * 256 + 17) 5 1
  let m : Tbl (BitVec 512) := [(sqBlock 0x511, BitVec.ofNat 512 v), (sqBlock 0x511 + 1, BitVec.ofNat 512 (v / 2 ^ 512))]
  { s.withCamp { s.camp with mirrorA := m, mirrorB := m, claimFrame := 12400015 } with sched := { s.sched with frame := 12400023 } }

theorem wit_twin_function : twinFunction (taking true) 1041 = some 2321 ∧ twinFunction (taking false) 1041 = none := by decide +kernel

theorem wit_take_over_hyp :
    recovering (taking true) = false ∧ (taking true).camp.claimFrame.toNat + 8 = (taking true).sched.frame.toNat ∧
    recBlocks (mirrorRecov (taking true)) 0x8000 0x10000 = [sqBlock 0x511, sqBlock 0x511 + 1] := by decide +kernel

theorem wit_take_over :
    ran (.takeOver []) (taking true) (fun u => u.camp.state == 1 && u.camp.arbOut == 1 && !recovering u &&
      rf u R.RECOV_STATUS F.RECOV_STATUS_LAST_KIND == 5 && (u.sq 2321 5).num == 0x511 && (u.sq 2321 5).completedSeq == 70300) = true ∧
    ran (.takeOver []) (taking false) (fun u =>
      rf u R.CAMP_TAKEOVER F.CAMP_TAKEOVER_FAILED == 1 && rf u R.CAMP_TAKEOVER F.CAMP_TAKEOVER_FIRST_FAIL == 0x511) = true := by decide +kernel

/-! ## 12 -/

/-- An image of SVN 7 runs from device A; both devices are GOOD, device B's image has SVN `svn`; slots 0 and 1 are VALID. -/
def trusted (svn : Byte) : State :=
  let s := live.withTrust { live.trust with
    image := { Image.none with svn := 7, imageId := 5 }, flash1 := [(0xE, svn)], rollback := 5
    slots := [(0, { state := 1, hash := [] }), (1, { state := 1, hash := [] })], log := [1] }
  wf (wf s R.TH_FLASH_STATUS F.TH_FLASH_STATUS_GOOD_A 1) R.TH_FLASH_STATUS F.TH_FLASH_STATUS_GOOD_B 1
def arming (s : State) : State := s.withTrust { s.trust with armed := some 0 }

theorem wit_arm :
    ran (.thOtpArm 0x5A5A) (trusted 7) (fun u => u.trust.armed == some 0) = true ∧
    ran (.thOtpArm 0x5A5B) (arming (trusted 7)) (fun u => u.trust.armed == none) = true ∧
    ran .armExpiry (let s := arming (trusted 7); { s with sched := { s.sched with frame := 1001 } }) (fun u => u.trust.armed == none) = true ∧
    ran .armExpiry (let s := arming (trusted 7); { s with sched := { s.sched with frame := 1000 } }) (fun u => u.trust.armed == some 0) = true := by
  decide +kernel

/-- RESULT after a command. -/
def otpRes (u : State) : Nat := rf u R.TH_OTP_STATUS F.TH_OTP_STATUS_RESULT

theorem wit_otp_refused :
    ran (.advanceAntiRollback 0x703) (trusted 7) (fun u => otpRes u == 2) = true ∧
    ran (.programSlot 0x201) (let s := arming (trusted 7); s.withTrust { s.trust with image := { s.trust.image with otpLock := true } }) (fun u =>
      otpRes u == 4 && u.trust.armed == none) = true ∧
    ran (.programSlot 0x101) (arming (trusted 7)) (fun u => otpRes u == 5) = true ∧
    ran (.revokeSlot 0x202) (arming (trusted 7)) (fun u => otpRes u == 5) = true ∧
    ran (.revokeSlot 0x002) (arming (trusted 7)) (fun u => otpRes u == 6) = true ∧
    ran (.advanceAntiRollback 0x803) (arming (trusted 7)) (fun u => otpRes u == 7) = true ∧
    ran (.advanceAntiRollback 0x703) (arming (trusted 6)) (fun u => otpRes u == 8) = true := by decide +kernel

theorem wit_otp_runs :
    ran (.advanceAntiRollback 0x703) (arming (trusted 7)) (fun u =>
      u.trust.otpOp == some (3, 7) && u.trust.log.length == 2 && u.trust.rollback == 5 && otpRes u == 0) = true ∧
    ran (.programSlot 0x201) (arming (wr (trusted 7) R.TH_OTP_DATA 0x0807060504030201 0)) (fun u =>
      (u.keySlot 2).state == 0 && (u.keySlot 2).hash.take 8 == [1, 2, 3, 4, 5, 6, 7, 8] && u.trust.otpOp == some (1, 2)) = true ∧
    ran (.revokeSlot 0x102) (arming (trusted 7)) (fun u => u.trust.otpOp == some (2, 1) && (u.keySlot 1).state == 1) = true := by decide +kernel

/-- An operation runs; its log entry is PENDING. -/
def writing (op arg : Nat) (wait : Bool) : State :=
  let s := trusted 7
  (s.withTrust { s.trust with otpOp := some (op, arg), log := [1, 0x104], calWaiting := wait })

theorem wit_otp_done :
    ran (.otpWriteComplete true) (writing 3 7 false) (fun u => u.trust.rollback == 7 && u.trust.log == [1, 0x304] && otpRes u == 1) = true ∧
    ran (.otpWriteComplete false) (writing 3 7 false) (fun u => u.trust.rollback == 5 && u.trust.log == [1, 0x104] && otpRes u == 9) = true ∧
    ran (.otpWriteComplete true) (writing 1 2 false) (fun u => (u.keySlot 2).state == 1) = true ∧
    ran (.otpWriteComplete true) (writing 2 1 true) (fun u =>
      (u.keySlot 1).state == 2 && u.lant.committing && u.trust.log.length == 3) = true := by decide +kernel

/-- TH_FLASH_ADDR and the buffer's first bytes. -/
def flashing (a : Nat) : State := wr (wr (trusted 7) R.TH_FLASH_ADDR a) R.TH_FLASH_BUF 0x0F00 0
def flashRes (u : State) : Nat := rf u R.TH_FLASH_STATUS F.TH_FLASH_STATUS_RESULT

theorem wit_flash_start :
    ran (.flashRead 0x81010001) (flashing 0x0E) (fun u => u.trust.flashOp == some (0x81010001, 0x0E, []) && flashGood u true) = true ∧
    ran (.flashRead 0x81010001) (flashing 0xFFF) (fun u => u.trust.flashOp.isNone && flashRes u == 3) = true ∧
    ran (.flashErase 0x83000000) (flashing 0x20000) (fun u => u.trust.flashOp.isSome && !flashGood u false && flashGood u true) = true ∧
    ran (.flashErase 0x83000000) (flashing 0x20001) (fun u => flashRes u == 3) = true ∧
    ran (.flashErase 0x83000000) (wf (flashing 0) R.TH_FLASH_STATUS F.TH_FLASH_STATUS_GOOD_B 0) (fun u => flashRes u == 2 && flashGood u false) = true ∧
    ran (.flashVerify 0x84000000) (flashing 0) (fun u => u.trust.flashOp.isSome && flashGood u false) = true := by decide +kernel

theorem wit_flash_program :
    ran (.flashProgram 0x82010001) (flashing 0x0E) (fun u => u.trust.flashOp == some (0x82010001, 0x0E, [0, 0x0F]) && !flashGood u true) = true := by
  decide +kernel

def flashRuns (v : W32) (a : W32) (buf : List Byte) : State :=
  let s := trusted 7
  s.withTrust { s.trust with flashOp := some (v, a, buf) }

theorem wit_flash_done :
    ran (.flashOpComplete true) (flashRuns 0x82010001 0x0E [0x06, 0x0F]) (fun u =>
      flashRes u == 1 && flNat u.trust.flash1 0x0E 2 == 0x0F06) = true := by decide +kernel

/-- An empty flash is rejected for its header. -/
theorem wit_verify : verify (trusted 7) true = some ⟨1, 0, none⟩ := by decide +kernel

theorem wit_background_hyp :
    rb (wf (trusted 7) R.TH_FLASH_STATUS F.TH_FLASH_STATUS_CHECKING 1) R.TH_FLASH_STATUS F.TH_FLASH_STATUS_CHECKING = true ∧
    (trusted 7).trust.fromB = false := by decide +kernel

/-- A report of 1,024 bytes waits for its signature, at a second of a minute. -/
def reporting (sec : Nat) (signing : Bool) : State :=
  let s := trusted 7
  (s.withTrust { s.trust with report := some (List.replicate 1024 0), signing := signing }).withLant { s.lant with time := LTime.of (sec * 1000000000 * 2 ^ 40) }

theorem wit_sign_start :
    ran .reportSignStart (reporting 61 false) (fun u => u.trust.signing) = true ∧
    ran .reportSignStart (reporting 60 false) (fun u => !u.trust.signing) = true ∧
    ran .reportSignStart (reporting 119 false) (fun u => !u.trust.signing) = true ∧
    ran (.attestRequest 0x80000000) (reporting 61 false) (fun u => u.trust.report.isSome) = true ∧
    ran .reportSignStart (let s := reporting 61 false; s.withMeter { s.meter with blocks := [blockA none] }) (fun u => !u.trust.signing) = true := by
  decide +kernel

theorem wit_signed_hyp : (reporting 61 true).trust.report = some (List.replicate 1024 0) ∧ (reporting 61 true).trust.signing = true ∧
    (List.replicate 1024 (0 : Byte)).length = 1024 := by decide +kernel

theorem test_sign_report : (signReport (List.replicate 1024 1) [7, 8]).length = 4096 ∧
    leAt (signReport (List.replicate 1024 1) [7, 8]) 0x400 2 = 2 ∧
    ((signReport (List.replicate 1024 1) [7, 8]).drop 0x410).take 2 = [7, 8] := by decide +kernel

theorem wit_request_hyp : (trusted 7).trust.report = none ∧ (trusted 7).trust.image.digest.length ≤ 64 := by decide +kernel

theorem wit_crs :
    ran (.configurationRequest 1281) ((upPorts).withTrust { upPorts.trust with phase := 4 }) (fun u => u.out == [.crs 1281]) = true ∧
    ran (.configurationRequest 1281) upPorts (fun u => u.out == []) = true := by decide +kernel

/-! ## 13 -/

/-- Cores 0 to 3 sleep. -/
def asleep : State := (List.range 4).foldl (fun u k => u.setCore k { Core.reset with csr := 1, sleeping := true }) live
def inState (d st q : Nat) (s : State) : State := setQueued (setDom s F.PWR_DOMAIN_STATE st d) d q

theorem wit_bivouac :
    ran (.bivouacRequest 0 0x80000000) asleep (fun u => domState u 0 == 1 && domField u F.PWR_DOMAIN_REQ 0 == 1) = true ∧
    ran (.bivouacRequest 1 0x80000000) asleep (fun u => domState u 1 == 0 && domField u F.PWR_DOMAIN_RESULT 1 == 2) = true ∧
    ran (.bivouacRequest 45 0x80000000) live (fun u => domState u 45 == 0 && domField u F.PWR_DOMAIN_RESULT 45 == 3) = true ∧
    ran (.bivouacRequest 13 0x80000000) live (fun u => domState u 13 == 1) = true ∧
    ran (.bivouacRequest 13 0x80000000) upPorts (fun u => domState u 13 == 0 && domField u F.PWR_DOMAIN_RESULT 13 == 2) = true ∧
    ran (.bivouacRequest 46 0x80000000) (inState 46 3 0 live) (fun u => Tbl.get 0 u.power.queued 46 == 2) = true := by decide +kernel

/-- A domain that has just been woken refuses bivouac in the same cycle. -/
theorem wit_bivouac_woken :
    ran (.bivouacRequest 46 0x80000000) (wakeDomain (inState 46 2 0 live) 46) (fun u =>
      domState u 46 == 3 && domField u F.PWR_DOMAIN_RESULT 46 == 2 && domField u F.PWR_DOMAIN_REQ 46 == 0) = true := by decide +kernel

theorem wit_on :
    ran (.onRequest 46 0) (inState 46 2 0 live) (fun u => domState u 46 == 3) = true ∧
    ran (.onRequest 46 0) (inState 46 1 0 live) (fun u => domState u 46 == 1 && Tbl.get 0 u.power.queued 46 == 1) = true ∧
    ran (.onRequest 47 0) live (fun u => domField u F.PWR_DOMAIN_RESULT 47 == 3) = true := by decide +kernel

theorem wit_entry_exit :
    ran (.bivouacEntryComplete 46) (inState 46 1 0 live) (fun u => domState u 46 == 2 && domField u F.PWR_DOMAIN_RESULT 46 == 1) = true ∧
    ran (.bivouacEntryComplete 46) (inState 46 1 1 live) (fun u => domState u 46 == 3) = true ∧
    ran (.bivouacExitComplete 46) (inState 46 3 0 live) (fun u => domState u 46 == 0) = true ∧
    ran (.bivouacExitComplete 46) (inState 46 3 2 live) (fun u => domState u 46 == 1) = true ∧
    ran (.bivouacExitComplete 13) (inState 13 3 2 upPorts) (fun u => domState u 13 == 0 && domField u F.PWR_DOMAIN_RESULT 13 == 2) = true := by
  decide +kernel

theorem wit_lost :
    ran (.exitTimeout 46) (inState 46 3 0 live) (fun u =>
      domState u 46 == 5 && domField u F.PWR_DOMAIN_RESULT 46 == 4 && rb u R.PWR_FAULT F.PWR_FAULT_EXIT_FAIL) = true ∧
    ran (.domainLost 0) onRoot (fun u => u.power.pitchPending == [0] && u.ctx 5 == Ctx.reset && rb u R.PWR_FAULT F.PWR_FAULT_DOMAIN_LOST) = true ∧
    ran (.domainLost 47) live (fun u => u.trust.phase == 3) = true := by decide +kernel

theorem wit_lost_camp : domState (camped 3 true) 44 = 0 ∧ (camped 3 true).camp.up = true ∧ (domainLostS 44 (camped 3 true)).camp.up = false := by
  decide +kernel

theorem wit_lost_quad : quadPorts upPorts (14 - 8) = [64, 65] ∧ (upPorts.port 64).link = 1 := by decide +kernel

theorem wit_return :
    ran (.domainReturn 48 9) (inState 48 5 0 live) (fun u => domState u 48 == 0 && (u.core 32).halt == 0) = true ∧
    ran (.domainReturn 5 9) (inState 5 5 0 live) (fun u => domState u 5 == 0) = true := by decide +kernel

theorem wit_requests :
    ran (.warmRequest 0x80000000) live (fun u => u.power.warmPending == some 0) = true ∧
    ran .wrstN { live with power := { live.power with warmPending := some 7 } } (fun u => u.power.warmPending == some 7) = true ∧
    ran (.pitchRequest 0x105) { live with power := { live.power with pitchPending := [2] } } (fun u =>
      u.power.pitchPending == [2, 0] && u.power.pitchAsked == [0, 2]) = true := by decide +kernel

/-- A warm reset is due at cycle 0 of frame 8. -/
def warmWaits : State :=
  let s := wf (camped 3 true) R.CAMP_CFG F.CAMP_CFG_ROLE 1
  { s with
    sched := { s.sched with frame := 8 }
    power := { s.power with warmPending := some 7 } }

/-- A DIMM of 4 GiB, and one that a channel does not support. -/
def dimm4 : Dimm := { x4 := true, ecc := true, density := 16, ranks := 1, height := 1, tRfcSb := 130000, trained := true }
theorem wit_dimm : dimmInfo (some dimm4) ≠ 0 ∧ dimmInfo (some { dimm4 with density := 8 }) = 0 ∧ dimmInfo (some { dimm4 with trained := false }) = 0 := by
  decide +kernel

theorem wit_warm_due : warmDue warmWaits = true ∧ faultDue warmWaits = true ∧ warmDue live = false := by decide +kernel

theorem test_warm_keeps :
    (warmBase warmWaits).sched.frame = 8 ∧ (warmBase warmWaits).camp.up = false ∧ (warmBase warmWaits).camp.arbOut = 1 ∧
    campRole (warmBase warmWaits) = 1 ∧ (warmBase warmWaits).power.warmPending = none := by decide +kernel

theorem wit_power_on_hyp : ([1, 0x204].all fun e => !logOpen e) = true ∧ logOpen 0x104 = true ∧ live.power.pwrgood = true := by
  decide +kernel

theorem wit_fall : ∀ s : State, exec .pwrgoodFall s = .next (pwrgoodFallS s) := fun _ => rfl

theorem wit_temperature :
    ran (.temperatureSample 120 9) live (fun u =>
      rg u R.PWR_TEMP == 0x73007809 && rb u R.PWR_FAULT F.PWR_FAULT_TEMP_ALARM && u.power.samples == 1) = true ∧
    ran (.temperatureSample (-5) 9) { live with power := { live.power with samples := 99999 } } (fun u =>
      rg u R.PWR_TEMP == 0x7300FB09 && !rb u R.PWR_FAULT F.PWR_FAULT_TEMP_ALARM && rf u R.PWR_MISSION F.PWR_MISSION_SECONDS == 1) = true ∧
    (temperatureS 115 0 live).power.tripped = false ∧ rb (temperatureS 115 0 live) R.PWR_FAULT F.PWR_FAULT_TEMP_ALARM = true ∧
    rb (temperatureS 114 0 live) R.PWR_FAULT F.PWR_FAULT_TEMP_ALARM = false := by decide +kernel

/-! ## Well-formed commands: a bad number for every check -/

theorem test_ill_formed_numbers :
    wellFormed (.fnNoticeStatus 8192) = false ∧ wellFormed (.sqDoorbell 0 256) = false ∧ wellFormed (.dispatch 0 0 8192) = false ∧
    wellFormed (.pitchCtxSelect 8 0) = false ∧ wellFormed (.mov 33) = false ∧ wellFormed (.mbPost 34 0) = false ∧
    wellFormed (.refreshDebtTick 12) = false ∧ wellFormed (.prbsSnap 104 0 0 0) = false ∧ wellFormed (.quadTest 26 0) = false ∧
    wellFormed (.domainLost 49) = false ∧ wellFormed (.canopyWindowLo 16384 0 0) = false ∧ wellFormed (.canopyWindowLo 0 16 0) = false ∧
    wellFormed (.linkReachesL0 257) = false ∧ wellFormed (.pinEdge 128 8 true 0) = false := by decide

theorem test_ill_formed_operands :
    wellFormed (.feedStale 8) = false ∧ wellFormed (.scrubWriteBack ⟨0, 3000⟩) = false ∧ wellFormed (.meterSample 9) = false ∧ wellFormed (.temperatureSample 20 64) = false ∧
    wellFormed (.stakeIssue 3000 0 0 []) = false ∧ wellFormed (.stakeIssue 0 16 0 []) = false ∧ wellFormed (.arbInChange 3) = false ∧
    wellFormed (.ppsInEdge 2 0) = false ∧ wellFormed (.leaseCfgWrite 256 0) = false ∧
    wellFormed (.registerWrite (.fn 8192) 0 4 ⟨0, .clean⟩) = false ∧ wellFormed (.powerOnReset 0 (List.replicate 13 none)) = false ∧
    wellFormed (.responseLanded 0 0 [1] .clean []) = false ∧ wellFormed (.responseLanded 0 0 [] .clean [(65, .clean)]) = false ∧ wellFormed (.scrubRead ⟨0, 0⟩ (.corrected [36])) = false := by decide

theorem test_well_formed :
    wellFormed (.dispatch 17 255 8191) = true ∧ wellFormed (.quadTest 25 0) = true ∧ wellFormed (.scrubRead ⟨11, 2999⟩ (.corrected [35])) = true := by
  decide

end Sys2Proof.Tests
end

section
/-! PROOFS. What a register write and a stray access do (00 R12, R13, 01 R27, 10 R368, R371), and the reset state (13 R438). -/
namespace Sys2Proof.Machine

/-! ## The answer of a meaning that acts in the no-image state -/

/-- A device that runs an image or stands in the no-image state does what a `doneReg` meaning says. -/
theorem effect_of_doneReg {c : Instr} {s t : State} {P : State → Prop} (up : s.trust.phase = 1 ∨ s.trust.phase = 2)
    (hc : exec c s = doneReg s t) (ht : P t) : Effect c s P :=
  ⟨t, by rw [hc, doneReg, if_pos up], ht⟩

/-! ## Words that cross guylines -/

theorem same_trans {p : Part} {s t u : State} (hst : same p s t) (htu : same p t u) : same p s u := by
  cases p <;> exact Eq.trans htu hst

theorem only_trans {l : List Part} {s t u : State} (hst : only l s t) (htu : only l t u) : only l s u := by
  intro p
  rcases hst p with hp | hp
  · exact .inl hp
  · exact (htu p).imp_right (same_trans hp)

theorem Crossed.refl (s : State) : Crossed s s :=
  ⟨only_of_keeps fun _ _ => rfl, rfl, fun _ _ _ _ _ => rfl⟩

theorem Crossed.trans {s t u : State} (hst : Crossed s t) (htu : Crossed t u) : Crossed s u := by
  obtain ⟨parts, guy, others⟩ := hst
  obtain ⟨parts', guy', others'⟩ := htu
  refine ⟨only_trans parts parts', ?_, fun d i j p h => (others' d i j p h).trans (others d i j p h)⟩
  rw [guy', guy]

/-- A new state of the guylines alone. -/
theorem crossed_withGuy (s : State) (t : Tbl Guy) : Crossed s { s with ports := { s.ports with guy := t } } :=
  ⟨only_of_keeps fun _ hL => erase_ports (hL .ports (by decide)) _ _, rfl, fun _ _ _ _ _ => rfl⟩

/-- A write of a field of GL_STATUS. -/
theorem crossed_wf_glStatus (s : State) (f : Nat × Nat) (x g d : Nat) : Crossed s (wf s R.GL_STATUS f x g d) :=
  ⟨only_of_keeps fun _ hL => keeps_wf (hL .regs (by decide)) _ _ _ _ _ _ _, by rw [wf_ports],
    fun _ _ _ _ h => rg_wf_ne _ _ _ _ _ _ _ _ _ _ _ (h g d)⟩

theorem crossed_guyPush (s : State) (g d t : Nat) : Crossed s (guyPush s g d t) :=
  (crossed_withGuy s _).trans (crossed_wf_glStatus _ _ _ _ _)

/-- A word without an uncorrectable error crosses. -/
theorem crossed_guyWord (s : State) (g d : Nat) {res : EccResult} (h : judged dieCap res ≠ .uncorrectable) :
    Crossed s (guyWord s g d res) := by
  unfold guyWord
  cases hj : judged dieCap res with
  | clean | undetected _ => exact crossed_guyPush _ _ _ _
  | corrected _ => exact (crossed_guyPush _ _ _ _).trans (crossed_wf_glStatus _ _ _ _ _)
  | uncorrectable => exact absurd hj h

theorem crossed_guyPort (s : State) (port d : Nat) : Crossed s (guyPort s port d) := by
  unfold guyPort
  split
  · exact crossed_guyWord s _ d (by decide)
  · exact .refl s

/-- A register access that is not lost on its way. -/
theorem crossed_regCross (s : State) (bar : Bar) (off d : Nat) (gl : EccResult) (h : (regCross s bar off d gl).2 = false) :
    Crossed s (regCross s bar off d gl).1 := by
  unfold regCross at h ⊢
  split
  · next g hg =>
    rw [hg] at h
    exact crossed_guyWord s g d (beq_eq_false_iff_ne.mp h)
  · exact .refl s

theorem regCross_lost_of_arrives {s : State} {off : Nat} {gl : EccResult} (h : arrives s off gl = true) :
    (regCross (guyPort s (portOfBar s .mgmt) 1) .mgmt off 0 gl).2 = false := by
  simpa only [arrives, Bool.not_eq_true'] using h

theorem crossed_arrived {s : State} {off : Nat} {gl : EccResult} (h : arrives s off gl = true) : Crossed s (arrived s off gl) :=
  (crossed_guyPort s _ 1).trans (crossed_regCross _ _ _ _ _ (regCross_lost_of_arrives h))

/-! ## Registers of the management BAR0 -/

theorem findReg_mem {off i j : Nat} {d : RegD} : ∀ {l : List RegD}, findReg off l = some (d, i, j) → d ∈ l
  | x :: l, h => by
    unfold findReg at h
    split at h
    · cases h
      exact List.mem_cons_self
    · exact List.mem_cons_of_mem x (findReg_mem h)

/-- What an offset of the management BAR0 names is in no register table, in one of another page, or in `allMgmt`. -/
theorem placeOf_mgmt_regs {s : State} {off p o : Nat} {t : List RegD} (h : placeOf s .mgmt off = .regs t p o) :
    t = [] ∨ t = mgmtFnPage ∨ t = mgmtAgent ∨ t = allMgmt := by
  unfold placeOf at h
  dsimp only at h
  split at h
  · cases h
    exact .inl rfl
  · split at h
    · cases h
      exact .inr (.inl rfl)
    · split at h
      · cases h
        exact .inr (.inr (.inl rfl))
      · split at h
        · cases h
        · split at h
          · cases h
          · cases h
            exact .inr (.inr (.inr rfl))

theorem page_of_mem_mgmtFnPage : ∀ d ∈ mgmtFnPage, d.page = .fn := by decide

theorem page_of_mem_mgmtAgent : ∀ d ∈ mgmtAgent, d.page = .agent := by decide

/-- A register of the management page that an access of the management BAR0 names is one of its table. -/
theorem mem_allMgmt_of_regAt {s : State} {off size i j p : Nat} {d : RegD} (h : regAt s .mgmt off size = some (d, i, j, p))
    (hd : d.page = .mgmt) : d ∈ allMgmt := by
  unfold regAt at h
  split at h
  · cases h
  · next t q o hplace =>
    split at h
    · next e a b hfind =>
      have hmem : e ∈ t := findReg_mem hfind
      split at h
      · cases h
        rcases placeOf_mgmt_regs hplace with rfl | rfl | rfl | rfl
        · exact absurd hmem List.not_mem_nil
        · exact absurd ((page_of_mem_mgmtFnPage d hmem).symm.trans hd) (by decide)
        · exact absurd ((page_of_mem_mgmtAgent d hmem).symm.trans hd) (by decide)
        · exact hmem
      · cases h
    · split at h
      · cases h
        exact absurd hd (by decide)
      · cases h

/-- The bits that software writes lie in 64 bits. -/
theorem accMask_lt_of_mem_allMgmt : ∀ d ∈ allMgmt, accMask d .rw < 2 ^ 64 ∧ accMask d .lk < 2 ^ 64 := by decide +kernel

/-! ## A write by the access codes (00 R13) -/

theorem testBit_compl64 {m : Nat} (h : m < 2 ^ 64) (b : Nat) : (2 ^ 64 - 1 - m).testBit b = (decide (b < 64) && !m.testBit b) := by
  rw [Nat.sub_sub, Nat.add_comm 1 m, Nat.testBit_two_pow_sub_succ h]

/-- One bit of the word that a write stores: `old` stood there, `v` is written, and `stored`, `clears` and `sets` are the masks' bits. -/
theorem merged_bit : ∀ old v stored clears sets : Bool,
    (((old && !stored) || (v && stored)) && !(v && clears) || (v && sets)) =
      if sets && v then true else if clears && v then false else if stored then v else old := by decide

/-- Bit `b` of a register after a write by its access codes, W1S before W1C before what is written before what stays. -/
theorem testBit_plainWrite (s : State) {d : RegD} (i j p : Nat) {v b : Nat} (hw : d.width ≤ 64) (hv : v < 2 ^ 64)
    (hrw : accMask d .rw < 2 ^ 64) (hlk : accMask d .lk < 2 ^ 64) (hb : b < d.width) :
    (rg (plainWrite d i j p v s) d i j p).testBit b =
      if (accMask d .w1s).testBit b && v.testBit b then true
      else if (accMask d .w1c).testBit b && v.testBit b then false
      else if (accMask d .rw).testBit b || (!locked s d i j && (accMask d .lk).testBit b) then v.testBit b
      else (rg s d i j p).testBit b := by
  have hkept : accMask d .rw ||| (if locked s d i j then 0 else accMask d .lk) < 2 ^ 64 :=
    Nat.or_lt_two_pow hrw (by
      split
      · exact Nat.two_pow_pos 64
      · exact hlk)
  have hclear : v &&& accMask d .w1c < 2 ^ 64 := Nat.lt_of_le_of_lt Nat.and_le_left hv
  have hb64 : b < 64 := by omega
  have hbits : (if locked s d i j then 0 else accMask d .lk).testBit b = (!locked s d i j && (accMask d .lk).testBit b) := by
    cases locked s d i j
    · simp only [Bool.false_eq_true, if_false, Bool.not_false, Bool.true_and]
    · simp only [if_true, Nat.zero_testBit, Bool.not_true, Bool.false_and]
  unfold plainWrite
  dsimp only
  rw [rg_wr _ _ _ _ _ _ hw]
  simp only [Nat.testBit_mod_two_pow, Nat.testBit_or, Nat.testBit_and, testBit_compl64 hkept, testBit_compl64 hclear, hbits, hb, hb64,
    decide_true, Bool.true_and]
  exact merged_bit _ _ _ _ _

/-- A write by the access codes writes its own register and nothing else. -/
theorem plainWrite_eq_wr_rg (s : State) {d : RegD} (i j p v : Nat) (hw : d.width ≤ 64) :
    plainWrite d i j p v s = wr s d (rg (plainWrite d i j p v s) d i j p) i j p := by
  unfold plainWrite
  dsimp only
  rw [rg_wr _ _ _ _ _ _ hw]
  unfold wr
  rw [Nat.mod_mod]

/-- A management register without a rule of its own is written by its access codes. -/
theorem mgmtWrite_of_plainReg {s : State} {d : RegD} {i v : Nat} (j : Nat) (h : plainReg s d i v = true) :
    mgmtWrite d i j v s = plainWrite d i j 0 v s := by
  obtain ⟨hown, hdenied⟩ : (∀ x ∈ ownEffect, ¬ x.off = d.off) ∧ outputDenied s d i v = false := by
    simpa only [plainReg, Bool.and_eq_true, Bool.not_eq_true', List.any_eq_false, beq_iff_eq] using h
  have hne : ∀ x ∈ ownEffect, isReg d x = false := fun x hx => by
    rw [isReg, beq_eq_false_iff_ne.mpr (Ne.symm (hown x hx)), Bool.and_false]
  simp only [ownEffect, List.forall_mem_cons] at hne
  simp only [mgmtWrite, hne, hdenied, Bool.false_eq_true, if_false]

/-- The write of a management register that reaches its block. -/
theorem exec_registerWrite_mgmt {s : State} {off size i j p : Nat} {v : W64} {gl : EccResult} {d : RegD}
    (hbar : reachesBar s .mgmt off size = true) (harr : arrives s off gl = true)
    (hbank : bankAt (arrived s off gl) .mgmt off size = none) (hreg : regAt (arrived s off gl) .mgmt off size = some (d, i, j, p))
    (hd : d.page = .mgmt) :
    exec (.registerWrite .mgmt off size ⟨v, gl⟩) s = doneReg s (mgmtWrite d i j (v.toNat % 2 ^ d.width) (arrived s off gl)) := by
  have hcross : regCross (guyPort s (portOfBar s .mgmt) 1) .mgmt off 0 gl = (arrived s off gl, false) :=
    Prod.ext rfl (regCross_lost_of_arrives harr)
  change execRegisterWrite .mgmt off size ⟨v, gl⟩ s = _
  simp only [execRegisterWrite, hbar, hcross, accessWrite, hbank, hreg, regWriteS, hd, Bool.true_eq_false, if_false]

/-! ## Stray accesses (00 R12, 01 R27) -/

theorem flagAccess_busData (k : AccessKind) (s : State) : (flagAccess k s).busData = s.busData := by
  cases k <;> rfl

/-- An access of the kind its row names sets the flag of that kind, and a read returns zero. -/
theorem strayAccess_of_kind {s : State} {k : AccessKind} {bar : Bar} {off size : Nat} (dir : Dir)
    (hbar : reachesBar s bar off size = true) (hk : accessKind s bar off size = k) :
    strayAccess k bar off size dir s = { flagAccess k s with busData := if dir = .read then 0 else s.busData } := by
  unfold strayAccess
  rw [if_pos ⟨hbar, hk⟩]
  cases dir
  · rfl
  · rw [if_neg (by decide), if_neg (by decide), ← flagAccess_busData k s]

/-- An access that names no register and no cell of a bank is bad where it touches one, unmapped where it is aligned, and bad otherwise. -/
theorem accessKind_of_none {s : State} {bar : Bar} {off size : Nat} (hreg : regAt s bar off size = none)
    (hbank : bankAt s bar off size = none) :
    accessKind s bar off size =
      if (List.range size).any fun i => holdsReg s bar (off + i) then .bad
      else if (size = 4 ∨ size = 8) ∧ off % size = 0 then .unmapped else .bad := by
  simp only [accessKind, hreg, hbank, Option.isSome_none, Bool.false_eq_true, or_self, if_false]

/-! ## The statements -/

/-- Settles O8: the reset state lists no register, so each reads its reset value. -/
theorem resetStateIsCanonical : Obligations.ResetStateIsCanonical := by
  unfold Obligations.ResetStateIsCanonical
  exact ⟨reset_wf, rfl, rfl, fun _ _ _ _ => rfl, by decide +kernel, by decide +kernel, by decide +kernel⟩

/-- Settles O9: the rows of both stray accesses are `strayAccess` of their kind. -/
theorem strayAccessesAreFlaggedAndHarmless : Obligations.StrayAccessesAreFlaggedAndHarmless := by
  unfold Obligations.StrayAccessesAreFlaggedAndHarmless
  intro s bar off size dir v up hbar
  refine ⟨fun hk => effect_of_doneReg up rfl (strayAccess_of_kind dir hbar hk),
    fun hk => effect_of_doneReg up rfl (strayAccess_of_kind dir hbar hk), fun hreg hbank => ?_⟩
  simp only [accessKind_of_none hreg hbank, List.any_eq_true, List.mem_range]

/-- Settles O10: the word crosses its guylines, and the write that arrives goes by the access codes, bit by bit. -/
theorem registerWritesFollowTheAccessCodes : Obligations.RegisterWritesFollowTheAccessCodes := by
  unfold Obligations.RegisterWritesFollowTheAccessCodes
  intro s off size v gl d i j up hbar harr hbank hreg hpage hwidth hplain
  have hexec := exec_registerWrite_mgmt (v := v) hbar harr hbank hreg hpage
  rw [mgmtWrite_of_plainReg j hplain] at hexec
  obtain ⟨hrw, hlk⟩ := accMask_lt_of_mem_allMgmt d (mem_allMgmt_of_regAt hreg hpage)
  have hdata : v.toNat % 2 ^ d.width < 2 ^ 64 := Nat.lt_of_le_of_lt (Nat.mod_le _ _) v.isLt
  refine ⟨crossed_arrived harr, effect_of_doneReg up hexec ⟨plainWrite_eq_wr_rg _ i j 0 _ hwidth, fun b hb => ?_⟩⟩
  rw [testBit_plainWrite _ i j 0 hwidth hdata hrw hlk hb]
  simp only [Nat.testBit_mod_two_pow, hb, decide_true, Bool.true_and]

end Sys2Proof.Machine
end

section
/-! PROOFS. Queue resets and Function Level Resets (05 R182, R192, R193). -/
namespace Sys2Proof.Machine.QueueResets

/-! ## Parts and slots that an operation leaves alone -/

/-- An operation that keeps everything but a set of parts without `.sqs` keeps the SQs. -/
theorem sqs_of_keeps {s t : State} (h : erase (· != .sqs) t = erase (· != .sqs) s) : t.sqs = s.sqs := erase_eq_iff.mp h .sqs rfl

theorem cqs_of_keeps {s t : State} (h : erase (· != .cqs) t = erase (· != .cqs) s) : t.cqs = s.cqs := erase_eq_iff.mp h .cqs rfl

theorem fns_of_keeps {s t : State} (h : erase (· != .fns) t = erase (· != .fns) s) : t.fns = s.fns := erase_eq_iff.mp h .fns rfl

theorem sq_of_sqs {s t : State} (h : t.sqs = s.sqs) (fn k : Nat) : t.sq fn k = s.sq fn k := congrArg (Tbl.get SQ.reset · (qkey fn k)) h

theorem cq_of_cqs {s t : State} (h : t.cqs = s.cqs) (fn k : Nat) : t.cq fn k = s.cq fn k := congrArg (Tbl.get CQ.reset · (qkey fn k)) h

theorem qkey_ne {fn j k : Nat} (h : j ≠ k) : qkey fn j ≠ qkey fn k := by
  unfold qkey
  omega

@[simp] theorem sq_updSq (s : State) (fn slot : Nat) (f : SQ → SQ) : (updSq s fn slot f).sq fn slot = f (s.sq fn slot) := sq_setSq ..

theorem sq_updSq_ne (s : State) (fn : Nat) {slot k : Nat} (f : SQ → SQ) (h : k ≠ slot) : (updSq s fn slot f).sq fn k = s.sq fn k :=
  Tbl.get_set_ne _ _ _ (qkey_ne h)

@[simp] theorem cq_updCq (s : State) (fn slot : Nat) (f : CQ → CQ) : (updCq s fn slot f).cq fn slot = f (s.cq fn slot) := cq_setCq ..

theorem cq_updCq_ne (s : State) (fn : Nat) {slot k : Nat} (f : CQ → CQ) (h : k ≠ slot) : (updCq s fn slot f).cq fn k = s.cq fn k :=
  Tbl.get_set_ne _ _ _ (qkey_ne h)

/-- A change of one CQ, for every slot that may be read after it. -/
theorem cq_updCq_ite (s : State) (fn slot : Nat) (g : CQ → CQ) (f c : Nat) :
    (updCq s fn slot g).cq f c = if qkey f c = qkey fn slot then g (s.cq f c) else s.cq f c := by
  rw [updCq, State.setCq, State.cq, Tbl.get_set]
  split
  · next hk => rw [State.cq, State.cq, hk]
  · rfl

/-- A context that is abandoned, with its call and its reads, and freed touches no part but the programs, the cores, the reads in flight and
what is sent. -/
theorem keeps_freedContext {L : Part → Bool} (h_prog : L .prog = true) (h_cores : L .cores = true) (h_mem : L .mem = true)
    (h_out : L .out = true) (s : State) (c : Nat) :
    erase L ((dropCall (undrain (abandon s c) (2 ^ 32 + c)) c).setCtx c Ctx.reset) = erase L s :=
  (keeps_State_setCtx h_prog _ _ _).trans
    ((keeps_dropCall h_prog h_cores _ _).trans ((keeps_undrain h_mem _ _).trans (keeps_abandon h_out _ _)))

/-! ## Putting a queue into a state -/

theorem sqs_writeSqRec (s : State) (fn slot : Nat) : (writeSqRec s fn slot).sqs = s.sqs :=
  sqs_of_keeps (keeps_writeSqRec rfl rfl rfl rfl rfl s fn slot)

theorem cqs_writeCqRec (s : State) (fn slot tail : Nat) : (writeCqRec s fn slot tail).cqs = s.cqs :=
  cqs_of_keeps (keeps_writeCqRec rfl rfl rfl rfl rfl s fn slot tail)

/-- An SQ put into a state keeps everything but the gate and what is shown of the state. -/
theorem sq_setSqState (s : State) (fn slot st : Nat) :
    ∃ g n, (setSqState s fn slot st).sq fn slot = { s.sq fn slot with state := st, gate := g, shown := n } := by
  unfold setSqState
  dsimp only
  rw [sq_updSq, sq_of_sqs (sqs_writeSqRec _ _ _), sq_updSq]
  exact ⟨_, _, rfl⟩

theorem sq_setSqState_ne (s : State) (fn st : Nat) {slot k : Nat} (h : k ≠ slot) : (setSqState s fn slot st).sq fn k = s.sq fn k := by
  unfold setSqState
  dsimp only
  rw [sq_updSq_ne _ _ _ h, sq_of_sqs (sqs_writeSqRec _ _ _), sq_updSq_ne _ _ _ h]

theorem cq_setCqState (s : State) (fn slot st : Nat) :
    ∃ g n, (setCqState s fn slot st).cq fn slot = { s.cq fn slot with state := st, gate := g, shown := n } := by
  unfold setCqState
  dsimp only
  rw [cq_updCq, cq_of_cqs (cqs_writeCqRec _ _ _ _), cq_updCq]
  exact ⟨_, _, rfl⟩

theorem cq_setCqState_ne (s : State) (fn st : Nat) {slot k : Nat} (h : k ≠ slot) : (setCqState s fn slot st).cq fn k = s.cq fn k := by
  unfold setCqState
  dsimp only
  rw [cq_updCq_ne _ _ _ h, cq_of_cqs (cqs_writeCqRec _ _ _ _), cq_updCq_ne _ _ _ h]

/-! ## The decision of a completion (03 R104, 05 R172) -/

/-- CHANNEL_STATUS of a completion entry is the status of its ending. -/
theorem entryStatus_complEntry (tag sq seq phase n : Nat) (e : Ending) :
    entryStatus (complEntry tag sq seq phase n e) = e.status % 2 ^ 16 := by
  unfold entryStatus complEntry bitsOf
  simp only [pack, BitVec.toNat_ofNat]
  omega

theorem findItem_seq {q : SQ} {n : W32} {i : Item} (h : findItem q n = some i) : i.seq = n := by
  have := List.find?_some h
  simp only [Bool.and_eq_true, beq_iff_eq] at this
  exact this.2

theorem sqs_queuePost (s : State) (fn c : Nat) (p : Compl) : (queuePost s fn c p).sqs = s.sqs :=
  sqs_of_keeps (keeps_queuePost rfl rfl rfl rfl s fn c p)

theorem cqs_sendPme (s : State) (fn : Nat) : (sendPme s fn).cqs = s.cqs := cqs_of_keeps (keeps_sendPme rfl rfl s fn)

/-- A completion queued on a CQ stands behind those that it holds. -/
theorem posts_queuePost (s : State) (fn c : Nat) (p : Compl) : ∃ g n, ∀ f k,
    ((queuePost s fn c p).cq f k).posts =
      if qkey f k = qkey fn c then (s.cq f k).posts ++ [{ p with gate := g, nth := n }] else (s.cq f k).posts := by
  refine ⟨gateOf s, s.prog.finished, fun f k => ?_⟩
  unfold queuePost
  dsimp only
  split
  · rw [cq_of_cqs (cqs_sendPme _ _), cq_updCq_ite]
    exact apply_ite CQ.posts _ _ _
  · rw [cq_updCq_ite]
    exact apply_ite CQ.posts _ _ _

theorem cqs_countRecovery (s : State) (n : Nat) : (countRecovery s n).cqs = s.cqs := cqs_of_keeps (keeps_countRecovery rfl s n)

theorem sqs_countRecovery (s : State) (n : Nat) : (countRecovery s n).sqs = s.sqs := sqs_of_keeps (keeps_countRecovery rfl s n)

theorem sqs_writeCqRec (s : State) (fn slot tail : Nat) : (writeCqRec s fn slot tail).sqs = s.sqs :=
  sqs_of_keeps (keeps_writeCqRec rfl rfl rfl rfl rfl s fn slot tail)

theorem cqs_putRecord (s : State) (a b : Bool) (n : Nat) (v : List (BitVec 512)) : (putRecord s a b n v).cqs = s.cqs :=
  cqs_of_keeps (keeps_putRecord rfl rfl rfl rfl rfl s a b n v)

theorem sqs_putRecord (s : State) (a b : Bool) (n : Nat) (v : List (BitVec 512)) : (putRecord s a b n v).sqs = s.sqs :=
  sqs_of_keeps (keeps_putRecord rfl rfl rfl rfl rfl s a b n v)

/-- The undecided entry `i` is decided, and a completion with the status of `e` that answers it is queued on its CQ. -/
theorem decideItem_eq_queuePost {s : State} {fn slot : Nat} {i : Item} {e : Ending} (hfind : findItem (s.sq fn slot) i.seq = some i)
    (hopen : i.decided = false) : ∃ t p, decideItem s fn slot i.seq e = queuePost t fn i.cq p ∧
      t.sqs = (updItem s fn slot i.seq fun i => { i with decided := true, again := none }).sqs ∧
      (∀ f c, (t.cq f c).posts = (s.cq f c).posts) ∧
      p.sqFn = fn ∧ p.sqSlot = slot ∧ p.seq = i.seq ∧ entryStatus p.entry = e.status % 2 ^ 16 := by
  unfold decideItem
  simp only [hfind, hopen, Bool.false_eq_true, if_false]
  refine ⟨_, _, rfl, ?_, fun f c => ?_, rfl, rfl, rfl, entryStatus_complEntry _ _ _ _ _ _⟩
  · rw [sqs_countRecovery, sqs_writeCqRec, sqs_putRecord]
    rfl
  · rw [cq_of_cqs (cqs_countRecovery _ _), cq_of_cqs (cqs_writeCqRec _ _ _ _), cq_of_cqs (cqs_putRecord _ _ _ _ _), updItem_cq, cq_updCq_ite]
    split <;> rfl

/-- A decision does nothing unless it finds an undecided entry. -/
theorem decideItem_cases (s : State) (fn slot : Nat) (seq : W32) (e : Ending) :
    decideItem s fn slot seq e = s ∨ ∃ i, findItem (s.sq fn slot) i.seq = some i ∧ i.decided = false ∧ i.seq = seq := by
  cases hfind : findItem (s.sq fn slot) seq with
  | none => exact .inl (by simp only [decideItem, hfind])
  | some i =>
    obtain rfl := findItem_seq hfind
    cases hd : i.decided with
    | true => exact .inl (by simp only [decideItem, hfind, hd, if_true])
    | false => exact .inr ⟨i, hfind, hd, rfl⟩

/-- An SQ that has changed in its entries alone, none of which became a skip or ceased to be one. -/
def SameShape (q q' : SQ) : Prop := q'.state = q.state ∧ q'.round = q.round ∧ q'.items.map (·.skip) = q.items.map (·.skip)

theorem SameShape.refl (q : SQ) : SameShape q q := ⟨rfl, rfl, rfl⟩

theorem SameShape.trans {p q r : SQ} (hpq : SameShape p q) (hqr : SameShape q r) : SameShape p r :=
  ⟨hqr.1.trans hpq.1, hqr.2.1.trans hpq.2.1, hqr.2.2.trans hpq.2.2⟩

theorem sq_updItem (s : State) (fn slot : Nat) (seq : W32) (f : Item → Item) : (updItem s fn slot seq f).sq fn slot =
    { s.sq fn slot with items := (s.sq fn slot).items.map fun i => if i.skip = false ∧ i.seq = seq then f i else i } := sq_updSq ..

theorem sameShape_updItem {s : State} {fn slot : Nat} {seq : W32} {f : Item → Item} (hf : ∀ i, (f i).skip = i.skip) :
    SameShape (s.sq fn slot) ((updItem s fn slot seq f).sq fn slot) := by
  rw [sq_updItem]
  refine ⟨rfl, rfl, ?_⟩
  rw [List.map_map]
  refine List.map_congr_left fun i _ => ?_
  rw [Function.comp_apply]
  split
  · exact hf i
  · rfl

/-- A change of the entries with one SEQ leaves those with another alone. -/
theorem findItem_updItem_ne {s : State} {fn slot : Nat} {seq n : W32} {f : Item → Item} (hf : ∀ i, (f i).skip = i.skip ∧ (f i).seq = i.seq)
    (h : n ≠ seq) : findItem ((updItem s fn slot seq f).sq fn slot) n = findItem (s.sq fn slot) n := by
  rw [sq_updItem]
  unfold findItem
  dsimp only
  induction (s.sq fn slot).items with
  | nil => rfl
  | cons i l ih =>
    rw [List.map_cons, List.find?_cons, List.find?_cons, ih]
    by_cases hi : i.skip = false ∧ i.seq = seq
    · obtain ⟨hskip, rfl⟩ := hi
      have hne : (i.seq == n) = false := beq_eq_false_iff_ne.mpr (Ne.symm h)
      simp [hskip, hf, hne]
    · rw [if_neg hi]

theorem sq_decideItem {s : State} {fn slot : Nat} {i : Item} {e : Ending} (hfind : findItem (s.sq fn slot) i.seq = some i)
    (hopen : i.decided = false) : (decideItem s fn slot i.seq e).sq fn slot =
      (updItem s fn slot i.seq fun i => { i with decided := true, again := none }).sq fn slot := by
  obtain ⟨t, p, heq, hsqs, -⟩ := decideItem_eq_queuePost (e := e) hfind hopen
  rw [heq, sq_of_sqs (sqs_queuePost _ _ _ _), sq_of_sqs hsqs]

theorem sameShape_decideItem (s : State) (fn slot : Nat) (seq : W32) (e : Ending) :
    SameShape (s.sq fn slot) ((decideItem s fn slot seq e).sq fn slot) := by
  rcases decideItem_cases s fn slot seq e with h | ⟨i, hfind, hopen, rfl⟩
  · rw [h]
    exact .refl _
  · rw [sq_decideItem hfind hopen]
    exact sameShape_updItem fun _ => rfl

theorem findItem_decideItem_ne (s : State) (fn slot : Nat) {seq n : W32} (e : Ending) (h : n ≠ seq) :
    findItem ((decideItem s fn slot seq e).sq fn slot) n = findItem (s.sq fn slot) n := by
  rcases decideItem_cases s fn slot seq e with hs | ⟨i, hfind, hopen, rfl⟩
  · rw [hs]
  · rw [sq_decideItem hfind hopen]
    exact findItem_updItem_ne (fun _ => ⟨rfl, rfl⟩) h

/-- A CQ keeps what it holds when a completion is queued. -/
theorem mem_posts_queuePost {s : State} {f c : Nat} {x : Compl} (fn k : Nat) (p : Compl) (h : x ∈ (s.cq f c).posts) :
    x ∈ ((queuePost s fn k p).cq f c).posts := by
  obtain ⟨g, n, hposts⟩ := posts_queuePost s fn k p
  rw [hposts]
  split
  · exact List.mem_append_left _ h
  · exact h

theorem mem_posts_decideItem {s : State} {f c : Nat} {x : Compl} (fn slot : Nat) (seq : W32) (e : Ending) (h : x ∈ (s.cq f c).posts) :
    x ∈ ((decideItem s fn slot seq e).cq f c).posts := by
  rcases decideItem_cases s fn slot seq e with hs | ⟨i, hfind, hopen, rfl⟩
  · rwa [hs]
  · obtain ⟨t, p, heq, -, hposts, -⟩ := decideItem_eq_queuePost (e := e) hfind hopen
    rw [heq]
    exact mem_posts_queuePost _ _ _ (by rwa [hposts])

/-- A completion with status `n` that answers entry `i` of an SQ waits in the entry's CQ. -/
def Answered (u : State) (fn slot : Nat) (i : Item) (n : Nat) : Prop :=
  ∃ p ∈ (u.cq fn i.cq).posts, p.sqFn = fn ∧ p.sqSlot = slot ∧ p.seq = i.seq ∧ entryStatus p.entry = n

theorem Answered.mono {u v : State} {fn slot n : Nat} {i : Item} (h : Answered u fn slot i n)
    (hposts : ∀ x ∈ (u.cq fn i.cq).posts, x ∈ (v.cq fn i.cq).posts) : Answered v fn slot i n := by
  obtain ⟨p, hp, hans⟩ := h
  exact ⟨p, hposts p hp, hans⟩

theorem answered_decideItem {s : State} {fn slot : Nat} {i : Item} {e : Ending} (hfind : findItem (s.sq fn slot) i.seq = some i)
    (hopen : i.decided = false) : Answered (decideItem s fn slot i.seq e) fn slot i (e.status % 2 ^ 16) := by
  obtain ⟨t, p, heq, -, -, hfn, hslot, hseq, hstatus⟩ := decideItem_eq_queuePost (e := e) hfind hopen
  obtain ⟨g, n, hposts⟩ := posts_queuePost t fn i.cq p
  rw [heq, Answered, hposts, if_pos rfl]
  exact ⟨_, List.mem_append_right _ (List.mem_singleton_self _), hfn, hslot, hseq, hstatus⟩

/-! ## The end of an entry by a queue reset (05 R182) -/

theorem status_resetRecord (r : BitVec 512) (total : Nat) (i : Item) : (resetRecord r total i).status = 0xF005 := by
  unfold resetRecord
  dsimp only
  split <;> rfl

theorem status_resetEnding (s : State) (i : Item) : (resetEnding s i).status = 0xF005 := by
  unfold resetEnding
  cases i.ctx with
  | none =>
    dsimp only
    split
    · exact status_resetRecord _ _ _
    · rfl
  | some c =>
    dsimp only
    split
    · rfl
    · split <;> rfl

/-- What the end of an entry does before it decides the completion leaves the queues alone. -/
theorem endByReset_eq_decideItem (fn slot : Nat) (s : State) (i : Item) : ∃ t, t.sqs = s.sqs ∧ t.cqs = s.cqs ∧
    endByReset fn slot s i = decideItem t fn slot i.seq (resetEnding s i) := by
  cases hc : i.ctx with
  | none => exact ⟨s, rfl, rfl, by simp only [endByReset, hc]⟩
  | some c =>
    exact ⟨_, sqs_of_keeps (keeps_freedContext rfl rfl rfl rfl s c), cqs_of_keeps (keeps_freedContext rfl rfl rfl rfl s c),
      by simp only [endByReset, hc]⟩

theorem sameShape_endByReset (fn slot : Nat) (s : State) (i : Item) :
    SameShape (s.sq fn slot) ((endByReset fn slot s i).sq fn slot) := by
  obtain ⟨t, hsqs, -, heq⟩ := endByReset_eq_decideItem fn slot s i
  rw [heq, ← sq_of_sqs hsqs]
  exact sameShape_decideItem _ _ _ _ _

theorem sameShape_foldl_endByReset (fn slot : Nat) (l : List Item) (s : State) :
    SameShape (s.sq fn slot) ((l.foldl (endByReset fn slot) s).sq fn slot) := by
  induction l generalizing s with
  | nil => exact .refl _
  | cons i l ih => exact (sameShape_endByReset fn slot s i).trans (ih _)

theorem Answered.endByReset {s : State} {fn slot n : Nat} {i : Item} (h : Answered s fn slot i n) (j : Item) :
    Answered (endByReset fn slot s j) fn slot i n := by
  obtain ⟨t, -, hcqs, heq⟩ := endByReset_eq_decideItem fn slot s j
  rw [heq]
  exact h.mono fun x hx => mem_posts_decideItem _ _ _ _ (by rwa [cq_of_cqs hcqs])

theorem Answered.foldl_endByReset {s : State} {fn slot n : Nat} {i : Item} (h : Answered s fn slot i n) (l : List Item) :
    Answered (l.foldl (Machine.endByReset fn slot) s) fn slot i n := by
  induction l generalizing s with
  | nil => exact h
  | cons j l ih => exact ih (h.endByReset j)

theorem answered_endByReset {s : State} {fn slot : Nat} {i j : Item} (hfind : findItem (s.sq fn slot) i.seq = some i)
    (hopen : i.decided = false) (hseq : j.seq = i.seq) : Answered (endByReset fn slot s j) fn slot i 0xF005 := by
  obtain ⟨t, hsqs, -, heq⟩ := endByReset_eq_decideItem fn slot s j
  have h := answered_decideItem (e := resetEnding s j) (s := t) (by rwa [sq_of_sqs hsqs]) hopen
  rw [status_resetEnding] at h
  rwa [heq, hseq]

theorem findItem_endByReset_ne {s : State} {fn slot : Nat} {n : W32} {j : Item} (h : n ≠ j.seq) :
    findItem ((endByReset fn slot s j).sq fn slot) n = findItem (s.sq fn slot) n := by
  obtain ⟨t, hsqs, -, heq⟩ := endByReset_eq_decideItem fn slot s j
  rw [heq, findItem_decideItem_ne _ _ _ _ h, sq_of_sqs hsqs]

/-- Each undecided entry of a list that its SEQ finds is answered with 0xF005 once all have been ended: until its turn comes its SEQ finds
it, or an entry with its SEQ has had it decided. -/
theorem answered_foldl_endByReset {fn slot : Nat} {i : Item} (hopen : i.decided = false) (l : List Item) (hmem : i ∈ l) (s : State)
    (hfind : findItem (s.sq fn slot) i.seq = some i) : Answered (l.foldl (endByReset fn slot) s) fn slot i 0xF005 := by
  induction l generalizing s with
  | nil => exact absurd hmem List.not_mem_nil
  | cons j l ih =>
    by_cases hseq : j.seq = i.seq
    · exact (answered_endByReset hfind hopen hseq).foldl_endByReset l
    · refine ih ((List.mem_cons.mp hmem).resolve_left fun h => hseq (congrArg Item.seq h.symm)) _ ?_
      rw [findItem_endByReset_ne (Ne.symm hseq), hfind]

/-! ## The reset of a queue (05 R192) -/

theorem cqs_sqDrained (s : State) (fn slot : Nat) : (sqDrained s fn slot).cqs = s.cqs :=
  cqs_of_keeps (keeps_sqDrained rfl rfl rfl rfl rfl rfl s fn slot)

theorem sqs_clearJournal (s : State) (q : SQ) : (clearJournal s q).sqs = s.sqs :=
  sqs_of_keeps (keeps_clearJournal rfl rfl rfl rfl rfl s q)

/-- A DRAINING SQ without entries becomes DISABLED; another keeps draining. -/
theorem sq_sqDrained {s : State} {fn slot : Nat} (hstate : (s.sq fn slot).state = 2) :
    ((sqDrained s fn slot).sq fn slot).state = (if (s.sq fn slot).items.all (·.skip) then 0 else 2) ∧
      ((sqDrained s fn slot).sq fn slot).round = (s.sq fn slot).round := by
  unfold sqDrained
  dsimp only
  by_cases hall : (s.sq fn slot).items.all (·.skip) = true
  · rw [if_pos ⟨hstate, hall⟩, if_pos hall]
    obtain ⟨g, n, hq⟩ := sq_setSqState (updSq (if (s.sq fn slot).resetting then clearJournal s (s.sq fn slot) else s) fn slot
      fun q => { q with items := [], resetting := false, indexDue := 0 }) fn slot 0
    rw [hq, sq_updSq]
    refine ⟨rfl, ?_⟩
    split
    · rw [sq_of_sqs (sqs_clearJournal _ _)]
    · rfl
  · rw [if_neg fun h => hall h.2, if_neg hall]
    exact ⟨hstate, rfl⟩

theorem exec_queueReset {s : State} {fn slot : Nat} (hslot : slot < 256) (hrec : sqRecovering s fn slot = false) :
    exec (.queueReset fn slot) s = done s (queueResetS fn slot s) := by
  have hpage : 0x4024 + slot * 0x40 < 0x8000 := by omega
  have hplace : (0x4024 + slot * 0x40 - 0x4000) / 64 = slot := by omega
  have hoff : (0x4024 + slot * 0x40) % 64 = 0x24 := by omega
  change done s (queueWrite fn (0x4024 + slot * 0x40) 1 s) = _
  simp only [queueWrite, queueHeld, queueRegS, hpage, hplace, hoff, if_true, hrec, Bool.false_eq_true, if_false]
  rfl

/-- The accepted entries of an SQ whose completions are still to be decided. -/
def undecided (q : SQ) : List Item := q.items.filter fun i => !i.skip && i.accepted && !i.decided

/-- A queue reset that runs is the end of the undecided entries, on the SQ made to drain. -/
theorem queueResetS_eq {s : State} {fn slot : Nat} (hstate : (s.sq fn slot).state ≠ 0) (hreset : (s.sq fn slot).resetting = false) :
    ∃ t, (t.sq fn slot).state = 2 ∧ (t.sq fn slot).round = none ∧ (t.sq fn slot).items = (s.sq fn slot).items ∧
      queueResetS fn slot s = sqDrained ((undecided (s.sq fn slot)).foldl (endByReset fn slot) t) fn slot := by
  obtain ⟨g, n, hq⟩ := sq_setSqState (undrain (updSq s fn slot fun q => { q with
    round := none, paused := none, rescan := false, resetting := true }) (roundKey fn slot)) fn slot 2
  rw [sq_of_sqs (sqs_of_keeps (keeps_undrain rfl _ _)), sq_updSq] at hq
  refine ⟨_, by rw [hq], by rw [hq], by rw [hq], ?_⟩
  unfold queueResetS
  simp only [hstate, hreset, Bool.false_eq_true, or_self, if_false]
  rfl

theorem all_skip_of_sameShape {q q' : SQ} (h : SameShape q q') : q'.items.all (·.skip) = q.items.all (·.skip) := by
  have hall : ∀ l : List Item, l.all (·.skip) = (l.map (·.skip)).all id := fun l => by rw [List.all_map]; rfl
  rw [hall, hall, h.2.2]

theorem queueResetS_ends {s : State} {fn slot : Nat} (hstate : (s.sq fn slot).state ≠ 0) (hreset : (s.sq fn slot).resetting = false) :
    ((queueResetS fn slot s).sq fn slot).state = (if (s.sq fn slot).items.all (·.skip) then 0 else 2) ∧
      ((queueResetS fn slot s).sq fn slot).round = none ∧
      ∀ i, i ∈ (s.sq fn slot).items → i.skip = false → i.accepted = true → i.decided = false →
        findItem (s.sq fn slot) i.seq = some i → Answered (queueResetS fn slot s) fn slot i 0xF005 := by
  obtain ⟨t, htwo, hnone, hitems, heq⟩ := queueResetS_eq hstate hreset
  have hshape := sameShape_foldl_endByReset fn slot (undecided (s.sq fn slot)) t
  have hall := all_skip_of_sameShape hshape
  obtain ⟨hst, hround, -⟩ := hshape
  obtain ⟨hdst, hdround⟩ := sq_sqDrained (hst.trans htwo)
  rw [heq]
  refine ⟨by rw [hdst, hall, hitems], by rw [hdround, hround, hnone], fun i hi hskip hacc hopen hfind => ?_⟩
  have hmem : i ∈ undecided (s.sq fn slot) := List.mem_filter.mpr ⟨hi, by simp only [hskip, hacc, hopen, Bool.not_false, Bool.and_true]⟩
  have hans := answered_foldl_endByReset hopen _ hmem t (by rwa [findItem, hitems])
  exact hans.mono fun x hx => by rwa [cq_of_cqs (cqs_sqDrained _ _ _)]

/-! ## Slots that a fold over slots clears -/

/-- A fold of `f` over slots, where `f` leaves every other slot alone and a slot that is off as well, and turns off and cleans one that is
on, turns off and cleans each slot of the list that is on. -/
theorem foldl_turns_off {α : Type} {f : State → Nat → State} {g : State → α} {off clean : α → Prop} {k : Nat}
    (other : ∀ s j, j ≠ k → g (f s j) = g s) (stays : ∀ s, off (g s) → g (f s k) = g s)
    (clears : ∀ s, ¬ off (g s) → off (g (f s k)) ∧ clean (g (f s k))) (l : List Nat) (s : State) (hl : ¬ off (g s) → k ∈ l) :
    off (g (l.foldl f s)) ∧ (¬ off (g s) → clean (g (l.foldl f s))) := by
  have same : ∀ s j, off (g s) → g (f s j) = g s := fun s j h =>
    if hj : j = k then hj ▸ stays s h else other s j hj
  have kept : ∀ (l : List Nat) (s : State), off (g s) → g (l.foldl f s) = g s := by
    intro l
    induction l with
    | nil => exact fun _ _ => rfl
    | cons j l ih => exact fun s h => (ih _ (by rwa [same s j h])).trans (same s j h)
  by_cases hoff : off (g s)
  · exact ⟨by rwa [kept l s hoff], fun h => absurd hoff h⟩
  · induction l generalizing s with
    | nil => exact absurd (hl hoff) List.not_mem_nil
    | cons j l ih =>
      by_cases hj : j = k
      · subst hj
        obtain ⟨hoff', hclean⟩ := clears s hoff
        rw [List.foldl_cons, kept l _ hoff']
        exact ⟨hoff', fun _ => hclean⟩
      · have hg := other s j hj
        have := ih (f s j) (fun _ => (List.mem_cons.mp (hl hoff)).resolve_left (Ne.symm hj)) (by rwa [hg])
        rwa [hg] at this

theorem mem_of_get_ne {α : Type} {d : α} {t : Tbl α} {k : Nat} (h : Tbl.get d t k ≠ d) : ∃ v, (k, v) ∈ t := by
  induction t with
  | nil => exact absurd rfl h
  | cons e t ih =>
    obtain ⟨a, v⟩ := e
    rw [Tbl.get] at h
    split at h
    · next ha => exact ⟨v, ha ▸ List.mem_cons_self⟩
    · obtain ⟨w, hw⟩ := ih h
      exact ⟨w, List.mem_cons_of_mem _ hw⟩

/-- A slot whose queue is not at its reset value is listed. -/
theorem slot_mem_of_get_ne {α : Type} {d : α} {t : Tbl α} {fn k : Nat} (hk : k < 256) (h : Tbl.get d t (qkey fn k) ≠ d) :
    k ∈ (t.filter fun e => e.1 / 256 == fn).map (·.1 % 256) := by
  obtain ⟨v, hv⟩ := mem_of_get_ne h
  have hdiv : qkey fn k / 256 = fn := by unfold qkey; omega
  have hmod : qkey fn k % 256 = k := by unfold qkey; omega
  exact List.mem_map.mpr ⟨(qkey fn k, v), List.mem_filter.mpr ⟨hv, by rw [hdiv]; exact beq_self_eq_true fn⟩, hmod⟩

theorem mem_fnSqs {s : State} {fn k : Nat} (hk : k < 256) (h : (s.sq fn k).state ≠ 0) : k ∈ fnSqs s fn :=
  slot_mem_of_get_ne hk fun hd => h (congrArg SQ.state hd)

theorem mem_fnCqs {s : State} {fn k : Nat} (hk : k < 256) (h : (s.cq fn k).state ≠ 0) : k ∈ fnCqs s fn :=
  slot_mem_of_get_ne hk fun hd => h (congrArg CQ.state hd)

/-! ## The function form of a queue reset (05 R193) -/

theorem functionReset_of_disabled {s : State} {fn slot : Nat} (h : (s.sq fn slot).state = 0) : functionReset fn s slot = s := by
  unfold functionReset
  exact if_pos h

/-- An SQ that is reset with its function is made DISABLED and empty, in a state whose other SQs are as before. -/
theorem functionReset_eq_setSqState {s : State} {fn slot : Nat} (h : (s.sq fn slot).state ≠ 0) : ∃ t, t.sqs = s.sqs ∧
    functionReset fn s slot = setSqState (updSq t fn slot fun q => { q with
      round := none, paused := none, rescan := false, resetting := false, items := [], indexDue := 0 }) fn slot 0 := by
  unfold functionReset
  dsimp only
  rw [if_neg h]
  refine ⟨_, ?_, rfl⟩
  refine sqs_of_keeps ((keeps_undrain rfl _ _).trans ((keeps_clearJournal rfl rfl rfl rfl rfl _ _).trans
    ((keeps_State_withRecov rfl _ _).trans ((erase_foldl (fun u i => keeps_freeEnded rfl rfl rfl rfl rfl u _ i) _ _).trans
      (erase_foldl (fun u i => ?_) _ _)))))
  split
  · split
    · rfl
    · exact keeps_freedContext rfl rfl rfl rfl u _
  · rfl

theorem sq_functionReset_ne (s : State) (fn : Nat) {j k : Nat} (h : j ≠ k) : (functionReset fn s j).sq fn k = s.sq fn k := by
  by_cases hoff : (s.sq fn j).state = 0
  · rw [functionReset_of_disabled hoff]
  · obtain ⟨t, hsqs, heq⟩ := functionReset_eq_setSqState hoff
    rw [heq, sq_setSqState_ne _ _ _ (Ne.symm h), sq_updSq_ne _ _ _ (Ne.symm h), sq_of_sqs hsqs]

theorem sq_functionReset {s : State} {fn slot : Nat} (h : (s.sq fn slot).state ≠ 0) :
    ((functionReset fn s slot).sq fn slot).state = 0 ∧ ((functionReset fn s slot).sq fn slot).items = [] := by
  obtain ⟨t, hsqs, heq⟩ := functionReset_eq_setSqState h
  obtain ⟨g, n, hq⟩ := sq_setSqState (updSq t fn slot fun q => { q with
    round := none, paused := none, rescan := false, resetting := false, items := [], indexDue := 0 }) fn slot 0
  rw [heq, hq, sq_updSq]
  exact ⟨rfl, rfl⟩

theorem functionResetCq_of_disabled {s : State} {fn slot : Nat} (h : (s.cq fn slot).state = 0) : functionResetCq fn s slot = s := by
  unfold functionResetCq
  exact if_pos h

theorem functionResetCq_eq_setCqState {s : State} {fn slot : Nat} (h : (s.cq fn slot).state ≠ 0) :
    functionResetCq fn s slot = setCqState (updCq s fn slot fun k => { k with
      posts := [], reservations := 0, due := false, timer := none, unsignalled := 0 }) fn slot 0 := by
  unfold functionResetCq
  exact if_neg h

theorem cq_functionResetCq_ne (s : State) (fn : Nat) {j k : Nat} (h : j ≠ k) : (functionResetCq fn s j).cq fn k = s.cq fn k := by
  by_cases hoff : (s.cq fn j).state = 0
  · rw [functionResetCq_of_disabled hoff]
  · rw [functionResetCq_eq_setCqState hoff, cq_setCqState_ne _ _ _ (Ne.symm h), cq_updCq_ne _ _ _ (Ne.symm h)]

theorem cq_functionResetCq {s : State} {fn slot : Nat} (h : (s.cq fn slot).state ≠ 0) :
    ((functionResetCq fn s slot).cq fn slot).state = 0 ∧
      ((functionResetCq fn s slot).cq fn slot).posts = [] ∧ ((functionResetCq fn s slot).cq fn slot).reservations = 0 := by
  obtain ⟨g, n, hk⟩ := cq_setCqState (updCq s fn slot fun k => { k with
    posts := [], reservations := 0, due := false, timer := none, unsignalled := 0 }) fn slot 0
  rw [functionResetCq_eq_setCqState h, hk, cq_updCq]
  exact ⟨rfl, rfl, rfl⟩

/-! ## A Function Level Reset (05 R193) -/

/-- The reset of a function's SQs, the first part of a Function Level Reset. -/
def resetSqs (fn : Nat) (s : State) : State := (fnSqs s fn).foldl (functionReset fn) s

theorem cqs_resetSqs (fn : Nat) (s : State) : (resetSqs fn s).cqs = s.cqs :=
  cqs_of_keeps (erase_foldl (fun u k => keeps_functionReset rfl rfl rfl rfl rfl rfl rfl rfl rfl fn u k) _ _)

/-- The parts of a Function Level Reset that follow the queues leave them alone. -/
theorem sqs_flrS {s : State} {fn : Nat} (h : (s.fn fn).present = true) : (flrS fn s).sqs = (resetSqs fn s).sqs := by
  unfold flrS
  dsimp only
  rw [if_neg (by rw [h]; decide)]
  exact sqs_of_keeps ((keeps_State_setFn rfl _ _ _).trans ((keeps_fnConfigReset rfl rfl rfl rfl rfl rfl _ _).trans
    ((erase_cond (keeps_agentReset rfl rfl rfl rfl rfl rfl rfl _ _) rfl).trans
      ((erase_cond (keeps_receiverReset rfl rfl rfl rfl rfl rfl rfl _ _ _) rfl).trans
        (erase_foldl (fun u k => keeps_functionResetCq rfl rfl rfl rfl rfl rfl fn u k) _ _)))))

theorem cqs_flrS {s : State} {fn : Nat} (h : (s.fn fn).present = true) :
    (flrS fn s).cqs = ((fnCqs s fn).foldl (functionResetCq fn) (resetSqs fn s)).cqs := by
  have hlist : fnCqs (resetSqs fn s) fn = fnCqs s fn := by rw [fnCqs, cqs_resetSqs]; rfl
  rw [← hlist]
  unfold flrS
  dsimp only
  rw [if_neg (by rw [h]; decide)]
  exact cqs_of_keeps ((keeps_State_setFn rfl _ _ _).trans ((keeps_fnConfigReset rfl rfl rfl rfl rfl rfl _ _).trans
    ((erase_cond (keeps_agentReset rfl rfl rfl rfl rfl rfl rfl _ _) rfl).trans
      (erase_cond (keeps_receiverReset rfl rfl rfl rfl rfl rfl rfl _ _ _) rfl))))

theorem fns_writeFnRec (s : State) (fn : Nat) : (writeFnRec s fn).fns = s.fns :=
  fns_of_keeps (keeps_writeFnRec rfl rfl rfl rfl rfl s fn)

theorem fn_fnConfigReset (s : State) (fn : Nat) :
    ((fnConfigReset s fn).fn fn).bme = false ∧ ((fnConfigReset s fn).fn fn).d3 = false := by
  unfold fnConfigReset
  dsimp only
  rw [State.fn, fns_writeFnRec, ← State.fn, fn_setFn]
  exact ⟨rfl, rfl⟩

theorem fn_flrS {s : State} {fn : Nat} (h : (s.fn fn).present = true) :
    ((flrS fn s).fn fn).bme = false ∧ ((flrS fn s).fn fn).d3 = false ∧ ((flrS fn s).fn fn).pba = 0 := by
  unfold flrS
  dsimp only
  rw [if_neg (by rw [h]; decide), fn_setFn]
  obtain ⟨hbme, hd3⟩ := fn_fnConfigReset _ fn
  exact ⟨hbme, hd3, rfl⟩

theorem sq_flrS {s : State} {fn k : Nat} (h : (s.fn fn).present = true) (hk : k < 256) :
    ((flrS fn s).sq fn k).state = 0 ∧ ((s.sq fn k).state ≠ 0 → ((flrS fn s).sq fn k).items = []) := by
  rw [sq_of_sqs (sqs_flrS h)]
  exact foldl_turns_off (g := fun s => s.sq fn k) (off := fun q => q.state = 0) (clean := fun q => q.items = [])
    (fun s j hj => sq_functionReset_ne s fn hj) (fun s hoff => by rw [functionReset_of_disabled hoff])
    (fun s hon => sq_functionReset hon) _ s (mem_fnSqs hk)

theorem cq_flrS {s : State} {fn k : Nat} (h : (s.fn fn).present = true) (hk : k < 256) :
    ((flrS fn s).cq fn k).state = 0 ∧
      ((s.cq fn k).state ≠ 0 → ((flrS fn s).cq fn k).posts = [] ∧ ((flrS fn s).cq fn k).reservations = 0) := by
  have hcq := cq_of_cqs (cqs_resetSqs fn s) fn k
  rw [cq_of_cqs (cqs_flrS h), ← hcq]
  exact foldl_turns_off (g := fun s => s.cq fn k) (off := fun q => q.state = 0) (clean := fun q => q.posts = [] ∧ q.reservations = 0)
    (fun s j hj => cq_functionResetCq_ne s fn hj) (fun s hoff => by rw [functionResetCq_of_disabled hoff])
    (fun s hon => cq_functionResetCq hon) _ _ (by rw [hcq]; exact mem_fnCqs hk)

/-! ## The statement -/

/-- Settles O23: a queue reset ends its entries one by one, each decision answering the entry that its SEQ finds; a Function Level Reset
clears every listed slot of the function. -/
theorem queueResetsEndTheirEntries : Obligations.QueueResetsEndTheirEntries := by
  unfold Obligations.QueueResetsEndTheirEntries
  constructor
  · intro s fn slot hrun hrec hslot hstate hreset
    exact ⟨_, by rw [exec_queueReset hslot hrec, done, if_pos hrun], queueResetS_ends hstate hreset⟩
  · intro s fn up hpresent
    refine effect_of_doneReg up rfl ?_
    obtain ⟨hbme, hd3, hpba⟩ := fn_flrS hpresent
    refine ⟨hbme, hd3, hpba, fun k hk => ?_⟩
    obtain ⟨hsq, hitems⟩ := sq_flrS hpresent hk
    obtain ⟨hcq, hheld⟩ := cq_flrS hpresent hk
    exact ⟨hsq, hcq, hitems, hheld⟩

end Sys2Proof.Machine.QueueResets
end

section
/-! PROOFS. Recovery of the device (05 R189) in a state that no reset leaves: a CQ of one function holds a rewrite for an SQ of another. -/
namespace Sys2Proof.Machine.DeviceRecovery

/-- The SQ state record of an ACTIVE SQ, number 5, in slot 2 of function 9 (05 R173). -/
def record : Nat := sqRec { SQ.reset with assign := 0x80000005, state := 1 } 9 2 1

/-- Both copies of the recovery area hold this record and nothing else. CQ 1 of function 0 holds a rewrite for the SQ. -/
def area : Recov :=
  let blocks := [(sqBlock 5, BitVec.ofNat 512 record), (sqBlock 5 + 1, BitVec.ofNat 512 (record / 2 ^ 512))]
  { Recov.reset with copyA := blocks, copyB := blocks, heldCqs := [qkey 0 1] }

/-- A completion to be written again, of the SQ in slot 2 of function 9. -/
def rewrite : Compl :=
  { sqFn := 9, sqSlot := 2, seq := 0, index := 0, entry := 0, immediate := false, gate := none, rewrite := true, nth := 0 }

/-- Recovery runs on this area. Function 0 may access its memory, function 9 may not; CQ 1 of function 0 is ACTIVE. -/
def strayRewrite : State :=
  (wf { State.reset with
      trust := { Trust.reset with phase := 1 }
      fns := [(0, { Fn.reset with bme := true })]
      cqs := [(qkey 0 1, { CQ.reset with state := 1, posts := [rewrite] })] }
    R.RECOV_STATUS F.RECOV_STATUS_RUNNING 1).withRecov area

theorem strayRewrite_recovers : running strayRewrite = true ∧ recovering strayRewrite = true := by decide +kernel

/-- The one queue of the area is the SQ of the record, and its function may not access its memory. -/
theorem strayRewrite_area : recBlocks strayRewrite.recov 0x4000 0x8000 = [] ∧
    (recBlocks strayRewrite.recov 0x8000 0x10000).filter (fun k => k % 2 == 0) = [sqBlock 5] ∧
    readRec strayRewrite.recov (sqBlock 5) 2 128 = some record ∧ fnLive strayRewrite 9 = false := by decide +kernel

theorem record_fields : fget record (115, 112) = 1 ∧ fget record (172, 160) = 9 ∧ fget record (183, 176) = 2 := by decide +kernel

/-- Function 0 may access its memory, so its CQ writes the rewrite; the canopy denies that write, and the SQ whose entry it answers, which
has been restored ACTIVE, enters ERROR (03 R80). -/
theorem recoverDevice_strayRewrite : ((recoverDeviceS [] strayRewrite).sq 9 2).state = 3 := by decide +kernel

theorem sqs_commit (s t : State) : (commit s t).sqs = t.sqs := QueueResets.sqs_of_keeps (keeps_commit rfl rfl rfl rfl rfl s t)

/-- Refutes O32: while recovery runs, function 0's CQ still holds a rewrite for an SQ of function 9. The SQ's record says ACTIVE and function
9 may not access its memory, but function 0 may, and the denied write of that rewrite puts the restored SQ into ERROR. -/
theorem not_recoveryRestoresQueuesAndCopies : ¬ Obligations.RecoveryRestoresQueuesAndCopies := by
  unfold Obligations.RecoveryRestoresQueuesAndCopies
  rintro ⟨recovers, -⟩
  obtain ⟨hrun, hrec⟩ := strayRewrite_recovers
  obtain ⟨hcqs, hsqs, hread, hlive⟩ := strayRewrite_area
  obtain ⟨hstate, hfn, hslot⟩ := record_fields
  obtain ⟨u, hexec, -, -, -, -, restored⟩ := recovers strayRewrite [] hrun hrec
  obtain ⟨-, -, -, hactive, -⟩ :=
    restored (sqBlock 5) record 9 2 hcqs hsqs hread (by rw [hstate]; decide) hfn.symm hslot.symm hlive
  have hcommit : commit strayRewrite (recoverDeviceS [] strayRewrite) = commit strayRewrite u := by
    change done strayRewrite (recoverDeviceS [] strayRewrite) = _ at hexec
    rw [done, if_pos hrun] at hexec
    exact Host.Outcome.next.inj hexec
  have hu : u.sqs = (recoverDeviceS [] strayRewrite).sqs := by rw [← sqs_commit strayRewrite u, ← hcommit, sqs_commit]
  have herror : (u.sq 9 2).state = 3 := by
    rw [State.sq, hu]
    exact recoverDevice_strayRewrite
  rw [herror, hstate] at hactive
  exact absurd hactive (by decide)

end Sys2Proof.Machine.DeviceRecovery
end
